-- ==== Sys2Proof/Word.lean ====
section
/-! DEFINITION. The machine's word types and the sparse table the state is made of. -/

namespace Sys2Proof

/-- A byte of memory. -/
abbrev Byte := BitVec 8
/-- A 32-bit value of one lane (R22). -/
abbrev W32 := BitVec 32
/-- A 64-bit scalar value (R22). -/
abbrev W64 := BitVec 64
/-- A program counter or virtual address of 57 bits (R22, R60). -/
abbrev W57 := BitVec 57
/-- One bit per lane, bit l for lane l: mask word j is bits [32j + 31 : 32j] (R8, R18). -/
abbrev LaneMask := BitVec 1024

/-- A sparse table: pairs of a key and a value. A key that is not listed has the default its reader names. -/
abbrev Tab (α : Type) := List (Nat × α)

end Sys2Proof
end

