-- ==== Sys2Proof/Config.lean ====
section
/-! DEFINITION. The free values: what the spec leaves open although the machine goes on. Each is a constant with no
body, so nothing can be proved about its value. `State.tick` counts the draws, so two draws are unrelated. -/

namespace Sys2Proof

/-- A free 64-bit value for the n-th draw (log 4). -/
opaque Config.freeWord : Nat → W64

/-- The undefined contents of register r, lane l of a team at launch (R369), for the n-th team (log 4). -/
opaque Config.freeLane : Nat → Nat → Nat → W32

/-- A free choice of the device for the n-th draw (log 4). -/
opaque Config.freeNat : Nat → Nat

/-- A free yes or no for the n-th draw (log 4). -/
opaque Config.freeBool : Nat → Bool

/-- What another device of the pod returns for a read (R439, log 4): the draw and the physical address. -/
opaque Config.podByte : Nat → Nat → Byte

/-- The capacity in bytes of the memory device on CXL port 1 to 3, 0 where none is attached (R362). -/
opaque Config.expansionBytes : Nat → Nat

/-- Word i of the region that a cut writes, for the n-th draw: the spec lays out nothing of it (R396, log 61). -/
opaque Config.regionWord : Nat → Nat → W64

/-- Word i of the 16-byte image of a held lock, from its region's address and length, its object and its scope code: the
spec gives the fields and no places for them (R393, log 4). -/
opaque Config.heldImage : Nat → Nat → Nat → Nat → Nat → W64

/-- Word i of the first 32 bytes of a copy-queue entry's image, from its token, state, bitmap and dense side: the spec gives
the fields and no places for them (R392, log 4). -/
opaque Config.copyImage : Nat → Nat → W64

/-- Word i of the part of a block header that holds the group rank and the resource counts, whose words are those of a kernel
descriptor (R370): the spec gives the fields and no places for them (R392, log 4). -/
opaque Config.headerImage : Nat → Nat → List Nat → W64

/-- The SHA-512 digest of the firmware image of the n-th draw: the image's format is that of R6, whose bytes the spec does not lay
out (R440, log 9). -/
opaque Config.imageDigest : Nat → BitVec 512

/-- The signature with an identity key on curve P-521 over some words, for the n-th draw: two 66-byte numbers (R6, R441, log 9). -/
opaque Config.signature : BitVec 521 → List Nat → Nat → BitVec 1056

end Sys2Proof
end

