-- ==== Sys2Proof/Syntax.lean ====
section
/-! DEFINITION. The syntax of the machine: operand forms and one constructor of `Instr` for every row of
the opcode table. The 224 opcode values of R231 come first in the table's order, then the 96 rows that are
steps of the device with no encoding (spec/95). -/

namespace Sys2Proof

/-- A vector source operand (R215): a register of the window, or a bypass latch. A register number reached by
`rep` stepping may exceed 123 (R221), so it is a plain number. -/
inductive VSrc where
  | reg (k : Nat)
  | bp (k : Nat)
  deriving DecidableEq, Repr

/-- The scopes of R86, in the order of their codes 0 to 5. -/
inductive Scope where
  | team | blk | gang | dev | sys | pod
  deriving DecidableEq, Repr

/-- The order field of R90, codes 0 to 3. -/
inductive Order where
  | rlx | acq | rel | acqrel
  deriving DecidableEq, Repr

/-- The kind field of `fence` (R90), codes 0 to 3. -/
inductive FenceKind where
  | acq | rel | acqrel | sc
  deriving DecidableEq, Repr

/-- The size field of the M format (R213, R293): 1, 2, 4 or 8 bytes; for `ldp` and `stp` the widths 3, 5, 6, 7. -/
inductive MemSize where
  | b1 | b2 | b4 | b8
  deriving DecidableEq, Repr

/-- The index of a vector M-format access (R294): X = 0 a displacement in access sizes, X = 1 an index register. -/
inductive VIndex where
  | disp (k : Int)
  | idx (v : VSrc)
  deriving DecidableEq, Repr

/-- The index of a scalar M-format access (R294). -/
inductive SIndex where
  | disp (k : Int)
  | idx (s : Nat)
  deriving DecidableEq, Repr

/-- A T-format operand with its kind bit (R213): a slot entry or a scalar register. -/
inductive TSrc where
  | slot (k : Nat)
  | reg (s : Nat)
  deriving DecidableEq, Repr

/-- The atomics that a pod-remote device asks for (R301, R303, R439). -/
inductive RemoteOp where
  | add | exch | max | min | cas
  deriving DecidableEq, Repr

/-- What a pod-remote device asks of this device's memory (R439): a read or a write of 2^log2 aligned bytes, at most a line, and an atomic
on 4 bytes or, when `wide`, on 8, with one operand, or the compare value and the new value of `cas`. -/
inductive RemoteReq where
  | read (log2 : Nat)
  | write (log2 : Nat) (val : BitVec 1024)
  | atomic (op : RemoteOp) (wide : Bool) (x y : BitVec 64)
  deriving DecidableEq, Repr

/-- What a write through the management aperture carries (R364): 8 bytes, or 4. -/
inductive RegValue where
  | word (x : BitVec 64)
  | half (x : BitVec 32)
  deriving DecidableEq, Repr

/-- What the host asks of device memory over CXL.mem (R78): a read that keeps a copy, a write, or giving a copy back. -/
inductive HostReq where
  | read
  | write (val : BitVec 64)
  | release
  deriving DecidableEq, Repr

/-- One constructor per row of the opcode table. -/
inductive Instr where
  /-- `mov` (MOV_16, R212). -/
  | mov16 (d : Nat) (a : Nat)
  /-- `iadd` (IADD_16, R212). -/
  | iadd16 (d : Nat) (a : Nat)
  /-- `isub` (ISUB_16, R212). -/
  | isub16 (d : Nat) (a : Nat)
  /-- `imul` (IMUL_16, R212). -/
  | imul16 (d : Nat) (a : Nat)
  /-- `and` (AND_16, R212). -/
  | and16 (d : Nat) (a : Nat)
  /-- `or` (OR_16, R212). -/
  | or16 (d : Nat) (a : Nat)
  /-- `xor` (XOR_16, R212). -/
  | xor16 (d : Nat) (a : Nat)
  /-- `shl` (SHL_16, R212). -/
  | shl16 (d : Nat) (a : Nat)
  /-- `shr` (SHR_16, R212). -/
  | shr16 (d : Nat) (a : Nat)
  /-- `sar` (SAR_16, R212). -/
  | sar16 (d : Nat) (a : Nat)
  /-- `imin` (IMIN_16, R212). -/
  | imin16 (d : Nat) (a : Nat)
  /-- `imax` (IMAX_16, R212). -/
  | imax16 (d : Nat) (a : Nat)
  /-- `fadd` (FADD_16, R212). -/
  | fadd16 (d : Nat) (a : Nat)
  /-- `fsub` (FSUB_16, R212). -/
  | fsub16 (d : Nat) (a : Nat)
  /-- `fmul` (FMUL_16, R212). -/
  | fmul16 (d : Nat) (a : Nat)
  /-- `fmax` (FMAX_16, R212). -/
  | fmax16 (d : Nat) (a : Nat)
  /-- `iadd.i32` (IADD_I32, R248). -/
  | iaddI32 (d : Nat) (a : VSrc) (b : VSrc) (nw : Bool)
  /-- `isub.i32` (ISUB_I32, R248). -/
  | isubI32 (d : Nat) (a : VSrc) (b : VSrc) (nw : Bool)
  /-- `imul.i32` (IMUL_I32, R248). -/
  | imulI32 (d : Nat) (a : VSrc) (b : VSrc) (nw : Bool)
  /-- `imad.i32` (IMAD_I32, R248). -/
  | imadI32 (d : Nat) (a : VSrc) (b : VSrc) (nw : Bool)
  /-- `imulh.i32` (IMULH_I32, R248). -/
  | imulhI32 (d : Nat) (a : VSrc) (b : VSrc) (nw : Bool)
  /-- `imulh.n32` (IMULH_N32, R248). -/
  | imulhN32 (d : Nat) (a : VSrc) (b : VSrc) (nw : Bool)
  /-- `iabs.i32` (IABS_I32, R248). -/
  | iabsI32 (d : Nat) (a : VSrc) (nw : Bool)
  /-- `sel` (SEL, R254). -/
  | sel (d : Nat) (a : VSrc) (b : Nat) (nw : Bool)
  /-- `idiv.i32` (IDIV_I32, R249). -/
  | idivI32 (d : Nat) (a : VSrc) (b : VSrc) (nw : Bool)
  /-- `idiv.n32` (IDIV_N32, R249). -/
  | idivN32 (d : Nat) (a : VSrc) (b : VSrc) (nw : Bool)
  /-- `irem.i32` (IREM_I32, R249). -/
  | iremI32 (d : Nat) (a : VSrc) (b : VSrc) (nw : Bool)
  /-- `irem.n32` (IREM_N32, R249). -/
  | iremN32 (d : Nat) (a : VSrc) (b : VSrc) (nw : Bool)
  /-- `imin.i32` (IMIN_I32, R248). -/
  | iminI32 (d : Nat) (a : VSrc) (b : VSrc) (nw : Bool)
  /-- `imin.n32` (IMIN_N32, R248). -/
  | iminN32 (d : Nat) (a : VSrc) (b : VSrc) (nw : Bool)
  /-- `imax.i32` (IMAX_I32, R248). -/
  | imaxI32 (d : Nat) (a : VSrc) (b : VSrc) (nw : Bool)
  /-- `imax.n32` (IMAX_N32, R248). -/
  | imaxN32 (d : Nat) (a : VSrc) (b : VSrc) (nw : Bool)
  /-- `and` (AND_V, R250). -/
  | andV (d : Nat) (a : VSrc) (b : VSrc) (nw : Bool)
  /-- `or` (OR_V, R250). -/
  | orV (d : Nat) (a : VSrc) (b : VSrc) (nw : Bool)
  /-- `xor` (XOR_V, R250). -/
  | xorV (d : Nat) (a : VSrc) (b : VSrc) (nw : Bool)
  /-- `andn` (ANDN, R250). -/
  | andn (d : Nat) (a : VSrc) (b : VSrc) (nw : Bool)
  /-- `shl.n32` (SHL_N32, R250). -/
  | shlN32 (d : Nat) (a : VSrc) (b : VSrc) (nw : Bool)
  /-- `shr.n32` (SHR_N32, R250). -/
  | shrN32 (d : Nat) (a : VSrc) (b : VSrc) (nw : Bool)
  /-- `sar.i32` (SAR_I32, R250). -/
  | sarI32 (d : Nat) (a : VSrc) (b : VSrc) (nw : Bool)
  /-- `rot.n32` (ROT_N32, R250). -/
  | rotN32 (d : Nat) (a : VSrc) (b : VSrc) (nw : Bool)
  /-- `clz` (CLZ, R251). -/
  | clz (d : Nat) (a : VSrc) (nw : Bool)
  /-- `popc` (POPC, R251). -/
  | popc (d : Nat) (a : VSrc) (nw : Bool)
  /-- `brev` (BREV, R251). -/
  | brev (d : Nat) (a : VSrc) (nw : Bool)
  /-- `bfx` (BFX, R252). -/
  | bfx (d : Nat) (a : VSrc) (b : VSrc) (nw : Bool)
  /-- `bfi` (BFI, R252). -/
  | bfi (d : Nat) (a : VSrc) (b : VSrc) (nw : Bool)
  /-- `mov` (MOV_V, R255). -/
  | movV (d : Nat) (a : VSrc) (nw : Bool)
  /-- `iadd.i64` (IADD_I64_V, R248). -/
  | iaddI64V (d : Nat) (a : Nat) (b : Nat) (nw : Bool)
  /-- `isub.i64` (ISUB_I64_V, R248). -/
  | isubI64V (d : Nat) (a : Nat) (b : Nat) (nw : Bool)
  /-- `iadd.i64` (IADD_I64_S, R248). -/
  | iaddI64S (d : Nat) (a : Nat) (b : Nat)
  /-- `isub.i64` (ISUB_I64_S, R248). -/
  | isubI64S (d : Nat) (a : Nat) (b : Nat)
  /-- `imul.i64` (IMUL_I64, R248). -/
  | imulI64 (d : Nat) (a : Nat) (b : Nat)
  /-- `and` (AND_S, R250). -/
  | andS (d : Nat) (a : Nat) (b : Nat)
  /-- `or` (OR_S, R250). -/
  | orS (d : Nat) (a : Nat) (b : Nat)
  /-- `xor` (XOR_S, R250). -/
  | xorS (d : Nat) (a : Nat) (b : Nat)
  /-- `shl.n64` (SHL_N64, R250). -/
  | shlN64 (d : Nat) (a : Nat) (b : Nat)
  /-- `shr.n64` (SHR_N64, R250). -/
  | shrN64 (d : Nat) (a : Nat) (b : Nat)
  /-- `sar.i64` (SAR_I64, R250). -/
  | sarI64 (d : Nat) (a : Nat) (b : Nat)
  /-- `mov` (MOV_S, R255). -/
  | movS (d : Nat) (a : Nat)
  /-- `icmp.eq.i32` (ICMP_EQ_I32, R253). -/
  | icmpEqI32 (d : Nat) (a : VSrc) (b : VSrc)
  /-- `icmp.lt.i32` (ICMP_LT_I32, R253). -/
  | icmpLtI32 (d : Nat) (a : VSrc) (b : VSrc)
  /-- `icmp.lt.n32` (ICMP_LT_N32, R253). -/
  | icmpLtN32 (d : Nat) (a : VSrc) (b : VSrc)
  /-- `icmp.eq.i64` (ICMP_EQ_I64, R253). -/
  | icmpEqI64 (d : Nat) (a : Nat) (b : Nat)
  /-- `icmp.lt.i64` (ICMP_LT_I64, R253). -/
  | icmpLtI64 (d : Nat) (a : Nat) (b : Nat)
  /-- `icmp.lt.n64` (ICMP_LT_N64, R253). -/
  | icmpLtN64 (d : Nat) (a : Nat) (b : Nat)
  /-- `lid` (LID_V, R258). -/
  | lidV (d : Nat) (nw : Bool)
  /-- `lid` (LID_S, R258). -/
  | lidS (d : Nat)
  /-- `fpack` (FPACK, R273). -/
  | fpack (d : Nat) (a : VSrc) (b : Nat) (nw : Bool)
  /-- `funpack` (FUNPACK, R273). -/
  | funpack (d : Nat) (a : VSrc) (b : Nat) (nw : Bool)
  /-- `fstat` (FSTAT, R274). -/
  | fstat (d : Nat)
  /-- `fmode` (FMODE, R275). -/
  | fmode (d : Nat) (a : Nat)
  /-- `iadd.i32` (IADD_I32_IMM, R248). -/
  | iaddI32Imm (d : Nat) (a : VSrc) (imm : Int) (nw : Bool)
  /-- `iadd.i64` (IADD_I64_IMM, R248). -/
  | iaddI64Imm (d : Nat) (a : Nat) (imm : Int)
  /-- `movi` (MOVI_V, R255). -/
  | moviV (d : Nat) (imm : Int) (nw : Bool)
  /-- `movi` (MOVI_S, R255). -/
  | moviS (d : Nat) (imm : Int)
  /-- `lea` (LEA, R257). -/
  | lea (d : Nat) (imm : Int)
  /-- `limm` (LIMM, R256). -/
  | limm (value : Nat)
  /-- `fadd.f32` (FADD_F32, R264). -/
  | faddF32 (d : Nat) (a : VSrc) (b : VSrc) (nw : Bool)
  /-- `fsub.f32` (FSUB_F32, R264). -/
  | fsubF32 (d : Nat) (a : VSrc) (b : VSrc) (nw : Bool)
  /-- `fmul.f32` (FMUL_F32, R264). -/
  | fmulF32 (d : Nat) (a : VSrc) (b : VSrc) (nw : Bool)
  /-- `ffma.f32` (FFMA_F32, R265). -/
  | ffmaF32 (d : Nat) (a : VSrc) (b : VSrc) (nw : Bool)
  /-- `fdiv.f32` (FDIV_F32, R264). -/
  | fdivF32 (d : Nat) (a : VSrc) (b : VSrc) (nw : Bool)
  /-- `fsqrt.f32` (FSQRT_F32, R264). -/
  | fsqrtF32 (d : Nat) (a : VSrc) (nw : Bool)
  /-- `fmin.f32` (FMIN_F32, R266). -/
  | fminF32 (d : Nat) (a : VSrc) (b : VSrc) (nw : Bool)
  /-- `fmax.f32` (FMAX_F32, R266). -/
  | fmaxF32 (d : Nat) (a : VSrc) (b : VSrc) (nw : Bool)
  /-- `frcp.f32` (FRCP, R269). -/
  | frcp (d : Nat) (a : VSrc) (nw : Bool)
  /-- `frsq.f32` (FRSQ, R269). -/
  | frsq (d : Nat) (a : VSrc) (nw : Bool)
  /-- `fexp2.f32` (FEXP2, R269). -/
  | fexp2 (d : Nat) (a : VSrc) (nw : Bool)
  /-- `flog2.f32` (FLOG2, R269). -/
  | flog2 (d : Nat) (a : VSrc) (nw : Bool)
  /-- `fround.f32` (FROUND_F32, R270). -/
  | froundF32 (d : Nat) (a : VSrc) (nw : Bool)
  /-- `fclass.f32` (FCLASS_F32, R268). -/
  | fclassF32 (d : Nat) (a : VSrc) (nw : Bool)
  /-- `fcmp.eq.f32` (FCMP_EQ_F32, R267). -/
  | fcmpEqF32 (d : Nat) (a : VSrc) (b : VSrc)
  /-- `fcmp.lt.f32` (FCMP_LT_F32, R267). -/
  | fcmpLtF32 (d : Nat) (a : VSrc) (b : VSrc)
  /-- `fadd.f64` (FADD_F64, R264). -/
  | faddF64 (d : Nat) (a : Nat) (b : Nat) (nw : Bool)
  /-- `fsub.f64` (FSUB_F64, R264). -/
  | fsubF64 (d : Nat) (a : Nat) (b : Nat) (nw : Bool)
  /-- `fmul.f64` (FMUL_F64, R264). -/
  | fmulF64 (d : Nat) (a : Nat) (b : Nat) (nw : Bool)
  /-- `ffma.f64` (FFMA_F64, R265). -/
  | ffmaF64 (d : Nat) (a : Nat) (b : Nat) (nw : Bool)
  /-- `fdiv.f64` (FDIV_F64, R264). -/
  | fdivF64 (d : Nat) (a : Nat) (b : Nat) (nw : Bool)
  /-- `fsqrt.f64` (FSQRT_F64, R264). -/
  | fsqrtF64 (d : Nat) (a : Nat) (nw : Bool)
  /-- `fmin.f64` (FMIN_F64, R266). -/
  | fminF64 (d : Nat) (a : Nat) (b : Nat) (nw : Bool)
  /-- `fmax.f64` (FMAX_F64, R266). -/
  | fmaxF64 (d : Nat) (a : Nat) (b : Nat) (nw : Bool)
  /-- `fcmp.le.f32` (FCMP_LE_F32, R267). -/
  | fcmpLeF32 (d : Nat) (a : VSrc) (b : VSrc)
  /-- `fcmp.eq.f64` (FCMP_EQ_F64, R267). -/
  | fcmpEqF64 (d : Nat) (a : Nat) (b : Nat)
  /-- `fcmp.lt.f64` (FCMP_LT_F64, R267). -/
  | fcmpLtF64 (d : Nat) (a : Nat) (b : Nat)
  /-- `fcmp.le.f64` (FCMP_LE_F64, R267). -/
  | fcmpLeF64 (d : Nat) (a : Nat) (b : Nat)
  /-- `fround.f64` (FROUND_F64, R270). -/
  | froundF64 (d : Nat) (a : Nat) (nw : Bool)
  /-- `fclass.f64` (FCLASS_F64, R268). -/
  | fclassF64 (d : Nat) (a : Nat) (nw : Bool)
  /-- `ftoi.i32.f32` (FTOI_I32_F32, R271). -/
  | ftoiI32F32 (d : Nat) (a : VSrc) (nw : Bool)
  /-- `itof.f32.i32` (ITOF_F32_I32, R271). -/
  | itofF32I32 (d : Nat) (a : VSrc) (nw : Bool)
  /-- `fcvt.f64.f32` (FCVT_F64_F32, R271). -/
  | fcvtF64F32 (d : Nat) (a : VSrc) (nw : Bool)
  /-- `fcvt.f32.f64` (FCVT_F32_F64, R271). -/
  | fcvtF32F64 (d : Nat) (a : Nat) (nw : Bool)
  /-- `fcvt.bf16.f32` (FCVT_BF16_F32, R271). -/
  | fcvtBf16F32 (d : Nat) (a : VSrc) (nw : Bool)
  /-- `fcvt.f32.bf16` (FCVT_F32_BF16, R271). -/
  | fcvtF32Bf16 (d : Nat) (a : VSrc) (nw : Bool)
  /-- `fcvt.f16.f32` (FCVT_F16_F32, R271). -/
  | fcvtF16F32 (d : Nat) (a : VSrc) (nw : Bool)
  /-- `fcvt.f32.f16` (FCVT_F32_F16, R271). -/
  | fcvtF32F16 (d : Nat) (a : VSrc) (nw : Bool)
  /-- `fcvt.nf.f32` (FCVT_NF_F32, R272). -/
  | fcvtNfF32 (d : Nat) (a : VSrc) (b : Nat) (nw : Bool)
  /-- `fcvt.f32.nf` (FCVT_F32_NF, R272). -/
  | fcvtF32Nf (d : Nat) (a : VSrc) (b : Nat) (nw : Bool)
  /-- `mand` (MAND, R280). -/
  | mand (d : Nat) (a : Nat) (b : Nat)
  /-- `mor` (MOR, R280). -/
  | mor (d : Nat) (a : Nat) (b : Nat)
  /-- `mxor` (MXOR, R280). -/
  | mxor (d : Nat) (a : Nat) (b : Nat)
  /-- `mnot` (MNOT, R280). -/
  | mnot (d : Nat) (a : Nat)
  /-- `mmov` (MMOV, R280). -/
  | mmov (d : Nat) (a : Nat)
  /-- `mpop` (MPOP, R280). -/
  | mpop (d : Nat) (a : Nat)
  /-- `mfirst` (MFIRST, R280). -/
  | mfirst (d : Nat) (a : Nat)
  /-- `shfl` (SHFL, R281). -/
  | shfl (d : Nat) (a : Nat) (b : VSrc) (nw : Bool)
  /-- `bcast` (BCAST, R281). -/
  | bcast (d : Nat) (a : Nat) (b : Nat) (nw : Bool)
  /-- `reduce.add.i32` (REDUCE_ADD_I32, R283). -/
  | reduceAddI32 (d : Nat) (a : VSrc)
  /-- `reduce.add.f32` (REDUCE_ADD_F32, R283). -/
  | reduceAddF32 (d : Nat) (a : VSrc)
  /-- `reduce.max.i32` (REDUCE_MAX_I32, R283). -/
  | reduceMaxI32 (d : Nat) (a : VSrc)
  /-- `reduce.max.f32` (REDUCE_MAX_F32, R283). -/
  | reduceMaxF32 (d : Nat) (a : VSrc)
  /-- `scan.add.i32` (SCAN_ADD_I32, R283). -/
  | scanAddI32 (d : Nat) (a : VSrc) (nw : Bool)
  /-- `scan.add.f32` (SCAN_ADD_F32, R283). -/
  | scanAddF32 (d : Nat) (a : VSrc) (nw : Bool)
  /-- `scan.max.i32` (SCAN_MAX_I32, R283). -/
  | scanMaxI32 (d : Nat) (a : VSrc) (nw : Bool)
  /-- `scan.max.f32` (SCAN_MAX_F32, R283). -/
  | scanMaxF32 (d : Nat) (a : VSrc) (nw : Bool)
  /-- `jmpr` (JMPR, R287). -/
  | jmpr (a : Nat)
  /-- `ret` (RET, R287). -/
  | ret
  /-- `lbrk` (LBRK, R288). -/
  | lbrk
  /-- `yield` (YIELD, R291). -/
  | yield
  /-- `bra` (BRA, R285). -/
  | bra (off : Int)
  /-- `bz` (BZ_M, R285). -/
  | bzM (m : Nat) (off : Int)
  /-- `bnz` (BNZ_M, R285). -/
  | bnzM (m : Nat) (off : Int)
  /-- `ball` (BALL, R285). -/
  | ball (m : Nat) (off : Int)
  /-- `call` (CALL, R287). -/
  | call (off : Int)
  /-- `bz` (BZ_S, R285). -/
  | bzS (r : Nat) (off : Int)
  /-- `bnz` (BNZ_S, R285). -/
  | bnzS (r : Nat) (off : Int)
  /-- `loop` (LOOP, R288). -/
  | loop (r : Nat) (off : Int)
  /-- `rep` (REP, R221). -/
  | rep (sb : Nat) (sa : Nat) (sd : Nat) (cnt : Nat)
  /-- `ld` (LD_V, R296). -/
  | ldV (d : Nat) (size : MemSize) (sb : Nat) (ix : VIndex) (nw : Bool)
  /-- `ld` (LD_S, R296). -/
  | ldS (d : Nat) (size : MemSize) (sb : Nat) (ix : SIndex)
  /-- `st` (ST_V, R296). -/
  | stV (d : VSrc) (size : MemSize) (sb : Nat) (ix : VIndex)
  /-- `st` (ST_S, R296). -/
  | stS (d : Nat) (size : MemSize) (sb : Nat) (ix : SIndex)
  /-- `ldp` (LDP, R297). -/
  | ldp (d : Nat) (size : MemSize) (sb : Nat) (ix : VIndex) (nw : Bool)
  /-- `stp` (STP, R297). -/
  | stp (d : VSrc) (size : MemSize) (sb : Nat) (ix : VIndex)
  /-- `ld` (LD_ORD_V, R300). -/
  | ldOrdV (d : Nat) (sb : Nat) (x : VSrc) (ord : Order) (scope : Scope)
  /-- `ld` (LD_ORD_S, R300). -/
  | ldOrdS (d : Nat) (sb : Nat) (x : Nat) (ord : Order) (scope : Scope)
  /-- `st` (ST_ORD_V, R300). -/
  | stOrdV (d : VSrc) (sb : Nat) (x : VSrc) (ord : Order) (scope : Scope)
  /-- `st` (ST_ORD_S, R300). -/
  | stOrdS (d : Nat) (sb : Nat) (x : Nat) (ord : Order) (scope : Scope)
  /-- `atom.add` (ATOM_ADD_I32, R301). -/
  | atomAddI32 (d : Nat) (sb : Nat) (x : VSrc) (ord : Order) (scope : Scope)
  /-- `atom.add.i64` (ATOM_ADD_I64, R301). -/
  | atomAddI64 (d : Nat) (sb : Nat) (x : Nat) (ord : Order) (scope : Scope)
  /-- `atom.exch` (ATOM_EXCH_I32, R301). -/
  | atomExchI32 (d : Nat) (sb : Nat) (x : VSrc) (ord : Order) (scope : Scope)
  /-- `atom.exch.i64` (ATOM_EXCH_I64, R301). -/
  | atomExchI64 (d : Nat) (sb : Nat) (x : Nat) (ord : Order) (scope : Scope)
  /-- `atom.max` (ATOM_MAX_I32, R301). -/
  | atomMaxI32 (d : Nat) (sb : Nat) (x : VSrc) (ord : Order) (scope : Scope)
  /-- `atom.min` (ATOM_MIN_I32, R301). -/
  | atomMinI32 (d : Nat) (sb : Nat) (x : VSrc) (ord : Order) (scope : Scope)
  /-- `red.add` (RED_ADD_I32, R302). -/
  | redAddI32 (d : VSrc) (sb : Nat) (x : VSrc) (ord : Order) (scope : Scope)
  /-- `cas` (CAS_I32, R303). -/
  | casI32 (d : Nat) (sb : Nat) (x : VSrc) (ord : Order) (scope : Scope)
  /-- `cas.i64` (CAS_I64, R303). -/
  | casI64 (d : Nat) (sb : Nat) (x : Nat) (ord : Order) (scope : Scope)
  /-- `fence` (FENCE, R306). -/
  | fence (kind : FenceKind) (scope : Scope)
  /-- `llock` (LLOCK, R308). -/
  | llock (d : Nat) (sb : Nat) (x : Nat) (scope : Scope)
  /-- `ltry` (LTRY, R308). -/
  | ltry (d : Nat) (sb : Nat) (scope : Scope)
  /-- `lunlock` (LUNLOCK, R309). -/
  | lunlock (sb : Nat) (scope : Scope)
  /-- `lunlock.reg` (LUNLOCK_REG, R309). -/
  | lunlockReg (sb : Nat) (scope : Scope)
  /-- `qpass` (QPASS, R128). -/
  | qpass
  /-- `qidle` (QIDLE, R129). -/
  | qidle
  /-- `qwake` (QWAKE, R129). -/
  | qwake
  /-- `gpstart` (GPSTART, R131). -/
  | gpstart (d : Nat)
  /-- `gpwait` (GPWAIT, R135). -/
  | gpwait (d : Nat) (a : Nat)
  /-- `dfree` (DFREE, R137). -/
  | dfree (d : Nat) (a : Nat) (b : Nat)
  /-- `lstat` (LSTAT, R310). -/
  | lstat (d : Nat) (a : Nat)
  /-- `pref.l1` (PREF_L1, R299). -/
  | prefL1 (a : Nat)
  /-- `pref.l2` (PREF_L2, R299). -/
  | prefL2 (a : Nat)
  /-- `pref.l2x` (PREF_L2X, R299). -/
  | prefL2x (a : Nat)
  /-- `ldb.n8` (LDB_N8, R298). -/
  | ldbN8 (d : Nat) (a : Nat) (b : VSrc) (nw : Bool)
  /-- `ldb.n16` (LDB_N16, R298). -/
  | ldbN16 (d : Nat) (a : Nat) (b : VSrc) (nw : Bool)
  /-- `ldb.n32` (LDB_N32, R298). -/
  | ldbN32 (d : Nat) (a : Nat) (b : VSrc) (nw : Bool)
  /-- `ldb.n64` (LDB_N64, R298). -/
  | ldbN64 (d : Nat) (a : Nat) (b : VSrc) (nw : Bool)
  /-- `mma` (MMA, R322). -/
  | mma (t : Nat) (a : TSrc) (b : TSrc) (c : Nat)
  /-- `mmag` (MMAG, R151). -/
  | mmag (t : Nat) (a : TSrc) (b : TSrc) (c : Nat)
  /-- `mdrain` (MDRAIN, R324). -/
  | mdrain (t : Nat) (dst : TSrc) (sb : Nat)
  /-- `mdrain.add` (MDRAIN_ADD, R324). -/
  | mdrainAdd (t : Nat) (dst : TSrc) (sb : Nat)
  /-- `quant` (QUANT, R326). -/
  | quant (t : Nat) (dst : TSrc) (sb : Nat) (sc : Nat)
  /-- `quant.bmaj` (QUANT_BMAJ, R326). -/
  | quantBmaj (t : Nat) (dst : TSrc) (sb : Nat) (sc : Nat)
  /-- `tcopy` (TCOPY_DENSE, R328). -/
  | tcopyDense (c : Nat) (a : Nat) (dst : TSrc)
  /-- `tcopy` (TCOPY_ACC, R328). -/
  | tcopyAcc (c : Nat) (a : Nat) (t : Nat)
  /-- `tstate` (TSTATE_ACC, R318). -/
  | tstateAcc (t : Nat) (d : Nat)
  /-- `tstate` (TSTATE_ST, R318). -/
  | tstateSt (t : Nat) (d : Nat)
  /-- `twait` (TWAIT_ACC, R319). -/
  | twaitAcc (t : Nat) (want : Bool) (phase : Bool)
  /-- `twait` (TWAIT_ST, R319). -/
  | twaitSt (t : Nat) (want : Bool) (phase : Bool)
  /-- `tready` (TREADY_ACC, R320). -/
  | treadyAcc (t : Nat)
  /-- `tready` (TREADY_ST, R320). -/
  | treadySt (t : Nat)
  /-- `trel` (TREL_ACC, R320). -/
  | trelAcc (t : Nat)
  /-- `trel` (TREL_ST, R320). -/
  | trelSt (t : Nat)
  /-- `mzero` (MZERO, R321). -/
  | mzero (t : Nat) (wide : Bool)
  /-- `tbind` (TBIND, R317). -/
  | tbind (t : Nat) (d : Nat)
  /-- `mcommit` (MCOMMIT, R323). -/
  | mcommit (d : Nat)
  /-- `mwait` (MWAIT, R323). -/
  | mwait (a : Nat)
  /-- `cwait` (CWAIT, R329). -/
  | cwait (a : Nat)
  /-- `cstat.map` (CSTAT_MAP, R329). -/
  | cstatMap (d : Nat) (a : Nat)
  /-- `cstat` (CSTAT, R329). -/
  | cstat (d : Nat) (a : Nat)
  /-- `ccancel` (CCANCEL, R172). -/
  | ccancel (a : Nat)
  /-- `bar` (BAR, R335). -/
  | bar (n : Nat) (gang : Bool) (expect : Nat)
  /-- `arrive` (ARRIVE, R335). -/
  | arrive (n : Nat) (gang : Bool) (expect : Nat)
  /-- `bwait` (BWAIT, R335). -/
  | bwait (n : Nat) (gang : Bool)
  /-- `trap` (TRAP, R338). -/
  | trap (n : Nat)
  /-- `brk` (BRK, R338). -/
  | brk (n : Nat)
  /-- `halt` (HALT, R344). -/
  | halt
  /-- `nop` (NOP, R345). -/
  | nop
  /-- `sigret` (SIGRET, R188). -/
  | sigret (d : Nat)
  /-- `eret` (ERET, R341). -/
  | eret
  /-- `sysrd` (SYSRD, R340). -/
  | sysrd (d : Nat) (r : Nat)
  /-- `syswr` (SYSWR, R340). -/
  | syswr (d : Nat) (r : Nat)
  /-- `syswr.set` (SYSWR_SET, R340). -/
  | syswrSet (d : Nat) (r : Nat)
  /-- `syswr.clr` (SYSWR_CLR, R340). -/
  | syswrClr (d : Nat) (r : Nat)
  /-- `park` (PARK, R343). -/
  | park (d : Nat)
  /-- `resume` (RESUME, R343). -/
  | resume (d : Nat)
  /-- `resume.step` (RESUME_STEP, R343). -/
  | resumeStep (d : Nat)
  /-- `vector_pass` (VECTOR_PASS, R20). -/
  | vectorPass (core : Nat) (slot : Nat)
  /-- `team_boost` (TEAM_BOOST, R50). -/
  | teamBoost (core : Nat) (slot : Nat)
  /-- `yield_end` (YIELD_END, R291). -/
  | yieldEnd (core : Nat) (slot : Nat)
  /-- `submission_write` (SUBMISSION_WRITE, R373). -/
  | submissionWrite (q : Nat) (val : BitVec 64)
  /-- `launch` (LAUNCH, R369). -/
  | launch (q : Nat)
  /-- `write` (WRITE, R368). -/
  | write (q : Nat)
  /-- `wait` (WAIT, R368). -/
  | wait (q : Nat)
  /-- `wait_complete` (WAIT_COMPLETE, R368). -/
  | waitComplete (q : Nat)
  /-- `time` (TIME, R368). -/
  | time (q : Nat)
  /-- `nop_packet` (NOP_PACKET, R368). -/
  | nopPacket (q : Nat)
  /-- `queue_enable` (QUEUE_ENABLE, R366). -/
  | queueEnable (q : Nat)
  /-- `queue_resume` (QUEUE_RESUME, R371). -/
  | queueResume (q : Nat)
  /-- `update` (UPDATE, R377). -/
  | update
  /-- `standby_import` (STANDBY_IMPORT, R375). -/
  | standbyImport
  /-- `update_takeover` (UPDATE_TAKEOVER, R377). -/
  | updateTakeover
  /-- `failover` (FAILOVER, R376). -/
  | failover
  /-- `watchdog_takeover` (WATCHDOG_TAKEOVER, R376). -/
  | watchdogTakeover
  /-- `run_list_turn_end` (RUN_LIST_TURN_END, R395). -/
  | runListTurnEnd
  /-- `reset` (RESET, R378). -/
  | reset
  /-- `placement_decision` (PLACEMENT_DECISION, R44). -/
  | placementDecision
  /-- `block_start` (BLOCK_START, R45). -/
  | blockStart (blk : Nat)
  /-- `swap_threshold_expiry` (SWAP_THRESHOLD_EXPIRY, R53). -/
  | swapThresholdExpiry (blk : Nat)
  /-- `swap_out_begin` (SWAP_OUT_BEGIN, R54). -/
  | swapOutBegin (blk : Nat)
  /-- `swap_out_complete` (SWAP_OUT_COMPLETE, R394). -/
  | swapOutComplete (blk : Nat)
  /-- `operation_start` (OPERATION_START, R316). -/
  | operationStart (core : Nat) (slot : Nat)
  /-- `kstep_complete` (KSTEP_COMPLETE, R150). -/
  | kstepComplete (op : Nat)
  /-- `drain_complete` (DRAIN_COMPLETE, R324). -/
  | drainComplete (op : Nat)
  /-- `quant_complete` (QUANT_COMPLETE, R327). -/
  | quantComplete (op : Nat)
  /-- `box_issue` (BOX_ISSUE, R165). -/
  | boxIssue (core : Nat)
  /-- `box_pause` (BOX_PAUSE, R168). -/
  | boxPause (copy : Nat) (box : Nat)
  /-- `box_complete` (BOX_COMPLETE, R170). -/
  | boxComplete (copy : Nat) (box : Nat)
  /-- `box_fault` (BOX_FAULT, R169). -/
  | boxFault (copy : Nat) (box : Nat)
  /-- `box_abort` (BOX_ABORT, R171). -/
  | boxAbort (blk : Nat)
  /-- `lock_request` (LOCK_REQUEST, R117). -/
  | lockRequest (core : Nat) (slot : Nat)
  /-- `lock_release` (LOCK_RELEASE, R118). -/
  | lockRelease (obj : Nat)
  /-- `grant_delivery` (GRANT_DELIVERY, R118). -/
  | grantDelivery (obj : Nat)
  /-- `grant_window_close` (GRANT_WINDOW_CLOSE, R119). -/
  | grantWindowClose (obj : Nat)
  /-- `lock_deadline` (LOCK_DEADLINE, R121). -/
  | lockDeadline (obj : Nat) (team : Nat)
  /-- `deadlock_probe` (DEADLOCK_PROBE, R122). -/
  | deadlockProbe (obj : Nat) (team : Nat)
  /-- `probe_hop` (PROBE_HOP, R122). -/
  | probeHop (i : Nat)
  /-- `grace_recompute` (GRACE_RECOMPUTE, R132). -/
  | graceRecompute (p : Nat)
  /-- `deferred_move` (DEFERRED_MOVE, R138). -/
  | deferredMove (p : Nat)
  /-- `head_poll` (HEAD_POLL, R138). -/
  | headPoll (p : Nat)
  /-- `grace_stall_report` (GRACE_STALL_REPORT, R139). -/
  | graceStallReport (p : Nat)
  /-- `qsc_resume` (QSC_RESUME, R141). -/
  | qscResume
  /-- `logical_time_advance` (LOGICAL_TIME_ADVANCE, R81). -/
  | logicalTimeAdvance (core : Nat) (n : Nat)
  /-- `epoch_change` (EPOCH_CHANGE, R82). -/
  | epochChange
  /-- `retention_wake` (RETENTION_WAKE, R83). -/
  | retentionWake (core : Nat)
  /-- `host_snoop` (HOST_SNOOP, R78). -/
  | hostSnoop (line : Nat)
  /-- `fence_marker_ack` (FENCE_MARKER_ACK, R101). -/
  | fenceMarkerAck (path : Nat) (core : Nat)
  /-- `die_link_failure` (DIE_LINK_FAILURE, R103). -/
  | dieLinkFailure (d1 : Nat) (d2 : Nat)
  /-- `cxl_port_failure` (CXL_PORT_FAILURE, R103). -/
  | cxlPortFailure (port : Nat)
  /-- `invalidation_retry` (INVALIDATION_RETRY, R103). -/
  | invalidationRetry (ok : Bool)
  /-- `ualink_port_failure` (UALINK_PORT_FAILURE, R105). -/
  | ualinkPortFailure (port : Nat)
  /-- `remote_request` (REMOTE_REQUEST, R439). -/
  | remoteRequest (pasid : Nat) (va : BitVec 64) (req : RemoteReq)
  /-- `event_entry` (EVENT_ENTRY, R341). -/
  | eventEntry (core : Nat)
  /-- `supervisor_timer` (SUPERVISOR_TIMER, R400). -/
  | supervisorTimer (core : Nat)
  /-- `doorbell` (DOORBELL, R403). -/
  | doorbell (core : Nat)
  /-- `supresume` (SUPRESUME, R399). -/
  | supresume (core : Nat)
  /-- `mailbox_post` (MAILBOX_POST, R404). -/
  | mailboxPost
  /-- `team_state_data_write` (TEAM_STATE_DATA_WRITE, R408). -/
  | teamStateDataWrite (port : Nat) (val : BitVec 64)
  /-- `team_state_data_read` (TEAM_STATE_DATA_READ, R408). -/
  | teamStateDataRead (port : Nat)
  /-- `frame` (FRAME, R409). -/
  | frame (port : Nat)
  /-- `kill` (KILL, R411). -/
  | kill (port : Nat)
  /-- `release` (RELEASE, R406). -/
  | release (port : Nat)
  /-- `stop` (STOP, R415). -/
  | stop (core : Nat) (place : Nat)
  /-- `block_stop_done` (BLOCK_STOP_DONE, R415). -/
  | blockStopDone
  /-- `run` (RUN, R415). -/
  | run (core : Nat) (place : Nat)
  /-- `step` (STEP, R417). -/
  | step (core : Nat) (slot : Nat)
  /-- `exec` (EXEC, R418). -/
  | exec (core : Nat) (slot : Nat) (nbuf : Nat)
  /-- `gangstop` (GANGSTOP, R420). -/
  | gangstop (core : Nat)
  /-- `trace_enable` (TRACE_ENABLE, R421). -/
  | traceEnable (core : Nat) (val : BitVec 64)
  /-- `trace_sync` (TRACE_SYNC, R423). -/
  | traceSync (core : Nat)
  /-- `trace_resume` (TRACE_RESUME, R425). -/
  | traceResume (core : Nat)
  /-- `counter_wrap` (COUNTER_WRAP, R428). -/
  | counterWrap (core : Nat) (e : Nat)
  /-- `shootdown_submit` (SHOOTDOWN_SUBMIT, R387). -/
  | shootdownSubmit (val : BitVec 64)
  /-- `ats_invalidation` (ATS_INVALIDATION, R387). -/
  | atsInvalidation (pasid : Nat) (va : BitVec 64) (log2 : Nat)
  /-- `shootdown_complete` (SHOOTDOWN_COMPLETE, R388). -/
  | shootdownComplete
  /-- `checkpoint` (CHECKPOINT, R396). -/
  | checkpoint (val : BitVec 64)
  /-- `checkpoint_done` (CHECKPOINT_DONE, R396). -/
  | checkpointDone (ok : Bool)
  /-- `freeze` (FREEZE, R437). -/
  | freeze
  /-- `unfreeze` (UNFREEZE, R437). -/
  | unfreeze
  /-- `unpoison` (UNPOISON, R432). -/
  | unpoison (val : BitVec 64)
  /-- `slot_write` (SLOT_WRITE, R440). -/
  | slotWrite (val : BitVec 64)
  /-- `clock_step` (CLOCK_STEP, R438). -/
  | clockStep (up : Bool)
  /-- `withhold_step` (WITHHOLD_STEP, R438). -/
  | withholdStep (k : Nat)
  /-- `error_detected` (ERROR_DETECTED, R430). -/
  | errorDetected (src : Nat) (unit : Nat) (addr : Nat) (ident : BitVec 64)
  /-- `error_retry` (ERROR_RETRY, R430). -/
  | errorRetry (ok : Bool)
  /-- `spdm_measurement` (SPDM_MEASUREMENT, R441). -/
  | spdmMeasurement (idx : Nat)
  /-- `spdm_key_exchange` (SPDM_KEY_EXCHANGE, R363). -/
  | spdmKeyExchange (port : Nat)
  /-- `register_write` (REGISTER_WRITE, R12). -/
  | registerWrite (off : Nat) (val : RegValue)
  /-- `fetch_fault` (FETCH_FAULT, R183). -/
  | fetchFault (core : Nat) (slot : Nat)
  /-- `store_performed` (STORE_PERFORMED, R100). -/
  | storePerformed (core : Nat) (i : Nat)
  /-- `host_cxl_mem_access` (HOST_CXL_MEM_ACCESS, R78). -/
  | hostCxlMemAccess (addr : Nat) (req : HostReq)
  /-- `power_loss` (POWER_LOSS, R440). -/
  | powerLoss
  /-- `l1_retention_sleep` (L1_RETENTION_SLEEP, R83). -/
  | l1RetentionSleep (core : Nat)
  deriving DecidableEq, Repr

end Sys2Proof
end

