-- ==== Sys2Proof/Decode.lean ====
section
/-! DEFINITION. The decoder (R210 to R224, R233 to R242), total on every word, answering an instruction or the
`F.ILL` subcode R224 names; then the encoder, written from the same tables. A word is a natural number whose bit 0
is the least significant bit of the first halfword. -/

namespace Sys2Proof

/-- The causes of `F.ILL` (R224). -/
inductive Ill where
  | unassigned | rsvField | regCode | oddPair | nwUse | badPrefix | limm | scope | order | fmtBlk | fmtWord
  deriving DecidableEq, Repr

/-- The subcode of each cause (R224). -/
def Ill.code : Ill → Nat
  | .unassigned => 0x1 | .rsvField => 0x2 | .regCode => 0x3 | .oddPair => 0x4 | .nwUse => 0x5 | .badPrefix => 0x6
  | .limm => 0x7 | .scope => 0x8 | .order => 0x9 | .fmtBlk => 0x10 | .fmtWord => 0x11

/-- Bits [lo + n - 1 : lo] of a word. -/
def bits (w lo n : Nat) : Nat := w / 2 ^ lo % 2 ^ n

/-- The signed value of an n-bit field (R218). -/
def signed (n x : Nat) : Int := if x < 2 ^ (n - 1) then (x : Int) else (x : Int) - 2 ^ n

/-- The n-bit field of a signed value. -/
def unsigned (n : Nat) (x : Int) : Nat := (x % 2 ^ n).toNat

/-- The vector source of a 7-bit code (R215). -/
def vsrcOf (code : Nat) : VSrc := if code < 124 then .reg code else .bp (code - 124)

/-- The 7-bit code of a vector source. -/
def VSrc.code : VSrc → Nat
  | .reg k => k
  | .bp k => 124 + k

/-- The classes a register field may have (R215, R216, spec/12). -/
inductive FieldClass where
  | unused | vdst | vsrc | wpair | sreg | spair | mreg
  deriving DecidableEq, Repr

/-- R214: an unused field must be zero. -/
def FieldClass.rsvBad (c : FieldClass) (x : Nat) : Bool :=
  match c with
  | .unused => x != 0
  | _ => false

/-- R215, R216: codes outside the class of the field. -/
def FieldClass.codeBad (c : FieldClass) (x : Nat) : Bool :=
  match c with
  | .unused | .vsrc => false
  | .vdst | .wpair => decide (124 ≤ x)
  | .sreg | .spair => decide (64 ≤ x)
  | .mreg => decide (16 ≤ x)

/-- R216, R303: a pair is named by its even register. -/
def FieldClass.oddBad (c : FieldClass) (x : Nat) : Bool :=
  match c with
  | .wpair | .spair => x % 2 == 1
  | _ => false

/-- The first failing check of a list in order of subcode (R224: the lowest subcode is reported). -/
def firstIll : List (Bool × Ill) → Option Ill
  | [] => none
  | (true, e) :: _ => some e
  | (false, _) :: t => firstIll t

/-- An instruction whose checks all pass, or the lowest failing subcode. -/
def guarded (checks : List (Bool × Ill)) (i : Instr) : Except Ill Instr :=
  match firstIll checks with
  | some e => .error e
  | none => .ok i

/-- R-format words (R213): fn [31:29], b [28:22], a [21:15], d [14:8], nw [7]. `vec` says whether the value
produces a vector result (R217). -/
def decR (w : Nat) (dc ac bc : FieldClass) (vec : Bool) (mk : Nat → Nat → Nat → Bool → Instr) : Except Ill Instr :=
  let d := bits w 8 7
  let a := bits w 15 7
  let b := bits w 22 7
  let nw := bits w 7 1 == 1
  guarded
    [(dc.rsvBad d || ac.rsvBad a || bc.rsvBad b, .rsvField),
     (dc.codeBad d || ac.codeBad a || bc.codeBad b, .regCode),
     (dc.oddBad d || ac.oddBad a || bc.oddBad b, .oddPair),
     (nw && (!vec || d != 0), .nwUse)]
    (mk d a b nw)

/-- `shfl` and `bcast` (R282): `a` is a vector register other than the destination, and no latch. -/
def decX (w : Nat) (bc : FieldClass) (mk : Nat → Nat → Nat → Bool → Instr) : Except Ill Instr :=
  let d := bits w 8 7
  let a := bits w 15 7
  let b := bits w 22 7
  let nw := bits w 7 1 == 1
  guarded
    [(FieldClass.vdst.codeBad d || FieldClass.vdst.codeBad a || bc.codeBad b || (!nw && a == d), .regCode),
     (nw && d != 0, .nwUse)]
    (mk d a b nw)

/-- I-format words (R213): imm [31:22], a [21:15], d [14:8], nw [7]. -/
def decI (w : Nat) (dc ac : FieldClass) (vec : Bool) (mk : Nat → Nat → Int → Bool → Instr) : Except Ill Instr :=
  let d := bits w 8 7
  let a := bits w 15 7
  let nw := bits w 7 1 == 1
  guarded
    [(dc.codeBad d || ac.codeBad a, .regCode), (nw && (!vec || d != 0), .nwUse)]
    (mk d a (signed 10 (bits w 22 10)) nw)

/-- U-format words (R213): imm [31:15], d [14:8], nw [7]. -/
def decU (w : Nat) (dc : FieldClass) (vec : Bool) (mk : Nat → Int → Bool → Instr) : Except Ill Instr :=
  let d := bits w 8 7
  let nw := bits w 7 1 == 1
  guarded [(dc.codeBad d, .regCode), (nw && (!vec || d != 0), .nwUse)] (mk d (signed 17 (bits w 15 17)) nw)

/-- B-format words (R213, R234): off [31:15], m [14:11], RSV [7]. -/
def decB (w : Nat) (usesM : Bool) (mk : Nat → Int → Instr) : Except Ill Instr :=
  let m := bits w 11 4
  guarded [(bits w 7 1 == 1 || (!usesM && m != 0), .rsvField)] (mk m (signed 17 (bits w 15 17)))

/-- The L-format word of `loop` (R213): off [31:15], s [14:9], RSV [8:7]. -/
def decL (w : Nat) : Except Ill Instr :=
  guarded [(bits w 7 2 != 0, .rsvField)] (.loop (bits w 9 6) (signed 17 (bits w 15 17)))

/-- The size codes of R293. -/
def sizeOf (c : Nat) : MemSize := if c = 0 then .b1 else if c = 1 then .b2 else if c = 2 then .b4 else .b8

/-- The code of a size. -/
def MemSize.code : MemSize → Nat
  | .b1 => 0 | .b2 => 1 | .b4 => 2 | .b8 => 3

/-- M-format words (R213): X [31], size [30:29], b [28:22], sb [21:15], d [14:8], nw [7]. `pair` says whether
size 3 makes `d` an even pair; `dc` is the class of `d` otherwise. -/
def decM (w : Nat) (dc bc : FieldClass) (pair vec : Bool) (mk : Nat → MemSize → Nat → Bool → Nat → Bool → Instr) :
    Except Ill Instr :=
  let d := bits w 8 7
  let sb := bits w 15 7
  let b := bits w 22 7
  let size := bits w 29 2
  let x := bits w 31 1 == 1
  let nw := bits w 7 1 == 1
  let dc := if pair && size == 3 then .wpair else dc
  guarded
    [(dc.codeBad d || FieldClass.sreg.codeBad sb || (x && bc.codeBad b), .regCode),
     (dc.oddBad d, .oddPair),
     (nw && (!vec || d != 0), .nwUse)]
    (mk d (sizeOf size) sb x b nw)

/-- The index of a vector M-format word. -/
def vindex (x : Bool) (b : Nat) : VIndex := if x then .idx (vsrcOf b) else .disp (signed 7 b)

/-- The index of a scalar M-format word. -/
def sindex (x : Bool) (b : Nat) : SIndex := if x then .idx b else .disp (signed 7 b)

/-- The scope of a code (R86); codes 6 and 7 are refused before this is used. -/
def scopeOf (c : Nat) : Scope :=
  if c = 0 then .team else if c = 1 then .blk else if c = 2 then .gang else if c = 3 then .dev
  else if c = 4 then .sys else .pod

/-- The code of a scope. -/
def Scope.code : Scope → Nat
  | .team => 0 | .blk => 1 | .gang => 2 | .dev => 3 | .sys => 4 | .pod => 5

/-- The order of a code (R90). -/
def orderOf (c : Nat) : Order := if c = 0 then .rlx else if c = 1 then .acq else if c = 2 then .rel else .acqrel

/-- The code of an order. -/
def Order.code : Order → Nat
  | .rlx => 0 | .acq => 1 | .rel => 2 | .acqrel => 3

/-- The fence kind of a code (R90). -/
def fenceOf (c : Nat) : FenceKind := if c = 0 then .acq else if c = 1 then .rel else if c = 2 then .acqrel else .sc

/-- The code of a fence kind. -/
def FenceKind.code : FenceKind → Nat
  | .acq => 0 | .rel => 1 | .acqrel => 2 | .sc => 3

/-- O-format words (R213): scope [31:29], ord [28:27], sb [26:21], x [20:14], d [13:7]. `orders` lists the order
codes the value accepts (R237); `ordRsv` marks the majors whose order field is reserved. -/
def decO (w : Nat) (dc xc : FieldClass) (sbUsed ordRsv : Bool) (orders : List Nat)
    (mk : Nat → Nat → Nat → Order → Scope → Instr) : Except Ill Instr :=
  let d := bits w 7 7
  let x := bits w 14 7
  let sb := bits w 21 6
  let ord := bits w 27 2
  let scope := bits w 29 3
  guarded
    [(dc.rsvBad d || xc.rsvBad x || (!sbUsed && sb != 0) || (ordRsv && ord != 0), .rsvField),
     (dc.codeBad d || xc.codeBad x, .regCode),
     (dc.oddBad d, .oddPair),
     (decide (6 ≤ scope), .scope),
     (!ordRsv && !orders.contains ord, .order)]
    (mk d sb x (orderOf ord) (scopeOf scope))

/-- The source of a T-format field with its kind bit. -/
def tsrc (k : Bool) (x : Nat) : TSrc := if k then .slot x else .reg x

/-- T-format words (R213): c [31:26], bk [25], b [24:19], ak [18], a [17:12], t [11:7]; the flags say which
fields and kind bits the value uses (R236, R237). -/
def decT (w : Nat) (cU bkU bU akU aU tU : Bool) (mk : Nat → TSrc → TSrc → Nat → Instr) : Except Ill Instr :=
  let c := bits w 26 6
  let bk := bits w 25 1 == 1
  let b := bits w 19 6
  let ak := bits w 18 1 == 1
  let a := bits w 12 6
  let t := bits w 7 5
  guarded
    [((!cU && c != 0) || (!bkU && bk) || (!bU && b != 0) || (!akU && ak) || (!aU && a != 0) || (!tU && t != 0), .rsvField)]
    (mk t (tsrc ak a) (tsrc bk b) c)

/-- The register number of a T-format operand whose kind bit is 0. -/
def TSrc.num : TSrc → Nat
  | .slot k => k
  | .reg k => k

/-- S-format words (R213): fn [31:29], imm [28:15], d [14:8], RSV [7]. `immMask` lists the immediate bits the
value uses; `dU` says whether it uses `d`. -/
def decS (w : Nat) (dU : Bool) (immBad : Nat → Bool) (mk : Nat → Nat → Instr) : Except Ill Instr :=
  let d := bits w 8 7
  let imm := bits w 15 14
  guarded
    [(bits w 7 1 == 1 || immBad imm || (!dU && d != 0), .rsvField),
     (FieldClass.sreg.codeBad d, .regCode)]
    (mk d imm)

/-- Major 0 (R233). -/
def decMajor0 (w fn : Nat) : Except Ill Instr :=
  match fn with
  | 0 => decR w .vdst .vsrc .vsrc true (fun d a b nw => .iaddI32 d (vsrcOf a) (vsrcOf b) nw)
  | 1 => decR w .vdst .vsrc .vsrc true (fun d a b nw => .isubI32 d (vsrcOf a) (vsrcOf b) nw)
  | 2 => decR w .vdst .vsrc .vsrc true (fun d a b nw => .imulI32 d (vsrcOf a) (vsrcOf b) nw)
  | 3 => decR w .vdst .vsrc .vsrc true (fun d a b nw => .imadI32 d (vsrcOf a) (vsrcOf b) nw)
  | 4 => decR w .vdst .vsrc .vsrc true (fun d a b nw => .imulhI32 d (vsrcOf a) (vsrcOf b) nw)
  | 5 => decR w .vdst .vsrc .vsrc true (fun d a b nw => .imulhN32 d (vsrcOf a) (vsrcOf b) nw)
  | 6 => decR w .vdst .vsrc .unused true (fun d a _ nw => .iabsI32 d (vsrcOf a) nw)
  | 7 => decR w .vdst .vsrc .mreg true (fun d a b nw => .sel d (vsrcOf a) b nw)
  | _ => .error .unassigned

/-- Major 1 (R233). -/
def decMajor1 (w fn : Nat) : Except Ill Instr :=
  match fn with
  | 0 => decR w .vdst .vsrc .vsrc true (fun d a b nw => .idivI32 d (vsrcOf a) (vsrcOf b) nw)
  | 1 => decR w .vdst .vsrc .vsrc true (fun d a b nw => .idivN32 d (vsrcOf a) (vsrcOf b) nw)
  | 2 => decR w .vdst .vsrc .vsrc true (fun d a b nw => .iremI32 d (vsrcOf a) (vsrcOf b) nw)
  | 3 => decR w .vdst .vsrc .vsrc true (fun d a b nw => .iremN32 d (vsrcOf a) (vsrcOf b) nw)
  | 4 => decR w .vdst .vsrc .vsrc true (fun d a b nw => .iminI32 d (vsrcOf a) (vsrcOf b) nw)
  | 5 => decR w .vdst .vsrc .vsrc true (fun d a b nw => .iminN32 d (vsrcOf a) (vsrcOf b) nw)
  | 6 => decR w .vdst .vsrc .vsrc true (fun d a b nw => .imaxI32 d (vsrcOf a) (vsrcOf b) nw)
  | 7 => decR w .vdst .vsrc .vsrc true (fun d a b nw => .imaxN32 d (vsrcOf a) (vsrcOf b) nw)
  | _ => .error .unassigned

/-- Major 2 (R233). -/
def decMajor2 (w fn : Nat) : Except Ill Instr :=
  match fn with
  | 0 => decR w .vdst .vsrc .vsrc true (fun d a b nw => .andV d (vsrcOf a) (vsrcOf b) nw)
  | 1 => decR w .vdst .vsrc .vsrc true (fun d a b nw => .orV d (vsrcOf a) (vsrcOf b) nw)
  | 2 => decR w .vdst .vsrc .vsrc true (fun d a b nw => .xorV d (vsrcOf a) (vsrcOf b) nw)
  | 3 => decR w .vdst .vsrc .vsrc true (fun d a b nw => .andn d (vsrcOf a) (vsrcOf b) nw)
  | 4 => decR w .vdst .vsrc .vsrc true (fun d a b nw => .shlN32 d (vsrcOf a) (vsrcOf b) nw)
  | 5 => decR w .vdst .vsrc .vsrc true (fun d a b nw => .shrN32 d (vsrcOf a) (vsrcOf b) nw)
  | 6 => decR w .vdst .vsrc .vsrc true (fun d a b nw => .sarI32 d (vsrcOf a) (vsrcOf b) nw)
  | 7 => decR w .vdst .vsrc .vsrc true (fun d a b nw => .rotN32 d (vsrcOf a) (vsrcOf b) nw)
  | _ => .error .unassigned

/-- Major 3 (R233). -/
def decMajor3 (w fn : Nat) : Except Ill Instr :=
  match fn with
  | 0 => decR w .vdst .vsrc .unused true (fun d a _ nw => .clz d (vsrcOf a) nw)
  | 1 => decR w .vdst .vsrc .unused true (fun d a _ nw => .popc d (vsrcOf a) nw)
  | 2 => decR w .vdst .vsrc .unused true (fun d a _ nw => .brev d (vsrcOf a) nw)
  | 3 => decR w .vdst .vsrc .vsrc true (fun d a b nw => .bfx d (vsrcOf a) (vsrcOf b) nw)
  | 4 => decR w .vdst .vsrc .vsrc true (fun d a b nw => .bfi d (vsrcOf a) (vsrcOf b) nw)
  | 5 => decR w .vdst .vsrc .unused true (fun d a _ nw => .movV d (vsrcOf a) nw)
  | 6 => decR w .wpair .wpair .wpair true (fun d a b nw => .iaddI64V d a b nw)
  | 7 => decR w .wpair .wpair .wpair true (fun d a b nw => .isubI64V d a b nw)
  | _ => .error .unassigned

/-- Major 4 (R233). -/
def decMajor4 (w fn : Nat) : Except Ill Instr :=
  match fn with
  | 0 => decR w .sreg .sreg .sreg false (fun d a b _ => .iaddI64S d a b)
  | 1 => decR w .sreg .sreg .sreg false (fun d a b _ => .isubI64S d a b)
  | 2 => decR w .sreg .sreg .sreg false (fun d a b _ => .imulI64 d a b)
  | 3 => decR w .sreg .sreg .sreg false (fun d a b _ => .andS d a b)
  | 4 => decR w .sreg .sreg .sreg false (fun d a b _ => .orS d a b)
  | 5 => decR w .sreg .sreg .sreg false (fun d a b _ => .xorS d a b)
  | 6 => decR w .sreg .sreg .sreg false (fun d a b _ => .shlN64 d a b)
  | 7 => decR w .sreg .sreg .sreg false (fun d a b _ => .shrN64 d a b)
  | _ => .error .unassigned

/-- Major 5 (R233). -/
def decMajor5 (w fn : Nat) : Except Ill Instr :=
  match fn with
  | 0 => decR w .sreg .sreg .sreg false (fun d a b _ => .sarI64 d a b)
  | 1 => decR w .sreg .sreg .unused false (fun d a _ _ => .movS d a)
  | 2 => decR w .mreg .vsrc .vsrc false (fun d a b _ => .icmpEqI32 d (vsrcOf a) (vsrcOf b))
  | 3 => decR w .mreg .vsrc .vsrc false (fun d a b _ => .icmpLtI32 d (vsrcOf a) (vsrcOf b))
  | 4 => decR w .mreg .vsrc .vsrc false (fun d a b _ => .icmpLtN32 d (vsrcOf a) (vsrcOf b))
  | 5 => decR w .sreg .sreg .sreg false (fun d a b _ => .icmpEqI64 d a b)
  | 6 => decR w .sreg .sreg .sreg false (fun d a b _ => .icmpLtI64 d a b)
  | 7 => decR w .sreg .sreg .sreg false (fun d a b _ => .icmpLtN64 d a b)
  | _ => .error .unassigned

/-- Major 6 (R233). -/
def decMajor6 (w fn : Nat) : Except Ill Instr :=
  match fn with
  | 0 => decR w .vdst .unused .unused true (fun d _ _ nw => .lidV d nw)
  | 1 => decR w .sreg .unused .unused false (fun d _ _ _ => .lidS d)
  | 2 => decR w .vdst .vsrc .sreg true (fun d a b nw => .fpack d (vsrcOf a) b nw)
  | 3 => decR w .vdst .vsrc .sreg true (fun d a b nw => .funpack d (vsrcOf a) b nw)
  | 4 => decR w .sreg .unused .unused false (fun d _ _ _ => .fstat d)
  | 5 => decR w .sreg .sreg .unused false (fun d a _ _ => .fmode d a)
  | _ => .error .unassigned

/-- Major 12 (R233). -/
def decMajor12 (w fn : Nat) : Except Ill Instr :=
  match fn with
  | 0 => decR w .vdst .vsrc .vsrc true (fun d a b nw => .faddF32 d (vsrcOf a) (vsrcOf b) nw)
  | 1 => decR w .vdst .vsrc .vsrc true (fun d a b nw => .fsubF32 d (vsrcOf a) (vsrcOf b) nw)
  | 2 => decR w .vdst .vsrc .vsrc true (fun d a b nw => .fmulF32 d (vsrcOf a) (vsrcOf b) nw)
  | 3 => decR w .vdst .vsrc .vsrc true (fun d a b nw => .ffmaF32 d (vsrcOf a) (vsrcOf b) nw)
  | 4 => decR w .vdst .vsrc .vsrc true (fun d a b nw => .fdivF32 d (vsrcOf a) (vsrcOf b) nw)
  | 5 => decR w .vdst .vsrc .unused true (fun d a _ nw => .fsqrtF32 d (vsrcOf a) nw)
  | 6 => decR w .vdst .vsrc .vsrc true (fun d a b nw => .fminF32 d (vsrcOf a) (vsrcOf b) nw)
  | 7 => decR w .vdst .vsrc .vsrc true (fun d a b nw => .fmaxF32 d (vsrcOf a) (vsrcOf b) nw)
  | _ => .error .unassigned

/-- Major 13 (R233). -/
def decMajor13 (w fn : Nat) : Except Ill Instr :=
  match fn with
  | 0 => decR w .vdst .vsrc .unused true (fun d a _ nw => .frcp d (vsrcOf a) nw)
  | 1 => decR w .vdst .vsrc .unused true (fun d a _ nw => .frsq d (vsrcOf a) nw)
  | 2 => decR w .vdst .vsrc .unused true (fun d a _ nw => .fexp2 d (vsrcOf a) nw)
  | 3 => decR w .vdst .vsrc .unused true (fun d a _ nw => .flog2 d (vsrcOf a) nw)
  | 4 => decR w .vdst .vsrc .unused true (fun d a _ nw => .froundF32 d (vsrcOf a) nw)
  | 5 => decR w .vdst .vsrc .unused true (fun d a _ nw => .fclassF32 d (vsrcOf a) nw)
  | 6 => decR w .mreg .vsrc .vsrc false (fun d a b _ => .fcmpEqF32 d (vsrcOf a) (vsrcOf b))
  | 7 => decR w .mreg .vsrc .vsrc false (fun d a b _ => .fcmpLtF32 d (vsrcOf a) (vsrcOf b))
  | _ => .error .unassigned

/-- Major 14 (R233). -/
def decMajor14 (w fn : Nat) : Except Ill Instr :=
  match fn with
  | 0 => decR w .wpair .wpair .wpair true (fun d a b nw => .faddF64 d a b nw)
  | 1 => decR w .wpair .wpair .wpair true (fun d a b nw => .fsubF64 d a b nw)
  | 2 => decR w .wpair .wpair .wpair true (fun d a b nw => .fmulF64 d a b nw)
  | 3 => decR w .wpair .wpair .wpair true (fun d a b nw => .ffmaF64 d a b nw)
  | 4 => decR w .wpair .wpair .wpair true (fun d a b nw => .fdivF64 d a b nw)
  | 5 => decR w .wpair .wpair .unused true (fun d a _ nw => .fsqrtF64 d a nw)
  | 6 => decR w .wpair .wpair .wpair true (fun d a b nw => .fminF64 d a b nw)
  | 7 => decR w .wpair .wpair .wpair true (fun d a b nw => .fmaxF64 d a b nw)
  | _ => .error .unassigned

/-- Major 15 (R233). -/
def decMajor15 (w fn : Nat) : Except Ill Instr :=
  match fn with
  | 0 => decR w .mreg .vsrc .vsrc false (fun d a b _ => .fcmpLeF32 d (vsrcOf a) (vsrcOf b))
  | 1 => decR w .mreg .wpair .wpair false (fun d a b _ => .fcmpEqF64 d a b)
  | 2 => decR w .mreg .wpair .wpair false (fun d a b _ => .fcmpLtF64 d a b)
  | 3 => decR w .mreg .wpair .wpair false (fun d a b _ => .fcmpLeF64 d a b)
  | 4 => decR w .wpair .wpair .unused true (fun d a _ nw => .froundF64 d a nw)
  | 5 => decR w .vdst .wpair .unused true (fun d a _ nw => .fclassF64 d a nw)
  | 6 => decR w .vdst .vsrc .unused true (fun d a _ nw => .ftoiI32F32 d (vsrcOf a) nw)
  | 7 => decR w .vdst .vsrc .unused true (fun d a _ nw => .itofF32I32 d (vsrcOf a) nw)
  | _ => .error .unassigned

/-- Major 16 (R233). -/
def decMajor16 (w fn : Nat) : Except Ill Instr :=
  match fn with
  | 0 => decR w .wpair .vsrc .unused true (fun d a _ nw => .fcvtF64F32 d (vsrcOf a) nw)
  | 1 => decR w .vdst .wpair .unused true (fun d a _ nw => .fcvtF32F64 d a nw)
  | 2 => decR w .vdst .vsrc .unused true (fun d a _ nw => .fcvtBf16F32 d (vsrcOf a) nw)
  | 3 => decR w .vdst .vsrc .unused true (fun d a _ nw => .fcvtF32Bf16 d (vsrcOf a) nw)
  | 4 => decR w .vdst .vsrc .unused true (fun d a _ nw => .fcvtF16F32 d (vsrcOf a) nw)
  | 5 => decR w .vdst .vsrc .unused true (fun d a _ nw => .fcvtF32F16 d (vsrcOf a) nw)
  | 6 => decR w .vdst .vsrc .sreg true (fun d a b nw => .fcvtNfF32 d (vsrcOf a) b nw)
  | 7 => decR w .vdst .vsrc .sreg true (fun d a b nw => .fcvtF32Nf d (vsrcOf a) b nw)
  | _ => .error .unassigned

/-- Major 17 (R233). -/
def decMajor17 (w fn : Nat) : Except Ill Instr :=
  match fn with
  | 0 => decR w .mreg .mreg .mreg false (fun d a b _ => .mand d a b)
  | 1 => decR w .mreg .mreg .mreg false (fun d a b _ => .mor d a b)
  | 2 => decR w .mreg .mreg .mreg false (fun d a b _ => .mxor d a b)
  | 3 => decR w .mreg .mreg .unused false (fun d a _ _ => .mnot d a)
  | 4 => decR w .mreg .mreg .unused false (fun d a _ _ => .mmov d a)
  | 5 => decR w .sreg .mreg .unused false (fun d a _ _ => .mpop d a)
  | 6 => decR w .sreg .mreg .unused false (fun d a _ _ => .mfirst d a)
  | _ => .error .unassigned

/-- Major 18 (R233). -/
def decMajor18 (w fn : Nat) : Except Ill Instr :=
  match fn with
  | 0 => decX w .vsrc (fun d a b nw => .shfl d a (vsrcOf b) nw)
  | 1 => decX w .sreg (fun d a b nw => .bcast d a b nw)
  | 2 => decR w .sreg .vsrc .unused false (fun d a _ _ => .reduceAddI32 d (vsrcOf a))
  | 3 => decR w .sreg .vsrc .unused false (fun d a _ _ => .reduceAddF32 d (vsrcOf a))
  | 4 => decR w .sreg .vsrc .unused false (fun d a _ _ => .reduceMaxI32 d (vsrcOf a))
  | 5 => decR w .sreg .vsrc .unused false (fun d a _ _ => .reduceMaxF32 d (vsrcOf a))
  | 6 => decR w .vdst .vsrc .unused true (fun d a _ nw => .scanAddI32 d (vsrcOf a) nw)
  | 7 => decR w .vdst .vsrc .unused true (fun d a _ nw => .scanAddF32 d (vsrcOf a) nw)
  | _ => .error .unassigned

/-- Major 19 (R233). -/
def decMajor19 (w fn : Nat) : Except Ill Instr :=
  match fn with
  | 0 => decR w .vdst .vsrc .unused true (fun d a _ nw => .scanMaxI32 d (vsrcOf a) nw)
  | 1 => decR w .vdst .vsrc .unused true (fun d a _ nw => .scanMaxF32 d (vsrcOf a) nw)
  | 2 => decR w .unused .sreg .unused false (fun _ a _ _ => .jmpr a)
  | 3 => decR w .unused .unused .unused false (fun _ _ _ _ => .ret)
  | 4 => decR w .unused .unused .unused false (fun _ _ _ _ => .lbrk)
  | 5 => decR w .unused .unused .unused false (fun _ _ _ _ => .yield)
  | _ => .error .unassigned

/-- Major 46 (R233). -/
def decMajor46 (w fn : Nat) : Except Ill Instr :=
  match fn with
  | 0 => decR w .unused .unused .unused false (fun _ _ _ _ => .qpass)
  | 1 => decR w .unused .unused .unused false (fun _ _ _ _ => .qidle)
  | 2 => decR w .unused .unused .unused false (fun _ _ _ _ => .qwake)
  | 3 => decR w .sreg .unused .unused false (fun d _ _ _ => .gpstart d)
  | 4 => decR w .sreg .sreg .unused false (fun d a _ _ => .gpwait d a)
  | 5 => decR w .sreg .sreg .sreg false (fun d a b _ => .dfree d a b)
  | 6 => decR w .sreg .sreg .unused false (fun d a _ _ => .lstat d a)
  | _ => .error .unassigned

/-- Major 47 (R233). -/
def decMajor47 (w fn : Nat) : Except Ill Instr :=
  match fn with
  | 0 => decR w .unused .sreg .unused false (fun _ a _ _ => .prefL1 a)
  | 1 => decR w .unused .sreg .unused false (fun _ a _ _ => .prefL2 a)
  | 2 => decR w .unused .sreg .unused false (fun _ a _ _ => .prefL2x a)
  | 4 => decR w .vdst .sreg .vsrc true (fun d a b nw => .ldbN8 d a (vsrcOf b) nw)
  | 5 => decR w .vdst .sreg .vsrc true (fun d a b nw => .ldbN16 d a (vsrcOf b) nw)
  | 6 => decR w .vdst .sreg .vsrc true (fun d a b nw => .ldbN32 d a (vsrcOf b) nw)
  | 7 => decR w .wpair .sreg .vsrc true (fun d a b nw => .ldbN64 d a (vsrcOf b) nw)
  | _ => .error .unassigned

/-- Major 58 (R233). -/
def decMajor58 (w fn : Nat) : Except Ill Instr :=
  match fn with
  | 0 => decR w .sreg .unused .unused false (fun d _ _ _ => .mcommit d)
  | 1 => decR w .unused .sreg .unused false (fun _ a _ _ => .mwait a)
  | 2 => decR w .unused .sreg .unused false (fun _ a _ _ => .cwait a)
  | 3 => decR w .sreg .sreg .unused false (fun d a _ _ => .cstatMap d a)
  | 4 => decR w .sreg .sreg .unused false (fun d a _ _ => .cstat d a)
  | 5 => decR w .unused .sreg .unused false (fun _ a _ _ => .ccancel a)
  | _ => .error .unassigned

/-- Major 20, the B format (R234). -/
def decMajor20 (w fn : Nat) : Except Ill Instr :=
  match fn with
  | 0 => decB w false (fun _ off => .bra off)
  | 1 => decB w true (fun m off => .bzM m off)
  | 2 => decB w true (fun m off => .bnzM m off)
  | 3 => decB w true (fun m off => .ball m off)
  | 4 => decB w false (fun _ off => .call off)
  | 5 => decB w true (fun m off => .bzS m off)
  | 6 => decB w true (fun m off => .bnzS m off)
  | _ => .error .unassigned

/-- Major 56, the tile-table values (R235, R313): TILE [4:0], WANT [5], PHASE [6]. -/
def decMajor56 (w fn : Nat) : Except Ill Instr :=
  match fn with
  | 0 => decS w true (fun i => decide (32 ≤ i)) (fun d i => .tstateAcc (bits i 0 5) d)
  | 1 => decS w true (fun i => decide (32 ≤ i)) (fun d i => .tstateSt (bits i 0 5) d)
  | 2 => decS w false (fun i => decide (128 ≤ i)) (fun _ i => .twaitAcc (bits i 0 5) (bits i 5 1 == 1) (bits i 6 1 == 1))
  | 3 => decS w false (fun i => decide (128 ≤ i)) (fun _ i => .twaitSt (bits i 0 5) (bits i 5 1 == 1) (bits i 6 1 == 1))
  | 4 => decS w false (fun i => decide (32 ≤ i)) (fun _ i => .treadyAcc (bits i 0 5))
  | 5 => decS w false (fun i => decide (32 ≤ i)) (fun _ i => .treadySt (bits i 0 5))
  | 6 => decS w false (fun i => decide (32 ≤ i)) (fun _ i => .trelAcc (bits i 0 5))
  | 7 => decS w false (fun i => decide (32 ≤ i)) (fun _ i => .trelSt (bits i 0 5))
  | _ => .error .unassigned

/-- Major 57 (R235, R313). -/
def decMajor57 (w fn : Nat) : Except Ill Instr :=
  match fn with
  | 0 => decS w false (fun i => decide (64 ≤ i)) (fun _ i => .mzero (bits i 0 5) (bits i 5 1 == 1))
  | 1 => decS w true (fun i => decide (32 ≤ i)) (fun d i => .tbind (bits i 0 5) d)
  | _ => .error .unassigned

/-- Major 59 (R331, R332): BAR [3:0], SCOPE [4], EXPECT [13:6]. -/
def decMajor59 (w fn : Nat) : Except Ill Instr :=
  match fn with
  | 0 => decS w false (fun i => bits i 5 1 == 1) (fun _ i => .bar (bits i 0 4) (bits i 4 1 == 1) (bits i 6 8))
  | 1 => decS w false (fun i => bits i 5 1 == 1) (fun _ i => .arrive (bits i 0 4) (bits i 4 1 == 1) (bits i 6 8))
  | 2 => decS w false (fun i => decide (32 ≤ i)) (fun _ i => .bwait (bits i 0 4) (bits i 4 1 == 1))
  | 3 => decS w false (fun _ => false) (fun _ i => .trap i)
  | 4 => decS w false (fun _ => false) (fun _ i => .brk i)
  | 5 => decS w false (fun i => i != 0) (fun _ _ => .halt)
  | 6 => decS w false (fun i => i != 0) (fun _ _ => .nop)
  | 7 => decS w true (fun i => i != 0) (fun d _ => .sigret d)
  | _ => .error .unassigned

/-- The numbers of the system registers (R339). -/
def sysListed (r : Nat) : Bool := decide (r ≤ 6) || (decide (0x100 ≤ r) && decide (r ≤ 0x104))

/-- The access instructions of the system registers: a number that R339 does not list is UNASSIGNED, the lowest subcode (R224). -/
def decSys (w : Nat) (mk : Nat → Nat → Instr) : Except Ill Instr :=
  if sysListed (bits w 15 14) then decS w true (fun _ => false) mk else .error .unassigned

/-- Major 60 (R331). -/
def decMajor60 (w fn : Nat) : Except Ill Instr :=
  match fn with
  | 0 => decS w false (fun i => i != 0) (fun _ _ => .eret)
  | 1 => decSys w .sysrd
  | 2 => decSys w .syswr
  | 3 => decSys w .syswrSet
  | 4 => decSys w .syswrClr
  | 5 => decS w true (fun i => i != 0) (fun d _ => .park d)
  | 6 => decS w true (fun i => i != 0) (fun d _ => .resume d)
  | 7 => decS w true (fun i => i != 0) (fun d _ => .resumeStep d)
  | _ => .error .unassigned

/-- `limm` (R219): imm [31:8], RSV [7]. -/
def decLimm (w : Nat) : Except Ill Instr :=
  guarded [(bits w 7 1 == 1, .rsvField)] (.limm (bits w 8 24))

/-- `rep` (R219): SB [27:24], SA [23:20], SD [19:16], CNT [12:7]; [31:28] and [15:13] RSV. -/
def decRep (w : Nat) : Except Ill Instr :=
  guarded [(bits w 28 4 != 0 || bits w 13 3 != 0, .rsvField)]
    (.rep (bits w 24 4) (bits w 20 4) (bits w 16 4) (bits w 7 6))

/-- A 32-bit word (R213, R236). -/
def decode32 (w : Nat) : Except Ill Instr :=
  let fn := bits w 29 3
  match bits w 1 6 with
  | 0 => decMajor0 w fn
  | 1 => decMajor1 w fn
  | 2 => decMajor2 w fn
  | 3 => decMajor3 w fn
  | 4 => decMajor4 w fn
  | 5 => decMajor5 w fn
  | 6 => decMajor6 w fn
  | 7 => decI w .vdst .vsrc true (fun d a i nw => .iaddI32Imm d (vsrcOf a) i nw)
  | 8 => decI w .sreg .sreg false (fun d a i _ => .iaddI64Imm d a i)
  | 9 => decU w .vdst true (fun d i nw => .moviV d i nw)
  | 10 => decU w .sreg false (fun d i _ => .moviS d i)
  | 11 => decU w .sreg false (fun d i _ => .lea d i)
  | 12 => decMajor12 w fn
  | 13 => decMajor13 w fn
  | 14 => decMajor14 w fn
  | 15 => decMajor15 w fn
  | 16 => decMajor16 w fn
  | 17 => decMajor17 w fn
  | 18 => decMajor18 w fn
  | 19 => decMajor19 w fn
  | 20 => decMajor20 w (bits w 8 3)
  | 21 => decL w
  | 22 => decM w .vdst .vsrc true true (fun d z sb x b nw => .ldV d z sb (vindex x b) nw)
  | 23 => decM w .sreg .sreg false false (fun d z sb x b _ => .ldS d z sb (sindex x b))
  | 24 => decM w .vsrc .vsrc true false (fun d z sb x b _ => .stV (vsrcOf d) z sb (vindex x b))
  | 25 => decM w .sreg .sreg false false (fun d z sb x b _ => .stS d z sb (sindex x b))
  | 26 => decM w .vdst .vsrc false true (fun d z sb x b nw => .ldp d z sb (vindex x b) nw)
  | 27 => decM w .vsrc .vsrc false false (fun d z sb x b _ => .stp (vsrcOf d) z sb (vindex x b))
  | 28 => decO w .vdst .vsrc true false [0, 1] (fun d sb x o sc => .ldOrdV d sb (vsrcOf x) o sc)
  | 29 => decO w .sreg .sreg true false [0, 1] (fun d sb x o sc => .ldOrdS d sb x o sc)
  | 30 => decO w .vsrc .vsrc true false [0, 2] (fun d sb x o sc => .stOrdV (vsrcOf d) sb (vsrcOf x) o sc)
  | 31 => decO w .sreg .sreg true false [0, 2] (fun d sb x o sc => .stOrdS d sb x o sc)
  | 32 => decO w .vdst .vsrc true false [0, 1, 2, 3] (fun d sb x o sc => .atomAddI32 d sb (vsrcOf x) o sc)
  | 33 => decO w .sreg .sreg true false [0, 1, 2, 3] (fun d sb x o sc => .atomAddI64 d sb x o sc)
  | 34 => decO w .vdst .vsrc true false [0, 1, 2, 3] (fun d sb x o sc => .atomExchI32 d sb (vsrcOf x) o sc)
  | 35 => decO w .sreg .sreg true false [0, 1, 2, 3] (fun d sb x o sc => .atomExchI64 d sb x o sc)
  | 36 => decO w .vdst .vsrc true false [0, 1, 2, 3] (fun d sb x o sc => .atomMaxI32 d sb (vsrcOf x) o sc)
  | 37 => decO w .vdst .vsrc true false [0, 1, 2, 3] (fun d sb x o sc => .atomMinI32 d sb (vsrcOf x) o sc)
  | 38 => decO w .vsrc .vsrc true false [0, 1, 2, 3] (fun d sb x o sc => .redAddI32 (vsrcOf d) sb (vsrcOf x) o sc)
  | 39 => decO w .wpair .vsrc true false [0, 1, 2, 3] (fun d sb x o sc => .casI32 d sb (vsrcOf x) o sc)
  | 40 => decO w .spair .sreg true false [0, 1, 2, 3] (fun d sb x o sc => .casI64 d sb x o sc)
  | 41 => decO w .unused .unused false false [0, 1, 2, 3] (fun _ _ _ o sc => .fence (fenceOf o.code) sc)
  | 42 => decO w .sreg .sreg true true [] (fun d sb x _ sc => .llock d sb x sc)
  | 43 => decO w .sreg .unused true true [] (fun d sb _ _ sc => .ltry d sb sc)
  | 44 => decO w .unused .unused true true [] (fun _ sb _ _ sc => .lunlock sb sc)
  | 45 => decO w .unused .unused true true [] (fun _ sb _ _ sc => .lunlockReg sb sc)
  | 46 => decMajor46 w fn
  | 47 => decMajor47 w fn
  | 48 => decT w true true true true true true (fun t a b c => .mma t a b c)
  | 49 => decT w true true true true true true (fun t a b c => .mmag t a b c)
  | 50 => decT w false false true true true true (fun t a b _ => .mdrain t a b.num)
  | 51 => decT w false false true true true true (fun t a b _ => .mdrainAdd t a b.num)
  | 52 => decT w true false true true true true (fun t a b c => .quant t a b.num c)
  | 53 => decT w true false true true true true (fun t a b c => .quantBmaj t a b.num c)
  | 54 => decT w true true true false true false (fun _ a b c => .tcopyDense c a.num b)
  | 55 => decT w true false false false true true (fun t a _ c => .tcopyAcc c a.num t)
  | 56 => decMajor56 w fn
  | 57 => decMajor57 w fn
  | 58 => decMajor58 w fn
  | 59 => decMajor59 w fn
  | 60 => decMajor60 w fn
  | 62 => decRep w
  | 63 => decLimm w
  | _ => .error .unassigned

/-- A 16-bit word (R211): va [15:11], vd [10:5], op [4:1]. All sixteen values are assigned. -/
def decode16 (w : Nat) : Instr :=
  let a := bits w 11 5
  let d := bits w 5 6
  match bits w 1 4 with
  | 0 => .mov16 d a
  | 1 => .iadd16 d a
  | 2 => .isub16 d a
  | 3 => .imul16 d a
  | 4 => .and16 d a
  | 5 => .or16 d a
  | 6 => .xor16 d a
  | 7 => .shl16 d a
  | 8 => .shr16 d a
  | 9 => .sar16 d a
  | 10 => .imin16 d a
  | 11 => .imax16 d a
  | 12 => .fadd16 d a
  | 13 => .fsub16 d a
  | 14 => .fmul16 d a
  | _ => .fmax16 d a

/-- One word: bit 0 of the first halfword gives the length (R210). `w` holds at least the word's bits. -/
def decodeWord (w : Nat) : Except Ill Instr :=
  if bits w 0 1 = 0 then .ok (decode16 (bits w 0 16)) else decode32 (bits w 0 32)

/-- The length in bytes of the word that starts with this halfword (R210). -/
def wordLen (w : Nat) : Nat := if bits w 0 1 = 0 then 2 else 4

/-- The bytes of a word, the first halfword at the lowest address and each halfword little-endian (R10, R210). -/
def wordBytes (n w : Nat) : List (BitVec 8) :=
  match n with
  | 0 => []
  | n + 1 => BitVec.ofNat 8 (w % 256) :: wordBytes n (w / 256)

/-- The number that a list of bytes holds, little-endian (R10). -/
def leNat : List (BitVec 8) → Nat
  | [] => 0
  | b :: t => b.toNat + 256 * leNat t

/-- The decoder on bytes: the instruction at the head of a byte list and the rest of the list. -/
def decodeBytes (bs : List (BitVec 8)) : Except Ill (Instr × List (BitVec 8)) :=
  let w := leNat (bs.take 4)
  match decodeWord w with
  | .ok i => .ok (i, bs.drop (wordLen w))
  | .error e => .error e

/-- The instruction the decoder reads from a table word (bit 0 the least significant bit of the first halfword). -/
def decodeTableWord (nbits w : Nat) : Option Instr :=
  match decodeBytes (wordBytes 4 (w % 2 ^ nbits)) with
  | .ok (i, _) => some i
  | .error _ => none

/-! ### The encoder -/

/-- The bit of a flag. -/
def flag (b : Bool) : Nat := if b then 1 else 0

/-- An R-format word (R244). -/
def encR (major fn d a b : Nat) (nw : Bool) : Nat :=
  fn * 2 ^ 29 + b * 2 ^ 22 + a * 2 ^ 15 + d * 2 ^ 8 + flag nw * 2 ^ 7 + (2 * major + 1)

/-- An I-format word (R244). -/
def encI (major d a : Nat) (imm : Int) (nw : Bool) : Nat :=
  unsigned 10 imm * 2 ^ 22 + a * 2 ^ 15 + d * 2 ^ 8 + flag nw * 2 ^ 7 + (2 * major + 1)

/-- A U-format word (R244). -/
def encU (major d : Nat) (imm : Int) (nw : Bool) : Nat :=
  unsigned 17 imm * 2 ^ 15 + d * 2 ^ 8 + flag nw * 2 ^ 7 + (2 * major + 1)

/-- A B-format word (R277). -/
def encB (fn m : Nat) (off : Int) : Nat := unsigned 17 off * 2 ^ 15 + m * 2 ^ 11 + fn * 2 ^ 8 + 0x29

/-- An M-format word (R293). -/
def encM (major : Nat) (x : Bool) (size : MemSize) (b sb d : Nat) (nw : Bool) : Nat :=
  flag x * 2 ^ 31 + size.code * 2 ^ 29 + b * 2 ^ 22 + sb * 2 ^ 15 + d * 2 ^ 8 + flag nw * 2 ^ 7 + (2 * major + 1)

/-- The X bit and `b` field of a vector index. -/
def VIndex.enc : VIndex → Bool × Nat
  | .disp k => (false, unsigned 7 k)
  | .idx v => (true, v.code)

/-- The X bit and `b` field of a scalar index. -/
def SIndex.enc : SIndex → Bool × Nat
  | .disp k => (false, unsigned 7 k)
  | .idx s => (true, s)

/-- An O-format word (R293). -/
def encO (major scope ord sb x d : Nat) : Nat :=
  scope * 2 ^ 29 + ord * 2 ^ 27 + sb * 2 ^ 21 + x * 2 ^ 14 + d * 2 ^ 7 + (2 * major + 1)

/-- The kind bit and field of a T-format operand. -/
def TSrc.enc : TSrc → Nat × Nat
  | .slot k => (1, k)
  | .reg k => (0, k)

/-- A T-format word (R313). -/
def encT (major c bk b ak a t : Nat) : Nat :=
  c * 2 ^ 26 + bk * 2 ^ 25 + b * 2 ^ 19 + ak * 2 ^ 18 + a * 2 ^ 12 + t * 2 ^ 7 + (2 * major + 1)

/-- An S-format word (R313, R331). -/
def encS (major fn imm d : Nat) : Nat := fn * 2 ^ 29 + imm * 2 ^ 15 + d * 2 ^ 8 + (2 * major + 1)

/-- A 16-bit word (R211). -/
def enc16 (op d a : Nat) : Nat := a * 2 ^ 11 + d * 2 ^ 5 + op * 2

/-- The word of an opcode value; none for the rows of the table that are steps of the device. -/
def encode (i : Instr) : Option Nat :=
  match i with
  | .mov16 d a => some (enc16 0 d a)
  | .iadd16 d a => some (enc16 1 d a)
  | .isub16 d a => some (enc16 2 d a)
  | .imul16 d a => some (enc16 3 d a)
  | .and16 d a => some (enc16 4 d a)
  | .or16 d a => some (enc16 5 d a)
  | .xor16 d a => some (enc16 6 d a)
  | .shl16 d a => some (enc16 7 d a)
  | .shr16 d a => some (enc16 8 d a)
  | .sar16 d a => some (enc16 9 d a)
  | .imin16 d a => some (enc16 10 d a)
  | .imax16 d a => some (enc16 11 d a)
  | .fadd16 d a => some (enc16 12 d a)
  | .fsub16 d a => some (enc16 13 d a)
  | .fmul16 d a => some (enc16 14 d a)
  | .fmax16 d a => some (enc16 15 d a)
  | .iaddI32 d a b nw => some (encR 0 0 d a.code b.code nw)
  | .isubI32 d a b nw => some (encR 0 1 d a.code b.code nw)
  | .imulI32 d a b nw => some (encR 0 2 d a.code b.code nw)
  | .imadI32 d a b nw => some (encR 0 3 d a.code b.code nw)
  | .imulhI32 d a b nw => some (encR 0 4 d a.code b.code nw)
  | .imulhN32 d a b nw => some (encR 0 5 d a.code b.code nw)
  | .iabsI32 d a nw => some (encR 0 6 d a.code 0 nw)
  | .sel d a b nw => some (encR 0 7 d a.code b nw)
  | .idivI32 d a b nw => some (encR 1 0 d a.code b.code nw)
  | .idivN32 d a b nw => some (encR 1 1 d a.code b.code nw)
  | .iremI32 d a b nw => some (encR 1 2 d a.code b.code nw)
  | .iremN32 d a b nw => some (encR 1 3 d a.code b.code nw)
  | .iminI32 d a b nw => some (encR 1 4 d a.code b.code nw)
  | .iminN32 d a b nw => some (encR 1 5 d a.code b.code nw)
  | .imaxI32 d a b nw => some (encR 1 6 d a.code b.code nw)
  | .imaxN32 d a b nw => some (encR 1 7 d a.code b.code nw)
  | .andV d a b nw => some (encR 2 0 d a.code b.code nw)
  | .orV d a b nw => some (encR 2 1 d a.code b.code nw)
  | .xorV d a b nw => some (encR 2 2 d a.code b.code nw)
  | .andn d a b nw => some (encR 2 3 d a.code b.code nw)
  | .shlN32 d a b nw => some (encR 2 4 d a.code b.code nw)
  | .shrN32 d a b nw => some (encR 2 5 d a.code b.code nw)
  | .sarI32 d a b nw => some (encR 2 6 d a.code b.code nw)
  | .rotN32 d a b nw => some (encR 2 7 d a.code b.code nw)
  | .clz d a nw => some (encR 3 0 d a.code 0 nw)
  | .popc d a nw => some (encR 3 1 d a.code 0 nw)
  | .brev d a nw => some (encR 3 2 d a.code 0 nw)
  | .bfx d a b nw => some (encR 3 3 d a.code b.code nw)
  | .bfi d a b nw => some (encR 3 4 d a.code b.code nw)
  | .movV d a nw => some (encR 3 5 d a.code 0 nw)
  | .iaddI64V d a b nw => some (encR 3 6 d a b nw)
  | .isubI64V d a b nw => some (encR 3 7 d a b nw)
  | .iaddI64S d a b => some (encR 4 0 d a b false)
  | .isubI64S d a b => some (encR 4 1 d a b false)
  | .imulI64 d a b => some (encR 4 2 d a b false)
  | .andS d a b => some (encR 4 3 d a b false)
  | .orS d a b => some (encR 4 4 d a b false)
  | .xorS d a b => some (encR 4 5 d a b false)
  | .shlN64 d a b => some (encR 4 6 d a b false)
  | .shrN64 d a b => some (encR 4 7 d a b false)
  | .sarI64 d a b => some (encR 5 0 d a b false)
  | .movS d a => some (encR 5 1 d a 0 false)
  | .icmpEqI32 d a b => some (encR 5 2 d a.code b.code false)
  | .icmpLtI32 d a b => some (encR 5 3 d a.code b.code false)
  | .icmpLtN32 d a b => some (encR 5 4 d a.code b.code false)
  | .icmpEqI64 d a b => some (encR 5 5 d a b false)
  | .icmpLtI64 d a b => some (encR 5 6 d a b false)
  | .icmpLtN64 d a b => some (encR 5 7 d a b false)
  | .lidV d nw => some (encR 6 0 d 0 0 nw)
  | .lidS d => some (encR 6 1 d 0 0 false)
  | .fpack d a b nw => some (encR 6 2 d a.code b nw)
  | .funpack d a b nw => some (encR 6 3 d a.code b nw)
  | .fstat d => some (encR 6 4 d 0 0 false)
  | .fmode d a => some (encR 6 5 d a 0 false)
  | .iaddI32Imm d a imm nw => some (encI 7 d a.code imm nw)
  | .iaddI64Imm d a imm => some (encI 8 d a imm false)
  | .moviV d imm nw => some (encU 9 d imm nw)
  | .moviS d imm => some (encU 10 d imm false)
  | .lea d imm => some (encU 11 d imm false)
  | .limm value => some (value * 2 ^ 8 + 0x7F)
  | .faddF32 d a b nw => some (encR 12 0 d a.code b.code nw)
  | .fsubF32 d a b nw => some (encR 12 1 d a.code b.code nw)
  | .fmulF32 d a b nw => some (encR 12 2 d a.code b.code nw)
  | .ffmaF32 d a b nw => some (encR 12 3 d a.code b.code nw)
  | .fdivF32 d a b nw => some (encR 12 4 d a.code b.code nw)
  | .fsqrtF32 d a nw => some (encR 12 5 d a.code 0 nw)
  | .fminF32 d a b nw => some (encR 12 6 d a.code b.code nw)
  | .fmaxF32 d a b nw => some (encR 12 7 d a.code b.code nw)
  | .frcp d a nw => some (encR 13 0 d a.code 0 nw)
  | .frsq d a nw => some (encR 13 1 d a.code 0 nw)
  | .fexp2 d a nw => some (encR 13 2 d a.code 0 nw)
  | .flog2 d a nw => some (encR 13 3 d a.code 0 nw)
  | .froundF32 d a nw => some (encR 13 4 d a.code 0 nw)
  | .fclassF32 d a nw => some (encR 13 5 d a.code 0 nw)
  | .fcmpEqF32 d a b => some (encR 13 6 d a.code b.code false)
  | .fcmpLtF32 d a b => some (encR 13 7 d a.code b.code false)
  | .faddF64 d a b nw => some (encR 14 0 d a b nw)
  | .fsubF64 d a b nw => some (encR 14 1 d a b nw)
  | .fmulF64 d a b nw => some (encR 14 2 d a b nw)
  | .ffmaF64 d a b nw => some (encR 14 3 d a b nw)
  | .fdivF64 d a b nw => some (encR 14 4 d a b nw)
  | .fsqrtF64 d a nw => some (encR 14 5 d a 0 nw)
  | .fminF64 d a b nw => some (encR 14 6 d a b nw)
  | .fmaxF64 d a b nw => some (encR 14 7 d a b nw)
  | .fcmpLeF32 d a b => some (encR 15 0 d a.code b.code false)
  | .fcmpEqF64 d a b => some (encR 15 1 d a b false)
  | .fcmpLtF64 d a b => some (encR 15 2 d a b false)
  | .fcmpLeF64 d a b => some (encR 15 3 d a b false)
  | .froundF64 d a nw => some (encR 15 4 d a 0 nw)
  | .fclassF64 d a nw => some (encR 15 5 d a 0 nw)
  | .ftoiI32F32 d a nw => some (encR 15 6 d a.code 0 nw)
  | .itofF32I32 d a nw => some (encR 15 7 d a.code 0 nw)
  | .fcvtF64F32 d a nw => some (encR 16 0 d a.code 0 nw)
  | .fcvtF32F64 d a nw => some (encR 16 1 d a 0 nw)
  | .fcvtBf16F32 d a nw => some (encR 16 2 d a.code 0 nw)
  | .fcvtF32Bf16 d a nw => some (encR 16 3 d a.code 0 nw)
  | .fcvtF16F32 d a nw => some (encR 16 4 d a.code 0 nw)
  | .fcvtF32F16 d a nw => some (encR 16 5 d a.code 0 nw)
  | .fcvtNfF32 d a b nw => some (encR 16 6 d a.code b nw)
  | .fcvtF32Nf d a b nw => some (encR 16 7 d a.code b nw)
  | .mand d a b => some (encR 17 0 d a b false)
  | .mor d a b => some (encR 17 1 d a b false)
  | .mxor d a b => some (encR 17 2 d a b false)
  | .mnot d a => some (encR 17 3 d a 0 false)
  | .mmov d a => some (encR 17 4 d a 0 false)
  | .mpop d a => some (encR 17 5 d a 0 false)
  | .mfirst d a => some (encR 17 6 d a 0 false)
  | .shfl d a b nw => some (encR 18 0 d a b.code nw)
  | .bcast d a b nw => some (encR 18 1 d a b nw)
  | .reduceAddI32 d a => some (encR 18 2 d a.code 0 false)
  | .reduceAddF32 d a => some (encR 18 3 d a.code 0 false)
  | .reduceMaxI32 d a => some (encR 18 4 d a.code 0 false)
  | .reduceMaxF32 d a => some (encR 18 5 d a.code 0 false)
  | .scanAddI32 d a nw => some (encR 18 6 d a.code 0 nw)
  | .scanAddF32 d a nw => some (encR 18 7 d a.code 0 nw)
  | .scanMaxI32 d a nw => some (encR 19 0 d a.code 0 nw)
  | .scanMaxF32 d a nw => some (encR 19 1 d a.code 0 nw)
  | .jmpr a => some (encR 19 2 0 a 0 false)
  | .ret => some (encR 19 3 0 0 0 false)
  | .lbrk => some (encR 19 4 0 0 0 false)
  | .yield => some (encR 19 5 0 0 0 false)
  | .bra off => some (encB 0 0 off)
  | .bzM m off => some (encB 1 m off)
  | .bnzM m off => some (encB 2 m off)
  | .ball m off => some (encB 3 m off)
  | .call off => some (encB 4 0 off)
  | .bzS r off => some (encB 5 r off)
  | .bnzS r off => some (encB 6 r off)
  | .loop r off => some (unsigned 17 off * 2 ^ 15 + r * 2 ^ 9 + 0x2B)
  | .rep sb sa sd cnt => some (sb * 2 ^ 24 + sa * 2 ^ 20 + sd * 2 ^ 16 + cnt * 2 ^ 7 + 0x7D)
  | .ldV d size sb ix nw => some (encM 22 ix.enc.1 size ix.enc.2 sb d nw)
  | .ldS d size sb ix => some (encM 23 ix.enc.1 size ix.enc.2 sb d false)
  | .stV d size sb ix => some (encM 24 ix.enc.1 size ix.enc.2 sb d.code false)
  | .stS d size sb ix => some (encM 25 ix.enc.1 size ix.enc.2 sb d false)
  | .ldp d size sb ix nw => some (encM 26 ix.enc.1 size ix.enc.2 sb d nw)
  | .stp d size sb ix => some (encM 27 ix.enc.1 size ix.enc.2 sb d.code false)
  | .ldOrdV d sb x ord scope => some (encO 28 scope.code ord.code sb x.code d)
  | .ldOrdS d sb x ord scope => some (encO 29 scope.code ord.code sb x d)
  | .stOrdV d sb x ord scope => some (encO 30 scope.code ord.code sb x.code d.code)
  | .stOrdS d sb x ord scope => some (encO 31 scope.code ord.code sb x d)
  | .atomAddI32 d sb x ord scope => some (encO 32 scope.code ord.code sb x.code d)
  | .atomAddI64 d sb x ord scope => some (encO 33 scope.code ord.code sb x d)
  | .atomExchI32 d sb x ord scope => some (encO 34 scope.code ord.code sb x.code d)
  | .atomExchI64 d sb x ord scope => some (encO 35 scope.code ord.code sb x d)
  | .atomMaxI32 d sb x ord scope => some (encO 36 scope.code ord.code sb x.code d)
  | .atomMinI32 d sb x ord scope => some (encO 37 scope.code ord.code sb x.code d)
  | .redAddI32 d sb x ord scope => some (encO 38 scope.code ord.code sb x.code d.code)
  | .casI32 d sb x ord scope => some (encO 39 scope.code ord.code sb x.code d)
  | .casI64 d sb x ord scope => some (encO 40 scope.code ord.code sb x d)
  | .fence kind scope => some (encO 41 scope.code kind.code 0 0 0)
  | .llock d sb x scope => some (encO 42 scope.code 0 sb x d)
  | .ltry d sb scope => some (encO 43 scope.code 0 sb 0 d)
  | .lunlock sb scope => some (encO 44 scope.code 0 sb 0 0)
  | .lunlockReg sb scope => some (encO 45 scope.code 0 sb 0 0)
  | .qpass => some (encR 46 0 0 0 0 false)
  | .qidle => some (encR 46 1 0 0 0 false)
  | .qwake => some (encR 46 2 0 0 0 false)
  | .gpstart d => some (encR 46 3 d 0 0 false)
  | .gpwait d a => some (encR 46 4 d a 0 false)
  | .dfree d a b => some (encR 46 5 d a b false)
  | .lstat d a => some (encR 46 6 d a 0 false)
  | .prefL1 a => some (encR 47 0 0 a 0 false)
  | .prefL2 a => some (encR 47 1 0 a 0 false)
  | .prefL2x a => some (encR 47 2 0 a 0 false)
  | .ldbN8 d a b nw => some (encR 47 4 d a b.code nw)
  | .ldbN16 d a b nw => some (encR 47 5 d a b.code nw)
  | .ldbN32 d a b nw => some (encR 47 6 d a b.code nw)
  | .ldbN64 d a b nw => some (encR 47 7 d a b.code nw)
  | .mma t a b c => some (encT 48 c b.enc.1 b.enc.2 a.enc.1 a.enc.2 t)
  | .mmag t a b c => some (encT 49 c b.enc.1 b.enc.2 a.enc.1 a.enc.2 t)
  | .mdrain t dst sb => some (encT 50 0 0 sb dst.enc.1 dst.enc.2 t)
  | .mdrainAdd t dst sb => some (encT 51 0 0 sb dst.enc.1 dst.enc.2 t)
  | .quant t dst sb sc => some (encT 52 sc 0 sb dst.enc.1 dst.enc.2 t)
  | .quantBmaj t dst sb sc => some (encT 53 sc 0 sb dst.enc.1 dst.enc.2 t)
  | .tcopyDense c a dst => some (encT 54 c dst.enc.1 dst.enc.2 0 a 0)
  | .tcopyAcc c a t => some (encT 55 c 0 0 0 a t)
  | .tstateAcc t d => some (encS 56 0 t d)
  | .tstateSt t d => some (encS 56 1 t d)
  | .twaitAcc t want phase => some (encS 56 2 (flag phase * 64 + flag want * 32 + t) 0)
  | .twaitSt t want phase => some (encS 56 3 (flag phase * 64 + flag want * 32 + t) 0)
  | .treadyAcc t => some (encS 56 4 t 0)
  | .treadySt t => some (encS 56 5 t 0)
  | .trelAcc t => some (encS 56 6 t 0)
  | .trelSt t => some (encS 56 7 t 0)
  | .mzero t wide => some (encS 57 0 (flag wide * 32 + t) 0)
  | .tbind t d => some (encS 57 1 t d)
  | .mcommit d => some (encR 58 0 d 0 0 false)
  | .mwait a => some (encR 58 1 0 a 0 false)
  | .cwait a => some (encR 58 2 0 a 0 false)
  | .cstatMap d a => some (encR 58 3 d a 0 false)
  | .cstat d a => some (encR 58 4 d a 0 false)
  | .ccancel a => some (encR 58 5 0 a 0 false)
  | .bar n gang expect => some (encS 59 0 (expect * 64 + flag gang * 16 + n) 0)
  | .arrive n gang expect => some (encS 59 1 (expect * 64 + flag gang * 16 + n) 0)
  | .bwait n gang => some (encS 59 2 (flag gang * 16 + n) 0)
  | .trap n => some (encS 59 3 n 0)
  | .brk n => some (encS 59 4 n 0)
  | .halt => some (encS 59 5 0 0)
  | .nop => some (encS 59 6 0 0)
  | .sigret d => some (encS 59 7 0 d)
  | .eret => some (encS 60 0 0 0)
  | .sysrd d r => some (encS 60 1 r d)
  | .syswr d r => some (encS 60 2 r d)
  | .syswrSet d r => some (encS 60 3 r d)
  | .syswrClr d r => some (encS 60 4 r d)
  | .park d => some (encS 60 5 0 d)
  | .resume d => some (encS 60 6 0 d)
  | .resumeStep d => some (encS 60 7 0 d)
  | .vectorPass _ _ => none
  | .teamBoost _ _ => none
  | .yieldEnd _ _ => none
  | .submissionWrite _ _ => none
  | .launch _ => none
  | .write _ => none
  | .wait _ => none
  | .waitComplete _ => none
  | .time _ => none
  | .nopPacket _ => none
  | .queueEnable _ => none
  | .queueResume _ => none
  | .update => none
  | .standbyImport => none
  | .updateTakeover => none
  | .failover => none
  | .watchdogTakeover => none
  | .runListTurnEnd => none
  | .reset => none
  | .placementDecision => none
  | .blockStart _ => none
  | .swapThresholdExpiry _ => none
  | .swapOutBegin _ => none
  | .swapOutComplete _ => none
  | .operationStart _ _ => none
  | .kstepComplete _ => none
  | .drainComplete _ => none
  | .quantComplete _ => none
  | .boxIssue _ => none
  | .boxPause _ _ => none
  | .boxComplete _ _ => none
  | .boxFault _ _ => none
  | .boxAbort _ => none
  | .lockRequest _ _ => none
  | .lockRelease _ => none
  | .grantDelivery _ => none
  | .grantWindowClose _ => none
  | .lockDeadline _ _ => none
  | .deadlockProbe _ _ => none
  | .probeHop _ => none
  | .graceRecompute _ => none
  | .deferredMove _ => none
  | .headPoll _ => none
  | .graceStallReport _ => none
  | .qscResume => none
  | .logicalTimeAdvance _ _ => none
  | .epochChange => none
  | .retentionWake _ => none
  | .hostSnoop _ => none
  | .fenceMarkerAck _ _ => none
  | .dieLinkFailure _ _ => none
  | .cxlPortFailure _ => none
  | .invalidationRetry _ => none
  | .ualinkPortFailure _ => none
  | .remoteRequest _ _ _ => none
  | .eventEntry _ => none
  | .supervisorTimer _ => none
  | .doorbell _ => none
  | .supresume _ => none
  | .mailboxPost => none
  | .teamStateDataWrite _ _ => none
  | .teamStateDataRead _ => none
  | .frame _ => none
  | .kill _ => none
  | .release _ => none
  | .stop _ _ => none
  | .blockStopDone => none
  | .run _ _ => none
  | .step _ _ => none
  | .exec _ _ _ => none
  | .gangstop _ => none
  | .traceEnable _ _ => none
  | .traceSync _ => none
  | .traceResume _ => none
  | .counterWrap _ _ => none
  | .shootdownSubmit _ => none
  | .atsInvalidation _ _ _ => none
  | .shootdownComplete => none
  | .checkpoint _ => none
  | .checkpointDone _ => none
  | .freeze => none
  | .unfreeze => none
  | .unpoison _ => none
  | .slotWrite _ => none
  | .clockStep _ => none
  | .withholdStep _ => none
  | .errorDetected _ _ _ _ => none
  | .errorRetry _ => none
  | .spdmMeasurement _ => none
  | .spdmKeyExchange _ => none
  | .registerWrite _ _ => none
  | .fetchFault _ _ => none
  | .storePerformed _ _ => none
  | .hostCxlMemAccess _ _ => none
  | .powerLoss => none
  | .l1RetentionSleep _ => none

end Sys2Proof
end

