-- ==== Sys2Proof/Machine/Event.lean ====
section
/-! DEFINITION. The steps of agents other than the teams, as data: the agenda of the state lists them. Each is one of the
rows of the table with no encoding, with the same parameters. -/

namespace Sys2Proof.Machine

/-- A step of another agent. -/
inductive Event where
  /-- VECTOR_PASS (R20). -/
  | vectorPass (core : Nat) (slot : Nat)
  /-- TEAM_BOOST (R50). -/
  | teamBoost (core : Nat) (slot : Nat)
  /-- YIELD_END (R291). -/
  | yieldEnd (core : Nat) (slot : Nat)
  /-- SUBMISSION_WRITE (R373). -/
  | submissionWrite (q : Nat) (val : BitVec 64)
  /-- LAUNCH (R369). -/
  | launch (q : Nat)
  /-- WRITE (R368). -/
  | write (q : Nat)
  /-- WAIT (R368). -/
  | wait (q : Nat)
  /-- WAIT_COMPLETE (R368). -/
  | waitComplete (q : Nat)
  /-- TIME (R368). -/
  | time (q : Nat)
  /-- NOP_PACKET (R368). -/
  | nopPacket (q : Nat)
  /-- QUEUE_ENABLE (R366). -/
  | queueEnable (q : Nat)
  /-- QUEUE_RESUME (R371). -/
  | queueResume (q : Nat)
  /-- UPDATE (R377). -/
  | update
  /-- STANDBY_IMPORT (R375). -/
  | standbyImport
  /-- UPDATE_TAKEOVER (R377). -/
  | updateTakeover
  /-- FAILOVER (R376). -/
  | failover
  /-- WATCHDOG_TAKEOVER (R376). -/
  | watchdogTakeover
  /-- RUN_LIST_TURN_END (R395). -/
  | runListTurnEnd
  /-- RESET (R378). -/
  | reset
  /-- PLACEMENT_DECISION (R44). -/
  | placementDecision
  /-- BLOCK_START (R45). -/
  | blockStart (blk : Nat)
  /-- SWAP_THRESHOLD_EXPIRY (R53). -/
  | swapThresholdExpiry (blk : Nat)
  /-- SWAP_OUT_BEGIN (R54). -/
  | swapOutBegin (blk : Nat)
  /-- SWAP_OUT_COMPLETE (R394). -/
  | swapOutComplete (blk : Nat)
  /-- OPERATION_START (R316). -/
  | operationStart (core : Nat) (slot : Nat)
  /-- KSTEP_COMPLETE (R150). -/
  | kstepComplete (op : Nat)
  /-- DRAIN_COMPLETE (R324). -/
  | drainComplete (op : Nat)
  /-- QUANT_COMPLETE (R327). -/
  | quantComplete (op : Nat)
  /-- BOX_ISSUE (R165). -/
  | boxIssue (core : Nat)
  /-- BOX_PAUSE (R168). -/
  | boxPause (copy : Nat) (box : Nat)
  /-- BOX_COMPLETE (R170). -/
  | boxComplete (copy : Nat) (box : Nat)
  /-- BOX_FAULT (R169). -/
  | boxFault (copy : Nat) (box : Nat)
  /-- BOX_ABORT (R171). -/
  | boxAbort (blk : Nat)
  /-- LOCK_REQUEST (R117). -/
  | lockRequest (core : Nat) (slot : Nat)
  /-- LOCK_RELEASE (R118). -/
  | lockRelease (obj : Nat)
  /-- GRANT_DELIVERY (R118). -/
  | grantDelivery (obj : Nat)
  /-- GRANT_WINDOW_CLOSE (R119). -/
  | grantWindowClose (obj : Nat)
  /-- LOCK_DEADLINE (R121). -/
  | lockDeadline (obj : Nat) (team : Nat)
  /-- DEADLOCK_PROBE (R122). -/
  | deadlockProbe (obj : Nat) (team : Nat)
  /-- PROBE_HOP (R122). -/
  | probeHop (i : Nat)
  /-- GRACE_RECOMPUTE (R132). -/
  | graceRecompute (p : Nat)
  /-- DEFERRED_MOVE (R138). -/
  | deferredMove (p : Nat)
  /-- HEAD_POLL (R138). -/
  | headPoll (p : Nat)
  /-- GRACE_STALL_REPORT (R139). -/
  | graceStallReport (p : Nat)
  /-- QSC_RESUME (R141). -/
  | qscResume
  /-- LOGICAL_TIME_ADVANCE (R81). -/
  | logicalTimeAdvance (core : Nat) (n : Nat)
  /-- EPOCH_CHANGE (R82). -/
  | epochChange
  /-- RETENTION_WAKE (R83). -/
  | retentionWake (core : Nat)
  /-- HOST_SNOOP (R78). -/
  | hostSnoop (line : Nat)
  /-- FENCE_MARKER_ACK (R101). -/
  | fenceMarkerAck (path : Nat) (core : Nat)
  /-- DIE_LINK_FAILURE (R103). -/
  | dieLinkFailure (d1 : Nat) (d2 : Nat)
  /-- CXL_PORT_FAILURE (R103). -/
  | cxlPortFailure (port : Nat)
  /-- INVALIDATION_RETRY (R103). -/
  | invalidationRetry (ok : Bool)
  /-- UALINK_PORT_FAILURE (R105). -/
  | ualinkPortFailure (port : Nat)
  /-- REMOTE_REQUEST (R439). -/
  | remoteRequest (pasid : Nat) (va : BitVec 64) (req : RemoteReq)
  /-- EVENT_ENTRY (R341). -/
  | eventEntry (core : Nat)
  /-- SUPERVISOR_TIMER (R400). -/
  | supervisorTimer (core : Nat)
  /-- DOORBELL (R403). -/
  | doorbell (core : Nat)
  /-- SUPRESUME (R399). -/
  | supresume (core : Nat)
  /-- MAILBOX_POST (R404). -/
  | mailboxPost
  /-- TEAM_STATE_DATA_WRITE (R408). -/
  | teamStateDataWrite (port : Nat) (val : BitVec 64)
  /-- TEAM_STATE_DATA_READ (R408). -/
  | teamStateDataRead (port : Nat)
  /-- FRAME (R409). -/
  | frame (port : Nat)
  /-- KILL (R411). -/
  | kill (port : Nat)
  /-- RELEASE (R406). -/
  | release (port : Nat)
  /-- STOP (R415). -/
  | stop (core : Nat) (place : Nat)
  /-- BLOCK_STOP_DONE (R415). -/
  | blockStopDone
  /-- RUN (R415). -/
  | run (core : Nat) (place : Nat)
  /-- STEP (R417). -/
  | step (core : Nat) (slot : Nat)
  /-- EXEC (R418). -/
  | exec (core : Nat) (slot : Nat) (nbuf : Nat)
  /-- GANGSTOP (R420). -/
  | gangstop (core : Nat)
  /-- TRACE_ENABLE (R421). -/
  | traceEnable (core : Nat) (val : BitVec 64)
  /-- TRACE_SYNC (R423). -/
  | traceSync (core : Nat)
  /-- TRACE_RESUME (R425). -/
  | traceResume (core : Nat)
  /-- COUNTER_WRAP (R428). -/
  | counterWrap (core : Nat) (e : Nat)
  /-- SHOOTDOWN_SUBMIT (R387). -/
  | shootdownSubmit (val : BitVec 64)
  /-- ATS_INVALIDATION (R387). -/
  | atsInvalidation (pasid : Nat) (va : BitVec 64) (log2 : Nat)
  /-- SHOOTDOWN_COMPLETE (R388). -/
  | shootdownComplete
  /-- CHECKPOINT (R396). -/
  | checkpoint (val : BitVec 64)
  /-- CHECKPOINT_DONE (R396). -/
  | checkpointDone (ok : Bool)
  /-- FREEZE (R437). -/
  | freeze
  /-- UNFREEZE (R437). -/
  | unfreeze
  /-- UNPOISON (R432). -/
  | unpoison (val : BitVec 64)
  /-- SLOT_WRITE (R440). -/
  | slotWrite (val : BitVec 64)
  /-- CLOCK_STEP (R438). -/
  | clockStep (up : Bool)
  /-- WITHHOLD_STEP (R438). -/
  | withholdStep (k : Nat)
  /-- ERROR_DETECTED (R430). -/
  | errorDetected (src : Nat) (unit : Nat) (addr : Nat) (ident : BitVec 64)
  /-- ERROR_RETRY (R430). -/
  | errorRetry (ok : Bool)
  /-- SPDM_MEASUREMENT (R441). -/
  | spdmMeasurement (idx : Nat)
  /-- SPDM_KEY_EXCHANGE (R363). -/
  | spdmKeyExchange (port : Nat)
  /-- REGISTER_WRITE (R12). -/
  | registerWrite (off : Nat) (val : RegValue)
  /-- FETCH_FAULT (R183). -/
  | fetchFault (core : Nat) (slot : Nat)
  /-- STORE_PERFORMED (R100). -/
  | storePerformed (core : Nat) (i : Nat)
  /-- HOST_CXL_MEM_ACCESS (R78). -/
  | hostCxlMemAccess (addr : Nat) (req : HostReq)
  /-- POWER_LOSS (R440). -/
  | powerLoss
  /-- L1_RETENTION_SLEEP (R83). -/
  | l1RetentionSleep (core : Nat)
  deriving DecidableEq, Repr

end Sys2Proof.Machine
end

