-- ==== Sys2Proof/Machine/State.lean ====
section
/-! DEFINITION. The state of the machine as plain data, the reasons a step can stop, and the state after reset.
Every structure cites the rules that name its fields; INVENTORY.md lists them with their reset values. -/

namespace Sys2Proof.Machine

/-- Why the machine itself stops. The faults of R175 are not here: they park a team, which is a next state. -/
inductive Fault where
  /-- Raised by `step` while the device has no power (R440) and no reset stands on the agenda. Safe: nothing runs. -/
  | noPower
  deriving DecidableEq, Repr

/-- Why a meaning is not given. -/
inductive Refusal where
  /-- Raised by an arm of `exec` whose row of the table has no meaning in the model yet. Safe: nothing is executed. -/
  | notModelled (mnemonic : String)
  deriving DecidableEq, Repr

/-- The roles of R24. -/
inductive Role where
  | vector | matrix | copy
  deriving DecidableEq, Repr

/-- The priority classes of R49. -/
inductive Prio where
  | supervisor | high | normal
  deriving DecidableEq, Repr

/-- One entry of the loop stack (R22, R288). -/
structure LoopEntry where
  start : W57
  stop : W57
  count : W32
  deriving DecidableEq, Repr

/-- The repeat state (R22, R222). -/
structure RepeatState where
  remain : Nat
  total : Nat
  sd : Nat
  sa : Nat
  sb : Nat
  deriving DecidableEq, Repr

/-- The bypass latches of one lane (R22, R31). -/
structure Latches where
  b0 : W32
  b1 : W32
  b2 : W32
  b3 : W32
  deriving DecidableEq, Repr

/-- One entry of the held-lock set (R22, R113, R308): the virtual address and length of the bound region, the
physical object, the scope, the object's size, and whether the loss of its home was reported (R124). -/
structure HeldLock where
  va : W64
  obj : Nat
  scope : Scope
  regionLen : Nat
  grain : Bool
  homeLost : Bool
  deriving DecidableEq, Repr

/-- What a fault record says beside the team's own identity (R402). -/
structure FaultInfo where
  code : Nat
  sub : Nat
  addr : W64
  mask : LaneMask
  unit : Nat := 0
  token : Nat := 0
  tile : Option Nat := none
  cycle : List (W64 × W64) := []
  deriving DecidableEq, Repr

/-- The wait record (R22, R307, R444), with the time the wait began (R53) and what has met it: `met` for a wait
that is met once and for all, `reply` for the status word of a lock request, `fault` for the fault that ends one (R123), `p1` for
what an instruction that starts an operation read in its first phase (R316), or where a recorded instruction stands. -/
structure WaitRec where
  kind : Nat
  scope : Nat
  param : Nat
  object : W64
  ticket : W32
  deadline : W64
  since : Nat
  met : Bool
  reply : Option W64
  fault : Option FaultInfo
  p1 : List W64
  deriving DecidableEq, Repr

/-- The fault record (R22, R402). -/
structure FaultRec where
  code : Nat
  sub : Nat
  slot : Nat
  core : Nat
  place : Nat
  pasid : Nat
  pc : W57
  addr : W64
  unit : Nat
  token : Nat
  tile : Option Nat
  seq : Nat
  ident : W64
  launch : Nat
  mask : LaneMask
  cycle : List (W64 × W64)
  deriving DecidableEq, Repr

/-- An access accepted by a core's L1 port and not yet performed at its home (R100, R101): its team and block, its number
among the accesses of the core, its address, and its bytes. `red` is the addend of a `red.add.i32` (R302), whose bytes come from
memory; an access to pod memory whose value is not kept has no bytes. `tag` is the scope of a release store, `mayMerge` that a
later store may still join it (R99), and `ordered` that a release of its team at block scope or wider came after it, so that a
wider release of any team of the block waits for it too (R91). `stuck` is the holder whose acknowledgement does not come (R103):
the die, or 16 for the host. `size` is its number of bytes, `uncached` that its page is (R96), and `chain` the value that an atomic
left in pod memory, for the later lanes of its pass (R305). -/
structure PendStore where
  team : Nat
  blk : Nat
  no : Nat
  pa : Nat
  va : Nat
  size : Nat
  uncached : Bool
  chain : Option Nat
  data : List Host.Cell
  red : Option Nat
  tag : Option Scope
  mayMerge : Bool
  ordered : Bool
  stuck : Option Nat
  deriving DecidableEq, Repr

/-- An access that will never complete: code and subcode of the fault that reports it, `F.COHERENCE` (R104, R105) or `F.POISON` for one
that waited on a line as it was poisoned (R103). -/
structure LostStore where
  code : Nat
  sub : Nat
  store : PendStore
  deriving DecidableEq, Repr

/-- An invalidation that a home waits for and that the holder does not acknowledge (R103): the address, the holder (a die, or 16
for the host), and the team whose engine writes there, if an engine does. -/
structure Await where
  pa : Nat
  holder : Nat
  engine : Option Nat
  deriving DecidableEq, Repr

/-- The lanes that a signal return marked done (R188), and the code and subcode that its frame shows (R186). -/
structure Mark where
  lanes : LaneMask
  code : Nat
  sub : Nat
  deriving DecidableEq, Repr

/-- The state of a team (R22), its launch attributes (R16), its issue state (R47 to R50) and its stop marks (R34).
`vInit` names the free values its registers hold at launch (R369); none is the supervisor's zero. `vpoison` marks poisoned registers of lanes (R433);
`yieldFor` lists the slots a `yield` waits for and `yieldCycles` how long (R291); `hold` is a line the team's access is held on (R85) and
`heldSince` the time its instruction first issued (R308); `markers` the fence markers of a release that
waits, each with its path and the number it was sent at (R101); `marked` the lanes of the instruction at the PC that a signal return
marked done (R188, R190); `qsDue` that a `qpass` has issued and waits for its stores (R142); `stepDue` that a stepped unit has completed, so that
`F.STEP` comes before the next (R343); `trapped` that a `trap` parked it, so that its resumption is an acquire (R338). The head of `loops` is the
top of the loop stack; `loopAbove` holds
what was written to its entries above the depth (R22). -/
structure Team where
  uid : Nat
  blk : Nat
  place : Nat
  role : Role
  lanes : Nat
  nreg : Nat
  prio : Prio
  tindex : Nat
  noRefs : Bool
  pc : W57
  done : LaneMask
  m : Tab LaneMask
  v : Tab (Tab W32)
  vInit : Option Nat
  bp : Tab Latches
  sreg : Tab W64
  loops : List LoopEntry
  loopAbove : Tab LoopEntry
  rep : RepeatState
  pvalue : W64
  pwords : Nat
  fpmode : W32
  sticky : BitVec 5
  issued : BitVec 16
  drained : BitVec 16
  copyIssued : BitVec 16
  copyDone : BitVec 16
  held : List HeldLock
  wait : WaitRec
  qsGen : W64
  qsDue : Bool
  extQuiet : Bool
  stepArm : Bool
  stepDue : Bool
  sigstk : W57
  record : FaultRec
  parked : Bool
  halted : Bool
  yielded : Bool
  yieldFor : List Nat
  yieldCycles : Nat
  brkHalt : Bool
  obs : W32
  lost : List LostStore
  datapath : Nat
  cyclesReady : Nat
  boost : Option Nat
  rfList : List Nat
  vpoison : List (Nat × Nat)
  hold : Option Nat
  heldSince : Option Nat
  markers : Option (List (Nat × Nat))
  marked : Option Mark
  trapped : Bool
  deriving DecidableEq, Repr

/-- A barrier slot (R333). -/
structure Barrier where
  phase : W32
  expect : Nat
  arrived : Nat
  isOpen : Bool
  gang : Bool
  mask : BitVec 31
  deriving DecidableEq, Repr

/-- A team of a block shape (R38). -/
structure TeamShape where
  role : Role
  lanes : Nat
  nreg : Nat
  noRefs : Bool
  deriving DecidableEq, Repr

/-- Why a block is pre-empted: its process's turn ended (R395), or a cut was taken (R396, R437). -/
inductive Preempt where
  | turn | cut
  deriving DecidableEq, Repr

/-- A block in its place (R71), or saved (R392). `launch` is the launch it belongs to, `shape` its teams (R38), `order` its
place among the readmissions while it is placed again and not yet started (R44), `swapping` a swap-out in progress and `swapFor`
the queued item it makes room for (R54): (0, a saved block) or (1, a launch); none for a pre-emption.
`metAt` is the place among the readmissions that a wait met during the swap-out gives it (R44, R55), and `preempt` why it is pre-empted
(R395, R396). `quietAt` is the time at which the conditions of R53 but the threshold came to hold (R54).
`slotIx` is the save slot it still holds until it starts again (R394). -/
structure Block where
  uid : Nat
  launch : Nat
  pasid : Nat
  ctx : Nat
  launchNo : Nat
  x : Nat
  y : Nat
  z : Nat
  gx : Nat
  gy : Nat
  gz : Nat
  rank : Nat
  gang : Nat
  teamCount : Nat
  prio : Prio
  spList : List Nat
  accList : List Nat
  stList : List Nat
  shape : List TeamShape
  barriers : List Barrier
  started : Bool
  order : Option Nat
  stopped : Bool
  swapping : Bool
  swapFor : Option (Nat × Nat)
  metAt : Option Nat
  preempt : Option Preempt
  quietAt : Nat
  slotIx : Option Nat
  deriving DecidableEq, Repr

/-- A tile-table entry (R75). `state` is 0 empty, 1 filling, 2 ready, 3 draining. -/
structure TileEntry where
  alloc : Bool
  place : Nat
  localNo : Nat
  fault : Nat
  pair : Bool
  wide : Bool
  faulted : Bool
  phase : Bool
  state : Nat
  kstep : Nat
  length : Nat
  offset : Nat
  deriving DecidableEq, Repr

/-- A source of a matrix operation: a slot of the block or a virtual address (R143). -/
inductive MatSrc where
  | slot (k : Nat)
  | addr (va : W64)
  deriving DecidableEq, Repr

/-- What a unit in flight does with tile memory (R143, R157, R313). -/
inductive MatKind where
  | mma
  | drain (add : Bool)
  | quant (bmaj : Bool)
  deriving DecidableEq, Repr

/-- A fault met in flight (R153, R169): code, subcode, address. -/
structure FlightFault where
  code : Nat
  sub : Nat
  addr : W64
  deriving DecidableEq, Repr

/-- A source line that an engine has read once (R84, R148): its virtual and physical address and its 128 bytes. -/
structure SrcLine where
  va : Nat
  pa : Nat
  data : Nat
  deriving DecidableEq, Repr

/-- A matrix operation, drain or `quant` in flight with its descriptor and restart record (R154). `blk` is the
block whose entries this part fills; `member` is the group rank of that part (R151). `issue` orders the operations by
issue, `dstPa` holds the destination's translations by 8 bytes (R324), and `reported` marks a fault that has been
reported (R153). `running` says that its anvils serve it, `pins` holds the source lines that a later k-step uses (R148). -/
structure MatOp where
  id : Nat
  issue : Nat
  team : Nat
  blk : Nat
  kind : MatKind
  acc : Nat
  entries : List Nat
  srcA : MatSrc
  srcB : MatSrc
  strideA : Nat
  strideB : Nat
  fmtA : W32
  fmtB : W32
  cls : Nat
  shape : Nat
  blkLen : Nat
  slayout : Bool
  gang : Bool
  member : Nat
  ksteps : Nat
  kstep : Nat
  group : Option (BitVec 16)
  anvils : BitVec 4
  running : Bool
  pins : List SrcLine
  iflush : Bool
  rflush : Bool
  scaleA : Nat
  scaleB : Nat
  dstPa : List Nat
  scaleDst : Nat
  fault : Option FlightFault
  reported : Bool
  deriving DecidableEq, Repr

/-- The status of a copy (R173): 0 queued, 1 running, 2 complete, 3 faulted, 4 cancelled, 5 frozen. The dense side is
a slot, an accumulator entry or an address (R163). -/
inductive DenseSide where
  | slot (k : Nat)
  | acc (a : Nat)
  | addr (va : W64)
  deriving DecidableEq, Repr

/-- A box in flight (R164 to R171): its number, whether a shootdown paused it, the destination lines it owns (R84, R85),
the translations of its destination by units of `size` bytes (R168), how many units it has written, the source lines it has read,
each once (R84), and the source page it is in, by its base and the log2 of its size (R168). -/
structure Box where
  num : Nat
  paused : Bool
  owned : List Nat
  dst : List Nat
  size : Nat
  pos : Nat
  src : List SrcLine
  page : Option (Nat × Nat)
  deriving DecidableEq, Repr

/-- A copy in the queue of a copy engine (R165, R170, R173). `denseOff` is the scratchpad offset of a slot's range as the
copy read it (R330). -/
structure Copy where
  id : Nat
  team : Nat
  blk : Nat
  token : BitVec 16
  record : List W64
  dense : DenseSide
  bitmap : W64
  nbox : Nat
  boxes : List Box
  denseOff : Nat
  fault : Option FlightFault
  fbox : Nat
  reported : Bool
  cancelled : Bool
  complete : Bool
  frozen : Bool
  deriving DecidableEq, Repr

/-- A line of an L1 (R81): the 128 bytes filled, the stamps and the epoch. -/
structure L1Line where
  data : List (Nat × Byte)
  wts : Nat
  rts : Nat
  epoch : Nat
  deriving DecidableEq, Repr

/-- A cached translation (R385): the PASID or the supervisor half, the page base, the page size and the leaf. -/
structure TlbEntry where
  pasid : Nat
  base : Nat
  log2 : Nat
  leaf : W64
  deriving DecidableEq, Repr

/-- An entry of a replay queue (R400, R401). -/
structure ReplayEntry where
  seq : Nat
  slot : Nat
  delivered : Bool
  deriving DecidableEq, Repr

/-- A report in a report place (R406): its words, and whether its event has been delivered (R400). -/
structure Report where
  words : List W64
  delivered : Bool
  deriving DecidableEq, Repr

/-- An event counter of a trace unit (R421, R425). -/
structure TraceCounter where
  event : Nat
  count : Nat
  ovf : Bool
  deriving DecidableEq, Repr

/-- The trace unit of a core (R421 to R428): `held` the packets a pause holds, `page` the translated page it writes, `failed` the
pages that failed in turn, `dropped` the packets dropped since the last LOSS, `since` the packets since the last SYNC,
`pausing` a pause that waits for the page boundary, and `async` the counters whose SAMPLE waits for the next unit. `ran` says that the
unit has been enabled, so that cycles have counted, and `seen` that a traced team stood on a datapath, so that IDLE has (R426, R427). -/
structure Trace where
  teams : W32
  ctl : W64
  base : W64
  wptr : Nat
  lost : Nat
  skipped : Nat
  err : Bool
  paused : Bool
  full : Bool
  ranges : Tab (W64 × W64)
  cycles : Tab (List Nat)
  counters : Tab TraceCounter
  held : List (List Nat)
  page : Option Nat
  failed : Nat
  dropped : Nat
  since : Nat
  pausing : Bool
  async : List Nat
  ran : Bool
  seen : Bool
  deriving DecidableEq, Repr

/-- A table entry of level 1 to 4 in a walk cache (R385): what it covers of an address space, and the table it points to. -/
structure WalkEntry where
  pasid : Nat
  base : Nat
  log2 : Nat
  table : Nat
  deriving DecidableEq, Repr

/-- Who makes a write that waits for its line: the error log (R431), the trace unit of a core, with the WPTR of the word (R423), or the
management aperture. -/
inductive LateSrc where
  | log | trace (core at_ : Nat) | aperture
  deriving DecidableEq, Repr

/-- A write of a unit of the device that waits for its place: a line that a copy engine owns or whose holder does not answer, or a
tile entry or range of a window that is held (R74, R78, R85). -/
structure LateWrite where
  src : LateSrc
  pa : Nat
  bytes : List Byte
  deriving DecidableEq, Repr

/-- A core: its teams by slot, its block places, the supervisor's event registers (R339), queues, engines, L1, TLB,
stores and trace unit. `slept` counts the epoch changes since the L1 went to sleep (R83), `misses` the loads that missed the L1
(R427), and `half` is the slot of the team whose instruction the scalar unit has issued in a cycle that has room for another (R51). -/
structure Core where
  teams : Tab Team
  blocks : Tab Block
  evec : W64
  epc : W64
  ecause : Nat
  even : Bool
  replay : List ReplayEntry
  reports : Tab Report
  doorbell : Bool
  timerPending : Bool
  timerDue : Nat
  tiles : Tab TileEntry
  ops : List MatOp
  copies : List Copy
  ltime : Nat
  l1 : Tab L1Line
  retention : Bool
  slept : Nat
  misses : Nat
  half : Option Nat
  tlb : List TlbEntry
  stores : List PendStore
  storeNo : Nat
  trace : Trace
  deriving DecidableEq, Repr

/-- The stamps of a line at its home (R81, R82). -/
structure Stamp where
  wts : Nat
  rts : Nat
  epoch : Nat
  deriving DecidableEq, Repr

/-- A directory entry (R66, R78 to R80): the class and grain of the request that made it, and its holders. The table of the
directory lists it under the number of its first 32-byte sector. -/
structure DirEntry where
  cls : Nat
  grain : Nat
  sharers : BitVec 4
  host : Bool
  deriving DecidableEq, Repr

/-- A waiter record of a lock (R110, R119 to R123): `since`, `core` and `slot` rank it (R123), and `probeAt` is the end of the probe
threshold that runs (R122, R125). -/
structure Waiter where
  team : Nat
  ticket : W32
  deadline : Nat
  passed : Nat
  since : Nat
  probeAt : Nat
  core : Nat
  slot : Nat
  scope : Scope
  va : W64
  regionLen : Nat
  deriving DecidableEq, Repr

/-- A request sent to a lock's home and not yet handled (R308). -/
structure LockRequest where
  team : Nat
  obj : Nat
  grain : Bool
  ltry : Bool
  kept : Option W32
  waiter : Waiter
  deriving DecidableEq, Repr

/-- A locked-line record (R110 to R121). -/
structure LockRec where
  next : W32
  holder : Option Nat
  queue : List Waiter
  transit : Option Waiter
  windowEnd : Option Nat
  inFlight : Option Waiter
  abandoned : Bool
  lastAbandoned : Bool
  grain : Bool
  deriving DecidableEq, Repr

/-- A deadlock probe on its way (R122, R123): its origin with the lock it waits on and what ranks its wait, the lock it is at, the
locks of its path, each with the team that waits on it, and whether no waiter it met ranks before its origin. -/
structure Probe where
  origin : Nat
  obj : Nat
  since : Nat
  core : Nat
  slot : Nat
  at_ : Nat
  hops : Nat
  path : List (Nat × Nat)
  first : Bool
  deriving DecidableEq, Repr

/-- An entry of a deferred-free ring (R137). -/
structure Deferred where
  addr : W64
  len : W32
  tag : W32
  ticket : W64
  since : Nat
  deriving DecidableEq, Repr

/-- A process record of the grace-period tracker (R126 to R140), with the HEAD the unit last read (R138) and the time of
its last stall report (R139). -/
structure GraceProc where
  gen : W64
  completed : W64
  deferred : List Deferred
  pairs : List (W64 × Nat)
  stopped : Bool
  headSeen : Nat
  stallAt : Nat
  deriving DecidableEq, Repr

/-- A block or group in a save slot (R392, R393): its blocks and their teams, with their barriers, tile entries,
operations and copies, and the poisoned 32-byte sectors of its scratchpad and accumulator entries (R433). `slotIx` is its
save slot; `readmit` its place among the readmissions that are queued, `preempted` why it was pre-empted, so that it waits for its process's turn
or for the end of the cut (R395, R396), and `ltime` the logical time of its core as it was saved (R81). The images of the scratchpad and the
entries stand in the slot. -/
structure Saved where
  blk : Block
  slotIx : Nat
  teams : Tab Team
  accs : List TileEntry
  sts : List TileEntry
  ops : List MatOp
  copies : List Copy
  spPoison : List Nat
  tilePoison : List Nat
  readmit : Option Nat
  preempted : Option Preempt
  ltime : Nat
  deriving DecidableEq, Repr

/-- A launch the front end has accepted (R38, R368 to R370): its next block in walk order, the first blocks of groups whose
placement was cancelled (R46), the identities of its blocks that have not retired, and the round of its class in which it was
served last (R44). -/
structure Launch where
  id : Nat
  queue : Nat
  pasid : Nat
  ctx : Nat
  launchNo : Nat
  entry : W57
  args : List W64
  gx : Nat
  gy : Nat
  gz : Nat
  gang : Nat
  stagger : Nat
  prio : Prio
  spKib : Nat
  accs : Nat
  sts : Nat
  bars : Nat
  shape : List TeamShape
  nextIx : Nat
  cancelled : List Nat
  live : List Nat
  rounds : Nat
  deriving DecidableEq, Repr

/-- A packet taken from a queue and not yet complete (R367, R368): its queue and slot count, the scope of the release at its
completion, the launch it started, or the address and value a WAIT compares. -/
structure InFlight where
  queue : Nat
  slot : Nat
  fscope : Nat
  launch : Option Nat
  wait : Option (W64 × W64)
  deriving DecidableEq, Repr

/-- The committed state table (R375): its format version, CAPCONS, the producer hints and the run-list position. Every queue's HEAD
stands in its queue-table entry, and the launches in flight are `inFlight`, both written in the same step. -/
structure FeTable where
  format : W32
  capCons : W64
  hints : Tab W32
  runEntry : Nat
  deriving DecidableEq, Repr

/-- The front end: the registers of R365, the capture FIFO with sequence number, queue and count of each write (R374),
the producer hints, the format version of the running image's state table and the table committed last (R375), the launches and
packets in flight, the position in the run list with the start and the length in ns of its turn (R379), the round that is served in
each class (R44), the time of the last block start on each die and the blocks placed and not yet started, in the order of
their decisions (R45), whether a cut stops the reading of queues (R396, R437), whether it is a checkpoint, whether a lasting error has failed that
(R396, R442), and whether the cut of a freeze has still to write the reserved region (R437). -/
structure FrontEnd where
  fwver : W32
  upderr : Nat
  recovery : Bool
  stretch : Bool
  updating : Bool
  standby : Bool
  active : Nat
  image : W64
  qtab : W64
  runlist : W64
  capSeq : W64
  capCons : W64
  drops : Nat
  launchNo : Nat
  capture : List (Nat × Nat × W64)
  hints : Tab W32
  format : W32
  table : FeTable
  launches : List Launch
  inFlight : List InFlight
  rrHigh : Nat
  rrNormal : Nat
  runEntry : Nat
  turnAt : Nat
  turnLen : Nat
  dieLast : Tab Nat
  starting : List Nat
  paused : Bool
  ckpt : Bool
  ckptFail : Bool
  regionDue : Bool
  deriving DecidableEq, Repr

/-- A team-state port (R408); `data` is what the last read of DATA returned, and `ended` says that `status` is the outcome of a KILL or
RELEASE on what the port selects still. -/
structure Port where
  ctl : W64
  off : Nat
  data : W64
  stack : W64
  entry : W64
  signal : Nat
  status : Nat
  ended : Bool
  deriving DecidableEq, Repr

/-- A STEP or EXEC whose unit has met a hold that is no architectural wait, so that it is in progress still (R413, R417, R418): its team,
the buffer word to go on from, and the team as EXEC set it aside. -/
structure DebugRun where
  at_ : Nat × Nat
  word : Nat
  saved : Option Team
  deriving DecidableEq, Repr

/-- A shootdown in progress (R387, R388): its range, and whether the counts of the `XLT_` block show it. -/
structure Shootdown where
  pasid : Nat
  base : Nat
  log2 : Nat
  counted : Bool
  deriving DecidableEq, Repr

/-- The unit latch of the team that issues: the address of its first prefix, the address and length of the word being
executed, the literal of a `limm`, whether a `rep` prefix stands in front, a limit on the passes to run, whether the word
comes from the program buffer (R418), and the word itself. -/
structure UnitLatch where
  start : W57
  word : W57
  len : Nat
  limm : Option Nat
  rep : Bool
  passLimit : Option Nat
  stuffed : Bool
  body : Nat
  deriving DecidableEq, Repr

/-- Who gets the next issue slot: the ready teams of an issue resource of a core (0 to 3 the vector datapaths, 4 the
scalar unit; R49, R51), or the team of a slot whose wait is re-evaluated (R34); and two steps of the hardware that no row of the
opcode table names: a home evicts a line (R80, R81), and a copy engine finishes a destination line of a box (R84, R166). -/
inductive Turn where
  | issue (core res : Nat)
  | recheck (core slot : Nat)
  | evict (line : Nat)
  | boxLine (core copy box : Nat)
  deriving DecidableEq, Repr

/-- The fuses (R440, R441): the digest of the firmware's public key, the minimum version of an image, and the identity key, which
nothing reads. -/
structure Fuses where
  keyDigest : BitVec 512
  minVersion : W32
  identity : BitVec 521
  deriving DecidableEq, Repr

/-- A measurement block as it is returned: its index, its words, and their signature (R441). -/
structure Measurement where
  index : Nat
  words : List Nat
  signature : BitVec 1056
  deriving DecidableEq, Repr

/-- The state of the device. `restored` lists lines of fenced dies that were unpoisoned (R432); `fenced` what is down or fenced
(R434, see `linkDown`); `errs` the errors whose retry is under way (R430); `ide` the keys of the CXL ports' streams (R363);
`floors` the floors of the home slices (R81); `agentTime` the largest stamp that an agent outside the cores gave
(the model's own, log 87); `awaited` the invalidations that homes wait for (R103); `late` the writes of units that wait for their place;
`slices` HOTOPEN and HOTWAIT of each L2 slice (R413);
`gtlb` the L2 TLB of each gang and `walkCache` the walk cache of each die (R385);
`mailNo` the number that the oldest held mailbox record took (R404);
`gangStop` a gang stop in progress and `gangDue` that its trigger's broadcast is still to come (R420, R429); `debugRun` a STEP or EXEC in
progress; `safeTier` the image that the
last checkpoint left on the safe tier (R396); `slotOk` that the image in the firmware slot verifies (R378, R440), `slotDigest` its digest and
`runDigest` those of the images on the complexes, `certs` the
vendor's certificate chain and `spdmOut` and `certOut` the measurement blocks and the chain returned last (R441). `cur`, `agenda` and `turns` say
who moves next (log 3), and
`tick` counts the free values drawn (log 4). -/
structure State where
  cores : Tab Core
  mem : List Host.Cell
  poison : List Nat
  restored : List Nat
  winPoison : List Nat
  stamps : Tab Stamp
  floors : Tab Nat
  agentTime : Nat
  epoch : Nat
  dirs : Tab DirEntry
  locks : Tab LockRec
  lockReqs : List LockRequest
  probes : List Probe
  lkdTiming : Nat × Nat
  lkdCounts : Nat × Nat
  procs : Tab GraceProc
  qscStall : Nat
  qscProc : Nat
  qscCounts : Nat × Nat
  xlt : Tab W64
  shootdowns : List Shootdown
  fe : FrontEnd
  saved : List Saved
  mgt : Tab W64
  mailOut : List (List W64)
  mailNo : Option Nat
  ports : Tab Port
  dbg : Tab W64
  gangStop : Bool
  gangDue : Bool
  debugRun : Option DebugRun
  fenced : List Nat
  errs : List (List W64)
  awaited : List Await
  late : List LateWrite
  slices : Tab (Nat × Nat)
  gtlb : Tab (List TlbEntry)
  walkCache : Tab (List WalkEntry)
  seq : Nat
  time : Nat
  readmitSeq : Nat
  clock : Nat
  withheld : Nat
  cur : Nat × Nat
  agenda : List Event
  turns : List Turn
  latch : UnitLatch
  ide : Tab W64
  slotOk : Bool
  slotDigest : BitVec 512
  runDigest : Tab (BitVec 512)
  fuses : Fuses
  certs : List Byte
  spdmOut : List Measurement
  certOut : List Byte
  safeTier : List Host.Cell
  powered : Bool
  tick : Nat
  nextUid : Nat
  deriving DecidableEq, Repr

/-! ### The state after reset -/

/-- A wait record of a team that waits on nothing (R444). -/
def WaitRec.idle : WaitRec :=
  { kind := 0, scope := 0, param := 0, object := 0, ticket := 0, deadline := 0, since := 0, met := false, reply := none,
    fault := none, p1 := [] }

/-- A fault record before any fault. -/
def FaultRec.empty : FaultRec :=
  { code := 0, sub := 0, slot := 0, core := 0, place := 0, pasid := 0, pc := 0, addr := 0, unit := 0, token := 0,
    tile := none, seq := 0, ident := 0, launch := 0, mask := 0, cycle := [] }

/-- The repeat state when no unit is in progress (R222). -/
def RepeatState.idle : RepeatState := { remain := 0, total := 0, sd := 0, sa := 0, sb := 0 }

/-- A team as it stands at its start (R369), with every register the spec gives no value at zero. The fields that
depend on the launch are set by the launch. -/
def Team.initial : Team :=
  { uid := 0, blk := 0, place := 15, role := .vector, lanes := 32, nreg := 64, prio := .supervisor, tindex := 31,
    noRefs := true, pc := 0, done := 0, m := [(0, 0xFFFFFFFF#1024)], v := [], vInit := none, bp := [], sreg := [],
    loops := [], loopAbove := [], rep := .idle, pvalue := 0, pwords := 0, fpmode := 0, sticky := 0, issued := 0, drained := 0,
    copyIssued := 0, copyDone := 0, held := [], wait := .idle, qsGen := 0, qsDue := false, extQuiet := false, stepArm := false, stepDue := false,
    sigstk := 0, record := .empty, parked := false, halted := false, yielded := false, yieldFor := [], yieldCycles := 0, brkHalt := false, obs := 0,
    lost := [], datapath := 0, cyclesReady := 0, boost := none, rfList := [], vpoison := [], hold := none, heldSince := none, markers := none,
    marked := none, trapped := false }

/-- The supervisor team of core c at reset (R26, R398; log 2). -/
def Team.supervisor (c : Nat) : Team := { Team.initial with uid := c, rfList := List.range 16 }

/-- A trace unit at reset (log 2). -/
def Trace.initial : Trace :=
  { teams := 0, ctl := 0, base := 0, wptr := 0, lost := 0, skipped := 0, err := false, paused := false, full := false,
    ranges := [], cycles := [], counters := [], held := [], page := none, failed := 0, dropped := 0,
    since := 0, pausing := false, async := [], ran := false, seen := false }

/-- Core c at reset: its supervisor team and nothing else. -/
def Core.reset (c : Nat) : Core :=
  { teams := [(0, Team.supervisor c)], blocks := [], evec := 0, epc := 0, ecause := 0, even := false, replay := [],
    reports := [], doorbell := false, timerPending := false, timerDue := 1000000, tiles := [],
    ops := [], copies := [], ltime := 0, l1 := [], retention := false, slept := 0, misses := 0, half := none, tlb := [], stores := [], storeNo := 0,
    trace := .initial }

/-- The front end at reset (log 2). -/
def FrontEnd.reset : FrontEnd :=
  { fwver := 0, upderr := 0, recovery := false, stretch := false, updating := false, standby := false, active := 0,
    image := 0, qtab := 0, runlist := 0, capSeq := 0, capCons := 0, drops := 0, launchNo := 0, capture := [], hints := [],
    format := 0, table := { format := 0, capCons := 0, hints := [], runEntry := 0 },
    launches := [], inFlight := [], rrHigh := 0, rrNormal := 0, runEntry := 0, turnAt := 0, turnLen := 0, dieLast := [], starting := [],
    paused := false, ckpt := false, ckptFail := false, regionDue := false }

/-- No unit is latched. -/
def UnitLatch.idle : UnitLatch :=
  { start := 0, word := 0, len := 4, limm := none, rep := false, passLimit := none, stuffed := false, body := 0 }

/-- The machine right after reset (R378; log 2): core tables list only what differs from `Core.reset`. -/
def State.reset : State :=
  { cores := [], mem := [], poison := [], restored := [], winPoison := [], stamps := [], floors := [], agentTime := 0, epoch := 0, dirs := [], locks := [],
    lockReqs := [], probes := [], lkdTiming := (200, 50), lkdCounts := (0, 0), procs := [], qscStall := 1000,
    qscProc := 0, qscCounts := (0, 0), xlt := [], shootdowns := [], fe := .reset, saved := [], mgt := [],
    mailOut := [], mailNo := none, ports := [], dbg := [], gangStop := false, gangDue := false, debugRun := none, fenced := [], errs := [],
    awaited := [], late := [], slices := [], gtlb := [], walkCache := [], seq := 0, time := 0,
    readmitSeq := 0, clock := 1750, withheld := 0, cur := (0, 0), agenda := [], turns := [], latch := .idle, ide := [], slotOk := true,
    slotDigest := 0, runDigest := [],
    fuses := { keyDigest := 0, minVersion := 0, identity := 0 }, certs := [], spdmOut := [], certOut := [], safeTier := [], powered := true,
    tick := 0, nextUid := 256 }

end Sys2Proof.Machine
end

