-- ==== Sys2Proof/Machine/Ops.lean ====
section
/-! DEFINITION. The named operations over cores, teams and their registers; taking a fault (parking a team); and the
completion of a unit. -/

namespace Sys2Proof.Machine

/-- What a meaning answers. -/
abbrev Result := Host.Outcome State Fault Refusal

/-! ### Cores and teams -/

/-- Core c. A core that the state does not list is as it was at reset. -/
def State.core (s : State) (c : Nat) : Core := tabGet (Core.reset c) s.cores c

/-- The state with another core c. -/
def State.setCore (s : State) (c : Nat) (k : Core) : State := { s with cores := tabSet s.cores c k }

/-- The team in slot `p.2` of core `p.1`. -/
def State.team? (s : State) (p : Nat × Nat) : Option Team := tabGet? (s.core p.1).teams p.2

/-- The state with a team in slot `p.2` of core `p.1`. -/
def State.setTeam (s : State) (p : Nat × Nat) (t : Team) : State :=
  s.setCore p.1 { s.core p.1 with teams := tabSet (s.core p.1).teams p.2 t }

/-- The state with the team in a place changed, if there is one. -/
def State.modTeam (s : State) (p : Nat × Nat) (f : Team → Team) : State :=
  match s.team? p with
  | none => s
  | some t => s.setTeam p (f t)

/-- The next free value (log 4). -/
def State.draw (s : State) : State := { s with tick := s.tick + 1 }

/-- The block of a team that stands on core c. -/
def State.blockOf (s : State) (c : Nat) (t : Team) : Option Block := tabGet? (s.core c).blocks t.place

/-- The state with a block in place `pl` of core c. -/
def State.setBlock (s : State) (c pl : Nat) (b : Block) : State :=
  s.setCore c { s.core c with blocks := tabSet (s.core c).blocks pl b }

/-- The numbers of the cores (R14). -/
def allCores : List Nat := List.range 256

/-- The cores that hold anything but their reset contents. -/
def State.liveCores (s : State) : List Nat := s.cores.map Prod.fst

/-- Where the team with an identity stands: core and slot. The supervisors have the identities 0 to 255. -/
def State.findTeam (s : State) (uid : Nat) : Option (Nat × Nat) :=
  if uid < 256 then some (uid, 0)
  else
    (s.cores.filterMap (fun k =>
      ((k.2.teams.find? (fun e => e.2.uid == uid)).map (fun e => (k.1, e.1))))).head?

/-- Where the block with an identity stands: core and place. -/
def State.findBlock (s : State) (uid : Nat) : Option (Nat × Nat) :=
  (s.cores.filterMap (fun k =>
    ((k.2.blocks.find? (fun e => e.2.uid == uid)).map (fun e => (k.1, e.1))))).head?

/-- The teams of a block, by slot. -/
def Core.teamsOf (k : Core) (blk : Nat) : Tab Team := k.teams.filter (fun e => e.1 != 0 && e.2.blk == blk)

/-! ### Team registers -/

/-- The mask words of a team: W = L / 32, or 1 for a one-lane team (R17). -/
def Team.words (t : Team) : Nat := (t.lanes + 31) / 32

/-- A mask with a bit for every lane below n. -/
def lanesBelow (n : Nat) : LaneMask := BitVec.ofNat 1024 (2 ^ n - 1)

/-- All lanes of the team (R18). -/
def Team.allLanes (t : Team) : LaneMask := lanesBelow t.lanes

/-- Mask register k (R18). -/
def Team.mreg (t : Team) (k : Nat) : LaneMask := tabGet 0 t.m k

/-- A write of mask register k: bits at and above L are discarded (R18). -/
def Team.setM (t : Team) (k : Nat) (x : LaneMask) : Team := { t with m := tabSet t.m k (x &&& t.allLanes) }

/-- The summary word of a mask (R18): bit j is 1 iff word j is non-zero. -/
def summary (x : LaneMask) : Nat :=
  (List.range 32).foldl (fun r j => if x.toNat / 2 ^ (32 * j) % 2 ^ 32 = 0 then r else r + 2 ^ j) 0

/-- Mask word j. -/
def maskWord (x : LaneMask) (j : Nat) : Nat := x.toNat / 2 ^ (32 * j) % 2 ^ 32

/-- Scalar register k: `s0` reads as zero (R22). -/
def Team.s (t : Team) (k : Nat) : W64 := if k = 0 then 0 else tabGet 0 t.sreg k

/-- A write of scalar register k: a write of `s0` is discarded (R22). -/
def Team.setS (t : Team) (k : Nat) (x : W64) : Team := if k = 0 then t else { t with sreg := tabSet t.sreg k x }

/-- What a vector register holds in a lane nothing has written (R369, log 4; log 2 for the supervisor). -/
def Team.vUnset (t : Team) (r l : Nat) : W32 :=
  match t.vInit with
  | none => 0
  | some n => Config.freeLane n r l

/-- Vector register r of lane l. -/
def Team.vreg (t : Team) (r l : Nat) : W32 := tabGet (t.vUnset r l) (tabGet [] t.v r) l

/-- A write of vector register r of lane l clears a poison mark there (R433). -/
def Team.setV (t : Team) (r l : Nat) (x : W32) : Team :=
  { t with v := tabSet t.v r (tabSet (tabGet [] t.v r) l x), vpoison := t.vpoison.filter (fun e => e != (r, l)) }

/-- The bypass latches of lane l. -/
def Team.latches (t : Team) (l : Nat) : Latches := tabGet ⟨0, 0, 0, 0⟩ t.bp l

/-- Latch b of lane l. -/
def Team.latch (t : Team) (b l : Nat) : W32 :=
  match b with
  | 0 => (t.latches l).b0
  | 1 => (t.latches l).b1
  | 2 => (t.latches l).b2
  | _ => (t.latches l).b3

/-- A write of latch b of lane l. -/
def Team.setLatch (t : Team) (b l : Nat) (x : W32) : Team :=
  let k := t.latches l
  let k :=
    match b with
    | 0 => { k with b0 := x }
    | 1 => { k with b1 := x }
    | 2 => { k with b2 := x }
    | _ => { k with b3 := x }
  { t with bp := tabSet t.bp l k }

/-- R31: a result enters `bp0` and the latches of its lane move up. -/
def Team.shiftLatch (t : Team) (l : Nat) (x : W32) : Team :=
  let k := t.latches l
  { t with bp := tabSet t.bp l ⟨x, k.b0, k.b1, k.b2⟩ }

/-- The active lanes: in `m0` and not done (R19). -/
def Team.active (t : Team) : LaneMask := t.mreg 0 &&& ~~~t.done

/-- The lanes of a mask below n, ascending. -/
def lanesOf (x : LaneMask) (n : Nat) : List Nat := (List.range n).filter (fun l => x.getLsbD l)

/-- The mask of a list of lanes. -/
def maskOf (ls : List Nat) : LaneMask := ls.foldl (fun x l => x ||| BitVec.ofNat 1024 (2 ^ l)) 0

/-- The team with the done bit of lane l set (R30). -/
def Team.markDone (t : Team) (l : Nat) : Team := { t with done := t.done ||| BitVec.ofNat 1024 (2 ^ l) }

/-- A 57-bit address in its 64-bit form (R60). -/
def wide (a : W57) : W64 := a.signExtend 64

/-- A 64-bit address is canonical (R60). -/
def canonical (a : W64) : Bool := wide (a.truncate 57) == a

/-! ### Identity -/

/-- The role code of R71 and R258. -/
def Role.code : Role → Nat
  | .vector => 0 | .matrix => 1 | .copy => 2

/-- The `lid` word of a team (R258). -/
def identWord (t : Team) (b : Option Block) : W64 :=
  let at_ := match b with
    | none => 0
    | some b => b.z * 2 ^ 48 + b.y * 2 ^ 32 + b.x * 2 ^ 16 + b.rank * 2 ^ 8
  BitVec.ofNat 64 (at_ + t.tindex * 2 ^ 11 + t.role.code * 2 ^ 6 + (t.words - 1))

/-- The process of a block, 0 for the supervisor, which belongs to none (R26). -/
def pasidOf (b : Option Block) : Nat :=
  match b with
  | none => 0
  | some b => b.pasid

/-! ### The debug block's attachment (R413, R414) -/

/-- A register of the `DBG_` block. -/
def State.dbgReg (s : State) (off : Nat) : W64 := tabGet 0 s.dbg off

/-- The state with a register of the `DBG_` block. -/
def State.setDbg (s : State) (off : Nat) (x : W64) : State := { s with dbg := tabSet s.dbg off x }

/-- A debug agent is attached to this process (R414). -/
def State.attached (s : State) (pasid : Nat) : Bool :=
  (s.dbgReg 0).getLsbD 20 && (s.dbgReg 0).toNat % 2 ^ 20 == pasid

/-! ### Wait records (R444) -/

/-- The record of a `bar` that has arrived (R335) or of an `llock` (R308). `p1` holds the PC of its unit and the signal stack it ran on
(log 13); a `bwait` puts a third word behind them. -/
def WaitRec.recorded (w : WaitRec) : Bool := (w.kind == 2 || w.kind == 3) && w.p1.length == 2

/-- What names the present execution of a unit: a handler runs on a frame further down the signal stack (R187). -/
def Team.key (t : Team) (pc : W57) : List W64 := [wide pc, wide t.sigstk]

/-- What names the execution of the team's next unit. -/
def Team.here (t : Team) : List W64 := t.key t.pc

/-- The team whose next unit has this name waits with this record (R34): a kept ticket is no wait (R112), and neither is the record of
a `bar` or `llock` that a signal handler interrupted (R185, R337). -/
def WaitRec.waits (w : WaitRec) (key : List W64) : Bool :=
  w.kind != 0 && w.kind != 10 && !(w.recorded && w.p1 != key)

/-- The team waits. -/
def Team.waiting (t : Team) : Bool := t.wait.waits t.here

/-- What is left of a wait record when an instruction completes or the team parks: the record of an interrupted `bar` (R337), of an
interrupted `llock` (R185) and a kept ticket (R307) stay. The two instructions clear their own. -/
def WaitRec.kept (w : WaitRec) : WaitRec := if w.recorded ∨ w.kind = 10 then w else .idle

/-- What is left of a wait record when a team is stopped or moved in its wait (R179, R337, R415): the wait stays, but an instruction
that starts an operation begins its first phase again (R316). -/
def WaitRec.interrupted (w : WaitRec) : WaitRec := { w with p1 := if w.kind = 2 ∨ w.kind = 3 ∨ w.kind = 12 then w.p1 else [] }

/-- The record of an interrupted instruction is no longer its team's: the team goes on elsewhere on the same signal stack, so that it
will not execute the instruction again, or a signal return marked the instruction done (R190, R337). -/
def Team.waitOver (t : Team) : Bool :=
  t.wait.recorded &&
    (if t.wait.p1 = t.here then t.marked.any (fun m => m.lanes.getLsbD 0) && t.done.getLsbD 0 else t.wait.p1.drop 1 == [wide t.sigstk])

/-! ### Taking a fault -/

/-- A fault with a code, a subcode, an address and a lane mask. -/
def faultOf (code sub : Nat) (addr : W64) (mask : LaneMask) : FaultInfo :=
  { code := code, sub := sub, addr := addr, mask := mask }

/-- The fault record of a team at a PC (R402), with the next SEQ (R436). -/
def State.recordFor (s : State) (p : Nat × Nat) (t : Team) (pc : W57) (f : FaultInfo) : FaultRec :=
  let b := s.blockOf p.1 t
  { code := f.code, sub := f.sub, slot := p.2, core := p.1, place := t.place, pasid := pasidOf b, pc := pc,
    addr := f.addr, unit := f.unit, token := f.token, tile := f.tile, seq := s.seq + 1, ident := identWord t b,
    launch := (b.map (·.launchNo)).getD 0, mask := f.mask, cycle := f.cycle }

/-- The header words of a fault record (R402). -/
def FaultRec.header (r : FaultRec) : List W64 :=
  let w (n : Nat) := BitVec.ofNat 64 n
  [w (r.sub * 2 ^ 48 + r.code * 2 ^ 40 + r.slot * 2 ^ 32 + r.core * 2 ^ 24 + r.place * 2 ^ 20 + r.pasid),
   w r.pc.toNat, r.addr,
   w (r.unit * 2 ^ 32 + r.token * 2 ^ 16 + (match r.tile with | some k => 32 + k | none => 0)),
   w r.seq, r.ident, w (r.cycle.length * 2 ^ 16 + r.launch), 0]

/-- Park the team in slot `p` at a PC (R175, R401, R402): its record is filled, SEQ advances, and it enters the replay
queue; a parked supervisor posts SUPFAULT instead (R399, R405). The step arm ends (R190), but for an `F.STEP` that is due. A parked team waits on
nothing (R444; log 106);
the lanes that a signal return marked at this PC stay marked. -/
def State.parkAt (s : State) (p : Nat × Nat) (t : Team) (pc : W57) (f : FaultInfo) : State :=
  let r := s.recordFor p t pc f
  let t' := { t with parked := true, yielded := false, record := r, stepArm := t.stepDue && f.code != 0x2A,
                       stepDue := t.stepDue && f.code != 0x2A, marked := if pc = t.pc then t.marked else none,
                       markers := none, heldSince := none, qsDue := false, pc := pc, cyclesReady := 0, wait := { t.wait.kept with since := s.time } }
  let s1 := { s.setTeam p t' with seq := s.seq + 1 }
  if p.2 = 0 then
    { s1 with mailOut := s1.mailOut ++ [BitVec.ofNat 64 (1 + p.1 * 2 ^ 8) :: r.header.take 6] }
  else
    let k := s1.core p.1
    s1.setCore p.1 { k with replay := k.replay ++ [⟨r.seq, p.2, false⟩] }

/-- DBG_STOP, SEQ and TIME record a stop (R413); BUSY is set until every part of the block has halted (R415). -/
def State.recordStop (s : State) (cause watch core slot seq : Nat) : State :=
  (((s.setDbg 0x18 (BitVec.ofNat 64 (cause * 2 ^ 16 + watch * 2 ^ 13 + slot * 2 ^ 8 + core))).setDbg 0x20
    (BitVec.ofNat 64 seq)).setDbg 0x28 (BitVec.ofNat 64 s.time)).setDbg 0x10 (s.dbgReg 0x10 ||| 1)

/-- The block of an identity on core c stops: every running team of it halts, in its wait if it waits (R415); the stop ends a
`yield` (R291), and an instruction that waits in its second phase starts afresh (R316). -/
def State.stopBlock (s : State) (c blk : Nat) : State :=
  let k := s.core c
  s.setCore c { k with
    blocks := k.blocks.map (fun e => if e.2.uid = blk then (e.1, { e.2 with stopped := true }) else e),
    teams := k.teams.map (fun e =>
      if e.1 ≠ 0 ∧ e.2.blk = blk ∧ e.2.parked = false then
        (e.1, { e.2 with halted := true, yielded := false, wait := e.2.wait.interrupted })
      else e) }

/-- Under an attached agent, `F.WATCH` and `F.BRK` halt the team and stop its block instead (R414, R415); DBG_STOP, SEQ
and TIME record the trigger, unless a gang stop is in progress (R429). A watchpoint with GANG starts one (R420): its broadcast is the next
step, and stops the trigger's own block with the others once it has seen which teams were issuing. -/
def State.debugHalt (s : State) (p : Nat × Nat) (t : Team) (pc : W57) (f : FaultInfo) : State :=
  let r := s.recordFor p t pc f
  let t1 := { t with
    halted := true, brkHalt := true, yielded := false, record := r, pc := pc, stepArm := false,
    marked := if pc = t.pc then t.marked else none, heldSince := none }
  let s1 := { s.setTeam p t1 with seq := s.seq + 1 }
  let watch := if f.code = 0x28 then f.sub else 0
  let s2 := if s.gangStop then s1 else s1.recordStop (if f.code = 0x28 then 2 else 3) watch p.1 p.2 r.seq
  if f.code = 0x28 ∧ (s.dbgReg (0x108 + 16 * watch)).getLsbD 3 ∧ s.gangStop = false then
    { s2 with gangStop := true, gangDue := true, agenda := .gangstop p.1 :: s2.agenda }
  else s2.stopBlock p.1 t.blk

/-- Take a fault of the team in slot `p` at a PC: the one operation for every fault of R175. -/
def State.takeFault (s : State) (p : Nat × Nat) (t : Team) (pc : W57) (f : FaultInfo) : State :=
  if (f.code = 0x28 ∨ f.code = 0x29) ∧ p.2 ≠ 0 ∧ s.attached (pasidOf (s.blockOf p.1 t)) then
    s.debugHalt p t pc f
  else s.parkAt p t pc f

/-- A fault at the unit that is issuing (R179: the saved PC is that of its first prefix). -/
def State.unitFault (s : State) (t : Team) (f : FaultInfo) : State := s.takeFault s.cur t s.latch.start f

/-- The lane mask of a team fault (R175): the active lanes for a vector instruction of a vector-role team, lane 0
otherwise. -/
def teamFaultMask (t : Team) (vec : Bool) : LaneMask :=
  if vec && t.role == .vector then t.active else 1

/-- The lane mask of a fault met before the instruction's kind is known (R175). -/
def unknownMask (t : Team) : LaneMask := if t.role = .vector then t.active else 1

/-- The team can issue: none of the stops of R34 that an event must end. A waiting team re-evaluates its wait. -/
def Team.canIssue (t : Team) (b : Option Block) : Bool :=
  !t.parked && !t.halted && !t.yielded &&
    (match b with
     | none => true
     | some b => b.started && !b.stopped && !b.swapping)

/-- A team fault of an instruction that executes once. -/
def State.onceFault (s : State) (t : Team) (code sub : Nat) (addr : W64) : State :=
  s.unitFault t (faultOf code sub addr (teamFaultMask t false))

/-! ### The checks of R25 that every instruction shares -/

/-- Which roles may issue an instruction (R24). -/
inductive RoleNeed where
  | any | vector | matrix | copy
  deriving DecidableEq, Repr

/-- R24. -/
def RoleNeed.ok (n : RoleNeed) (r : Role) : Bool :=
  match n, r with
  | .any, _ => true
  | .vector, .vector => true
  | .matrix, .matrix => true
  | .copy, .copy => true
  | _, _ => false

/-! ### Completion of a unit -/

/-- The loop-end step of R288 on a loop stack whose top is the head of the list: unit at A, next address `nxt`. -/
def loopEnd (a nxt : W57) (loops : List LoopEntry) : W57 × List LoopEntry :=
  match loops with
  | [] => (nxt, [])
  | e :: rest =>
    if nxt = e.stop ∧ e.start.toNat ≤ a.toNat ∧ a.toNat < e.stop.toNat then
      if e.count - 1 ≠ 0 then (e.start, { e with count := e.count - 1 } :: rest) else loopEnd a nxt rest
    else (nxt, loops)

/-- The length in bytes of the unit that issues. -/
def UnitLatch.size (u : UnitLatch) : W57 := u.word - u.start + BitVec.ofNat 57 u.len

/-- The address of the next unit in sequence. -/
def UnitLatch.next (u : UnitLatch) : W57 := u.start + u.size

/-- After a unit completes: under a step arm `F.STEP` comes before the next unit issues (R175, R343). -/
def State.afterUnit (s : State) (t : Team) : State := s.setTeam s.cur { t with stepDue := t.stepArm }

/-- The instruction is complete for every active lane and control goes on in sequence: the done mask clears (R30), a
repeat unit counts down (R180), and at the last repeat the PC moves past the unit with the loop-end step (R288). Words
executed from the program buffer do not move the PC (R418). -/
def State.complete (s : State) (t : Team) : State :=
  let t := { t with done := 0, marked := none, heldSince := none, wait := t.wait.kept }
  if s.latch.stuffed then s.setTeam s.cur { t with rep := if s.latch.rep ∧ 1 < t.rep.remain then
      { t.rep with remain := t.rep.remain - 1 } else .idle }
  else if s.latch.rep ∧ 1 < t.rep.remain then
    s.setTeam s.cur { t with rep := { t.rep with remain := t.rep.remain - 1 } }
  else
    let r := loopEnd s.latch.start s.latch.next t.loops
    s.afterUnit { t with rep := .idle, pc := r.1, loops := r.2 }

/-- The entries a taken branch at A to T leaves on the loop stack (R288). -/
def branchPops (a tgt : W57) (loops : List LoopEntry) : List LoopEntry :=
  match loops with
  | [] => []
  | e :: rest =>
    if (e.start.toNat ≤ a.toNat ∧ a.toNat < e.stop.toNat) ∧ ¬(e.start.toNat ≤ tgt.toNat ∧ tgt.toNat < e.stop.toNat)
    then branchPops a tgt rest else loops

/-- The team transfers control to T with a given loop stack. -/
def State.transfer (s : State) (t : Team) (tgt : W57) (loops : List LoopEntry) : State :=
  s.afterUnit { t with done := 0, marked := none, heldSince := none, pc := tgt, loops := loops,
                       wait := t.wait.kept }

/-- Transfer to a 64-bit target: `F.PROT` NONCANON for a target that is not canonical, `F.ALIGN` for an odd target of
`ret` and `jmpr` (R286). -/
def State.transferChecked (s : State) (t : Team) (tgt : W64) (oddFaults : Bool) (loops : List LoopEntry) : State :=
  if canonical tgt = false then s.onceFault t 0x09 0x0001 tgt
  else if oddFaults ∧ tgt.getLsbD 0 then s.onceFault t 0x0A 0 tgt
  else s.transfer t (tgt.truncate 57) loops

/-! ### Checks and issue (R25) -/

/-- A signal return marked lane 0 done, so that an instruction that executes once completes without effect (R190). -/
def Team.markedOnce (t : Team) : Bool := t.marked.any (fun m => m.lanes.getLsbD 0) && t.done.getLsbD 0

/-- A team fault found before the first pass, when a signal return or a write of the done mask has marked every lane it named: the
instruction completes without effect (R33, R190). -/
def Team.skips (t : Team) (vec : Bool) : Bool := if vec then t.active == 0 && (t.marked.isSome || t.done != 0) else t.markedOnce

/-- A fault of the unit at the PC as a whole that has been reported and whose lanes have all been marked done since: by a signal return
whose frame shows it (R190), or by a write of the done mask (R33). The unit completes without effect (log 13). -/
def Team.excused (t : Team) (f : FaultInfo) : Bool :=
  t.marked.any (fun m => m.code == f.code && m.sub == f.sub && m.lanes != 0 && (m.lanes &&& ~~~t.done) == 0)

/-- What a parked team whose faulted lanes have all been set in its done mask takes with it (R33): the fault of its unit as a whole is
excused. -/
def Team.markRecord (t : Team) : Option Mark :=
  let r := t.record
  if (r.code = 1 ∨ r.code = 5) ∧ r.pc = t.pc ∧ r.mask ≠ 0 ∧ (r.mask &&& ~~~t.done) = 0 then some ⟨r.mask, r.code, r.sub⟩ else t.marked

/-- A team fault found before the first pass, unless the instruction completes without effect instead (R33, R190). -/
def State.checkFault (s : State) (t : Team) (vec : Bool) (code sub : Nat) (addr : W64) : State :=
  if t.skips vec then s.complete t else s.unitFault t (faultOf code sub addr (teamFaultMask t vec))

/-- Run a meaning on the team that issues, after the privilege, role and register-window checks of R25 in that order.
`vregs` are the vector register numbers the instruction names. -/
def State.issue (s : State) (priv : Bool) (need : RoleNeed) (vregs : List Nat) (vec : Bool)
    (body : Team → State) : State :=
  match s.team? s.cur with
  | none => s
  | some t =>
    if priv ∧ s.cur.2 ≠ 0 then s.checkFault t vec 0x02 0 0
    else if need.ok t.role = false then s.checkFault t vec 0x04 0 0
    else
      match vregs.find? (fun r => decide (t.nreg ≤ r)) with
      | some r => s.checkFault t vec 0x03 0x0001 (BitVec.ofNat 64 r)
      | none => body t

end Sys2Proof.Machine
end

