-- ==== Sys2Proof/Machine/Operands.lean ====
section
/-! DEFINITION. Operand forms, and the engine that runs a vector instruction in passes (R19, R20, R30 to R33). -/

namespace Sys2Proof.Machine

/-- The register numbers of a vector source: a latch names none (R215). -/
def vregsOf : VSrc → List Nat
  | .reg k => [k]
  | .bp _ => []

/-- A vector source in lane l (R215). -/
def Team.src (t : Team) (x : VSrc) (l : Nat) : W32 :=
  match x with
  | .reg k => t.vreg k l
  | .bp b => t.latch b l

/-- A 64-bit vector operand in lane l: the named register holds bits [31:0] (R216). -/
def Team.pair (t : Team) (k l : Nat) : W64 := t.vreg (k + 1) l ++ t.vreg k l

/-- Where a vector instruction puts a lane's result: a register, a register pair, or the lane's own bit of a mask. `nw`
writes the latches only (R217). -/
inductive VDst where
  | v (d : Nat) (nw : Bool)
  | w (d : Nat) (nw : Bool)
  | m (d : Nat)
  deriving DecidableEq, Repr

/-- The registers of a destination. -/
def VDst.regs : VDst → List Nat
  | .v d nw => if nw then [] else [d]
  | .w d nw => if nw then [] else [d, d + 1]
  | .m _ => []

/-- One lane's result takes effect: the destination and the latch shift in one step (R31, R247, R253). -/
def Team.put (t : Team) (dst : VDst) (l : Nat) (x : W64) : Team :=
  match dst with
  | .v d nw =>
    let lo := x.truncate 32
    (if nw then t else t.setV d l lo).shiftLatch l lo
  | .w d nw =>
    let lo : W32 := x.truncate 32
    (if nw then t else (t.setV d l lo).setV (d + 1) l (x.extractLsb' 32 32)).shiftLatch l lo
  | .m d =>
    let bit : LaneMask := BitVec.ofNat 1024 (2 ^ l)
    t.setM d (if x.getLsbD 0 then t.mreg d ||| bit else t.mreg d &&& ~~~bit)

/-- What one lane computes: a result and the exceptions it raises (R203). -/
structure LaneOut where
  val : W64
  flags : BitVec 5
  deriving DecidableEq, Repr

/-- A lane fault: code, subcode, address (R175). -/
structure LaneFault where
  code : Nat
  sub : Nat
  addr : W64
  deriving DecidableEq, Repr

/-- What a lane answers. -/
abbrev LaneRes := Except LaneFault LaneOut

/-- A result without exceptions. -/
def laneVal (x : W64) : LaneRes := .ok ⟨x, 0⟩

/-- A 32-bit result without exceptions. -/
def laneVal32 (x : W32) : LaneRes := .ok ⟨x.zeroExtend 64, 0⟩

/-- The lanes of the first n mask words that hold an active lane (R20). -/
def firstWords (n : Nat) (ls : List Nat) : List Nat :=
  let ws := (List.range 32).filter (fun j => ls.any (fun l => l / 32 == j))
  ls.filter (fun l => (ws.take n).contains (l / 32))

/-- The lanes an issue runs: all active lanes, or those of the passes the latch allows. -/
def State.passLanes (s : State) (t : Team) : List Nat :=
  let ls := lanesOf t.active t.lanes
  match s.latch.passLimit with
  | none => ls
  | some n => firstWords n ls

/-- The single fault that lanes report together (R176): that of the lowest faulting lane, with every lane of the same
code and subcode in its mask. -/
def laneFaultInfo (bad : List (Nat × LaneFault)) : Option FaultInfo :=
  match bad with
  | [] => none
  | (_, f) :: _ =>
    some (faultOf f.code f.sub f.addr
      (maskOf ((bad.filter (fun e => e.2.code == f.code && e.2.sub == f.sub)).map Prod.fst)))

/-- The lanes that faulted, ascending. -/
def badLanes (outs : List (Nat × LaneRes)) : List (Nat × LaneFault) :=
  outs.filterMap (fun e => match e.2 with | .error f => some (e.1, f) | .ok _ => none)

/-- The lanes that have a result, ascending. -/
def goodLanes (outs : List (Nat × LaneRes)) : List (Nat × LaneOut) :=
  outs.filterMap (fun e => match e.2 with | .ok o => some (e.1, o) | .error _ => none)

/-- The results of the good lanes take effect, with their done bits and flags (R30, R31, R182). -/
def Team.commit (t : Team) (dst : VDst) (good : List (Nat × LaneOut)) : Team :=
  let t1 := good.foldl (fun t e => t.put dst e.1 e.2.val) t
  { t1 with done := t.done ||| maskOf (good.map Prod.fst),
            sticky := good.foldl (fun f e => f ||| e.2.flags) t.sticky }

/-- Run a vector instruction whose lanes depend only on the team: passes in ascending order, every lane that does not
fault completes (R32), then the fault is reported (R176) or, when no active lane is left, the unit completes. -/
def State.vecAlu (s : State) (t : Team) (dst : VDst) (f : Nat → LaneRes) : State :=
  let lim := (s.passLanes t).map (fun l => (l, f l))
  let outs := if (badLanes lim).isEmpty then lim else (lanesOf t.active t.lanes).map (fun l => (l, f l))
  let t1 := t.commit dst (goodLanes outs)
  match laneFaultInfo (badLanes outs) with
  | some fi => s.unitFault t1 fi
  | none => if (lanesOf t.active t.lanes).length = outs.length then s.complete t1 else s.setTeam s.cur t1

/-- The first of some registers that is poisoned in a lane (R433). -/
def Team.poisonedReg (t : Team) (regs : List Nat) (l : Nat) : Option Nat := regs.find? (fun r => t.vpoison.contains (r, l))

/-- A lane that reads poisoned registers faults with `F.POISON` and the register's number (R433). -/
def Team.guardPoison (t : Team) (regs : List Nat) (l : Nat) (r : LaneRes) : LaneRes :=
  match t.poisonedReg regs l with
  | some k => .error ⟨0x0B, 0, BitVec.ofNat 64 k⟩
  | none => r

/-- A vector instruction: the checks of R25, then the passes. `regs` are the registers each lane reads in its own
lane; `more` are further registers it names. -/
def State.vecOpWith (s : State) (dst : VDst) (regs more : List Nat) (f : Team → Nat → LaneRes) : Result :=
  .next (s.issue false .vector (dst.regs ++ regs ++ more) true
    (fun t => s.vecAlu t dst (fun l => t.guardPoison regs l (f t l))))

/-- A vector instruction whose lanes read only their own registers. -/
def State.vecOp (s : State) (dst : VDst) (regs : List Nat) (f : Team → Nat → LaneRes) : Result :=
  s.vecOpWith dst regs [] f

/-- A vector instruction of one 32-bit source. -/
def State.vec1 (s : State) (d : Nat) (nw : Bool) (a : VSrc) (f : W32 → W32) : Result :=
  s.vecOp (.v d nw) (vregsOf a) (fun t l => laneVal32 (f (t.src a l)))

/-- A vector instruction of two 32-bit sources. -/
def State.vec2 (s : State) (d : Nat) (nw : Bool) (a b : VSrc) (f : W32 → W32 → W32) : Result :=
  s.vecOp (.v d nw) (vregsOf a ++ vregsOf b) (fun t l => laneVal32 (f (t.src a l) (t.src b l)))

/-- A vector instruction of two 32-bit sources that also reads its destination register (R238). -/
def State.vec3 (s : State) (d : Nat) (nw : Bool) (a b : VSrc) (f : W32 → W32 → W32 → W32) : Result :=
  s.vecOp (.v d nw) (d :: (vregsOf a ++ vregsOf b)) (fun t l => laneVal32 (f (t.vreg d l) (t.src a l) (t.src b l)))

/-- A vector comparison of two 32-bit sources into a mask (R253). -/
def State.vecCmp (s : State) (d : Nat) (a b : VSrc) (f : W32 → W32 → Bool) : Result :=
  s.vecOp (.m d) (vregsOf a ++ vregsOf b) (fun t l => laneVal (if f (t.src a l) (t.src b l) then 1 else 0))

/-- A vector instruction of two 64-bit sources (R216). -/
def State.vecPair2 (s : State) (d : Nat) (nw : Bool) (a b : Nat) (f : W64 → W64 → W64) : Result :=
  s.vecOp (.w d nw) [a, a + 1, b, b + 1] (fun t l => laneVal (f (t.pair a l) (t.pair b l)))

/-- An instruction that executes once (R20), whatever the done mask holds (R245, R278). A signal return that marked it done, by lane
0, makes it complete without effect (R190; DEDUCED, log 13). -/
def State.once (s : State) (priv : Bool) (need : RoleNeed) (body : Team → State) : State :=
  match s.team? s.cur with
  | none => s
  | some t => if t.markedOnce then s.complete t else s.issue priv need [] false body

/-- A scalar-form instruction that writes one scalar register and completes. -/
def State.scalarOp (s : State) (need : RoleNeed) (d : Nat) (f : Team → W64) : Result :=
  .next (s.once false need (fun t => s.complete (t.setS d (f t))))

/-- A scalar instruction of two sources. -/
def State.scalar2 (s : State) (d a b : Nat) (f : W64 → W64 → W64) : Result :=
  s.scalarOp .any d (fun t => f (t.s a) (t.s b))

end Sys2Proof.Machine
end

