-- ==== Sys2Proof/Machine/Integer.lean ====
section
/-! DEFINITION. The integer group (spec/13, R244 to R259) and the 16-bit forms of integer values (R212). -/

namespace Sys2Proof.Machine

/-! ### What one lane computes -/

/-- A shift left by the whole of b (R250). -/
def shl32 (a b : W32) : W32 := if 32 ≤ b.toNat then 0 else a <<< b.toNat
/-- A natural shift right by the whole of b (R250). -/
def shr32 (a b : W32) : W32 := if 32 ≤ b.toNat then 0 else a >>> b.toNat
/-- A signed shift right by the whole of b (R250). -/
def sar32 (a b : W32) : W32 := a.sshiftRight (min b.toNat 31)
/-- A rotation left by b mod 32 (R250). -/
def rot32 (a b : W32) : W32 := a.rotateLeft (b.toNat % 32)
/-- As `shl32`, 64 bits. -/
def shl64 (a b : W64) : W64 := if 64 ≤ b.toNat then 0 else a <<< b.toNat
/-- As `shr32`, 64 bits. -/
def shr64 (a b : W64) : W64 := if 64 ≤ b.toNat then 0 else a >>> b.toNat
/-- As `sar32`, 64 bits. -/
def sar64 (a b : W64) : W64 := a.sshiftRight (min b.toNat 63)
/-- The zero bits above the highest 1 bit (R251). -/
def clz32 (a : W32) : W32 := if a = 0 then 32 else BitVec.ofNat 32 (31 - a.toNat.log2)
/-- The number of 1 bits (R251). -/
def popcount (n : Nat) (x : Nat) : Nat := ((List.range n).filter (fun i => x.testBit i)).length
/-- Bit i moves to bit 31 - i (R251). -/
def brev32 (a : W32) : W32 := a.reverse
/-- The high half of the signed product (R248). -/
def mulhI (a b : W32) : W32 := (a.signExtend 64 * b.signExtend 64).extractLsb' 32 32
/-- The high half of the natural product (R248). -/
def mulhN (a b : W32) : W32 := (a.zeroExtend 64 * b.zeroExtend 64).extractLsb' 32 32
/-- The absolute value modulo 2^32 (R248). -/
def abs32 (a : W32) : W32 := if a.msb then -a else a
/-- The lesser as signed values. -/
def minI (a b : W32) : W32 := if b.slt a then b else a
/-- The greater as signed values. -/
def maxI (a b : W32) : W32 := if a.slt b then b else a
/-- The lesser as natural values. -/
def minN (a b : W32) : W32 := if b.ult a then b else a
/-- The greater as natural values. -/
def maxN (a b : W32) : W32 := if a.ult b then b else a

/-- The position of a field descriptor (R252). -/
def fieldPos (b : W32) : Nat := b.toNat % 32
/-- The effective width of a field descriptor (R252). -/
def fieldWidth (b : W32) : Nat := min (min (b.toNat / 2 ^ 8 % 64) 32) (32 - fieldPos b)

/-- `bfx` (R252). -/
def bfx32 (a b : W32) : W32 :=
  let kk := fieldWidth b
  let f := a.toNat / 2 ^ fieldPos b % 2 ^ kk
  if b.getLsbD 16 ∧ 0 < kk ∧ 2 ^ (kk - 1) ≤ f then BitVec.ofNat 32 (f + (2 ^ 32 - 2 ^ kk)) else BitVec.ofNat 32 f

/-- `bfi` (R252). -/
def bfi32 (d a b : W32) : W32 :=
  let mask := BitVec.ofNat 32 ((2 ^ fieldWidth b - 1) * 2 ^ fieldPos b)
  (d &&& ~~~mask) ||| ((a <<< fieldPos b) &&& mask)

/-- A division or remainder of one lane: `F.DIVZ` for a zero divisor (R249). -/
def divLane (sub : Nat) (f : W32 → W32 → W32) (a b : W32) : LaneRes :=
  if b = 0 then .error ⟨0x10, sub, 0⟩ else laneVal32 (f a b)

/-- A division or remainder instruction (R249). -/
def State.vecDiv (s : State) (d : Nat) (nw : Bool) (a b : VSrc) (sub : Nat) (f : W32 → W32 → W32) : Result :=
  s.vecOp (.v d nw) (vregsOf a ++ vregsOf b) (fun t l => divLane sub f (t.src a l) (t.src b l))

/-- A 16-bit form: the destination is the first source (R212). -/
def State.vec16 (s : State) (d a : Nat) (f : W32 → W32 → W32) : Result := s.vec2 d false (.reg d) (.reg a) f

/-- The truth value of a comparison as a scalar (R253). -/
def truth (b : Bool) : W64 := if b then 1 else 0

/-! ### The meanings -/

/-- `iadd.i32` (R248). -/
def execIaddI32 (d : Nat) (a b : VSrc) (nw : Bool) (s : State) : Result := s.vec2 d nw a b (· + ·)
/-- `isub.i32` (R248). -/
def execIsubI32 (d : Nat) (a b : VSrc) (nw : Bool) (s : State) : Result := s.vec2 d nw a b (· - ·)
/-- `imul.i32` (R248). -/
def execImulI32 (d : Nat) (a b : VSrc) (nw : Bool) (s : State) : Result := s.vec2 d nw a b (· * ·)
/-- `imad.i32` (R248). -/
def execImadI32 (d : Nat) (a b : VSrc) (nw : Bool) (s : State) : Result := s.vec3 d nw a b (fun d a b => d + a * b)
/-- `imulh.i32` (R248). -/
def execImulhI32 (d : Nat) (a b : VSrc) (nw : Bool) (s : State) : Result := s.vec2 d nw a b mulhI
/-- `imulh.n32` (R248). -/
def execImulhN32 (d : Nat) (a b : VSrc) (nw : Bool) (s : State) : Result := s.vec2 d nw a b mulhN
/-- `iabs.i32` (R248). -/
def execIabsI32 (d : Nat) (a : VSrc) (nw : Bool) (s : State) : Result := s.vec1 d nw a abs32
/-- `sel` (R254). -/
def execSel (d : Nat) (a : VSrc) (b : Nat) (nw : Bool) (s : State) : Result :=
  s.vecOp (.v d nw) (d :: vregsOf a)
    (fun t l => laneVal32 (if (t.mreg b).getLsbD l then t.src a l else t.vreg d l))
/-- `idiv.i32` (R249). -/
def execIdivI32 (d : Nat) (a b : VSrc) (nw : Bool) (s : State) : Result := s.vecDiv d nw a b 1 BitVec.sdiv
/-- `idiv.n32` (R249). -/
def execIdivN32 (d : Nat) (a b : VSrc) (nw : Bool) (s : State) : Result := s.vecDiv d nw a b 1 BitVec.udiv
/-- `irem.i32` (R249). -/
def execIremI32 (d : Nat) (a b : VSrc) (nw : Bool) (s : State) : Result := s.vecDiv d nw a b 2 BitVec.srem
/-- `irem.n32` (R249). -/
def execIremN32 (d : Nat) (a b : VSrc) (nw : Bool) (s : State) : Result := s.vecDiv d nw a b 2 BitVec.umod
/-- `imin.i32` (R248). -/
def execIminI32 (d : Nat) (a b : VSrc) (nw : Bool) (s : State) : Result := s.vec2 d nw a b minI
/-- `imin.n32` (R248). -/
def execIminN32 (d : Nat) (a b : VSrc) (nw : Bool) (s : State) : Result := s.vec2 d nw a b minN
/-- `imax.i32` (R248). -/
def execImaxI32 (d : Nat) (a b : VSrc) (nw : Bool) (s : State) : Result := s.vec2 d nw a b maxI
/-- `imax.n32` (R248). -/
def execImaxN32 (d : Nat) (a b : VSrc) (nw : Bool) (s : State) : Result := s.vec2 d nw a b maxN
/-- `and` of vectors (R250). -/
def execAndV (d : Nat) (a b : VSrc) (nw : Bool) (s : State) : Result := s.vec2 d nw a b (· &&& ·)
/-- `or` of vectors (R250). -/
def execOrV (d : Nat) (a b : VSrc) (nw : Bool) (s : State) : Result := s.vec2 d nw a b (· ||| ·)
/-- `xor` of vectors (R250). -/
def execXorV (d : Nat) (a b : VSrc) (nw : Bool) (s : State) : Result := s.vec2 d nw a b (· ^^^ ·)
/-- `andn` (R250). -/
def execAndn (d : Nat) (a b : VSrc) (nw : Bool) (s : State) : Result := s.vec2 d nw a b (fun a b => a &&& ~~~b)
/-- `shl.n32` (R250). -/
def execShlN32 (d : Nat) (a b : VSrc) (nw : Bool) (s : State) : Result := s.vec2 d nw a b shl32
/-- `shr.n32` (R250). -/
def execShrN32 (d : Nat) (a b : VSrc) (nw : Bool) (s : State) : Result := s.vec2 d nw a b shr32
/-- `sar.i32` (R250). -/
def execSarI32 (d : Nat) (a b : VSrc) (nw : Bool) (s : State) : Result := s.vec2 d nw a b sar32
/-- `rot.n32` (R250). -/
def execRotN32 (d : Nat) (a b : VSrc) (nw : Bool) (s : State) : Result := s.vec2 d nw a b rot32
/-- `clz` (R251). -/
def execClz (d : Nat) (a : VSrc) (nw : Bool) (s : State) : Result := s.vec1 d nw a clz32
/-- `popc` (R251). -/
def execPopc (d : Nat) (a : VSrc) (nw : Bool) (s : State) : Result :=
  s.vec1 d nw a (fun a => BitVec.ofNat 32 (popcount 32 a.toNat))
/-- `brev` (R251). -/
def execBrev (d : Nat) (a : VSrc) (nw : Bool) (s : State) : Result := s.vec1 d nw a brev32
/-- `bfx` (R252). -/
def execBfx (d : Nat) (a b : VSrc) (nw : Bool) (s : State) : Result := s.vec2 d nw a b bfx32
/-- `bfi` (R252). -/
def execBfi (d : Nat) (a b : VSrc) (nw : Bool) (s : State) : Result := s.vec3 d nw a b bfi32
/-- `mov` of vectors (R255). -/
def execMovV (d : Nat) (a : VSrc) (nw : Bool) (s : State) : Result := s.vec1 d nw a (fun a => a)
/-- `iadd.i64` of vector pairs (R248). -/
def execIaddI64V (d a b : Nat) (nw : Bool) (s : State) : Result := s.vecPair2 d nw a b (· + ·)
/-- `isub.i64` of vector pairs (R248). -/
def execIsubI64V (d a b : Nat) (nw : Bool) (s : State) : Result := s.vecPair2 d nw a b (· - ·)
/-- `iadd.i64` of scalars (R248). -/
def execIaddI64S (d a b : Nat) (s : State) : Result := s.scalar2 d a b (· + ·)
/-- `isub.i64` of scalars (R248). -/
def execIsubI64S (d a b : Nat) (s : State) : Result := s.scalar2 d a b (· - ·)
/-- `imul.i64` (R248). -/
def execImulI64 (d a b : Nat) (s : State) : Result := s.scalar2 d a b (· * ·)
/-- `and` of scalars (R250). -/
def execAndS (d a b : Nat) (s : State) : Result := s.scalar2 d a b (· &&& ·)
/-- `or` of scalars (R250). -/
def execOrS (d a b : Nat) (s : State) : Result := s.scalar2 d a b (· ||| ·)
/-- `xor` of scalars (R250). -/
def execXorS (d a b : Nat) (s : State) : Result := s.scalar2 d a b (· ^^^ ·)
/-- `shl.n64` (R250). -/
def execShlN64 (d a b : Nat) (s : State) : Result := s.scalar2 d a b shl64
/-- `shr.n64` (R250). -/
def execShrN64 (d a b : Nat) (s : State) : Result := s.scalar2 d a b shr64
/-- `sar.i64` (R250). -/
def execSarI64 (d a b : Nat) (s : State) : Result := s.scalar2 d a b sar64
/-- `mov` of scalars (R255). -/
def execMovS (d a : Nat) (s : State) : Result := s.scalarOp .any d (fun t => t.s a)
/-- `icmp.eq.i32` (R253). -/
def execIcmpEqI32 (d : Nat) (a b : VSrc) (s : State) : Result := s.vecCmp d a b (· == ·)
/-- `icmp.lt.i32` (R253). -/
def execIcmpLtI32 (d : Nat) (a b : VSrc) (s : State) : Result := s.vecCmp d a b BitVec.slt
/-- `icmp.lt.n32` (R253). -/
def execIcmpLtN32 (d : Nat) (a b : VSrc) (s : State) : Result := s.vecCmp d a b BitVec.ult
/-- `icmp.eq.i64` (R253). -/
def execIcmpEqI64 (d a b : Nat) (s : State) : Result := s.scalar2 d a b (fun a b => truth (a == b))
/-- `icmp.lt.i64` (R253). -/
def execIcmpLtI64 (d a b : Nat) (s : State) : Result := s.scalar2 d a b (fun a b => truth (a.slt b))
/-- `icmp.lt.n64` (R253). -/
def execIcmpLtN64 (d a b : Nat) (s : State) : Result := s.scalar2 d a b (fun a b => truth (a.ult b))
/-- `lid` into a vector: the lane index (R258). -/
def execLidV (d : Nat) (nw : Bool) (s : State) : Result :=
  s.vecOp (.v d nw) [] (fun _ l => laneVal32 (BitVec.ofNat 32 l))
/-- `lid` into a scalar: the identifier word (R258). -/
def execLidS (d : Nat) (s : State) : Result :=
  s.scalarOp .any d (fun t => identWord t (s.blockOf s.cur.1 t))
/-- `iadd.i32` with an immediate (R248). -/
def execIaddI32Imm (d : Nat) (a : VSrc) (imm : Int) (nw : Bool) (s : State) : Result :=
  s.vec1 d nw a (fun a => a + BitVec.ofInt 32 imm)
/-- `iadd.i64` with an immediate (R248). -/
def execIaddI64Imm (d a : Nat) (imm : Int) (s : State) : Result :=
  s.scalarOp .any d (fun t => t.s a + BitVec.ofInt 64 imm)
/-- `movi` into a vector (R255). -/
def execMoviV (d : Nat) (imm : Int) (nw : Bool) (s : State) : Result :=
  s.vecOp (.v d nw) [] (fun _ _ => laneVal32 (BitVec.ofInt 32 imm))
/-- `movi` into a scalar (R255). -/
def execMoviS (d : Nat) (imm : Int) (s : State) : Result := s.scalarOp .any d (fun _ => BitVec.ofInt 64 imm)
/-- `lea`: the address of the `lea` word plus twice the offset (R257). -/
def execLea (d : Nat) (imm : Int) (s : State) : Result :=
  s.scalarOp .any d (fun _ => wide s.latch.word + BitVec.ofInt 64 (2 * imm))
/-- `limm`: the literal joins the next word of the unit; no other effect (R256). -/
def execLimm (value : Nat) (s : State) : Result := .next { s with latch := { s.latch with limm := some value } }

/-- `mov` in its 16-bit form (R212). -/
def execMov16 (d a : Nat) (s : State) : Result := s.vec1 d false (.reg a) (fun a => a)
/-- `iadd` in its 16-bit form (R212). -/
def execIadd16 (d a : Nat) (s : State) : Result := s.vec16 d a (· + ·)
/-- `isub` in its 16-bit form (R212). -/
def execIsub16 (d a : Nat) (s : State) : Result := s.vec16 d a (· - ·)
/-- `imul` in its 16-bit form (R212). -/
def execImul16 (d a : Nat) (s : State) : Result := s.vec16 d a (· * ·)
/-- `and` in its 16-bit form (R212). -/
def execAnd16 (d a : Nat) (s : State) : Result := s.vec16 d a (· &&& ·)
/-- `or` in its 16-bit form (R212). -/
def execOr16 (d a : Nat) (s : State) : Result := s.vec16 d a (· ||| ·)
/-- `xor` in its 16-bit form (R212). -/
def execXor16 (d a : Nat) (s : State) : Result := s.vec16 d a (· ^^^ ·)
/-- `shl` in its 16-bit form (R212). -/
def execShl16 (d a : Nat) (s : State) : Result := s.vec16 d a shl32
/-- `shr` in its 16-bit form (R212). -/
def execShr16 (d a : Nat) (s : State) : Result := s.vec16 d a shr32
/-- `sar` in its 16-bit form (R212). -/
def execSar16 (d a : Nat) (s : State) : Result := s.vec16 d a sar32
/-- `imin` in its 16-bit form (R212). -/
def execImin16 (d a : Nat) (s : State) : Result := s.vec16 d a minI
/-- `imax` in its 16-bit form (R212). -/
def execImax16 (d a : Nat) (s : State) : Result := s.vec16 d a maxI

end Sys2Proof.Machine
end

