-- ==== Sys2Proof/Machine/Float.lean ====
section
/-! DEFINITION. Floating-point values and rounding (spec/10, R191 to R208; R264 to R271): exact values are a sign, a
natural significand and a binary exponent; every result is formed exactly, or with a sticky mark for what lies below
the last digit, and rounded once. -/

namespace Sys2Proof.Machine

/-- The exceptions of R203 as bits: invalid, divide-by-zero, overflow, underflow, inexact. -/
abbrev Flags := BitVec 5

/-- Invalid. -/
def fInv : Flags := 1
/-- Divide-by-zero. -/
def fDivz : Flags := 2
/-- Overflow and inexact. -/
def fOvf : Flags := 0b10100
/-- Underflow and inexact. -/
def fUnf : Flags := 0b11000
/-- Inexact. -/
def fInex : Flags := 0b10000

/-- A format: exponent and significand field widths (R191). -/
structure Fmt where
  eb : Nat
  mb : Nat
  deriving DecidableEq, Repr

/-- FP64. -/
def f64 : Fmt := ⟨11, 52⟩
/-- FP32. -/
def f32 : Fmt := ⟨8, 23⟩
/-- BF16. -/
def bf16 : Fmt := ⟨8, 7⟩
/-- FP16. -/
def f16 : Fmt := ⟨5, 10⟩

/-- The bias. -/
def Fmt.bias (f : Fmt) : Int := 2 ^ (f.eb - 1) - 1
/-- The exponent of the last digit of a subnormal. -/
def Fmt.emin (f : Fmt) : Int := 1 - f.bias - f.mb
/-- The default NaN (R191, R193). -/
def Fmt.nan (f : Fmt) : Nat := (2 ^ f.eb - 1) * 2 ^ f.mb + 2 ^ (f.mb - 1)
/-- An infinity. -/
def Fmt.inf (f : Fmt) (neg : Bool) : Nat := (if neg then 2 ^ (f.eb + f.mb) else 0) + (2 ^ f.eb - 1) * 2 ^ f.mb
/-- A zero. -/
def Fmt.zero (f : Fmt) (neg : Bool) : Nat := if neg then 2 ^ (f.eb + f.mb) else 0
/-- The largest finite value of a sign. -/
def Fmt.maxFin (f : Fmt) (neg : Bool) : Nat := f.inf neg - 1

/-- A value: a NaN (signalling or not), an infinity, or (-1)^neg * m * 2^e. -/
inductive FVal where
  | nan (sig : Bool)
  | inf (neg : Bool)
  | fin (neg : Bool) (m : Nat) (e : Int)
  deriving DecidableEq, Repr

/-- The value of a code (R191, R193). -/
def Fmt.dec (f : Fmt) (x : Nat) : FVal :=
  let neg := x / 2 ^ (f.eb + f.mb) % 2 == 1
  let e := x / 2 ^ f.mb % 2 ^ f.eb
  let m := x % 2 ^ f.mb
  if e = 2 ^ f.eb - 1 then (if m = 0 then .inf neg else .nan (decide (m < 2 ^ (f.mb - 1))))
  else if e = 0 then .fin neg m f.emin
  else .fin neg (2 ^ f.mb + m) (e - f.bias - f.mb)

/-- The code is subnormal. -/
def Fmt.isSub (f : Fmt) (x : Nat) : Bool := x / 2 ^ f.mb % 2 ^ f.eb == 0 && x % 2 ^ f.mb != 0

/-- A source operand with input flush (R201). -/
def Fmt.decIn (f : Fmt) (flush : Bool) (x : Nat) : FVal :=
  if flush && f.isSub x then .fin (x / 2 ^ (f.eb + f.mb) % 2 == 1) 0 0 else f.dec x

/-- A NaN. -/
def FVal.isNan : FVal → Bool
  | .nan _ => true
  | _ => false
/-- A signalling NaN. -/
def FVal.isSig : FVal → Bool
  | .nan s => s
  | _ => false
/-- The sign. -/
def FVal.neg : FVal → Bool
  | .nan _ => false
  | .inf n => n
  | .fin n _ _ => n
/-- A zero. -/
def FVal.isZero : FVal → Bool
  | .fin _ 0 _ => true
  | _ => false

/-- The rounding modes of R199. -/
inductive RM where
  | rne | rtz | rdn | rup
  deriving DecidableEq, Repr

/-- The mode of a code. -/
def RM.of (n : Nat) : RM :=
  match n % 4 with
  | 0 => .rne | 1 => .rtz | 2 => .rdn | _ => .rup

/-- The number of binary digits. -/
def nbits (m : Nat) : Nat := if m = 0 then 0 else m.log2 + 1

/-- m * 2^(-sh) rounded to a natural number in a mode, and whether that is inexact. `st` marks a part of the value
below the last digit of m. -/
def roundShift (rm : RM) (neg : Bool) (m : Nat) (st : Bool) (sh : Int) : Nat × Bool :=
  if sh ≤ 0 then (m * 2 ^ (-sh).toNat, st)
  else
    let k := sh.toNat
    let q := m / 2 ^ k
    let r := m % 2 ^ k
    let inex := r != 0 || st
    let up : Bool :=
      match rm with
      | .rne => let h := 2 ^ (k - 1); decide (h < r) || (r == h && (st || q % 2 == 1))
      | .rtz => false
      | .rdn => neg && inex
      | .rup => !neg && inex
    (if up then q + 1 else q, inex)

/-- A result and its exceptions. -/
structure FRes where
  bits : Nat
  flags : Flags
  deriving DecidableEq, Repr

/-- The default NaN with an invalid exception if asked. -/
def Fmt.nanRes (f : Fmt) (inv : Bool) : FRes := ⟨f.nan, if inv then fInv else 0⟩

/-- The overflow result of R202. -/
def Fmt.ovf (f : Fmt) (rm : RM) (neg : Bool) : FRes :=
  let toInf : Bool :=
    match rm with
    | .rne => true | .rtz => false | .rdn => neg | .rup => !neg
  ⟨if toInf then f.inf neg else f.maxFin neg, fOvf⟩

/-- Round (-1)^neg * m * 2^e (with a sticky mark) to a format once (R202), with tininess after rounding (R203) and
result flush (R201). With a sticky mark m must have more than `mb + 2` digits. -/
def Fmt.round (f : Fmt) (rm : RM) (flush : Bool) (neg : Bool) (m : Nat) (e : Int) (st : Bool) : FRes :=
  if m = 0 then ⟨f.zero neg, if st then fInex else 0⟩
  else
    let sh : Int := (nbits m : Int) - (f.mb + 1)
    let (q, inex) := roundShift rm neg m st sh
    let (q, ex) := if q = 2 ^ (f.mb + 1) then (2 ^ f.mb, e + sh + 1) else (q, e + sh)
    let sign := f.zero neg
    if ex < f.emin then
      if flush then ⟨sign, fUnf⟩
      else
        let (g, gi) := roundShift rm neg m st (f.emin - e)
        ⟨sign + g, if gi then fUnf else 0⟩
    else
      let be := ex - f.emin + 1
      if 2 ^ f.eb - 1 ≤ be then f.ovf rm neg
      else ⟨sign + be.toNat * 2 ^ f.mb + (q - 2 ^ f.mb), if inex then fInex else 0⟩

/-- Round a value to a format; a NaN gives the default NaN, invalid if signalling. -/
def Fmt.ofVal (f : Fmt) (rm : RM) (flush : Bool) (v : FVal) : FRes :=
  match v with
  | .nan s => f.nanRes s
  | .inf n => ⟨f.inf n, 0⟩
  | .fin n m e => f.round rm flush n m e false

/-- A finite value as an integer at exponent `at_`, which is at most its own. -/
def scaled (neg : Bool) (m : Nat) (e at_ : Int) : Int :=
  let x : Int := m * 2 ^ (e - at_).toNat
  if neg then -x else x

/-- The exact sum of two values: special cases and the sign of a zero sum (R264). -/
def addVal (rm : RM) (a b : FVal) : Except Bool FVal :=
  match a, b with
  | .nan s, y => .error (s || y.isSig)
  | x, .nan s => .error (s || x.isSig)
  | .inf x, .inf y => if x = y then .ok (.inf x) else .error true
  | .inf x, .fin _ _ _ => .ok (.inf x)
  | .fin _ _ _, .inf y => .ok (.inf y)
  | .fin n m e, .fin n' m' e' =>
    let lo := min e e'
    let v := scaled n m e lo + scaled n' m' e' lo
    if v = 0 then
      let neg := if m = 0 ∧ m' = 0 ∧ n = n' then n else decide (rm = .rdn)
      .ok (.fin neg 0 0)
    else .ok (.fin (decide (v < 0)) v.natAbs lo)

/-- The negated value. -/
def FVal.negate : FVal → FVal
  | .nan s => .nan s
  | .inf n => .inf (!n)
  | .fin n m e => .fin (!n) m e

/-- The exact product (R264); an error says whether it is invalid. -/
def mulVal (a b : FVal) : Except Bool FVal :=
  match a, b with
  | .nan s, y => .error (s || y.isSig)
  | x, .nan s => .error (s || x.isSig)
  | .inf x, .inf y => .ok (.inf (x != y))
  | .inf x, .fin n m _ => if m = 0 then .error true else .ok (.inf (x != n))
  | .fin n m _, .inf y => if m = 0 then .error true else .ok (.inf (n != y))
  | .fin n m e, .fin n' m' e' => .ok (.fin (n != n') (m * m') (e + e'))

/-- A value or a NaN result, rounded. -/
def Fmt.finish (f : Fmt) (rm : RM) (flush : Bool) (r : Except Bool FVal) : FRes :=
  match r with
  | .error inv => f.nanRes inv
  | .ok v => f.ofVal rm flush v

/-- `fadd` (R264). -/
def Fmt.add (f : Fmt) (rm : RM) (flush : Bool) (a b : FVal) : FRes := f.finish rm flush (addVal rm a b)
/-- The exact difference a - b in mode `rm` (R264). DEDUCED, log 100: the rule's test for zeros of
one sign is read on the operands a and b as they stand, so that -0 - -0 keeps its sign. -/
def subVal (rm : RM) (a b : FVal) : Except Bool FVal :=
  match a, b with
  | .fin n 0 _, .fin n' 0 _ => .ok (.fin (if n = n' then n else decide (rm = .rdn)) 0 0)
  | x, y => addVal rm x y.negate
/-- `fsub` (R264). -/
def Fmt.sub (f : Fmt) (rm : RM) (flush : Bool) (a b : FVal) : FRes := f.finish rm flush (subVal rm a b)
/-- `fmul` (R264). -/
def Fmt.mul (f : Fmt) (rm : RM) (flush : Bool) (a b : FVal) : FRes := f.finish rm flush (mulVal a b)

/-- `ffma`: c + a * b with one rounding (R265). -/
def Fmt.fma (f : Fmt) (rm : RM) (flush : Bool) (c a b : FVal) : FRes :=
  match mulVal a b with
  | .error inv => f.nanRes (inv || c.isSig)
  | .ok p => f.finish rm flush (addVal rm c p)

/-- The quotient of two finite non-zero significands with enough digits, and its sticky mark. -/
def divSig (p m m' : Nat) (e e' : Int) : Nat × Int × Bool :=
  let k := p + 3 + nbits m'
  let x := m * 2 ^ k
  (x / m', e - e' - k, x % m' != 0)

/-- `fdiv` (R264). -/
def Fmt.div (f : Fmt) (rm : RM) (flush : Bool) (a b : FVal) : FRes :=
  match a, b with
  | .nan s, y => f.nanRes (s || y.isSig)
  | x, .nan s => f.nanRes (s || x.isSig)
  | .inf _, .inf _ => f.nanRes true
  | .inf x, .fin n _ _ => ⟨f.inf (x != n), 0⟩
  | .fin n _ _, .inf y => ⟨f.zero (n != y), 0⟩
  | .fin n m e, .fin n' m' e' =>
    if m' = 0 then (if m = 0 then f.nanRes true else ⟨f.inf (n != n'), fDivz⟩)
    else if m = 0 then ⟨f.zero (n != n'), 0⟩
    else
      let (q, eq, st) := divSig (f.mb + 1) m m' e e'
      f.round rm flush (n != n') q eq st

/-- The integer square root, one binary digit at a time from digit `i - 1` down. -/
def isqrtFrom (n : Nat) : Nat → Nat → Nat
  | 0, r => r
  | i + 1, r => isqrtFrom n i (if (r + 2 ^ i) * (r + 2 ^ i) ≤ n then r + 2 ^ i else r)

/-- The integer square root. -/
def isqrt (n : Nat) : Nat := isqrtFrom n (nbits n / 2 + 1) 0

/-- `fsqrt` (R264). -/
def Fmt.sqrt (f : Fmt) (rm : RM) (flush : Bool) (a : FVal) : FRes :=
  match a with
  | .nan s => f.nanRes s
  | .inf n => if n then f.nanRes true else ⟨f.inf false, 0⟩
  | .fin n m e =>
    if m = 0 then ⟨f.zero n, 0⟩
    else if n then f.nanRes true
    else
      let k := 2 * (f.mb + 3)
      let k := if (e - k) % 2 = 0 then k else k + 1
      let x := m * 2 ^ k
      let q := isqrt x
      f.round rm flush false q ((e - k) / 2) (q * q != x)

/-- a < b for values that are not NaNs. -/
def FVal.lt (a b : FVal) : Bool :=
  match a, b with
  | .nan _, _ => false
  | _, .nan _ => false
  | .inf x, .inf y => x && !y
  | .inf x, .fin _ _ _ => x
  | .fin _ _ _, .inf y => !y
  | .fin n m e, .fin n' m' e' =>
    let lo := min e e'
    decide (scaled n m e lo < scaled n' m' e' lo)

/-- a = b as values: zeros are equal, a NaN equals nothing. -/
def FVal.eqv (a b : FVal) : Bool := !a.isNan && !b.isNan && !a.lt b && !b.lt a

/-- The order of `fmin` and `fmax`: -0 below +0 (R266). -/
def FVal.ltZ (a b : FVal) : Bool := a.lt b || (a.isZero && b.isZero && a.neg && !b.neg)

/-- `fmin` (`mx` false) and `fmax` (R266). -/
def Fmt.minmax (f : Fmt) (mx flush : Bool) (a b : FVal) : FRes :=
  let inv : Flags := if a.isSig || b.isSig then fInv else 0
  let r :=
    if a.isNan && b.isNan then a
    else if a.isNan then b
    else if b.isNan then a
    else if mx then (if a.ltZ b then b else a) else (if b.ltZ a then b else a)
  match r with
  | .nan _ => ⟨f.nan, inv⟩
  | .inf n => ⟨f.inf n, inv⟩
  | .fin n m e =>
    let r := f.round .rne flush n m e false
    ⟨r.bits, inv ||| r.flags⟩

/-- `fclass` (R268). -/
def Fmt.classify (f : Fmt) (x : Nat) : Nat :=
  match f.dec x with
  | .nan s => if s then 2 ^ 8 else 2 ^ 9
  | .inf n => if n then 2 ^ 0 else 2 ^ 7
  | .fin n m _ =>
    if m = 0 then (if n then 2 ^ 3 else 2 ^ 4)
    else if m < 2 ^ f.mb then (if n then 2 ^ 2 else 2 ^ 5)
    else (if n then 2 ^ 1 else 2 ^ 6)

/-- A finite value rounded to an integer in a mode: magnitude and inexactness. -/
def toIntegral (rm : RM) (neg : Bool) (m : Nat) (e : Int) : Nat × Bool := roundShift rm neg m false (-e)

/-- `fround` (R270). -/
def Fmt.fround (f : Fmt) (rm : RM) (a : FVal) : FRes :=
  match a with
  | .nan s => f.nanRes s
  | .inf n => ⟨f.inf n, 0⟩
  | .fin n m e =>
    let (q, inex) := toIntegral rm n m e
    ⟨(f.round .rne false n q 0 false).bits, if inex then fInex else 0⟩

/-- A value to an integer between two bounds, saturating (R206, R271). -/
def toInt (rm : RM) (lo hi : Int) (a : FVal) : Int × Flags :=
  match a with
  | .nan _ => (0, fInv)
  | .inf n => (if n then lo else hi, fInv)
  | .fin n m e =>
    let (q, inex) := toIntegral rm n m e
    let v : Int := if n then -(q : Int) else q
    if v < lo then (lo, fInv) else if hi < v then (hi, fInv) else (v, if inex then fInex else 0)

/-! ### Approximations, rounded to nearest even (R269) -/

/-- `frcp` (R269). -/
def frcpVal (flush : Bool) (a : FVal) : FRes :=
  match a with
  | .nan s => f32.nanRes s
  | .inf n => ⟨f32.zero n, 0⟩
  | .fin n m e =>
    if m = 0 then ⟨f32.inf n, fDivz⟩
    else
      let (q, eq, st) := divSig 24 1 m 0 e
      f32.round .rne flush n q eq st

/-- `frsq` (R269). -/
def frsqVal (flush : Bool) (a : FVal) : FRes :=
  match a with
  | .nan s => f32.nanRes s
  | .inf n => if n then f32.nanRes true else ⟨0, 0⟩
  | .fin n m e =>
    if m = 0 then ⟨f32.inf n, fDivz⟩
    else if n then f32.nanRes true
    else
      let (m, e) := if e % 2 = 0 then (m, e) else (2 * m, e - 1)
      let k := nbits m + 60
      let x := 2 ^ (2 * k)
      let q := isqrt (x / m)
      f32.round .rne flush false q (-e / 2 - k) (q * q * m != x)

/-- The fraction digits of the fixed-point work of `fexp2` and `flog2` (log 11). -/
def fxBits : Nat := 240

/-- ln 2 with `fxBits` fraction digits, by the series of atanh (1/3). -/
def ln2Fx : Nat :=
  ((List.range 80).map (fun i => 2 ^ (fxBits + 1) / ((2 * i + 1) * 3 ^ (2 * i + 1)))).sum

/-- The exponential series of a fixed-point x below 1: n terms left, the k-th term and the sum so far. -/
def expSeries (x : Nat) : Nat → Nat → Nat → Nat → Nat
  | 0, _, _, acc => acc
  | n + 1, k, term, acc =>
    let t := term * x / 2 ^ fxBits / k
    expSeries x n (k + 1) t (acc + t)

/-- `fexp2` (R269). -/
def fexp2Val (flush : Bool) (a : FVal) : FRes :=
  match a with
  | .nan s => f32.nanRes s
  | .inf n => if n then ⟨0, 0⟩ else ⟨f32.inf false, 0⟩
  | .fin n m e =>
    let fx : Int := scaled n m e (-200)
    let k := fx / 2 ^ 200
    let fr := (fx % 2 ^ 200).toNat
    if 8 < e + (nbits m : Int) then (if n then f32.round .rne flush false (2 ^ 40) (-1000) true else ⟨f32.inf false, fOvf⟩)
    else if fr = 0 then f32.round .rne flush false 1 k false
    else
      let x := fr * ln2Fx / 2 ^ 200
      let y := expSeries x 60 1 (2 ^ fxBits) (2 ^ fxBits)
      f32.round .rne flush false (y / 2 ^ 100) (k - (fxBits - 100)) true

/-- The binary digits of log2 of a fixed-point number between 1 and 2. -/
def log2Digits : Nat → Nat → Nat → Nat
  | 0, _, acc => acc
  | n + 1, x, acc =>
    let y := x * x / 2 ^ fxBits
    if 2 ^ (fxBits + 1) ≤ y then log2Digits n (y / 2) (2 * acc + 1) else log2Digits n y (2 * acc)

/-- `flog2` (R269). -/
def flog2Val (flush : Bool) (a : FVal) : FRes :=
  match a with
  | .nan s => f32.nanRes s
  | .inf n => if n then f32.nanRes true else ⟨f32.inf false, 0⟩
  | .fin n m e =>
    if m = 0 then ⟨f32.inf true, fDivz⟩
    else if n then f32.nanRes true
    else
      let k : Int := e + (nbits m : Int) - 1
      if m = 2 ^ (nbits m - 1) then f32.round .rne flush (decide (k < 0)) k.natAbs 0 false
      else
        let x := m * 2 ^ (fxBits - (nbits m - 1))
        let v : Int := k * 2 ^ 100 + log2Digits 100 x 0
        if v < 0 then f32.round .rne flush true (-v - 1).toNat (-100) true
        else f32.round .rne flush false v.toNat (-100) true

/-! ### Narrow formats (R194 to R197, R205, R206) -/

/-- A narrow format word (R194). -/
structure NFmt where
  w : Nat
  e : Nat
  signed : Bool
  inf : Bool
  nan : Bool
  bias : Int
  deriving DecidableEq, Repr

/-- The fields of a format word (R194). -/
def NFmt.of (fw : W32) : NFmt :=
  let n := fw.toNat
  let b : Nat := n / 2 ^ 16 % 256
  { w := n % 16, e := n / 16 % 16, signed := fw.getLsbD 8, inf := fw.getLsbD 9, nan := fw.getLsbD 10,
    bias := if b < 128 then (b : Int) else (b : Int) - 256 }

/-- The significand bits. -/
def NFmt.m (f : NFmt) : Nat := f.w - (if f.signed then 1 else 0) - f.e

/-- R195. -/
def nfValid (fw : W32) : Bool :=
  let f := NFmt.of fw
  let n := fw.toNat
  n / 2 ^ 24 == 0 && n / 2 ^ 11 % 32 == 0 && decide (2 ≤ f.w ∧ f.w ≤ 8) && decide (f.e ≤ f.w - 1) &&
    !(f.e == 0 && (f.inf || f.nan || f.bias != 0)) && !(f.inf && f.nan && f.m == 0)

/-- `dec` of R196. A narrow NaN is not signalling. -/
def NFmt.dec (f : NFmt) (code : Nat) : FVal :=
  let c := code % 2 ^ f.w
  if f.e = 0 then
    if f.signed ∧ 2 ^ (f.w - 1) ≤ c then .fin true (2 ^ f.w - c) 0 else .fin false c 0
  else
    let neg := f.signed && c / 2 ^ (f.w - 1) == 1
    let ex := c / 2 ^ f.m % 2 ^ f.e
    let mm := c % 2 ^ f.m
    let allones := ex == 2 ^ f.e - 1 && mm == 2 ^ f.m - 1
    if f.inf && f.nan && ex == 2 ^ f.e - 1 then (if mm = 0 then .inf neg else .nan false)
    else if f.inf && !f.nan && allones then .inf neg
    else if !f.inf && f.nan && allones then .nan false
    else if ex = 0 then .fin neg mm (1 - f.bias - f.m)
    else .fin neg (2 ^ f.m + mm) (ex - f.bias - f.m)

/-- The code is a subnormal of a float format. -/
def NFmt.isSub (f : NFmt) (code : Nat) : Bool :=
  f.e != 0 && code / 2 ^ f.m % 2 ^ f.e == 0 && code % 2 ^ f.m != 0 &&
    (match f.dec code with | .fin _ _ _ => true | _ => false)

/-- `dec` with input flush of the narrow class (R201). -/
def NFmt.decIn (f : NFmt) (flush : Bool) (code : Nat) : FVal :=
  match f.dec code with
  | .fin n m e => if flush && f.isSub code then .fin n 0 0 else .fin n m e
  | v => v

/-- The code of the largest finite magnitude (R196). -/
def NFmt.maxCode (f : NFmt) : Nat :=
  if f.inf && f.nan then (2 ^ f.e - 1) * 2 ^ f.m - 1
  else if f.inf || f.nan then 2 ^ (f.e + f.m) - 2
  else 2 ^ (f.e + f.m) - 1

/-- The code of an infinity (R205). -/
def NFmt.infCode (f : NFmt) : Nat := if f.nan then (2 ^ f.e - 1) * 2 ^ f.m else 2 ^ (f.e + f.m) - 1

/-- The sign bit of a code. -/
def NFmt.signBit (f : NFmt) (neg : Bool) : Nat := if f.signed && neg then 2 ^ (f.w - 1) else 0

/-- `to_narrow` of a value into a narrow float format (R205). -/
def NFmt.ofVal (f : NFmt) (rm : RM) (flush : Bool) (x : FVal) : FRes :=
  match x with
  | .nan s => if f.nan then ⟨2 ^ (f.e + f.m) - 1, if s then fInv else 0⟩ else ⟨0, fInv⟩
  | .inf n =>
    if n && !f.signed then ⟨0, fInv ||| fInex⟩
    else if f.inf then ⟨f.signBit n + f.infCode, 0⟩
    else ⟨f.signBit n + f.maxCode, fOvf⟩
  | .fin n m e =>
    if m = 0 then ⟨f.signBit n, 0⟩
    else if n && !f.signed then ⟨0, fInv ||| fInex⟩
    else
      let emin : Int := 1 - f.bias - f.m
      let sh : Int := (nbits m : Int) - (f.m + 1)
      let (q, inex) := roundShift rm n m false sh
      let ex := if q = 2 ^ (f.m + 1) then e + sh + 1 else e + sh
      let q := if q = 2 ^ (f.m + 1) then 2 ^ f.m else q
      if ex < emin then
        let (g, gi) := roundShift rm n m false (emin - e)
        if f.maxCode < g then ⟨f.signBit n + f.maxCode, fOvf⟩
        else if flush then ⟨f.signBit n, fUnf⟩
        else ⟨f.signBit n + g, if gi then fUnf else 0⟩
      else
        let code := (ex - emin + 1).toNat * 2 ^ f.m + (q - 2 ^ f.m)
        if f.maxCode < code then ⟨f.signBit n + f.maxCode, fOvf⟩
        else ⟨f.signBit n + code, if inex then fInex else 0⟩

/-- A value into a narrow format: R205, or R206 for a narrow integer. -/
def NFmt.narrow (f : NFmt) (rm : RM) (flush : Bool) (x : FVal) : FRes :=
  if f.e = 0 then
    let lo : Int := if f.signed then -(2 ^ (f.w - 1)) else 0
    let hi : Int := if f.signed then 2 ^ (f.w - 1) - 1 else 2 ^ f.w - 1
    let (v, fl) := toInt rm lo hi x
    ⟨(v % 2 ^ f.w).toNat, fl⟩
  else f.ofVal rm flush x

end Sys2Proof.Machine
end

