-- ==== Sys2Proof/Machine/Flags.lean ====
section
/-! DEFINITION. The FP mode word and the flag rule every floating-point lane follows (R182, R199 to R203). -/

namespace Sys2Proof.Machine

/-- The classes flushing applies by (R201). -/
inductive FClass where
  | c64 | c32 | c16 | narrow
  deriving DecidableEq, Repr

/-- The offset of a class in the flush fields. -/
def FClass.ix : FClass → Nat
  | .c64 => 0 | .c32 => 1 | .c16 => 2 | .narrow => 3

/-- The bits a mode word keeps (R199): RSV bits read as zero. -/
def modeMask : W32 := 0x001F0FF3

/-- The rounding mode (R199). -/
def Team.rm (t : Team) : RM := RM.of t.fpmode.toNat
/-- Input flush of a class (R201). -/
def Team.iflush (t : Team) (c : FClass) : Bool := t.fpmode.getLsbD (4 + c.ix)
/-- Result flush of a class (R201). -/
def Team.rflush (t : Team) (c : FClass) : Bool := t.fpmode.getLsbD (8 + c.ix)
/-- The trap enables (R199). -/
def Team.traps (t : Team) : Flags := t.fpmode.extractLsb' 16 5

/-- R182: a lane that raises an enabled exception faults with the mask of all it raised; otherwise it has its result and
its flags. -/
def Team.fpLane (t : Team) (r : FRes) : LaneRes :=
  if r.flags &&& t.traps ≠ 0 then .error ⟨0x11, r.flags.toNat, 0⟩ else .ok ⟨BitVec.ofNat 64 r.bits, r.flags⟩

/-- An FP32 source of a lane, with input flush. -/
def Team.f32src (t : Team) (x : VSrc) (l : Nat) : FVal := f32.decIn (t.iflush .c32) (t.src x l).toNat
/-- An FP32 destination register read as an operand. -/
def Team.f32reg (t : Team) (k l : Nat) : FVal := f32.decIn (t.iflush .c32) (t.vreg k l).toNat
/-- An FP64 operand of a lane, with input flush. -/
def Team.f64pair (t : Team) (k l : Nat) : FVal := f64.decIn (t.iflush .c64) (t.pair k l).toNat

end Sys2Proof.Machine
end

