-- ==== Sys2Proof/Machine/Mem.lean ====
section
/-! DEFINITION. Physical memory in its canonical form, the physical map (R61, R67), homes (R76, R77), the logical-time
cache (R81) and the stores a core has not yet performed (R100). -/

namespace Sys2Proof.Machine

/-! ### Bytes at their home -/

/-- The byte at a physical address: an unlisted address reads as 0 (log 5). -/
def memGet (m : List Host.Cell) (a : Nat) : Byte := tabGet 0 m a

/-- A write of one byte. Writing 0 removes the entry. -/
def memSet (m : List Host.Cell) (a : Nat) (b : Byte) : List Host.Cell := if b = 0 then tabErase m a else tabSet m a b

/-- Addresses strictly rise from `lo`, and no entry is 0. -/
def memWfFrom (lo : Nat) (m : List Host.Cell) : Bool :=
  match m with
  | [] => true
  | (a, b) :: t => decide (lo ≤ a) && b != 0 && memWfFrom (a + 1) t

/-- The canonical form of a memory: addresses strictly rise and no entry equals what an unlisted address reads as. -/
def Memory.wf (m : List Host.Cell) : Bool := memWfFrom 0 m

/-- A list of bytes written from an address upward. -/
def memSetAll (m : List Host.Cell) (a : Nat) (bs : List Byte) : List Host.Cell :=
  match bs with
  | [] => m
  | b :: t => memSetAll (memSet m a b) (a + 1) t

/-- n bytes from an address as a number, the lowest address least significant (R10). -/
def leRead (f : Nat → Byte) (a n : Nat) : Nat :=
  match n with
  | 0 => 0
  | n + 1 => (f a).toNat + 256 * leRead f (a + 1) n

/-- The n bytes of a number, least significant first (R10). -/
def leBytes (n x : Nat) : List Byte :=
  match n with
  | 0 => []
  | n + 1 => BitVec.ofNat 8 (x % 256) :: leBytes n (x / 256)

/-- A 64-bit word of physical storage at its home. -/
def State.memWord (s : State) (a : Nat) : Nat := leRead (memGet s.mem) a 8

/-- The state with bytes written at their home. -/
def State.memWrite (s : State) (a : Nat) (bs : List Byte) : State := { s with mem := memSetAll s.mem a bs }

/-- The state with a 64-bit word written at its home. -/
def State.memPutWord (s : State) (a : Nat) (x : W64) : State := s.memWrite a (leBytes 8 x.toNat)

/-! ### The physical map -/

/-- The regions of R61. -/
inductive Region where
  | hbm
  | cxl (port : Nat)
  | pod
  | host
  | window (core off : Nat)
  | devreg (off : Nat)
  | rsv
  deriving DecidableEq, Repr

/-- The region of a physical address (R61). -/
def regionOf (pa : Nat) : Region :=
  if pa < 0x8000000000 then .hbm
  else if pa < 0x1000000000000 then .rsv
  else if pa < 0x4000000000000 then .cxl (pa / 0x1000000000000)
  else if pa < 0x8000000000000 then .pod
  else if pa < 0xF000000000000 then .host
  else if pa < 0xF000100000000 then .window ((pa - 0xF000000000000) / 0x1000000) (pa % 0x1000000)
  else .devreg (pa - 0xF000100000000)

/-- The base of core c's on-chip window (R9). -/
def windowBase (c : Nat) : Nat := 0xF000000000000 + c * 0x1000000

/-- The ranges of a window (R67). -/
inductive WinRange where
  | regFile | scratch | tile | tileTable | place | slot | hole
  deriving DecidableEq, Repr

/-- The range of a window offset (R67). -/
def winRange (off : Nat) : WinRange :=
  if off < 0x100000 then .regFile
  else if 0x400000 ≤ off ∧ off < 0x480000 then .scratch
  else if 0x600000 ≤ off ∧ off < 0x680000 then .tile
  else if 0x800000 ≤ off ∧ off < 0x801000 then .tileTable
  else if 0x900000 ≤ off ∧ off < 0x908000 then .place
  else if 0x980000 ≤ off ∧ off < 0x9A0000 then .slot
  else .hole

/-- The XOR of the k-bit fields of x (R77). -/
def foldk (k x : Nat) : Nat := (List.range (64 / k + 1)).foldl (fun r i => r ^^^ (x / 2 ^ (k * i) % 2 ^ k)) 0

/-- Registers of the `XLT_` block (R387): IBU and LEASEM1 have reset values. -/
def State.xltReg (s : State) (off : Nat) : W64 :=
  tabGet (if off = 0 then BitVec.ofNat 64 (64 * 2 ^ 32 + 255 * 2 ^ 16) else 0) s.xlt off

/-- The interleave bound IB (R76, R387). -/
def State.ib (s : State) : Nat := (s.xltReg 0).toNat / 2 ^ 32 % 128 * 2 ^ 33

/-- LEASE (R81, R387). -/
def State.lease (s : State) : Nat := (s.xltReg 0).toNat / 2 ^ 16 % 2 ^ 16 + 1

/-- The stack of an HBM address (R76), and whether the address is near. -/
def State.stackOf (s : State) (pa : Nat) : Nat × Bool :=
  if pa < s.ib then ((pa / 4096 % 8) ^^^ foldk 3 (pa / 4096 / 8), false)
  else ((pa - s.ib) / ((0x8000000000 - s.ib) / 8), true)

/-- The home slice of a line, as a gang number (R77). R78 names no slice as the local stamp authority of host memory: the model takes
slice 0 (DESIGN CHOICE, log 104). -/
def State.homeOf (s : State) (pa : Nat) : Nat :=
  let u := pa / 4096
  match regionOf pa with
  | .hbm =>
    let (st, near) := s.stackOf pa
    4 * st + (if near then foldk 2 u else foldk 2 (u / 8))
  | .cxl _ => 4 * foldk 3 u + foldk 2 (u / 8)
  | _ => 0

/-- The gang of a core (R14). -/
def gangOf (c : Nat) : Nat := c / 8
/-- The stack group of a core (R14). -/
def stackGroupOf (c : Nat) : Nat := c / 32
/-- The die of a core: 64 cores each (R14). -/
def dieOf (c : Nat) : Nat := c / 64
/-- The die of a home slice (R77). -/
def sliceDie (g : Nat) : Nat := g / 8

/-- A line is poisoned (R432): marked itself, or homed on a fenced die and not restored since (R103, R434). -/
def State.poisoned (s : State) (line : Nat) : Bool :=
  s.poison.contains line ||
    (match regionOf (line * 128) with
     | .hbm | .cxl _ => !s.fenced.isEmpty && s.fenced.contains (sliceDie (s.homeOf (line * 128))) && !s.restored.contains line
     | _ => false)

/-- An access to expansion memory finds nothing there (R362): it lies beyond the capacity of the port's device, which is 0 where
none is attached, or the port is fenced off (R103) or its link is down (log 89). -/
def State.cxlHole (s : State) (pa : Nat) : Bool :=
  match regionOf pa with
  | .cxl port =>
    decide (Config.expansionBytes port ≤ pa % 0x1000000000000) || s.fenced.contains (120 + port) || s.fenced.contains (116 + port)
  | _ => false

/-- A 64-bit word that a unit of the device reads at a physical address: nothing is read where there is nothing (R362) and where the line
is poisoned (R432; log 89). -/
def State.unitWord (s : State) (a : Nat) : Nat := if s.cxlHole a || s.poisoned (a / 128) then 0 else s.memWord a

/-! ### The directory (R66, R78 to R80) -/

/-- The sectors, by number, at which a directory entry that covers an address may begin, widest grain first (R79). -/
def dirKeys (pa : Nat) : List Nat := [pa / 512 * 16, pa / 128 * 4, pa / 32]

/-- The entry that begins at sector k covers an address (R79). -/
def DirEntry.covers (d : DirEntry) (k pa : Nat) : Bool := decide (k * 32 ≤ pa) && decide (pa < k * 32 + d.grain)

/-- The directory entry that covers an address, with the sector it begins at. The entry made first governs (R80). -/
def State.dirAt (s : State) (pa : Nat) : Option (Nat × DirEntry) :=
  (dirKeys pa).findSome? (fun k =>
    match tabGet? s.dirs k with
    | some d => if d.covers k pa then some (k, d) else none
    | none => none)

/-- A directory entry of g bytes from sector k on would overlap one that lives. -/
def State.dirTaken (s : State) (k g : Nat) : Bool :=
  s.dirs.any (fun e => decide (e.1 * 32 < k * 32 + g) && decide (k * 32 < e.1 * 32 + e.2.grain))

/-- The grain of a new entry at an address (R80): the grain of the request, or the next smaller one where entries of a smaller
grain live beside the address (log 88). -/
def State.newGrain (s : State) (pa g : Nat) : Nat :=
  ([512, 128].find? (fun x => decide (x ≤ g) && !s.dirTaken (pa / x * x / 32) x)).getD 32

/-- The directory with an entry's holders changed by the access to an address. -/
def State.modDir (s : State) (pa : Nat) (f : DirEntry → DirEntry) : State :=
  match s.dirAt pa with
  | some (k, _) => { s with dirs := tabModify s.dirs k f }
  | none => s

/-- The addresses of the four sectors of a line. -/
def lineSectors (line : Nat) : List Nat := [line * 128, line * 128 + 32, line * 128 + 64, line * 128 + 96]

/-- Die d holds a guest copy of a line whose home is on another die (R78). -/
def State.share (s : State) (d line : Nat) : State :=
  if d = sliceDie (s.homeOf (line * 128)) then s
  else (lineSectors line).foldl (fun s a => s.modDir a (fun e => { e with sharers := e.sharers ||| BitVec.ofNat 4 (2 ^ d) })) s

/-- The dies and the host whose copies must acknowledge invalidation before a store of core c to an address completes, other
than the writer's own die (R78). 16 stands for the host. -/
def State.holdersOf (s : State) (c pa : Nat) : List Nat :=
  match s.dirAt pa with
  | none => []
  | some (_, d) =>
    (List.range 4).filter (fun i => d.sharers.getLsbD i && i != dieOf c) ++ (if d.host then [16] else [])

/-- What names the link from a home's die to a holder in `fenced`: a link between dies, or CXL port 0. -/
def linkCode (home holder : Nat) : Nat := if holder = 16 then 116 else 100 + 4 * min home holder + max home holder

/-- The link from a home to a holder has failed (R103): `fenced` lists the dies that are fenced (0 to 3), the die
links that are down (100 + 4 * d1 + d2, d1 < d2), the CXL ports that are down (116 + p) and those that are fenced (120 + p), and
the UALink ports that are fenced (130 + p). -/
def State.linkDown (s : State) (home holder : Nat) : Bool :=
  s.fenced.contains (linkCode home holder) || (holder == 16 && s.fenced.contains 120)

/-- Whom a store of core c to an address needs an answer from: the holders of its line, and for host memory the host, its home (R78). -/
def State.answerers (s : State) (c pa : Nat) : List Nat := if regionOf pa = .host then [16] else s.holdersOf c pa

/-- The first of them that cannot be reached. -/
def State.unreachable (s : State) (c pa : Nat) : Option Nat :=
  (s.answerers c pa).find? (fun h => s.linkDown (sliceDie (s.homeOf pa)) h)

/-- The directory after every holder but the writer's die gave its copy of a grain back (R78, R79). -/
def State.invalidate (s : State) (c pa : Nat) : State :=
  s.modDir pa (fun d => { d with sharers := d.sharers &&& BitVec.ofNat 4 (2 ^ dieOf c), host := false })

/-- The first sector of a line with a holder that cannot be reached. -/
def State.lineUnreachable (s : State) (c line : Nat) : Option Nat :=
  (lineSectors line).find? (fun a => (s.unreachable c a).isSome)

/-- The directory after a write of a whole line. -/
def State.invalidateLine (s : State) (c line : Nat) : State := (lineSectors line).foldl (fun s a => s.invalidate c a) s

/-- A home starts to wait for the acknowledgement of an unreachable holder (R103). -/
def State.await (s : State) (c pa : Nat) (engine : Option Nat) : State :=
  match s.unreachable c pa with
  | none => s
  | some h =>
    if s.awaited.any (fun w => w.pa / 128 == pa / 128 && w.holder == h && w.engine == engine) then s
    else { s with awaited := s.awaited ++ [⟨pa, h, engine⟩] }

/-- A home starts to wait for the holders of a line. -/
def State.awaitLine (s : State) (c line : Nat) (engine : Option Nat) : State :=
  (lineSectors line).foldl (fun s a => s.await c a engine) s

/-! ### Logical time (R81, R82) -/

/-- The bytes of a line, as listed. -/
def lineCells (m : List Host.Cell) (line : Nat) : List Host.Cell := m.filter (fun c => c.1 / 128 == line)

/-- The floor of a line's home slice (R81). A window has no slice. -/
def State.floorOf (s : State) (line : Nat) : Nat :=
  match regionOf (line * 128) with
  | .hbm | .cxl _ | .host => tabGet 0 s.floors (s.homeOf (line * 128))
  | _ => 0

/-- The stamps of a line: those of an older epoch read as 0 (R82), and a line that the home has not held since takes the floor of
its slice (R81). The owning core's port keeps the stamps of a window's line (R100). -/
def State.stampOf (s : State) (line : Nat) : Stamp :=
  match tabGet? s.stamps line with
  | some st => if st.epoch = s.epoch then st else ⟨0, 0, s.epoch⟩
  | none => ⟨s.floorOf line, s.floorOf line, s.epoch⟩

/-- The state with the stamps of a line. -/
def State.setStamp (s : State) (line wts rts : Nat) : State :=
  { s with stamps := tabSet s.stamps line ⟨wts, rts, s.epoch⟩ }

/-- The bound that starts an epoch change (R82). -/
def epochBound : Nat := 0xFFFF0000

/-- A logical time or a home stamp has reached the bound of R82: the device holds every memory access until the epoch has
changed. -/
def State.epochDue (s : State) : Bool :=
  s.cores.any (fun k => decide (epochBound ≤ k.2.ltime)) || decide (epochBound ≤ s.agentTime) ||
    s.stamps.any (fun e => e.2.epoch == s.epoch && (decide (epochBound ≤ e.2.wts) || decide (epochBound ≤ e.2.rts)))

/-- The largest logical time of any core: what an acquire takes when it synchronises with releases that write no line
(R97, R130). -/
def State.syncTime (s : State) : Nat := (s.cores.map (fun k => k.2.ltime)).foldl max 0

/-- A matrix operation has pinned a line (R148). -/
def State.linePinned (s : State) (line : Nat) : Bool :=
  s.cores.any (fun k => k.2.ops.any (fun o => o.pins.any (fun l => l.pa / 128 == line)))

/-- A slice gives a line up: the largest `rts` it evicted is its floor (R81), and the line's directory entry goes with its copies
(R80). A line whose entry has a holder that cannot be reached stays, and so does one with a lock record, and a pinned one (R148). -/
def State.evictLine (s : State) (line : Nat) : State :=
  let keys := s.dirs.filter (fun e => decide (e.1 * 32 < line * 128 + 128) && decide (line * 128 < e.1 * 32 + e.2.grain))
  if (s.lineUnreachable 1024 line).isSome ∨ s.locks.any (fun r => r.1 / 512 == line / 4) ∨ s.linePinned line then s
  else
    let home := s.homeOf (line * 128)
    let s1 := { s with dirs := s.dirs.filter (fun e => !keys.any (fun k => k.1 == e.1)) }
    match tabGet? s.stamps line, regionOf (line * 128) with
    | some st, .hbm | some st, .cxl _ | some st, .host =>
      { s1 with
        stamps := tabErase s.stamps line,
        floors := if st.epoch = s.epoch then tabSet s.floors home (max (tabGet 0 s.floors home) st.rts) else s.floors }
    | _, _ => s1

/-- A load at the home of a line that leaves no lease: the lease stamp covers the reader's time, the reader's time takes the
write stamp (R81). -/
def State.loadHome (s : State) (c line : Nat) : Nat × State :=
  let st := s.stampOf line
  let k := s.core c
  (st.wts, (s.setStamp line st.wts (max st.rts (max st.wts k.ltime))).setCore c { k with ltime := max k.ltime st.wts })

/-- The stamps of a store by core c to a line at its home (R81). -/
def State.stampStore (s : State) (c line : Nat) : State :=
  let st := s.stampOf line
  let k := s.core c
  let w := max k.ltime (st.rts + 1)
  (s.setStamp line w w).setCore c { k with ltime := w }

/-- The stamps of a write by an agent outside the cores (the host, the front end, the units of the device): above every stamp
such an agent gave and every core's time, so that whatever it writes later is no older to an acquire (R87, R130; log 87). -/
def State.stampAgent (s : State) (line : Nat) : State :=
  let w := max ((s.stampOf line).rts + 1) (max s.syncTime s.agentTime)
  { s.setStamp line w w with agentTime := w }

/-! ### The L1 and the stores a core has accepted (R81, R100) -/

/-- The L1 line a load hits, if any (R81). -/
def State.l1Hit (s : State) (c line : Nat) : Option L1Line :=
  let k := s.core c
  match tabGet? k.l1 line with
  | some l => if l.epoch = s.epoch ∧ k.ltime ≤ l.rts then some l else none
  | none => none

/-- A line a core fetches: the home's lease grows, the L1 takes the line, T advances (R81); a core on another die makes
its die a sharer (R78). -/
def State.l1Fill (s : State) (c line : Nat) : State × L1Line :=
  let k := s.core c
  let st := s.stampOf line
  let rts := max st.rts (max st.wts (k.ltime + s.lease))
  let l : L1Line := { data := lineCells s.mem line, wts := st.wts, rts := rts, epoch := s.epoch }
  let s1 := s.setStamp line st.wts rts
  let k1 := { k with l1 := tabSet k.l1 line l, ltime := max k.ltime st.wts }
  ((s1.setCore c k1).share (dieOf c) line, l)

/-- A pending access covers an address. -/
def PendStore.covers (p : PendStore) (pa : Nat) : Bool := decide (p.pa ≤ pa) && decide (pa < p.pa + p.size)

/-- The byte that the youngest pending access of a team to an address leaves there (R89): none if there is none, or if that access is an
update whose bytes are not known here. -/
def pendByte (st : List PendStore) (uid pa : Nat) : Option Byte :=
  st.foldl (fun r e => if e.team = uid then (tabGet? e.data pa).or (if e.covers pa then none else r) else r) none

/-- A byte as a core's L1 port serves it to a team: a pending store of the team first, then the line. -/
def servedByte (st : List PendStore) (uid : Nat) (data : List Host.Cell) (pa : Nat) : Byte :=
  match pendByte st uid pa with
  | some b => b
  | none => memGet data pa

/-- A byte of memory as a team of core c sees it without moving logical time. -/
def State.coreByte (s : State) (c uid pa : Nat) : Byte :=
  match s.l1Hit c (pa / 128) with
  | some l => servedByte (s.core c).stores uid l.data pa
  | none => servedByte (s.core c).stores uid s.mem pa

/-- Two accesses touch one 32-byte sector. -/
def PendStore.sameSector (p q : PendStore) : Bool :=
  p.data.any (fun a => q.data.any (fun b => a.1 / 32 == b.1 / 32)) ||
    (decide (p.pa / 32 ≤ (q.pa + q.size - 1) / 32) && decide (q.pa / 32 ≤ (p.pa + p.size - 1) / 32))

/-- The place in the queue of the release store that a later plain store of its team may join (R99): it is still open, and the
team has put nothing into its sector since. -/
def mergePoint (st : List PendStore) (p : PendStore) : Option Nat :=
  match ((st.zipIdx).filter (fun e => e.1.team == p.team && e.1.sameSector p)).getLast? with
  | some (w, i) => if w.mayMerge && w.tag.isSome && p.tag.isNone && p.red.isNone && w.stuck.isNone then some i else none
  | none => none

/-- Bytes put over others by address. -/
def overCells (old new : List Host.Cell) : List Host.Cell := new.foldl (fun r c => tabSet r c.1 c.2) old

/-- A store accepted by core c's L1 port (R100), which numbers it (R101). The store buffer may merge it with a release of the team
(R99): the merged entry keeps the release's tag and place, with the later bytes where they overlap; whether it does is free
(DESIGN CHOICE, log 4). -/
def State.acceptStore (s : State) (c : Nat) (p : PendStore) : State :=
  let k := s.core c
  let last : State := s.setCore c { k with stores := k.stores ++ [{ p with no := k.storeNo }], storeNo := k.storeNo + 1 }
  match mergePoint k.stores p with
  | none => last
  | some i =>
    if Config.freeBool s.tick then
      (s.setCore c { k with
        stores := (k.stores.zipIdx).map (fun e => if e.2 = i then { e.1 with data := overCells e.1.data p.data } else e.1) }).draw
    else last.draw

/-- The team's releases in the queue stop merging: an ordering instruction, an atomic or a fence follows (R99). -/
def State.sealStores (s : State) (c uid : Nat) : State :=
  let k := s.core c
  s.setCore c { k with stores := k.stores.map (fun p => if p.team = uid then { p with mayMerge := false } else p) }

/-- The L1 copy of a line that a core holds, if any, takes the home's new line and stamps (R81). The whole line goes with the
stamps, so that no byte another core has written meanwhile stays old under the new lease (R93). -/
def Core.updateLine (k : Core) (line wts rts : Nat) (m : List Host.Cell) : Core :=
  { k with l1 := tabModify k.l1 line (fun l => { l with data := lineCells m line, wts := wts, rts := rts }) }

/-- The core's L1 copy of a line takes what the home holds. -/
def State.refreshL1 (s : State) (c line : Nat) : State :=
  let st := s.stampOf line
  s.setCore c ((s.core c).updateLine line st.wts st.rts s.mem)

/-- The state with cells written at their home. -/
def State.putCells (s : State) (cs : List Host.Cell) : State := cs.foldl (fun s c => s.memWrite c.1 [c.2]) s

/-- Bytes from an address upward as cells. -/
def cellsAt (pa : Nat) (bs : List Byte) : List Host.Cell := bs.zipIdx.map (fun e => (pa + e.2, e.1))

/-- Bytes of core c written at the home of their line with the stamps of R81. -/
def State.storeHome (s : State) (c pa : Nat) (bs : List Byte) : State :=
  ((s.memWrite pa bs).stampStore c (pa / 128)).refreshL1 c (pa / 128)

/-- A pending access performed at its home (R81, R302). Pod memory is not held here. -/
def State.performAt (s : State) (c : Nat) (p : PendStore) : State :=
  if regionOf p.pa = .pod then s
  else
    let s1 := s.invalidate c p.pa
    let s2 :=
      match p.red with
      | some x => s1.memWrite p.pa (leBytes 4 ((leRead (memGet s1.mem) p.pa 4 + x) % 2 ^ 32))
      | none => s1.putCells p.data
    (s2.stampStore c (p.pa / 128)).refreshL1 c (p.pa / 128)

/-- A line is owned by a box in flight of some copy engine (R84, R85). -/
def State.lineOwned (s : State) (line : Nat) : Bool :=
  s.cores.any (fun k => k.2.copies.any (fun c => c.boxes.any (fun b => b.owned.contains line)))

/-- A unit of a box's destination lies in a window (R84). -/
def isWindow (pa : Nat) : Bool := match regionOf pa with | .window _ _ => true | _ => false

/-- A box in flight has marked a byte of a range of a window busy (R84, R85). -/
def State.rangeBusy (s : State) (pa n : Nat) : Bool :=
  s.cores.any (fun k => k.2.copies.any (fun c => c.boxes.any (fun b => b.dst.any (fun p =>
    isWindow p && decide (p < pa + n) && decide (pa < p + b.size)))))

/-- Access p of a queue comes after access q of it: both touch one line (R89), or both are a team's accesses to uncached pages of one
other device (R96). -/
def PendStore.after (p q : PendStore) : Bool :=
  q.pa / 128 == p.pa / 128 || (q.uncached && p.uncached && q.team == p.team && q.pa / 2 ^ 40 == p.pa / 2 ^ 40)

/-- An access of a team of core c never completes (R103, R104). -/
def State.loseAt (s : State) (c : Nat) (l : LostStore) : State :=
  let k := s.core c
  s.setCore c { k with teams := k.teams.map (fun e =>
    if e.2.uid = l.store.team then (e.1, { e.2 with lost := e.2.lost ++ [l] }) else e) }

/-- Perform access i of core c's queue at its home (R81, R100), unless an older one of the queue comes first, a copy engine owns the
line (R85), the epoch changes (R82), or the access waits for an acknowledgement that does not come, which leaves it stuck (R103). On a
line that has been poisoned it is not performed, and its team learns of it as of a store that never completes (R103, R432; log 105). -/
def State.performStore (s : State) (c i : Nat) : State :=
  let k := s.core c
  match k.stores[i]? with
  | none => s
  | some p =>
    if p.stuck.isSome ∨ (k.stores.take i).any (fun q => p.after q) ∨ s.lineOwned (p.pa / 128) ∨ s.epochDue then s
    else if s.poisoned (p.pa / 128) then (s.setCore c { k with stores := k.stores.eraseIdx i }).loseAt c ⟨0x0B, 0, p⟩
    else
      match s.unreachable c p.pa with
      | some h => (s.setCore c { k with stores := k.stores.set i { p with stuck := some h } }).await c p.pa none
      | none => (s.setCore c { k with stores := k.stores.eraseIdx i }).performAt c p

/-- Perform the first n stores of a core's queue that a predicate selects, oldest first. -/
def State.drainBy (s : State) (c : Nat) (sel : PendStore → Bool) : Nat → Nat → State
  | 0, _ => s
  | n + 1, i =>
    match (s.core c).stores[i]? with
    | none => s
    | some p =>
      let s1 := if sel p then s.performStore c i else s
      let i1 := if (s1.core c).stores.length < (s.core c).stores.length then i else i + 1
      s1.drainBy c sel n i1

/-- Perform every store of core c that is selected and can be performed. -/
def State.drainCore (s : State) (c : Nat) (sel : PendStore → Bool) : State :=
  s.drainBy c sel (s.core c).stores.length 0

/-- Perform the stores of a core to a line, as an access that goes to the home needs (R89). -/
def State.drainLine (s : State) (c line : Nat) : State := s.drainCore c (fun p => p.pa / 128 == line)

/-- A load of a team needs what is pending on a line at its home first: a store of another team, which the whole device sees
before any other team does (R94), or an update whose bytes come from memory (R302). -/
def PendStore.homeFirst (uid : Nat) (p : PendStore) : Bool := p.team != uid || p.red.isSome

/-- A cached load of n bytes inside one line by a team of core c: the value, the `wts` of the line, and the state after. -/
def State.loadCached (s : State) (c uid pa n : Nat) : Nat × Nat × State :=
  let line := pa / 128
  let s := if (s.core c).stores.any (fun p => p.pa / 128 == line && p.homeFirst uid) then s.drainLine c line else s
  match s.l1Hit c line with
  | some l => (leRead (servedByte (s.core c).stores uid l.data) pa n, l.wts, s)
  | none =>
    let (s1, l) := s.l1Fill c line
    let k := s1.core c
    (leRead (servedByte (s.core c).stores uid l.data) pa n, l.wts, s1.setCore c { k with misses := k.misses + 1 })

/-- A load of n bytes inside one line at its home: the value, the `wts` of the line, and the state after. The core's L1 copy is no
older than what the load saw (R89). -/
def State.loadAtHome (s : State) (c pa n : Nat) : Nat × Nat × State :=
  let line := pa / 128
  let (w, s1) := (s.drainLine c line).loadHome c line
  (leRead (memGet s1.mem) pa n, w, s1.refreshL1 c line)

/-- Bytes written at their home by an agent outside the cores. -/
def State.storeAgent (s : State) (pa : Nat) (bs : List Byte) : State := (s.memWrite pa bs).stampAgent (pa / 128)

end Sys2Proof.Machine
end

