-- ==== Sys2Proof/Machine/Translate.lean ====
section
/-! DEFINITION. Process contexts (R391), the page walk (R380 to R384) and the translation cache of a core (R385, R386). -/

namespace Sys2Proof.Machine

/-- Who makes an access: the core it stands on, its privilege (R398), its process, its process context, its block for
the local apertures (R62) and the owner check (R68), and the team, if it is one. -/
structure Agent where
  core : Nat
  priv : Bool
  pasid : Nat
  ctx : Nat
  blk : Option Block
  team : Option Nat
  deriving DecidableEq, Repr

/-- Word k of process context i (R391). -/
def State.ctxWord (s : State) (i k : Nat) : Nat :=
  s.unitWord ((s.xltReg 8).toNat / 4096 % 2 ^ 40 * 4096 + i * 128 + 8 * k)

/-- No reserved field of process context i is set (R13, R391). -/
def State.ctxClean (s : State) (i : Nat) : Bool :=
  let w (k lo n : Nat) : Bool := s.ctxWord i k / 2 ^ lo % 2 ^ n == 0
  w 0 52 12 && w 0 1 11 && w 1 40 24 && w 2 57 7 && w 2 5 1 && w 3 52 12 && w 3 0 22 && w 4 16 48 && w 5 57 7 && w 5 0 12 &&
    (List.range 10).all (fun k => s.ctxWord i (6 + k) == 0)

/-- The context is in use (R391). An entry with a reserved field set is rejected (R13; log 99). -/
def State.ctxValid (s : State) (i : Nat) : Bool := s.ctxWord i 0 % 2 == 1 && s.ctxClean i
/-- The root of a context's table (R391). -/
def State.ctxRoot (s : State) (i : Nat) : Nat := s.ctxWord i 0 / 4096 % 2 ^ 40 * 4096
/-- The PASID of a context (R391). -/
def State.ctxPasid (s : State) (i : Nat) : Nat := s.ctxWord i 1 % 2 ^ 20
/-- The process context of a PASID. -/
def State.ctxOf (s : State) (pasid : Nat) : Option Nat :=
  (List.range 4096).find? (fun i => s.ctxValid i && s.ctxPasid i == pasid)

/-- The swap threshold of a context in µs (R52, R391). -/
def State.ctxSwapThr (s : State) (i : Nat) : Nat :=
  let x := s.ctxWord i 1 / 2 ^ 20 % 2 ^ 20
  if x = 0 then 50 else max 5 (min x 10000)

/-- The agent of a team in a slot of a core. The supervisor translates through context 4,095 (R398). -/
def State.agentOf (s : State) (p : Nat × Nat) (t : Team) : Agent :=
  let b := s.blockOf p.1 t
  { core := p.1, priv := p.2 == 0, pasid := if p.2 = 0 then s.ctxPasid 4095 else pasidOf b, ctx := if p.2 = 0 then 4095 else (b.map (·.ctx)).getD 4095,
    blk := b, team := some t.uid }

/-! ### Leaves (R381) -/

/-- Bits [lo + n - 1 : lo] of an entry. -/
def fld (e lo n : Nat) : Nat := e / 2 ^ lo % 2 ^ n

/-- The frame address of an entry. -/
def pteFrame (e : Nat) : Nat := fld e 12 40 * 4096
/-- The class of a leaf: 0 normal, 1 uncached, 2 window. -/
def pteClass (e : Nat) : Nat := fld e 57 2
/-- The grain of a leaf in bytes (R79, R381). -/
def pteGrain (e : Nat) : Nat := if fld e 59 2 = 0 then 32 else if fld e 59 2 = 1 then 128 else 512
/-- Dirty. -/
def pteD (e : Nat) : Bool := fld e 9 1 == 1
/-- Accessed. -/
def pteA (e : Nat) : Bool := fld e 8 1 == 1

/-- A leaf at level n has a malformed field (R381, R383): an RSV bit or value, or PFN bits below the page size. -/
def leafBad (e n : Nat) : Bool :=
  fld e 52 1 != 0 || fld e 10 2 != 0 || fld e 59 2 == 3 || fld e 57 2 == 3 ||
    (decide (1 ≤ fld e 2 4) && decide (fld e 2 4 ≤ 7)) || fld e 12 (9 * n) != 0

/-- A table entry has a malformed field (R382). -/
def tableBad (e : Nat) : Bool := fld e 52 9 != 0 || fld e 2 10 != 0

/-- An entry without its PFN, A and D (R383). -/
def leafRest (e : Nat) : Nat := fld e 52 12 * 2 ^ 52 + fld e 10 2 * 2 ^ 10 + fld e 0 8

/-- The sixteen leaves of a CONT group agree but for PFN, A and D, and map consecutive pages (R383). -/
def State.contOk (s : State) (table idx n : Nat) : Bool :=
  let base := table + idx / 16 * 128
  let e0 := s.memWord base
  (List.range 16).all (fun i =>
    let e := s.memWord (base + 8 * i)
    leafRest e == leafRest e0 && fld e 12 40 == fld e0 12 40 + i * 2 ^ (9 * n))

/-- What a walk finds: the leaf, where it stands, the page size as a power of two, the largest write stamp of the entries it read, and
the tables that it went to, each with the log2 of the span that its entry covers. -/
structure WalkHit where
  leaf : Nat
  at_ : Nat
  log2 : Nat
  w : Nat
  tables : List (Nat × Nat)
  deriving DecidableEq, Repr

/-- A translation's answer that is no fault: the walk waits for a line that a copy engine owns, or for the line of its leaf, whose
accessed or dirty bit it cannot set yet (R78, R85, R103). No fault of R178 has code 0. -/
def walkHeld (line : Nat) : Nat × Nat := (0, line)

/-- What keeps a walk from reading an entry: no memory (`F.PROT` HOLE, R362), poison (R432), or a copy engine (R85). -/
def State.entryBad (s : State) (a : Nat) : Option (Nat × Nat) :=
  if s.cxlHole a then some (0x09, 3)
  else if s.poisoned (a / 128) then some (0x0B, 0)
  else if s.lineOwned (a / 128) then some (walkHeld (a / 128))
  else none

/-- The walk from a table of level n (R380, R383), whose entries are read at their homes (R385): `F.PAGE` NOTPRESENT or BADPTE, or what
keeps it from an entry. -/
def State.walkFrom (s : State) (va table w : Nat) (ts : List (Nat × Nat)) : Nat → Except (Nat × Nat) WalkHit
  | 0 =>
    let a := table + 8 * fld va 12 9
    let e := s.memWord a
    match s.entryBad a with
    | some f => .error f
    | none =>
      if fld e 0 1 = 0 then .error (0x08, 1)
      else if fld e 1 1 = 0 ∨ leafBad e 0 then .error (0x08, 2)
      else if fld e 7 1 = 1 ∧ s.contOk table (fld va 12 9) 0 = false then .error (0x08, 2)
      else .ok ⟨e, a, 12, max w (s.stampOf (a / 128)).wts, ts⟩
  | n + 1 =>
    let idx := fld va (12 + 9 * (n + 1)) 9
    let a := table + 8 * idx
    let e := s.memWord a
    let w1 := max w (s.stampOf (a / 128)).wts
    match s.entryBad a with
    | some f => .error f
    | none =>
      if fld e 0 1 = 0 then .error (0x08, 1)
      else if fld e 1 1 = 1 then
        if 2 ≤ n ∨ leafBad e (n + 1) then .error (0x08, 2)
        else if fld e 7 1 = 1 ∧ s.contOk table idx (n + 1) = false then .error (0x08, 2)
        else .ok ⟨e, a, 12 + 9 * (n + 1), w1, ts⟩
      else if tableBad e then .error (0x08, 2)
      else s.walkFrom va (pteFrame e) w1 (ts ++ [(12 + 9 * (n + 1), pteFrame e)]) n

/-- The walk of a 57-bit virtual address in a context, from its root. A context that is not valid translates nothing. -/
def State.walk (s : State) (ctx va : Nat) : Except (Nat × Nat) WalkHit :=
  if s.ctxValid ctx then s.walkFrom va (s.ctxRoot ctx) 0 [] 4 else .error (0x08, 1)

/-! ### The walk cache of a die (R385) -/

/-- What the walk cache of a die holds. -/
def State.walkEntries (s : State) (d : Nat) : List WalkEntry := tabGet [] s.walkCache d

/-- The lowest table that a walk cache knows for an address, with its level: the table of level n is covered by an entry of
2^(12 + 9 (n + 1)) bytes. -/
def walkFind (l : List WalkEntry) (pasid va : Nat) : Option (Nat × Nat) :=
  [0, 1, 2, 3].findSome? (fun n =>
    (l.find? (fun e => e.pasid == pasid && e.log2 == 12 + 9 * (n + 1) && e.base == va / 2 ^ e.log2 * 2 ^ e.log2)).map (fun e => (n, e.table)))

/-- The walk of an address that begins at the lowest table known to the walk cache, if any. -/
def State.walkFast (s : State) (d pasid ctx va : Nat) : Option (Except (Nat × Nat) WalkHit) :=
  if s.ctxValid ctx then (walkFind (s.walkEntries d) pasid va).map (fun e => s.walkFrom va e.2 0 [] e.1) else none

/-- The tables that a walk of an address went to join the walk cache of its die, which holds 1,024 entries; which one goes is log 8. -/
def State.walkKeep (s : State) (d pasid va : Nat) (h : WalkHit) : State :=
  let new := h.tables.map (fun e => (⟨pasid, va / 2 ^ e.1 * 2 ^ e.1, e.1, e.2⟩ : WalkEntry))
  if new.isEmpty then s
  else
    let old := (s.walkEntries d).filter (fun e => !new.any (fun x => x.pasid == e.pasid && x.base == e.base && x.log2 == e.log2))
    { s with walkCache := tabSet s.walkCache d ((new ++ old).take 1024) }

/-! ### Permissions (R64) -/

/-- What an access needs of its page (R295): permissions, what `ldb` needs (R298), and what `ldp` and `stp` need (R297). -/
structure Need where
  r : Bool
  w : Bool
  x : Bool
  ldb : Bool
  packed : Bool
  deriving DecidableEq, Repr

/-- A leaf grants what an access needs; the failing subcode of `F.PROT` otherwise (R64, R65). -/
def leafGrant (e : Nat) (priv : Bool) (n : Need) : Option Nat :=
  if fld e 56 1 = 0 ∧ priv = false then some 4
  else if (n.r ∧ fld e 53 1 = 0) ∨ (n.w ∧ fld e 54 1 = 0) ∨ (n.x ∧ fld e 55 1 = 0) then some 4
  else if n.ldb ∧ fld e 54 1 = 1 then some 4
  else if n.ldb ∧ pteClass e ≠ 0 then some 5
  else if n.packed ∧ pteClass e = 1 then some 5
  else none

/-! ### Translation -/

/-- A translated access: the physical address and the leaf. -/
structure Xlated where
  pa : Nat
  leaf : Nat
  deriving DecidableEq, Repr

/-- The physical address a leaf gives. -/
def leafAddr (e log2 va : Nat) : Nat := fld e log2 (52 - log2) * 2 ^ log2 + va % 2 ^ log2

/-- The cached leaf of an address (R385). -/
def tlbFind (tlb : List TlbEntry) (pasid va : Nat) : Option TlbEntry :=
  tlb.find? (fun e => e.pasid == pasid && e.base == va / 2 ^ e.log2 * 2 ^ e.log2)

/-- A cache with one more leaf, at most n (R385; which one goes is log 8). -/
def tlbAdd (n : Nat) (tlb : List TlbEntry) (e : TlbEntry) : List TlbEntry :=
  (e :: tlb.filter (fun x => !(x.pasid == e.pasid && x.base == e.base))).take n

/-- A leaf enters the L1 TLB of a core, with 128 entries, and the L2 TLB of its gang, with 8,192 (R385). -/
def State.tlbKeep (s : State) (c : Nat) (e : TlbEntry) : State :=
  let k := s.core c
  { s.setCore c { k with tlb := tlbAdd 128 k.tlb e } with
    gtlb := tabSet s.gtlb (gangOf c) (tlbAdd 8192 (tabGet [] s.gtlb (gangOf c)) e) }

/-- Placement agrees with the frame (R66, R76): a near page lies in its stack's near share, so nowhere outside HBM (log 90). -/
def State.placeOk (s : State) (leaf pa : Nat) : Bool :=
  let p := fld leaf 2 4
  match regionOf pa with
  | .hbm =>
    let (st, near) := s.stackOf pa
    if p = 0 then !near else near && p == 8 + st
  | _ => p == 0

/-- A leaf grants an access without a walk: permissions, and D for a write (R384, R386). -/
def leafServes (a : Agent) (n : Need) (leaf : Nat) : Bool := leafGrant leaf a.priv n == none && (!n.w || pteD leaf)

/-- The cached leaf that serves an access, in the core's TLB or in its gang's (R385). -/
def State.tlbHit (s : State) (a : Agent) (va : Nat) (n : Need) : Option TlbEntry :=
  ((tlbFind (s.core a.core).tlb a.pasid va).filter (fun e => leafServes a n e.leaf.toNat)).or
    ((tlbFind (tabGet [] s.gtlb (gangOf a.core)) a.pasid va).filter (fun e => leafServes a n e.leaf.toNat))

/-- The walk of an access that no cached leaf serves: over the walk cache where that finds a page that grants it, else from the root, so
that no fault comes from a cached entry (R386). -/
def State.walkFor (s : State) (a : Agent) (va : Nat) (n : Need) : Except (Nat × Nat) WalkHit :=
  match s.walkFast (dieOf a.core) a.pasid a.ctx va with
  | some (.ok h) =>
    if s.placeOk h.leaf (leafAddr h.leaf h.log2 va) && leafGrant h.leaf a.priv n == none then .ok h else s.walk a.ctx va
  | _ => s.walk a.ctx va

/-- The leaf with A set and, before a write, D (R384). -/
def leafUsed (leaf : Nat) (n : Need) : Nat := leaf + (if pteA leaf then 0 else 2 ^ 8) + (if n.w && !pteD leaf then 2 ^ 9 else 0)

/-- Translate an address: the cached leaf if it serves the access, otherwise a walk, which sets A and, before a write, D (R384, R386),
and whose reads are acquires (R385). A mismatch of placement is found at every translation, before the permissions (R66, R383). A fault
is a code and a subcode of R178. -/
def State.translate (s : State) (a : Agent) (va : Nat) (n : Need) : Except (Nat × Nat) Xlated × State :=
  match s.tlbHit a va n with
  | some e =>
    let pa := leafAddr e.leaf.toNat e.log2 va
    if s.placeOk e.leaf.toNat pa then (.ok ⟨pa, e.leaf.toNat⟩, s.tlbKeep a.core e) else (.error (0x08, 2), s)
  | none =>
    match s.walkFor a va n with
    | .error f => (.error f, s)
    | .ok h =>
      if s.placeOk h.leaf (leafAddr h.leaf h.log2 va) = false then (.error (0x08, 2), s)
      else
        match leafGrant h.leaf a.priv n with
        | some sub => (.error (0x09, sub), s)
        | none =>
          let leaf := leafUsed h.leaf n
          if leaf ≠ h.leaf ∧ (s.unreachable a.core h.at_).isSome then
            (.error (walkHeld (h.at_ / 128)), s.await a.core h.at_ none)
          else
            let s1 := if leaf = h.leaf then s else (s.invalidate a.core h.at_).storeHome a.core h.at_ (leBytes 8 leaf)
            let s2 := (s1.walkKeep (dieOf a.core) a.pasid va h).tlbKeep a.core
              ⟨a.pasid, va / 2 ^ h.log2 * 2 ^ h.log2, h.log2, BitVec.ofNat 64 leaf⟩
            let k := s2.core a.core
            (.ok ⟨leafAddr leaf h.log2 va, leaf⟩, s2.setCore a.core { k with ltime := max k.ltime h.w })

/-- The class check of R66 at the line's home. -/
def State.classOk (s : State) (leaf pa : Nat) : Bool :=
  match regionOf pa with
  | .hbm | .cxl _ =>
    match s.dirAt pa with
    | some (_, d) => d.cls == pteClass leaf
    | none => true
  | _ => true

/-- The directory entry of an address, made by the access that finds none (R66, R80). -/
def State.touchDir (s : State) (leaf pa : Nat) : State :=
  match regionOf pa with
  | .hbm | .cxl _ =>
    match s.dirAt pa with
    | some _ => s
    | none =>
      let g := s.newGrain pa (pteGrain leaf)
      { s with dirs := tabSet s.dirs (pa / g * g / 32) ⟨pteClass leaf, g, 0, false⟩ }
  | _ => s

/-- The grain at which the home serves an address: that of the directory entry that covers it (R80). -/
def State.grainAt (s : State) (leaf pa : Nat) : Nat :=
  match s.dirAt pa with
  | some (_, d) => d.grain
  | none => pteGrain leaf

end Sys2Proof.Machine
end

