-- ==== Sys2Proof/Machine/Window.lean ====
section
/-! DEFINITION. The on-chip windows (R67 to R75): what each range holds, and who owns it. -/

namespace Sys2Proof.Machine

/-- A field of a word: value times its place. -/
def at' (x lo : Nat) : Nat := x * 2 ^ lo

/-- A truth value as a bit. -/
def bit (b : Bool) : Nat := if b then 1 else 0

/-- Element i of a list as a halfword or byte of a granule or tile list, all ones where unused (R71). -/
def listEntry (l : List Nat) (i unused : Nat) : Nat := (l[i]?).getD unused

/-- Four halfwords of a granule list. -/
def halfwords (l : List Nat) (i : Nat) : Nat :=
  listEntry l i 0xFFFF + at' (listEntry l (i + 1) 0xFFFF) 16 + at' (listEntry l (i + 2) 0xFFFF) 32 +
    at' (listEntry l (i + 3) 0xFFFF) 48

/-- Eight bytes of a tile list. -/
def listBytes (l : List Nat) (i : Nat) : Nat :=
  (List.range 8).foldl (fun r j => r + at' (listEntry l (i + j) 0xFF) (8 * j)) 0

/-! ### The tables -/

/-- A word of a barrier slot (R333). -/
def Barrier.word (b : Barrier) (i : Nat) : Nat :=
  if i = 0 then at' b.phase.toNat 32 + at' b.expect 24 + at' b.arrived 16 + at' (bit b.isOpen) 1 + bit b.gang
  else b.mask.toNat

/-- A word of a block-place table (R71, R333). -/
def placeWord (b : Option Block) (off : Nat) : Nat :=
  match b with
  | none => if 0x100 ≤ off ∧ off < 0x540 then 2 ^ 64 - 1 else 0
  | some b =>
    if off = 0 then at' b.launchNo 24 + at' 1 20 + b.pasid
    else if off = 8 then at' b.z 48 + at' b.y 32 + at' b.x 16 + b.spList.length
    else if 0x100 ≤ off ∧ off < 0x500 then halfwords b.spList ((off - 0x100) / 2)
    else if 0x500 ≤ off ∧ off < 0x520 then listBytes b.accList (off - 0x500)
    else if 0x520 ≤ off ∧ off < 0x540 then listBytes b.stList (off - 0x520)
    else if 0x600 ≤ off ∧ off < 0x700 then
      match b.barriers[(off - 0x600) / 16]? with
      | some x => x.word ((off - 0x600) / 8 % 2)
      | none => 0
    else 0

/-- A word of a fault record at an offset from its start (R402): header, lane mask, cycle list, with the gap the
team-slot table leaves between none. -/
def FaultRec.word (r : FaultRec) (off : Nat) : Nat :=
  if off < 0x40 then ((r.header[off / 8]?).getD 0).toNat
  else if off < 0xC0 then r.mask.toNat / 2 ^ (8 * (off - 0x40)) % 2 ^ 64
  else if 0x100 ≤ off ∧ off < 0x200 then
    match r.cycle[(off - 0x100) / 16]? with
    | some p => if (off - 0x100) / 8 % 2 = 0 then p.1.toNat else p.2.toNat
    | none => 0
  else 0

/-- An entry of a replay queue (R401). -/
def ReplayEntry.word (e : ReplayEntry) : Nat := at' 1 63 + at' (e.seq % 2 ^ 58) 5 + e.slot

/-- A word of a team-slot table (R71, R401, R402, R406). -/
def slotWord (k : Core) (slot off : Nat) : Nat :=
  let t := tabGet? k.teams slot
  if slot = 0 ∧ 0x200 ≤ off ∧ off < 0x5C0 then
    match tabGet? k.reports ((off - 0x200) / 0x140) with
    | some r => ((r.words[(off - 0x200) % 0x140 / 8]?).getD 0).toNat
    | none => 0
  else if slot = 0 ∧ 0x900 ≤ off ∧ off < 0xA00 then
    match k.replay[(off - 0x900) / 8]? with
    | some e => e.word
    | none => 0
  else
    match t with
    | none => if off = 0 then 3 else if 0x100 ≤ off ∧ off < (if slot = 0 then 0x200 else 0x8C0) then 2 ^ 64 - 1 else 0
    | some t =>
      if off = 0 then at' t.place 20 + at' t.nreg 13 + at' t.lanes 2 + t.role.code
      else if 0x100 ≤ off ∧ off < (if slot = 0 then 0x200 else 0x8C0) then halfwords t.rfList ((off - 0x100) / 2)
      else if 0xC00 ≤ off ∧ off < 0xE00 then t.record.word (off - 0xC00)
      else 0

/-- A tile-table entry that no block holds (R73, log 2). -/
def TileEntry.free : TileEntry :=
  { alloc := false, place := 0, localNo := 0, fault := 0, pair := false, wide := false, faulted := false, phase := false,
    state := 0, kstep := 0, length := 0, offset := 0 }

/-- Physical tile-table entry e of a core (R75). -/
def Core.tile (k : Core) (e : Nat) : TileEntry := tabGet TileEntry.free k.tiles e

/-- The class code and packed format fields of a restart record (R154). -/
def packFmt (w : W32) : Nat := at' (w.toNat / 2 ^ 16 % 256) 11 + w.toNat % 2 ^ 11

/-- A source word of a restart record (R154). -/
def MatSrc.word : MatSrc → Nat
  | .slot k => at' 1 63 + k
  | .addr va => va.toNat % 2 ^ 57

/-- Words 0x18 to 0x38 of the first entry of an operation (R154). A drain leaves them zero. -/
def MatOp.word (o : MatOp) (off : Nat) : Nat :=
  match o.kind with
  | .mma =>
    if off = 0x18 then o.srcA.word
    else if off = 0x20 then o.srcB.word
    else if off = 0x28 then at' o.strideA 32 + o.strideB
    else if off = 0x30 then
      at' (packFmt o.fmtB) 45 + at' (packFmt o.fmtA) 26 + at' o.cls 23 + at' o.shape 21 + at' o.blkLen 19 +
        at' (bit o.slayout) 18 + at' (bit o.gang) 17 + o.ksteps
    else
      at' ((o.group.map BitVec.toNat).getD 0) 48 + at' o.anvils.toNat 44 + at' (bit o.iflush) 43 + at' (bit o.rflush) 42 +
        at' o.scaleB 19 + o.scaleA
  | _ => 0

/-- The block that holds physical tile entry e, if any, with the local number. -/
def Core.tileBlock (k : Core) (e : Nat) : Option Block :=
  let x := k.tile e
  if x.alloc then tabGet? k.blocks x.place else none

/-- A word of the tile table (R75, R154). For `mmag` the first entry is that of every member's part (DESIGN CHOICE, log 112). -/
def tileWord (k : Core) (e off : Nat) : Nat :=
  let x := k.tile e
  if off = 0 then
    at' (bit x.alloc) 35 + at' x.place 32 + at' x.localNo 16 + at' x.fault 8 + at' (bit x.pair) 7 + at' (bit x.wide) 6 +
      at' (bit (decide (32 ≤ e))) 5 + at' (bit x.faulted) 4 + at' (bit x.phase) 3 + x.state
  else if off = 8 then x.kstep
  else if off = 0x10 then at' x.length 32 + x.offset
  else
    match k.tileBlock e with
    | none => 0
    | some b =>
      match k.ops.find? (fun o => o.blk == b.uid && e < 32 && decide (o.kind = .mma) && o.entries.head? == some x.localNo) with
      | some o => o.word off
      | none => 0

/-! ### The register file -/

/-- Which team owns register-file granule g, with its slot and the index of the granule in its list (R69). -/
def Core.granuleOwner (k : Core) (g : Nat) : Option (Nat × Team × Nat) :=
  (k.teams.filterMap (fun e =>
    match e.2.rfList.idxOf? g with
    | some i => some (e.1, e.2, i)
    | none => none)).head?

/-- The register and lane of a byte of granule index i (R69). -/
def granuleReg (t : Team) (i byte : Nat) : Nat × Nat :=
  (i / t.words * 4 + byte / 128, i % t.words * 32 + byte % 128 / 4)

/-- A byte of a window as it stands (R67). Register-file granules of no team are plain storage (log 5). -/
def State.winByte (s : State) (c off : Nat) : Byte :=
  let k := s.core c
  let pa := windowBase c + off
  let wordByte (w : Nat) : Byte := BitVec.ofNat 8 (w / 2 ^ (8 * (off % 8)))
  match winRange off with
  | .regFile =>
    match k.granuleOwner (off / 512) with
    | some (_, t, i) =>
      let (r, l) := granuleReg t i (off % 512)
      BitVec.ofNat 8 ((t.vreg r l).toNat / 2 ^ (8 * (off % 4)))
    | none => memGet s.mem pa
  | .scratch | .tile => memGet s.mem pa
  | .tileTable => wordByte (tileWord k ((off - 0x800000) / 64) (off % 64 / 8 * 8))
  | .place => wordByte (placeWord (tabGet? k.blocks ((off - 0x900000) / 4096)) (off % 4096 / 8 * 8))
  | .slot => wordByte (slotWord k ((off - 0x980000) / 4096) (off % 4096 / 8 * 8))
  | .hole => 0

/-- A byte written through a window (R67): a register of the owning team (R72), or storage. -/
def State.winSetByte (s : State) (c off : Nat) (b : Byte) : State :=
  let k := s.core c
  let pa := windowBase c + off
  match winRange off with
  | .regFile =>
    match k.granuleOwner (off / 512) with
    | some (slot, t, i) =>
      let (r, l) := granuleReg t i (off % 512)
      let old := (t.vreg r l).toNat
      let sh := 2 ^ (8 * (off % 4))
      s.setTeam (c, slot) (t.setV r l (BitVec.ofNat 32 (old - old / sh % 256 * sh + b.toNat * sh)))
    | none => s.memWrite pa [b]
  | .scratch | .tile => s.memWrite pa [b]
  | _ => s

/-- Bytes written through a window from an offset upward. -/
def State.winWrite (s : State) (c off : Nat) (bs : List Byte) : State :=
  match bs with
  | [] => s
  | b :: t => (s.winSetByte c off b).winWrite c (off + 1) t

/-! ### Ownership (R68) -/

/-- The process that owns the target of a window access, if it is allocated (R68). -/
def State.winOwner (s : State) (c off : Nat) : Option Nat :=
  let k := s.core c
  let teamPasid (t : Team) : Option Nat := (tabGet? k.blocks t.place).map (·.pasid)
  match winRange off with
  | .regFile => (k.granuleOwner (off / 512)).bind (fun e => teamPasid e.2.1)
  | .scratch =>
    ((k.blocks.find? (fun b => b.2.spList.contains ((off - 0x400000) / 1024))).map (fun b => b.2.pasid))
  | .tile => (k.tileBlock ((off - 0x600000) / 0x4000)).map (·.pasid)
  | .tileTable => (k.tileBlock ((off - 0x800000) / 64)).map (·.pasid)
  | .place => (tabGet? k.blocks ((off - 0x900000) / 4096)).map (·.pasid)
  | .slot => (tabGet? k.teams ((off - 0x980000) / 4096)).bind teamPasid
  | .hole => none

/-- The tile entry a window offset lies in, if it is tile memory. -/
def winTile (off : Nat) : Option Nat :=
  match winRange off with
  | .tile => some ((off - 0x600000) / 0x4000)
  | _ => none

end Sys2Proof.Machine
end

