-- ==== Sys2Proof/Machine/Record.lean ====
section
/-! DEFINITION. What the device registers and the save slots show of teams, copies and process records (R173, R186, R222, R342,
R392, R393, R408, R444). -/

namespace Sys2Proof.Machine

/-! ### Teams and blocks by identity, resident or saved -/

/-- The team with an identity, resident or in a save slot. -/
def State.teamByUid (s : State) (uid : Nat) : Option Team :=
  match (s.findTeam uid).bind s.team? with
  | some t => some t
  | none => (s.saved.filterMap (fun b => (b.teams.find? (fun e => e.2.uid == uid)).map (·.2))).head?

/-- The state with the team of an identity changed, wherever it stands. -/
def State.modUid (s : State) (uid : Nat) (f : Team → Team) : State :=
  match s.findTeam uid with
  | some p => s.modTeam p f
  | none =>
    { s with saved := s.saved.map (fun b =>
        { b with teams := b.teams.map (fun e => if e.2.uid = uid then (e.1, f e.2) else e) }) }

/-- The block a team belongs to, resident or saved. -/
def State.blockByUid (s : State) (blk : Nat) : Option Block :=
  match s.findBlock blk with
  | some p => tabGet? (s.core p.1).blocks p.2
  | none => (s.saved.find? (fun b => b.blk.uid == blk)).map (·.blk)

/-! ### The images of parts of a team (R186, R222) and the team record (R393, R444) -/

/-- The image of the repeat state (R222). -/
def RepeatState.word (r : RepeatState) : Nat :=
  r.sb % 16 * 2 ^ 24 + r.sa % 16 * 2 ^ 20 + r.sd % 16 * 2 ^ 16 + r.total % 128 * 2 ^ 8 + r.remain % 128

/-- The repeat state of an image (R222). -/
def RepeatState.ofWord (w : Nat) : RepeatState :=
  { remain := fld w 0 7, total := fld w 8 7, sd := fld w 16 4, sa := fld w 20 4, sb := fld w 24 4 }

/-- The RSV bits of a repeat image (R222). -/
def repeatRsv (w : Nat) : Bool := fld w 28 36 != 0 || fld w 15 1 != 0 || fld w 7 1 != 0

/-- The three words of entry i of a loop-stack image, counted from the bottom (R186). -/
def loopWord (loops : List LoopEntry) (i k : Nat) : Nat :=
  match loops.reverse[i]? with
  | none => 0
  | some e => if k = 0 then e.start.toNat else if k = 1 then e.stop.toNat else e.count.toNat

/-- The loop stack of a depth whose image's words are `w` (R186): the innermost entry is its head. -/
def loopsOf (depth : Nat) (w : Nat → Nat) : List LoopEntry :=
  ((List.range depth).map (fun i =>
    ⟨BitVec.ofNat 57 (w (3 * i)), BitVec.ofNat 57 (w (3 * i + 1)), BitVec.ofNat 32 (w (3 * i + 2))⟩)).reverse

/-- A mask from the 32-bit words of an image, those below W. -/
def maskOfWords (n : Nat) (w : Nat → Nat) : LaneMask :=
  BitVec.ofNat 1024 ((List.range n).foldl (fun r j => r + w j % 2 ^ 32 * 2 ^ (32 * j)) 0)

/-- The size of a frame (R186). -/
def Team.frameSize (t : Team) : Nat := (0x440 + t.lanes * 16 + 127) / 128 * 128

/-- The image of a wait record (R444), word i. -/
def WaitRec.word (w : WaitRec) (i : Nat) : Nat :=
  let shown := decide (1 ≤ w.kind ∧ w.kind ≤ 10)
  let lock := w.kind == 3 || w.kind == 10
  if shown = false then 0
  else if i = 0 then
    at' w.kind 56 + at' (if w.kind = 2 ∨ lock then w.scope else 0) 48 +
      (if w.kind = 1 ∨ w.kind = 2 ∨ w.kind = 5 ∨ w.kind = 7 then w.param % 2 ^ 16 else 0)
  else if i = 1 then (if w.kind = 2 ∨ w.kind = 8 ∨ lock then w.object.toNat else 0)
  else if i = 2 then (if lock then at' w.ticket.toNat 32 else 0)
  else (if w.kind = 3 then w.deadline.toNat else 0)

/-- Two mask words as a 64-bit word, at an offset from the first. -/
def maskPair (x : LaneMask) (off : Nat) : Nat := x.toNat / 2 ^ (8 * off) % 2 ^ 64

/-- A mask with a 64-bit word replaced at an offset. -/
def setMaskPair (x : LaneMask) (off : Nat) (w : W64) : LaneMask :=
  BitVec.ofNat 1024 (x.toNat - maskPair x off * 2 ^ (8 * off) + w.toNat * 2 ^ (8 * off))

/-- The bytes of a team's register image: its registers, then its latches; vector role only (R393). -/
def Team.imageSize (t : Team) : Nat := if t.role = .vector then (t.nreg + 4) * t.lanes * 4 else 0

/-- A 32-bit word i of the register image. -/
def Team.imageHalf (t : Team) (i : Nat) : Nat :=
  let r := i / t.lanes
  let l := i % t.lanes
  if t.role ≠ .vector then 0
  else if r < t.nreg then (t.vreg r l).toNat
  else if r < t.nreg + 4 then (t.latch (r - t.nreg) l).toNat
  else 0

/-- The team with 32-bit word i of its register image replaced. -/
def Team.setImageHalf (t : Team) (i : Nat) (x : W32) : Team :=
  let r := i / t.lanes
  let l := i % t.lanes
  if t.role ≠ .vector then t
  else if r < t.nreg then t.setV r l x
  else if r < t.nreg + 4 then t.setLatch (r - t.nreg) l x
  else t

/-- A loop-stack word of a team record: an entry above the depth reads as what was last written there (R22). -/
def Team.loopImage (t : Team) (i k : Nat) : Nat :=
  if i < t.loops.length then loopWord t.loops i k
  else
    match tabGet? t.loopAbove i with
    | none => 0
    | some e => if k = 0 then e.start.toNat else if k = 1 then e.stop.toNat else e.count.toNat

/-- A loop entry with word k replaced. -/
def LoopEntry.set (e : LoopEntry) (k : Nat) (x : W64) : LoopEntry :=
  match k with
  | 0 => { e with start := x.setWidth 57 }
  | 1 => { e with stop := x.setWidth 57 }
  | _ => { e with count := x.setWidth 32 }

/-- A loop entry no one has written. -/
def LoopEntry.zero : LoopEntry := ⟨0, 0, 0⟩

/-- The team with a loop-stack word replaced (R22). -/
def Team.setLoop (t : Team) (i k : Nat) (x : W64) : Team :=
  if i < t.loops.length then { t with loops := t.loops.modify (t.loops.length - 1 - i) (fun e => e.set k x) }
  else { t with loopAbove := tabSet t.loopAbove i ((tabGet LoopEntry.zero t.loopAbove i).set k x) }

/-- The team with another loop depth: 5 to 7 are stored as 4 (R289). -/
def Team.setDepth (t : Team) (d : Nat) : Team :=
  let n := min d 4
  let bottom := t.loops.reverse
  { t with
    loops := ((List.range n).map (fun i => (bottom[i]?).getD (tabGet LoopEntry.zero t.loopAbove i))).reverse,
    loopAbove := (List.range 4).foldl (fun r i => if i < n then r else tabSet r i ((bottom[i]?).getD (tabGet LoopEntry.zero t.loopAbove i))) [] }

/-- The 64-bit word of a team record at an offset that is a multiple of 8: the record below 0x1000, the register image from
there (R393, R408). `rfoff` is the place of the register image in a save slot. No layout gives the launch's priority class a
place, so no word shows it (R22; DESIGN CHOICE, log 101). -/
def Team.recordWord (t : Team) (b : Option Block) (rfoff off : Nat) : Nat :=
  if off = 0 then t.pc.toNat
  else if off = 0x008 then (identWord t b).toNat + at' (bit t.noRefs) 5
  else if off = 0x010 then at' t.fpmode.toNat 32 + t.sticky.toNat
  else if off = 0x018 then t.rep.word
  else if off = 0x020 then t.pvalue.toNat
  else if off = 0x028 then at' (bit t.stepArm) 13 + at' (bit t.extQuiet) 12 + at' t.loops.length 8 + t.pwords % 64
  else if off = 0x030 then
    at' t.copyIssued.toNat 48 + at' t.copyDone.toNat 32 + at' t.issued.toNat 16 + t.drained.toNat
  else if off = 0x038 then t.qsGen.toNat
  else if off < 0x060 then t.wait.word ((off - 0x040) / 8)
  else if off < 0x0C0 then t.loopImage ((off - 0x060) / 24) ((off - 0x060) % 24 / 8)
  else if off = 0x0F0 then t.sigstk.toNat
  else if off = 0x0F8 then at' rfoff 40
  else if off < 0x100 then 0
  else if off < 0x180 then
    match t.held[(off - 0x100) / 16]? with
    | some e => (Config.heldImage ((off - 0x100) % 16 / 8) e.va.toNat e.regionLen e.obj e.scope.code).toNat
    | none => 0
  else if off < 0x1C0 then t.record.word (off - 0x180)
  else if off < 0x200 then 0
  else if off < 0x400 then (t.s ((off - 0x200) / 8)).toNat
  else if off < 0x480 then maskPair t.done (off - 0x400)
  else if off < 0x600 then t.record.word (off - 0x480 + (if off < 0x500 then 0x40 else 0x80))
  else if off < 0x800 then 0
  else if off < 0x1000 then maskPair (t.mreg ((off - 0x800) / 128)) ((off - 0x800) % 128)
  else t.imageHalf ((off - 0x1000) / 4) + at' (t.imageHalf ((off - 0x1000) / 4 + 1)) 32

/-- The team with a 64-bit word of its record replaced: only the items that R22 makes writable change. -/
def Team.setRecordWord (t : Team) (off : Nat) (x : W64) : Team :=
  let w := x.toNat
  if off = 0 then { t with pc := x.setWidth 57 &&& ~~~1 }
  else if off = 0x010 then { t with fpmode := BitVec.ofNat 32 (fld w 32 32) &&& modeMask, sticky := x.setWidth 5 }
  else if off = 0x018 then { t with rep := RepeatState.ofWord w }
  else if off = 0x020 then { t with pvalue := BitVec.ofNat 64 (fld w 0 33) }
  else if off = 0x028 then { t.setDepth (fld w 8 3) with pwords := fld w 0 6 }
  else if 0x060 ≤ off ∧ off < 0x0C0 then t.setLoop ((off - 0x060) / 24) ((off - 0x060) % 24 / 8) x
  else if off = 0x0F0 then { t with sigstk := x.setWidth 57 }
  else if 0x200 ≤ off ∧ off < 0x400 then t.setS ((off - 0x200) / 8) x
  else if 0x400 ≤ off ∧ off < 0x480 then { t with done := setMaskPair t.done (off - 0x400) x &&& t.allLanes }
  else if 0x800 ≤ off ∧ off < 0x1000 then
    t.setM ((off - 0x800) / 128) (setMaskPair (t.mreg ((off - 0x800) / 128)) ((off - 0x800) % 128) x)
  else if 0x1000 ≤ off then
    (t.setImageHalf ((off - 0x1000) / 4) (x.setWidth 32)).setImageHalf ((off - 0x1000) / 4 + 1) (BitVec.ofNat 32 (fld w 32 32))
  else t

/-! ### The image of a copy (R173, R392) -/

/-- Word i of a record. -/
def recWord (ws : List W64) (i : Nat) : Nat := ((ws[i]?).getD 0).toNat

/-- The status of a copy in the queue (R173). -/
def Copy.state (y : Copy) : Nat :=
  if y.cancelled then 4
  else if y.complete then 2
  else if y.fault.isSome then 3
  else if y.frozen then 5
  else if y.bitmap = 0 ∧ y.boxes = [] then 0
  else 1

/-- The status word of R173. -/
def Copy.word (y : Copy) : Nat :=
  y.token.toNat * 2 ^ 48 + (if y.fault.isSome then y.fbox else 0) * 2 ^ 40 + y.nbox * 2 ^ 32 + popcount 64 y.bitmap.toNat * 2 ^ 24 +
    ((y.fault.map (·.code)).getD 0) * 2 ^ 16 + y.state

/-- The saved teams' register images follow each other by team index from 0x14_0000. -/
def rfOffset (ts : List Team) (tindex : Nat) : Nat :=
  0x140000 + ((ts.filter (fun t => decide (t.tindex < tindex))).map Team.imageSize).sum

/-- The dense side of a copy as a number. -/
def DenseSide.code : DenseSide → Nat
  | .slot k => k
  | .acc a => 32 + a
  | .addr va => 64 + va.toNat

/-- The 128-byte image of a copy (R392, R416): its `cstat` word, which holds the token, the state, the fault and the box counts, its bitmap,
the dense side, whose form is free, and the record. The order of the first four words is the model's (DESIGN CHOICE, log 4). -/
def Copy.image (y : Copy) : List Nat :=
  [y.word, y.bitmap.toNat] ++ (List.range 2).map (fun i => (Config.copyImage i y.dense.code).toNat) ++ (List.range 12).map (recWord y.record)

/-! ### Process records and tracked teams (R126, R127) -/

/-- A process record when its context is created (R126). -/
def GraceProc.initial : GraceProc :=
  { gen := 0, completed := 0, deferred := [], pairs := [], stopped := false, headSeen := 0, stallAt := 0 }

/-- The record of a process context. -/
def State.proc (s : State) (i : Nat) : GraceProc := tabGet GraceProc.initial s.procs i

/-- A team is tracked while it lives, unless it holds no references or is in the extended quiescent state. -/
def Team.tracked (t : Team) : Bool := !t.noRefs && !t.extQuiet

/-- The tracked resident teams of a context with their blocks: a team is tracked from its start (R127), so one of a readmitted block
that has not started again is (R133). -/
def State.trackedTeams (s : State) (ctx : Nat) : List (Team × Block) :=
  s.cores.flatMap (fun k =>
    k.2.teams.filterMap (fun e =>
      match tabGet? k.2.blocks e.2.place with
      | some b => if e.1 ≠ 0 ∧ b.ctx = ctx ∧ (b.started ∨ b.slotIx.isSome) ∧ e.2.tracked then some (e.2, b) else none
      | none => none))

/-- The tracked saved teams of a context with their blocks. -/
def State.trackedSaved (s : State) (ctx : Nat) : List (Team × Block) :=
  s.saved.flatMap (fun b =>
    b.teams.filterMap (fun e => if b.blk.ctx = ctx ∧ e.2.tracked then some (e.2, b.blk) else none))

/-! ### Handles and the team-state port (R342, R408) -/

/-- KIND of a handle (R342). -/
def handleKind (h : W64) : Nat := h.toNat / 2 ^ 62

/-- A parked team whose record carries a SEQ of these low 62 bits (R342): its identity. -/
def State.parkedBySeq (s : State) (q : Nat) : Option Nat :=
  if q = 0 then none
  else
    let hit (t : Team) : Bool := t.parked && t.record.seq % 2 ^ 62 == q
    ((s.cores.flatMap (fun k => (k.2.teams.filter (fun e => hit e.2)).map (·.2.uid))) ++
      (s.saved.flatMap (fun b => (b.teams.filter (fun e => hit e.2)).map (·.2.uid)))).head?

/-- A port before anything is written to it (log 2). -/
def Port.initial : Port := { ctl := 0, off := 0, data := 0, stack := 0, entry := 0, signal := 0, status := 0, ended := false }

/-- Core c's port. -/
def State.port (s : State) (c : Nat) : Port := tabGet Port.initial s.ports c

/-- The identity of the team a port selects (R408). -/
def State.portTeam (s : State) (p : Port) : Option Nat :=
  if handleKind p.ctl = 0 then
    let slot := p.ctl.toNat % 32
    if slot = 0 then none else (s.team? (fld p.ctl.toNat 5 8, slot)).map (·.uid)
  else if handleKind p.ctl = 1 then s.parkedBySeq (p.ctl.toNat % 2 ^ 62)
  else none

/-- DATA reaches the team: it is parked, halted or swapped out (R408). A block that is placed again and has not started counts
as swapped out. -/
def State.reachable (s : State) (t : Team) : Bool :=
  t.parked || t.halted ||
    (match s.findBlock t.blk with
     | none => true
     | some p => ((tabGet? (s.core p.1).blocks p.2).map (fun b => !b.started && b.slotIx.isSome)).getD false)

/-- The place of a team's register image in its block's slot. -/
def State.rfoffOf (s : State) (t : Team) : Nat :=
  match s.findTeam t.uid with
  | some p => rfOffset (((s.core p.1).teamsOf t.blk).map (·.2)) t.tindex
  | none => rfOffset ((s.saved.filter (fun x => x.blk.uid == t.blk)).flatMap (fun x => x.teams.map (·.2))) t.tindex

/-- The team a port's DATA reaches. -/
def State.dataTeam (s : State) (p : Port) : Option Team := ((s.portTeam p).bind s.teamByUid).filter s.reachable

/-- STATUS as it reads (R408): 1 while an operation is in progress, 3 while the port selects no team that DATA reaches, and otherwise the
outcome of the last operation. A KILL or RELEASE that has ended keeps its outcome though the team is gone (DESIGN CHOICE, log 72). -/
def State.portStatus (s : State) (p : Port) : Nat :=
  if p.status = 1 ∨ (s.dataTeam p).isSome ∨ (p.ended ∧ (s.portTeam p).isNone) then p.status else 3

/-- The value a port's DATA reads: zero for a team it does not reach. -/
def State.dataWord (s : State) (p : Port) : Nat :=
  match s.dataTeam p with
  | none => 0
  | some t =>
    let b := s.blockByUid t.blk
    let rf := s.rfoffOf t
    leRead (fun o => BitVec.ofNat 8 (t.recordWord b rf (o / 8 * 8) / 2 ^ (8 * (o % 8)))) p.off 8

/-! ### The image of a team in its save slot (R392, R393) -/

/-- The physical base of save slot i of a context. -/
def State.saveSlot (s : State) (ctx i : Nat) : Nat := fld (s.ctxWord ctx 3) 22 30 * 2 ^ 22 + i * 2 ^ 22

/-- The device has written a range: the stamps of its lines move on, and no L1 copy of them stays (R81). -/
def State.touchRange (s : State) (lo n : Nat) : State :=
  let inside (line : Nat) : Bool := decide (lo ≤ line * 128 + 127) && decide (line * 128 < lo + n)
  let w := max s.syncTime s.agentTime
  { s with
    stamps := s.stamps.map (fun e => if inside e.1 then (e.1, ⟨max (e.2.rts + 1) w, max (e.2.rts + 1) w, e.2.epoch⟩) else e),
    cores := s.cores.map (fun k => (k.1, { k.2 with l1 := k.2.l1.filter (fun l => !inside l.1) })) }

/-- 64-bit words written upward from a physical address by the device. -/
def State.storeWords (s : State) (pa : Nat) (ws : List Nat) : State :=
  (s.memWrite pa (ws.flatMap (leBytes 8))).touchRange pa (8 * ws.length)

/-- The image of a team in a save slot (R393). -/
def State.storeTeam (s : State) (base : Nat) (ts : List Team) (b : Block) (t : Team) : State :=
  let rf := rfOffset ts t.tindex
  let s1 := s.storeWords (base + 0x4000 + 0x1000 * t.tindex) ((List.range 512).map (fun i => t.recordWord (some b) rf (8 * i)))
  s1.storeWords (base + rf) ((List.range (t.imageSize / 8)).map (fun i => t.recordWord (some b) rf (0x1000 + 8 * i)))

/-- The image of a saved team follows a change of its state (R392, R402, R408): its record stays in its save slot. -/
def State.syncSaved (s : State) (uid : Nat) : State :=
  match s.saved.find? (fun x => x.teams.any (fun e => e.2.uid == uid)) with
  | none => s
  | some x =>
    ((x.teams.map (·.2)).filter (fun t => t.uid == uid)).foldl (fun s t =>
      s.storeTeam (s.saveSlot x.blk.ctx x.slotIx) (x.teams.map (·.2)) x.blk t) s

end Sys2Proof.Machine
end

