-- ==== Sys2Proof/Machine/Mmio.lean ====
section
/-! DEFINITION. Reading the device registers (R364): the `MGT_`, `LKD_`, `QSC_`, `XLT_`, `DBG_` and `TRC_` blocks and the
front-end registers. Their writes are the row REGISTER_WRITE and the rows that have a name of their own. -/

namespace Sys2Proof.Machine

/-! ### The `MGT_` block (R396, R403, R408, R435) -/

/-- A register of the `MGT_` block that holds what was written to it (R396, R403, R435; log 2). LIMIT has a reset value. -/
def State.mgtReg (s : State) (off : Nat) : W64 := tabGet (if off = 0x20 then 2600 else 0) s.mgt off

/-- The entry of `MGT_PODMAP` for device d (R435). -/
def State.podEntry (s : State) (d : Nat) : Nat := fld (s.mgtReg (0x4000 + d / 4 * 8)).toNat (16 * (d % 4)) 16

/-- The sum of 2^(lo + i) for the i below n of which a list holds `base + i`. -/
def bitsIn (l : List Nat) (base lo n : Nat) : Nat :=
  (List.range n).foldl (fun r i => if l.contains (base + i) then r + 2 ^ (lo + i) else r) 0

/-- `MGT_FENCED` (R435). -/
def State.fencedWord (s : State) : Nat := bitsIn s.fenced 0 0 4 + bitsIn s.fenced 120 4 4 + bitsIn s.fenced 130 8 12

/-- A word of a team-state port (R408). OP is write-only. -/
def State.portWord (s : State) (c off : Nat) : Nat :=
  let p := s.port c
  if off = 0x00 then p.ctl.toNat
  else if off = 0x08 then p.off
  else if off = 0x10 then s.dataWord p
  else if off = 0x18 then p.stack.toNat
  else if off = 0x20 then p.entry.toNat
  else if off = 0x28 then at' (s.portStatus p) 30 + at' p.signal 8
  else 0

/-- An engine of a core has work that goes on (R396): a box in flight, a copy that is queued or runs, or an operation that runs. -/
def Core.enginesBusy (k : Core) : Bool :=
  k.copies.any (fun y => !y.boxes.isEmpty || decide (y.state ≤ 1)) ||
    k.ops.any (fun o => o.fault.isNone && (o.running || decide (o.kind ≠ .mma)))

/-- Steps 2 and 3 of a cut are not over (R396): a block is still being saved, or a store or an engine's work is outstanding. -/
def State.cutOpen (s : State) : Bool :=
  !s.late.isEmpty || s.cores.any (fun k => k.2.blocks.any (fun b => b.2.swapping) || !k.2.stores.isEmpty || k.2.enginesBusy)

/-- The cut of R437 is complete: FREEZE stands, every block that can be saved is, nothing is outstanding, and the region is written. -/
def State.frozenNow (s : State) : Bool := (s.mgtReg 0).getLsbD 0 && !s.fe.ckpt && !s.cutOpen && !s.fe.regionDue

/-- A word of the `MGT_` block. ELOGTAIL follows the records that have been written (R431). -/
def State.mgtWord (s : State) (off : Nat) : Nat :=
  if 0x80000 ≤ off ∧ off < 0x84000 then s.portWord ((off - 0x80000) / 0x40) (off % 0x40)
  else if off = 0 then at' (bit s.frozenNow) 1 + (s.mgtReg 0).toNat
  else if off = 0x20 then at' (if s.withheld = 0 then s.clock else 1000) 32 + (s.mgtReg 0x20).toNat
  else if off = 0x28 then s.fencedWord
  else if off = 0x10 then (s.mgtReg 0x10).toNat - (s.late.filter (fun w => decide (w.src = .log))).length
  else (s.mgtReg off).toNat

/-! ### The `LKD_` and `QSC_` blocks (R125, R141) -/

/-- A word of the `LKD_` block (R125). -/
def State.lkdWord (s : State) (off : Nat) : Nat :=
  if off = 0 then at' s.lkdTiming.1 32 + s.lkdTiming.2
  else if off = 8 then at' s.lkdCounts.1 32 + s.lkdCounts.2
  else 0

/-- A word of the `QSC_` block (R141). -/
def State.qscWord (s : State) (off : Nat) : Nat :=
  if off = 0 then at' s.qscProc 20 + s.qscStall
  else if off = 8 then at' s.qscCounts.1 32 + s.qscCounts.2
  else if 0x1000 ≤ off ∧ off < 0x41000 then
    let i := (off - 0x1000) / 0x40
    let p := s.proc i
    if off % 0x40 = 0 then p.gen.toNat
    else if off % 0x40 = 8 then p.completed.toNat
    else if off % 0x40 = 0x10 then
      at' p.deferred.length 47 + at' p.pairs.length 32 + ((s.trackedTeams i).length + (s.trackedSaved i).length) % 2 ^ 22
    else if off % 0x40 = 0x18 then ((p.pairs.head?).map (fun e => e.1.toNat)).getD (2 ^ 64 - 1)
    else 0
  else 0

/-! ### The `XLT_` block (R387) -/

/-- The shootdowns in progress that the counts show: an ATS invalidation does not appear (R387). -/
def State.pendingShootdowns (s : State) : Nat := (s.shootdowns.filter (fun x => x.counted)).length

/-- A word of the `XLT_` block (R387). -/
def State.xltWord (s : State) (off : Nat) : Nat :=
  if off = 0x28 then (s.xltReg 0x28).toNat + s.pendingShootdowns else (s.xltReg off).toNat

/-! ### The `DBG_` block (R413) -/

/-- The statistics of L2 slice g (R413). HOTOPEN and HOTWAIT count on from what they were, by a free amount; LINES and PACKED are what the
slice holds now, free within its 65,536 data blocks and 131,072 tags (R78), of which two packed lines share a block (log 4). -/
def State.sliceWord (s : State) (off : Nat) : Nat :=
  let n := tabGet (0, 0) s.slices (off / 0x20)
  let free (k : Nat) : Nat := Config.freeNat (s.tick + off / 0x20 * 4 + k)
  let packed := free 3 % 131073
  match off % 0x20 / 8 with
  | 0 => (n.1 + free 0) % 2 ^ 64
  | 1 => (n.2 + free 1) % 2 ^ 64
  | 2 => packed + free 2 % (65537 - (packed + 1) / 2)
  | _ => packed

/-- The statistics of a slice stand at the values that a read has shown (R413). -/
def State.keepSlice (s : State) (off : Nat) : State :=
  { s with slices := tabSet s.slices (off / 0x20) (s.sliceWord (off / 0x20 * 0x20), s.sliceWord (off / 0x20 * 0x20 + 8)), tick := s.tick + 128 }

/-- A word of the `DBG_` block (R413): the copy-queue image is that of the core named in DBG_CMD. -/
def State.dbgWord (s : State) (off : Nat) : Nat :=
  if 0x1000 ≤ off ∧ off < 0x2000 then
    ((((s.core ((s.dbgReg 8).toNat % 256)).copies.flatMap Copy.image)[(off - 0x1000) / 8]?).getD 0)
  else if 0x8000 ≤ off ∧ off < 0x8400 then s.sliceWord (off - 0x8000)
  else (s.dbgReg off).toNat

/-! ### The `TRC_` block (R421) -/

/-- A word of a trace unit (R421). The IDLE counts, and counters of cycles, hold timing that this model does not keep, and counters of L1
load misses count lines that the hardware had to give up: once the unit has been enabled, and for IDLE once a traced team has stood on a
datapath, a free amount is added to what they hold (log 1). -/
def Trace.word (u : Trace) (tick off : Nat) : Nat :=
  if off = 0x000 then at' u.teams.toNat 32 + u.ctl.toNat
  else if off = 0x008 then u.base.toNat
  else if off = 0x010 then u.wptr
  else if off = 0x018 then at' u.lost 32 + at' u.skipped 16 + at' (bit u.err) 2 + at' (bit u.paused) 1 + bit u.full
  else if 0x100 ≤ off ∧ off < 0x200 then
    let r := tabGet (0, 0) u.ranges ((off - 0x100) / 16)
    if off % 16 = 0 then r.1.toNat else r.2.toNat
  else if 0x200 ≤ off ∧ off < 0x420 then
    let n := ((tabGet [] u.cycles ((off - 0x200) / 32))[off % 32 / 8]?).getD 0
    (n + if off % 32 = 24 ∧ u.seen then Config.freeNat (tick + off) else 0) % 2 ^ 64
  else if 0x500 ≤ off ∧ off < 0x580 then
    let c := tabGet ⟨0, 0, false⟩ u.counters ((off - 0x500) / 16)
    if off % 16 = 0 then at' (bit c.ovf) 8 + c.event
    else (c.count + (if u.ran ∧ (c.event = 0 ∨ c.event = 3) then Config.freeNat (tick + off) else 0)) % 2 ^ 48
  else 0

/-- A word of the trace unit of core c: WPTR covers no word that still waits to be written (R423). -/
def State.trcWord (s : State) (c off : Nat) : Nat :=
  if off = 0x010 then
    ((s.late.findSome? (fun w => match w.src with | .trace d at_ => if d = c then some at_ else none | _ => none)).getD
      (s.core c).trace.wptr)
  else (s.core c).trace.word s.tick off

/-! ### The front-end registers (R365) -/

/-- A word of the front-end registers (R365). -/
def State.feWord (s : State) (off : Nat) : Nat :=
  let f := s.fe
  if off = 0x00 then
    at' f.fwver.toNat 32 + at' f.upderr 8 + at' (bit f.recovery) 4 + at' (bit f.stretch) 3 + at' (bit f.updating) 2 +
      at' (bit f.standby) 1 + f.active
  else if off = 0x10 then f.image.toNat
  else if off = 0x18 then f.qtab.toNat
  else if off = 0x20 then f.runlist.toNat
  else if off = 0x28 then f.capSeq.toNat
  else if off = 0x30 then f.capCons.toNat
  else if off = 0x38 then at' f.drops 32 + f.capture.length
  else if off = 0x40 then f.launchNo
  else 0

/-! ### The management aperture (R364) -/

/-- The first offset of the on-chip windows in the management aperture (R364). -/
def windowsAt : Nat := 0x100000000

/-- The value of the 64-bit register at an offset of the management aperture, the windows of the cores among them, which no owner
check guards: what is not listed reads as zero. -/
def State.mmioWord (s : State) (off : Nat) : Nat :=
  if off < 0x100000 then s.mgtWord off
  else if off < 0x200000 then s.lkdWord (off - 0x100000)
  else if off < 0x300000 then s.qscWord (off - 0x200000)
  else if off < 0x400000 then s.xltWord (off - 0x300000)
  else if off < 0x500000 then s.dbgWord (off - 0x400000)
  else if off < 0x600000 then s.trcWord ((off - 0x500000) / 0x1000) (off % 0x1000)
  else if 0x1000000 ≤ off ∧ off < 0x1001000 then s.feWord (off - 0x1000000)
  else if windowsAt ≤ off ∧ off < 2 * windowsAt then leRead (s.winByte ((off - windowsAt) / 0x1000000)) (off % 0x1000000) 8
  else 0

/-- The offsets at which a privileged access finds a block (R364); elsewhere the range is RSV (R61). -/
def mmioListed (off : Nat) : Bool :=
  decide (off < 0x600000) || (decide (0x1000000 ≤ off) && decide (off < 0x1001000))

/-- A byte of the device registers. -/
def State.mmioByte (s : State) (off : Nat) : Byte := BitVec.ofNat 8 (s.mmioWord (off / 8 * 8) / 2 ^ (8 * (off % 8)))

/-- The 64-bit value a store of some bytes gives the register it lies in. -/
def mergeWord (old sh : Nat) (bs : List Byte) : Nat :=
  match bs with
  | [] => old
  | b :: t => mergeWord (old - old / 2 ^ sh % 256 * 2 ^ sh + b.toNat * 2 ^ sh) (sh + 8) t

/-- The W1C bits of the register at an offset (R12): what a narrower store does not write must not clear them. -/
def w1cBits (off : Nat) : Nat :=
  if off = 0x100008 ∨ off = 0x200008 then 2 ^ 64 - 1
  else if off = 0x300028 then 2 ^ 7
  else if off = 0x1000038 then 2 ^ 64 - 2 ^ 32
  else if 0x408000 ≤ off ∧ off < 0x408400 then 2 ^ 64 - 1
  else if 0x500000 ≤ off ∧ off < 0x600000 ∧ off % 0x1000 = 0x18 then 2 ^ 64 - 2 ^ 16
  else if 0x500000 ≤ off ∧ off < 0x600000 ∧ 0x500 ≤ off % 0x1000 ∧ off % 0x1000 < 0x580 ∧ off % 16 = 0 then 2 ^ 8
  else 0

/-- What a store of some bytes gives the register it lies in (R12). -/
def State.mergedWord (s : State) (off : Nat) (bs : List Byte) : Nat :=
  let w := off / 8 * 8
  mergeWord (s.mmioWord w &&& (2 ^ 64 - 1 - w1cBits w)) (8 * (off % 8)) bs

/-- A store to a device register comes before everything else that is to happen (R364). -/
def State.mmioStore (s : State) (off : Nat) (bs : List Byte) : State :=
  let w := off / 8 * 8
  { s with agenda := .registerWrite w (.word (BitVec.ofNat 64 (s.mergedWord off bs))) :: s.agenda }

/-- What a load of a device register leaves: the free amounts of its value are drawn anew at the next load (log 4), and a load of a
port's DATA is the row TEAM_STATE_DATA_READ beside the value it returns (R408). -/
def State.mmioTouch (s : State) (off : Nat) : State :=
  if 0x80000 ≤ off ∧ off < 0x84000 ∧ off % 0x40 / 8 = 2 then
    { s with agenda := .teamStateDataRead ((off - 0x80000) / 0x40) :: s.agenda, tick := s.tick + 1 }
  else if 0x408000 ≤ off ∧ off < 0x408400 then s.keepSlice (off - 0x408000)
  else s.draw

end Sys2Proof.Machine
end

