-- ==== Sys2Proof/Machine/Access.lean ====
section
/-! DEFINITION. The checks of an access in the order of R295, the watchpoints (R419), and performing loads, stores and
atomics where R61, R81 and R304 say. -/

namespace Sys2Proof.Machine

/-- The kinds of access (R295, R419). `red` is a `red` that
is done when the store buffer has it (R302). A `ldp` and a `stp` check each byte of a block (R297). The two `check` kinds are
those of a drain's destination, which nothing holds back before the drain writes (R324, R443); `boxWrite` is a copy engine's. -/
inductive AKind where
  | load | store | atomic | red | ldb | ldp | stp | lock | fetch | pref | engineRead | engineWrite | boxWrite | checkRead | checkWrite
  deriving DecidableEq, Repr

/-- What each kind needs of its page (R295). -/
def AKind.need : AKind → Need
  | .load | .lock | .pref | .engineRead | .checkRead => ⟨true, false, false, false, false⟩
  | .store | .engineWrite | .boxWrite | .checkWrite => ⟨false, true, false, false, false⟩
  | .atomic | .red => ⟨true, true, false, false, false⟩
  | .ldb => ⟨true, false, false, true, false⟩
  | .ldp => ⟨true, false, false, false, true⟩
  | .stp => ⟨false, true, false, false, true⟩
  | .fetch => ⟨false, false, true, false, false⟩

/-- A checked access: physical address, class (R64), grain (R79) and virtual address. -/
structure Phys where
  pa : Nat
  cls : Nat
  grain : Nat
  va : Nat
  deriving DecidableEq, Repr

/-- What holds an access back: a tile entry that is filling or draining (R74), or a line an engine owns or whose
invalidation is not acknowledged (R85, R103). -/
inductive Hold where
  | tile (core entry : Nat)
  | line (n : Nat)
  deriving DecidableEq, Repr

/-- What the checks answer. -/
inductive AccRes where
  | ok (p : Phys)
  | fault (f : LaneFault)
  | hold (h : Hold)
  deriving DecidableEq, Repr

/-- A fault at an address. -/
def accFault (code sub : Nat) (va : W64) : AccRes := .fault ⟨code, sub, va⟩

/-- The lower of the two local apertures' bounds (R62). -/
def apertureBase : Nat := 0x00FFFFFFFFF00000

/-- The window address of an address in a local aperture (R62): none outside what the block holds. -/
def apertureAddr (a : Agent) (va : Nat) : Option Nat :=
  match a.blk with
  | none => none
  | some b =>
    let o := va - apertureBase
    if 0x80000 ≤ o then
      let p := o - 0x80000
      (b.spList[p / 1024]?).map (fun g => windowBase a.core + 0x400000 + g * 1024 + p % 1024)
    else
      (b.accList[o / 0x4000]?).map (fun e => windowBase a.core + 0x600000 + e * 0x4000 + o % 0x4000)

/-- The window address of an access of some bytes in a local aperture (R62): none when any of its bytes is outside what
the block holds, which is decided before alignment (R295). -/
def apertureAt (a : Agent) (va size : Nat) : Option Nat :=
  if (apertureAddr a (va + (size - 1))).isSome then apertureAddr a va else none

/-- The read-only ranges of a window (R67). -/
def winReadOnly (r : WinRange) : Bool :=
  match r with
  | .tileTable | .place | .slot => true
  | _ => false

/-- An access writes. -/
def AKind.writes : AKind → Bool
  | .store | .atomic | .red | .stp | .engineWrite | .boxWrite | .checkWrite => true
  | _ => false

/-- The kinds that nothing holds back: the checks of a drain's destination. -/
def AKind.free : AKind → Bool
  | .checkRead | .checkWrite => true
  | _ => false

/-- The owner check of R68 passes. -/
def State.ownerOk (s : State) (a : Agent) (c off : Nat) : Bool := a.priv || s.winOwner c off == some a.pasid

/-- The window checks 1 to 5 of R67 in their order. -/
def State.winCheck (s : State) (a : Agent) (c off : Nat) (k : AKind) (va : W64) : Option AccRes :=
  let r := winRange off
  if r = .hole then some (accFault 0x09 3 va)
  else if k = .fetch then some (accFault 0x09 4 va)
  else if (k = .atomic ∨ k = .red) ∧ r ≠ .scratch then some (accFault 0x09 8 va)
  else if k.writes ∧ winReadOnly r then some (accFault 0x09 7 va)
  else if s.ownerOk a c off = false then some (accFault 0x09 9 va)
  else none

/-- Check 6 of R67: the size and alignment that a window range permits. A lock instruction names no size (R308, R310). -/
def winSized (off size : Nat) (k : AKind) : Bool :=
  let r := winRange off
  k == .lock || !((winReadOnly r && (size != 8 || off % 8 != 0)) || (r == .regFile && ((size != 4 && size != 8) || off % 4 != 0)))

/-- A load or store through tile memory acts by the entry's state (R74). -/
def State.tileGate (s : State) (c off : Nat) (k : AKind) (va : W64) : Option AccRes :=
  match winTile off with
  | none => none
  | some e =>
    let x := (s.core c).tile e
    if k = .lock then none
    else if x.state = 1 ∧ x.faulted then some (accFault 0x18 6 va)
    else if x.state = 1 then some (.hold (.tile c e))
    else if x.state = 3 ∧ k.writes then some (.hold (.tile c e))
    else none

/-- The poisoned unit that an access of some bytes through a window meets, as a fault's address gives it: a register of a lane that it
reads, by its number, or a sector, by its window address (R433). What a drain or a box writes of a sector is judged as a whole (`partSector`). -/
def State.winPoisoned (s : State) (c off size : Nat) (k : AKind) : Option Nat :=
  match winRange off with
  | .regFile =>
    if k.writes then none
    else
      [off, off + size - 1].findSome? (fun o =>
        match (s.core c).granuleOwner (o / 512) with
        | some (_, t, i) => if t.vpoison.contains (granuleReg t i (o % 512)) then some (granuleReg t i (o % 512)).1 else none
        | none => none)
  | _ =>
    if k != .checkWrite && k != .boxWrite && s.winPoison.contains ((windowBase c + off) / 32) then some ((windowBase c + off) / 32 * 32) else none

/-- A team stands between two passes of an instruction that goes on by itself. -/
def State.midUnit (s : State) (c slot : Nat) (t : Team) : Bool :=
  slot != 0 && t.done != 0 && t.canIssue (s.blockOf c t) && t.hold.isNone && !t.waiting

/-- A register that an access to a register-file offset names belongs to another team than `self`, which is between two passes of an
instruction: a store takes effect between two of its instructions (R72). -/
def State.regBusy (s : State) (c off : Nat) (self : Option Nat) : Bool :=
  winRange off == .regFile &&
    (match (s.core c).granuleOwner (off / 512) with
     | some (slot, t, _) => some t.uid != self && s.midUnit c slot t
     | none => false)

/-! ### The paths of an access and their fence counters (R101, R102) -/

/-- The UALink port that reaches a pod address: the lowest in PORTS that is not fenced (R439). -/
def State.egress (s : State) (pa : Nat) : Option Nat :=
  let x := s.podEntry (pa / 2 ^ 40 % 1024)
  (List.range 12).find? (fun p => fld x p 1 == 1 && !s.fenced.contains (130 + p))

/-- The switches and egresses that a store or atomic of core c passes (R101): 0 to 3 the switch of a die, 4 + p the egress of CXL
port p, 8 + p that of UALink port p. An access that stays on its die passes none. -/
def State.pathsOf (s : State) (c pa : Nat) : List Nat :=
  let d := dieOf c
  match regionOf pa with
  | .hbm | .cxl _ => let h := sliceDie (s.homeOf pa); if h = d then [] else [d, h]
  | .host => [d, 4]
  | .pod => d :: ((s.egress pa).map (fun p => 8 + p)).toList
  | .window k _ => if dieOf k = d then [] else [d, dieOf k]
  | _ => []

/-- The fence counter of a path for a source core (R101): the accesses of the core that it counted and that are not
acknowledged. -/
def State.fenceCount (s : State) (path c : Nat) : Nat :=
  ((s.core c).stores.filter (fun p => (s.pathsOf c p.pa).contains path)).length

/-- A switch or egress on the way of an access accepts no further one from the core (R102). -/
def State.counterFull (s : State) (c pa : Nat) : Bool :=
  (s.pathsOf c pa).any (fun path => decide (65535 ≤ s.fenceCount path c))

/-! ### The checks of an access (R295) -/

/-- Step 1 of R295: canonical form and half (R60). -/
def stepForm (a : Agent) (va : W64) : Option AccRes :=
  if canonical va = false then some (accFault 0x09 1 va)
  else if a.priv = false ∧ va.getLsbD 56 then some (accFault 0x09 2 va)
  else none

/-- An address in the two local apertures (R62). -/
def inAperture (va : W64) : Bool := decide (apertureBase ≤ va.toNat % 2 ^ 57) && decide (va.toNat % 2 ^ 57 < 2 ^ 56)

/-- Step 2 of R295: the physical address of an access with its leaf, none in an aperture, which has no translation: no `ldb` goes
through one (R65), and an access outside what the block holds finds nothing (R62). -/
def State.locate (s : State) (a : Agent) (size : Nat) (k : AKind) (va : W64) : Except AccRes (Phys × Option Nat) × State :=
  if inAperture va then
    if k = .ldb then (.error (accFault 0x09 4 va), s)
    else
      match apertureAt a (va.toNat % 2 ^ 57) size with
      | none => (.error (accFault 0x09 6 va), s)
      | some pa => (.ok (⟨pa, 2, 128, va.toNat⟩, none), s)
  else
    match s.translate a (va.toNat % 2 ^ 57) k.need with
    | (.error (code, sub), s1) => (.error (if code = 0 then .hold (.line sub) else accFault code sub va), s1)
    | (.ok x, s1) =>
      if s1.classOk x.leaf x.pa = false then (.error (accFault 0x08 2 va), s1)
      else (.ok (⟨x.pa, pteClass x.leaf, s1.grainAt x.leaf x.pa, va.toNat⟩, some x.leaf), s1)

/-- Step 3 of R295: the region and the window rules. Host memory behind a port that is fenced off is a hole (log 89). -/
def State.regionCheck (s : State) (a : Agent) (va : W64) (p : Phys) (k : AKind) : Option AccRes :=
  match regionOf p.pa with
  | .rsv => some (accFault 0x09 3 va)
  | .devreg off =>
    if a.priv = false then some (accFault 0x09 4 va)
    else if mmioListed off = false then some (accFault 0x09 3 va)
    else none
  | .cxl _ => if s.cxlHole p.pa then some (accFault 0x09 3 va) else none
  | .pod =>
    let d := p.pa / 2 ^ 40 % 1024
    let podid := (s.mgtReg 0x0038).toNat % 1024
    if 0x8000000000 ≤ p.pa % 2 ^ 40 ∨ d = podid ∨ fld (s.podEntry d) 15 1 = 0 then some (accFault 0x09 3 va) else none
  | .host => if s.fenced.contains 120 then some (accFault 0x09 3 va) else none
  | .hbm => none
  | .window c off => if p.cls ≠ 2 then some (accFault 0x09 5 va) else s.winCheck a c off k va

/-- Steps 4 and 5 of R295: alignment, with the sizes of a window range, and poison. -/
def State.alignPoison (s : State) (va : W64) (p : Phys) (size align : Nat) (k : AKind) : Option AccRes :=
  let sized := match regionOf p.pa with | .window _ off => winSized off size k | _ => true
  if va.toNat % align ≠ 0 ∨ sized = false then some (accFault 0x0A 0 va)
  else
    match regionOf p.pa with
    | .hbm | .cxl _ | .host => if s.poisoned (p.pa / 128) then some (accFault 0x0B 0 va) else none
    | .window c off =>
      if k = .lock then none else (s.winPoisoned c off size k).map (fun x => accFault 0x0B 0 (BitVec.ofNat 64 x))
    | _ => none

/-- An access is served by the L1 and the home with stamps: normal class, in HBM, expansion or host memory (R61). A leaf of class
window over one of these is served as an uncached one (R64; DESIGN CHOICE, log 103). -/
def Phys.cached (p : Phys) : Bool :=
  p.cls == 0 &&
    (match regionOf p.pa with
     | .hbm | .cxl _ | .host => true
     | _ => false)

/-- An access is performed at the home within its own step: an atomic, a packed store, a unit's write, and every store to an
uncached page (R61, R96, R297, R304). -/
def AKind.writesHome (k : AKind) (cached : Bool) : Bool :=
  k == .atomic || k == .stp || k == .engineWrite || k == .boxWrite || ((k == .store || k == .red) && !cached)

/-- An access needs what its core has pending on the line performed first (R89, R94). -/
def PendStore.before (p : PendStore) (a : Agent) (k : AKind) (cached : Bool) : Bool :=
  if k == .load && cached then (match a.team with | some u => p.homeFirst u | none => true)
  else if k == .store || k == .red then !cached
  else k != .pref && k != .fetch && k != .lock && k != .ldb

/-- Host memory that a core holds no copy of is read while port 0 is down (log 89). -/
def State.hostAway (s : State) (c pa : Nat) : Bool :=
  decide (regionOf pa = .host) && (s.unreachable c pa).isSome && (s.l1Hit c (pa / 128)).isNone

/-- The accesses of a team to uncached pages of the device that a pod address names (R96). -/
def PendStore.toDevice (p : PendStore) (uid pa : Nat) : Bool := p.uncached && p.team == uid && p.pa / 2 ^ 40 == pa / 2 ^ 40

/-- An access to an uncached page of another device waits for an older one of its team that a copy engine holds up (R85, R96). -/
def State.deviceHeld (s : State) (a : Agent) (p : Phys) : Bool :=
  decide (regionOf p.pa = .pod) && p.cls != 0 &&
    (match a.team with
     | some u => (s.core a.core).stores.any (fun q => q.toDevice u p.pa && s.lineOwned (q.pa / 128))
     | none => false)

/-- The access waits for its line (R85, R103): a copy engine owns it, a holder that must give its copy back does not answer, a
pending access that comes first waits for such an answer, a fence counter on the way is full (R102), or the host, whose memory it
reads, cannot be reached (log 89). -/
def State.lineHeld (s : State) (a : Agent) (p : Phys) (k : AKind) : Bool :=
  s.lineOwned (p.pa / 128) ||
    (k.writesHome p.cached && (s.unreachable a.core p.pa).isSome) ||
    (s.core a.core).stores.any (fun q => q.pa / 128 == p.pa / 128 && q.before a k p.cached &&
      (q.stuck.isSome || (s.unreachable a.core q.pa).isSome)) ||
    (k.writes && s.counterFull a.core p.pa) ||
    (!k.writes && s.hostAway a.core p.pa) || s.deviceHeld a p

/-- What holds back an access to a window: a busy range (R85), a full counter on the way (R102), or an instruction of the team whose
register it writes (R72). -/
def State.windowHeld (s : State) (a : Agent) (c off : Nat) (p : Phys) (size : Nat) (k : AKind) : Bool :=
  s.rangeBusy p.pa size || (k.writes && (s.counterFull a.core p.pa || s.regBusy c off a.team))

/-- What holds back an access that has passed its checks: the line (R85, R102, R103), what holds a window's bytes, or the state of a
tile entry (R74). A lock request that names a window meets none of these: it is answered at once (R108, R308). -/
def State.gate (s : State) (a : Agent) (va : W64) (p : Phys) (size : Nat) (k : AKind) : Option AccRes :=
  if k.free then none
  else
    match regionOf p.pa with
    | .hbm | .cxl _ | .host | .pod => if s.lineHeld a p k then some (.hold (.line (p.pa / 128))) else none
    | .window c off =>
      if k = .lock then none
      else if s.windowHeld a c off p size k then some (.hold (.line (p.pa / 128)))
      else s.tileGate c off k va
    | _ => none

/-- Steps 3 to 5 of R295 for one physical address, then what holds the access back. -/
def State.physCheck (s : State) (a : Agent) (va : W64) (p : Phys) (size align : Nat) (k : AKind) : AccRes :=
  match s.regionCheck a va p k with
  | some r => r
  | none =>
    match s.alignPoison va p size align k with
    | some r => r
    | none => (s.gate a va p size k).getD (.ok p)

/-- The watchpoint kinds an access matches (R419): bits READ, WRITE, ATOMIC. -/
def AKind.watchBit : AKind → Option Nat
  | .load | .ldb | .ldp => some 0
  | .store | .stp => some 1
  | .atomic | .red => some 2
  | _ => none

/-- The lowest watchpoint an access of some bytes matches (R419). -/
def State.watchHit (s : State) (pa size : Nat) (k : AKind) : Option Nat :=
  match k.watchBit with
  | none => none
  | some b =>
    (List.range 8).find? (fun w =>
      let x := (s.dbgReg (0x100 + 16 * w)).toNat / 8 % 2 ^ 49 * 8
      let c := s.dbgReg (0x108 + 16 * w)
      let len := 2 ^ max 3 (min 12 (c.toNat / 16 % 16))
      c.getLsbD b && decide (x / len * len < pa + size) && decide (pa < x / len * len + len))

/-- The second page that an access of some bytes reaches into, by the address of its first byte there. Such an access is
misaligned; its earlier checks are made in both pages (R295). -/
def pageCross (va : W64) (size : Nat) : Option W64 :=
  if 4096 < va.toNat % 4096 + size then some (va + BitVec.ofNat 64 (4096 - va.toNat % 4096)) else none

/-- Steps 1 to 3 of R295 in the second page of an access, when its first page passes step 2. -/
def State.secondPage (s : State) (a : Agent) (k : AKind) (first : Option AccRes) (va : W64) : Option AccRes × State :=
  match s.locate a 1 k va with
  | (.error r, s1) => (some r, s1)
  | (.ok (p, _), s1) => (first.or (s1.regionCheck a va p k), s1)

/-- All checks of an access of `size` bytes with an alignment, in the order of R295, with its leaf. The state keeps the translation it
cached. While an epoch change is due, every access is held (R82). -/
def State.access0 (s : State) (a : Agent) (va : W64) (size align : Nat) (k : AKind) : AccRes × Option Nat × State :=
  if s.epochDue then (.hold (.line (va.toNat / 128)), none, s)
  else
    match (stepForm a va).or ((pageCross va size).bind (stepForm a)) with
    | some r => (r, none, s)
    | none =>
      match s.locate a size k va with
      | (.error r, s1) => (r, none, s1)
      | (.ok (p, leaf), s1) =>
        match (pageCross va size).map (s1.secondPage a k (s1.regionCheck a va p k)) with
        | some (some r, s2) => (r, none, s2)
        | some (none, s2) => (accFault 0x0A 0 va, none, s2)
        | none => (s1.physCheck a va p size align k, leaf, s1)

/-- An access that has passed everything reaches its home: the directory has an entry for it, at whose grain the home serves it (R66,
R80). -/
def State.taken (s : State) (p : Phys) (leaf : Option Nat) : Phys × State :=
  match leaf with
  | none => (p, s)
  | some e => let s1 := s.touchDir e p.pa; ({ p with grain := s1.grainAt e p.pa }, s1)

/-- An access: its checks (R295), the watchpoints (R419), and its directory entry. -/
def State.access (s : State) (a : Agent) (va : W64) (size align : Nat) (k : AKind) : AccRes × State :=
  match s.access0 a va size align k with
  | (.ok p, leaf, s1) =>
    match s1.watchHit p.pa size k with
    | some w => (accFault 0x28 w va, s1)
    | none => let (q, s2) := s1.taken p leaf; (.ok q, s2)
  | (r, _, s1) => (r, s1)

/-! ### Performing -/

/-- An access of n bytes of a team as its core's L1 port takes it: `cells` are its bytes, `tag` the scope of a release. -/
def State.pendOf (s : State) (c uid : Nat) (p : Phys) (n : Nat) (cells : List Host.Cell) (tag : Option Scope) : PendStore :=
  { team := uid, blk := (((s.findTeam uid).bind s.team?).map (·.blk)).getD 0, no := (s.core c).storeNo, pa := p.pa, va := p.va,
    size := n, uncached := p.cls != 0, chain := none, data := cells, red := none, tag := tag, mayMerge := tag.isSome, ordered := false,
    stuck := none }

/-- The older accesses of a team to uncached pages of a device are performed, as a later one of the team needs (R96). -/
def State.deviceFirst (s : State) (c uid : Nat) (p : Phys) : State :=
  if p.cls = 0 then s else s.drainCore c (fun q => q.toDevice uid p.pa)

/-- The access of an earlier lane of the pass to a location, with its place in the queue (R305). -/
def State.sameLocation (s : State) (c uid pa : Nat) (red : Bool) : Option (PendStore × Nat) :=
  (((s.core c).stores.zipIdx).filter (fun e => e.1.team == uid && e.1.pa == pa && e.1.chain.isSome && e.1.red.isSome == red)).getLast?

/-- A pass of a vector atomic is over: no later lane joins its accesses (R305). -/
def State.endPass (s : State) (c uid : Nat) : State :=
  let k := s.core c
  if k.stores.any (fun p => p.team == uid && p.chain.isSome) then
    s.setCore c { k with stores := k.stores.map (fun p => if p.team = uid then { p with chain := none } else p) }
  else s

/-- What an agent sees as the stamp of a value that another device wrote: no time orders it, so it counts as the latest (R91, log 87). -/
def State.podStamp (s : State) : Nat := max s.syncTime s.agentTime

/-- A load of n bytes by a team: the value, the write stamp it saw, and the state after. -/
def State.doLoad (s : State) (c uid : Nat) (p : Phys) (n : Nat) : Nat × Nat × State :=
  match regionOf p.pa with
  | .window k off => let (w, s1) := s.loadHome c (p.pa / 128); (leRead (s1.winByte k) off n, w, s1)
  | .devreg off => let (w, s1) := s.loadHome c (p.pa / 128); (leRead s1.mmioByte off n, w, s1.mmioTouch off)
  | .pod =>
    let s1 := s.deviceFirst c uid p
    (leRead (fun a => (pendByte (s1.core c).stores uid a).getD (Config.podByte s1.tick a)) p.pa n, s1.podStamp, s1.draw)
  | _ => if p.cached then s.loadCached c uid p.pa n else s.loadAtHome c p.pa n

/-- A broadcast load (R298): the line is read without a lease or stamp. The value, the write stamp it saw, and what a read of a device
register leaves. -/
def State.doLdb (s : State) (c uid : Nat) (p : Phys) (n : Nat) : Nat × Nat × State :=
  match regionOf p.pa with
  | .pod => (leRead (fun a => (pendByte (s.core c).stores uid a).getD (Config.podByte s.tick a)) p.pa n, s.podStamp, s)
  | .devreg off => (leRead s.mmioByte off n, (s.stampOf (p.pa / 128)).wts, s.mmioTouch off)
  | _ =>
    (leRead (s.coreByte c uid) p.pa n, ((s.l1Hit c (p.pa / 128)).map (·.wts)).getD (s.stampOf (p.pa / 128)).wts, s)

/-- A store of bytes by a team (its identity) of core c, with the scope of a release. -/
def State.doStore (s : State) (c uid : Nat) (p : Phys) (bs : List Byte) (tag : Option Scope) : State :=
  match regionOf p.pa with
  | .window k off => (s.winWrite k off bs).stampStore c (p.pa / 128)
  | .devreg off => (s.mmioStore off bs).stampStore c (p.pa / 128)
  | .pod => s.acceptStore c (s.pendOf c uid p bs.length (cellsAt p.pa bs) tag)
  | _ =>
    if p.cached then s.acceptStore c (s.pendOf c uid p bs.length (cellsAt p.pa bs) tag)
    else ((s.drainLine c (p.pa / 128)).invalidate c p.pa).storeHome c p.pa bs

/-- An indivisible read-modify-write of n bytes by a team at the place of R304: the old value, the stamp it saw, and the state.
`f` gives the new value, or none to write nothing. An access to pod memory is counted (R101), and reads what an earlier lane of its pass
left there (R305). -/
def State.doAtomic (s0 : State) (c uid : Nat) (p : Phys) (n : Nat) (f : Nat → Option Nat) : Nat × Nat × State :=
  let s := s0.sealStores c uid
  match regionOf p.pa with
  | .window k off =>
    let (w, s1) := s.loadHome c (p.pa / 128)
    let old := leRead (s1.winByte k) off n
    match f old with
    | some x => (old, w, (s1.winWrite k off (leBytes n x)).stampStore c (p.pa / 128))
    | none => (old, w, s1)
  | .devreg off =>
    let (w, s1) := s.loadHome c (p.pa / 128)
    let old := leRead s1.mmioByte off n
    match f old with
    | some x => (old, w, (s1.mmioStore off (leBytes n x)).stampStore c (p.pa / 128))
    | none => (old, w, s1)
  | .pod =>
    let s1 := s.deviceFirst c uid p
    let old := ((s1.sameLocation c uid p.pa false).bind (fun e => e.1.chain)).getD (leRead (Config.podByte s1.tick) p.pa n)
    (old, s1.podStamp, s1.draw.acceptStore c { s1.pendOf c uid p n [] none with chain := some ((f old).getD old) })
  | _ =>
    let (old, w, s1) := s.loadAtHome c p.pa n
    match f old with
    | some x => (old, w, (s1.invalidate c p.pa).storeHome c p.pa (leBytes n x))
    | none => (old, w, s1)

/-- A `red.add.i32` of a team that its store buffer accepts (R302): performed later at the home, or at once where nothing is
buffered. The lanes of a pass that name one location are one access (R305). -/
def State.doRed (s : State) (c uid : Nat) (p : Phys) (x : Nat) : State :=
  if regionOf p.pa = .pod ∨ p.cached then
    let s1 := s.sealStores c uid
    let k := s1.core c
    match s1.sameLocation c uid p.pa true with
    | some (q, i) => s1.setCore c { k with stores := k.stores.set i { q with red := q.red.map (fun y => (y + x) % 2 ^ 32) } }
    | none => s1.acceptStore c { s1.pendOf c uid p 4 [] none with red := some x, chain := some 0 }
  else (s.doAtomic c uid p 4 (fun old => some ((old + x) % 2 ^ 32))).2.2

/-! ### Acquire and release (R91, R100, R104) -/

/-- The team in the issuing place saw a value with a write stamp (R100). -/
def State.sawStamp (s : State) (w : Nat) : State :=
  s.modTeam s.cur (fun t => { t with obs := BitVec.ofNat 32 (max t.obs.toNat w) })

/-- The issuing team's core takes a logical time, and what the team saw before no longer counts (R100). -/
def State.acquireTo (s : State) (t : Team) (w : Nat) : State :=
  let s1 := (s.setTeam s.cur { t with obs := 0 }).sealStores s.cur.1 t.uid
  let k := s1.core s.cur.1
  s1.setCore s.cur.1 { k with ltime := max k.ltime w }

/-- The acquire of a fence (R100): T takes the largest stamp the team saw. -/
def State.acquire (s : State) : State :=
  match s.team? s.cur with
  | none => s
  | some t => s.acquireTo t t.obs.toNat

/-- The acquire of a load that saw a write stamp (R100). -/
def State.acquireLoad (s : State) (w : Nat) : State :=
  match s.team? s.cur with
  | none => s
  | some t => s.acquireTo t w

/-- How a wait for earlier stores ends (R100, R104): complete; a line that is waited for; or a lost access, with how many a
report names (R105). -/
inductive StoreWait where
  | done (s : State)
  | stuck (s : State) (line : Nat)
  | lost (s : State) (l : LostStore) (count : Nat)
  deriving DecidableEq, Repr

/-- An access of a team, or one that a release of a team of its block at block scope came after (R91). -/
def PendStore.dueFor (p : PendStore) (t : Team) : Bool := p.team == t.uid || (p.blk == t.blk && p.ordered)

/-- The markers a release of system or pod scope sends: one on every path on which the team has counted accesses in flight, each
with the number of the core's next access (R101). -/
def State.markersFor (s : State) (c : Nat) (t : Team) : List (Nat × Nat) :=
  ((((s.core c).stores.filter (fun p => p.dueFor t)).flatMap (fun p => s.pathsOf c p.pa)).eraseDups).map
    (fun path => (path, (s.core c).storeNo))

/-- A switch or egress holds a marker while an access it counted for the core before the marker is not acknowledged (R101). -/
def State.markerHolds (s : State) (c : Nat) (m : Nat × Nat) (p : PendStore) : Bool :=
  decide (p.no < m.2) && (s.pathsOf c p.pa).contains m.1

/-- The report of an access of the team that was lost (R104): the first that the wait covers, which then counts as complete; lost
pod accesses are reported together, with their number (R105). -/
def State.reportLost (s : State) (t : Team) (sel : PendStore → Bool) : Option StoreWait :=
  match t.lost.find? (fun l => sel l.store) with
  | none => none
  | some l =>
    let same (x : LostStore) : Bool := if l.sub = 3 then x.sub == 3 && sel x.store else x == l
    some (.lost (s.setTeam s.cur { t with lost := if l.sub = 3 then t.lost.filter (fun x => !same x) else t.lost.erase l, markers := none })
      l (if l.sub = 3 then (t.lost.filter same).length else 0))

/-- What can be performed of the accesses of a core that a test selects, with what must be performed before them, is performed. -/
def State.drainFor (s : State) (c : Nat) (sel : PendStore → Bool) : State :=
  s.drainCore c (fun p => sel p || (s.core c).stores.any (fun q => sel q && q.after p))

/-- Wait until the accesses of the issuing team that `sel` selects are complete at a scope (R100): at team scope they are when the L1
port has them, and so at block scope, where a wider release of the block's teams then waits for them too; beyond that they are
performed at the home; at system and pod scope, moreover, the switches and egresses have acknowledged the markers (R101). A `red` of the
team is performed before any release or fence of it (R302). What can be performed is performed at once. -/
def State.storesComplete (s : State) (scope : Scope) (sel : PendStore → Bool) : StoreWait :=
  match s.team? s.cur with
  | none => .done s
  | some t =>
    let c := s.cur.1
    let near := scope == .team || scope == .blk
    let wide := scope == .sys || scope == .pod
    let s0 := s.sealStores c t.uid
    let ms := if wide then t.markers.getD (s0.markersFor c t) else []
    let red (p : PendStore) : Bool := p.team == t.uid && p.red.isSome
    let waits (s : State) (p : PendStore) : Bool := red p || (!near && p.dueFor t && sel p) || ms.any (fun m => s.markerHolds c m p)
    let s1 := s0.drainFor c (waits s0)
    match (s1.core c).stores.find? (waits s1) with
    | some p =>
      .stuck (s1.modTeam s.cur (fun t => { t with
        markers := if wide then some (ms.filter (fun m => (s1.core c).stores.any (s1.markerHolds c m))) else none })) (p.pa / 128)
    | none =>
      let k := s1.core c
      let s2 := s1.modTeam s.cur (fun t => { t with markers := none })
      let s3 :=
        if scope = .blk then
          s2.setCore c { s2.core c with stores := k.stores.map (fun p => if p.team == t.uid && sel p then { p with ordered := true } else p) }
        else s2
      match s3.team? s3.cur with
      | none => .done s3
      | some t3 => (s3.reportLost t3 (fun p => p.red.isSome || (!near && sel p))).getD (.done s3)

/-- The fault of a lost access: the line of the store, and the number of the pod accesses (R103 to R105). -/
def lostFault (l : LostStore) (n : Nat) (mask : LaneMask) : FaultInfo :=
  { faultOf l.code l.sub (BitVec.ofNat 64 (l.store.pa / 128 * 128)) mask with unit := n }

/-- Run what follows a wait for stores: a store that is waited for holds the team on its line; a lost one is `F.COHERENCE` with
the lane mask of its instruction (R104, R175). -/
def State.afterStores (s : State) (scope : Scope) (vec : Bool) (sel : PendStore → Bool) (k : State → Team → State) : State :=
  match s.storesComplete scope sel with
  | .done s1 =>
    match s1.team? s1.cur with
    | some t => k s1 t
    | none => s1
  | .stuck s1 line =>
    match s1.team? s1.cur with
    | some t => s1.setTeam s1.cur { t with hold := some line, heldSince := some (t.heldSince.getD s.time) }
    | none => s1
  | .lost s1 l n =>
    match s1.team? s1.cur with
    | some t => s1.unitFault t (lostFault l n (teamFaultMask t vec))
    | none => s1

/-- All stores of a team. -/
def allStores (_ : PendStore) : Bool := true

end Sys2Proof.Machine
end

