-- ==== Sys2Proof/Machine/LockDir.lean ====
section
/-! DEFINITION. The lock directory at the home slices (spec/05, R107 to R125): requests, grants, hand-off, absent
waiters, pass-overs, deadlines and the deadlock probe. -/

namespace Sys2Proof.Machine

/-! ### Absent waiters and readmission (R55, R119) -/

/-- The linear index of a block in its grid (R42). -/
def Block.linear (b : Block) : Nat := b.x + b.gx * (b.y + b.gy * b.z)

/-- A waiter is absent while its block is swapped out or being moved (R119), up to its start. -/
def State.absent (s : State) (uid : Nat) : Bool :=
  if uid < 256 then false
  else
    match s.teamByUid uid with
    | none => true
    | some t =>
      match s.findBlock t.blk with
      | none => true
      | some p => ((tabGet? (s.core p.1).blocks p.2).map (fun b => b.swapping || !b.started)).getD true

/-- A block that is being swapped out takes a place among the readmissions, if it has none (R55, R56). -/
def Block.meet (b : Block) (n : Nat) : Block := if b.swapping ∧ b.metAt.isNone then { b with metAt := some n } else b

/-- Queue a block for readmission, after those whose waits were met before (R44, R55): a saved one at once, and one whose swap-out is
in progress when it is saved (R56). -/
def State.queueReadmit (s : State) (blk : Nat) : State :=
  let s1 : State :=
    { s with
      readmitSeq := s.readmitSeq + 1,
      saved := s.saved.map (fun (b : Saved) =>
        if b.blk.uid = blk ∧ b.readmit.isNone then { b with readmit := some s.readmitSeq } else b) }
  match s1.findBlock blk with
  | some p => s1.setCore p.1 { s1.core p.1 with blocks := tabModify (s1.core p.1).blocks p.2 (fun b => b.meet s.readmitSeq) }
  | none => s1

/-- Queue every block that is saved, or being saved, and has a team of a kind. Where several are queued in one moment R44 gives no order:
the model takes those that are saved already, in the order of their saving, and then those that are leaving, by core and place (DESIGN
CHOICE, log 109). -/
def State.queueSaved (s : State) (sel : Block → Team → Bool) : State :=
  let leaving := s.cores.flatMap (fun k =>
    ((k.2.blocks.filter (fun e => e.2.swapping)).filter (fun e => (k.2.teamsOf e.2.uid).any (fun x => sel e.2 x.2))).map (·.2.uid))
  ((s.saved.filter (fun b => b.teams.any (fun e => sel b.blk e.2))).map (·.blk.uid) ++ leaving).foldl (fun s u => s.queueReadmit u) s

/-- The wait of a team is met: the block of a saved team is queued for readmission, and so is one that is being saved (R55, R56). -/
def State.readmitTeam (s : State) (uid : Nat) : State :=
  match s.teamByUid uid with
  | some t => if s.absent uid then s.queueReadmit t.blk else s
  | none => s

/-! ### Reports (R406) -/

/-- Post a report to a core: in the lowest free place, or its header words to the mailbox (R405, R406). -/
def State.postReport (s : State) (c : Nat) (words : List W64) : State :=
  let k := s.core c
  match (List.range 3).find? (fun p => (tabGet? k.reports p).isNone) with
  | some p => s.setCore c { k with reports := tabSet k.reports p ⟨words, false⟩ }
  | none => { s with mailOut := s.mailOut ++ [BitVec.ofNat 64 (3 + c * 2 ^ 8) :: words.take 4] }

/-- The ABANDON report of a grant taken from the abandoned state (R120, R406). -/
def State.reportAbandon (s : State) (uid obj : Nat) : State :=
  match s.teamByUid uid with
  | none => s
  | some t =>
    let p := (s.findTeam uid).getD (0, 0)
    let b := s.blockByUid t.blk
    let s1 := { s with seq := s.seq + 1 }
    s1.postReport p.1
      [BitVec.ofNat 64 (2 ^ 63 + p.2 * 2 ^ 36 + pasidOf b * 2 ^ 16 + 1), BitVec.ofNat 64 s1.seq, BitVec.ofNat 64 obj,
       identWord t b]

/-! ### Records (R107 to R111) -/

/-- The lock object of a checked access: the line, or the 512-byte grain, that contains it (R107). -/
def lockObject (p : Phys) : Nat := if p.grain = 512 then p.pa / 512 * 512 else p.pa / 128 * 128

/-- A lock can be taken on it: normal class, in HBM or expansion memory (R108). -/
def lockable (p : Phys) : Bool :=
  p.cls == 0 && (match regionOf p.pa with | .hbm | .cxl _ => true | _ => false)

/-- A status word (R114). -/
def statusWord (code : Nat) (ticket : W32) (passed : Nat) (region grain abandoned : Bool) : W64 :=
  BitVec.ofNat 64 (ticket.toNat * 2 ^ 32 + passed * 2 ^ 12 + (if region then 2 ^ 10 else 0) +
    (if grain then 2 ^ 9 else 0) + (if abandoned then 2 ^ 8 else 0) + code)

/-- A fresh record (R111). -/
def LockRec.fresh (grain : Bool) : LockRec :=
  { next := 0, holder := none, queue := [], transit := none, windowEnd := none, inFlight := none, abandoned := false,
    lastAbandoned := false, grain := grain }

/-- The state of a lock as R116 numbers it. -/
def LockRec.stateCode (r : LockRec) : Nat :=
  if r.transit.isSome then 3
  else if r.holder.isNone then (if r.abandoned then 4 else 0)
  else if r.queue.isEmpty then 1 else 2

/-- The waiter records of a lock: a grant in transit keeps its waiter's record (R117, R119). -/
def LockRec.waiters (r : LockRec) : List Waiter := r.transit.toList ++ r.queue

/-- The state with a lock's record; a record in state FREE goes (R110). -/
def State.setLock (s : State) (obj : Nat) (r : LockRec) : State :=
  if r.stateCode = 0 then { s with locks := tabErase s.locks obj } else { s with locks := tabSet s.locks obj r }

/-- Locked-line records of a slice (R110). -/
def State.sliceRecords (s : State) (g : Nat) : Nat := (s.locks.filter (fun e => s.homeOf e.1 == g)).length
/-- Waiter records of a slice (R110). -/
def State.sliceWaiters (s : State) (g : Nat) : Nat :=
  ((s.locks.filter (fun e => s.homeOf e.1 == g)).map (fun e => e.2.waiters.length)).sum

/-- Ticket t is earlier than ticket u (R111). -/
def ticketEarlier (t u : W32) : Bool := decide (1 ≤ (u - t).toNat ∧ (u - t).toNat ≤ 2 ^ 31 - 1)

/-- A saturating 32-bit count. -/
def satAdd1 (n : Nat) : Nat := min (n + 1) (2 ^ 32 - 1)

/-! ### Grants -/

/-- The wait is that of `llock`, or that of `ltry` for its reply (R307). -/
def WaitRec.ofLock (w : WaitRec) : Bool := w.kind == 3 || w.kind == 12

/-- The team waits for the reply of a lock's home (R308). -/
def Team.waitsFor (t : Team) (obj : Nat) : Bool := t.wait.ofLock && t.wait.object.toNat == obj

/-- The reply to a team's request for a lock: its wait is met with a status word (R308). -/
def State.lockReply (s : State) (uid obj : Nat) (st : W64) : State :=
  (s.modUid uid (fun t => if t.waitsFor obj then { t with wait := { t.wait with met := true, reply := some st } } else t)).readmitTeam
    uid

/-- The lines of a lock object. -/
def lockLines (obj : Nat) (grain : Bool) : List Nat :=
  if grain then [obj / 128, obj / 128 + 1, obj / 128 + 2, obj / 128 + 3] else [obj / 128]

/-- The line of a lock object that an instruction's address names: the granted line (R118). -/
def lockLine (obj : Nat) (grain : Bool) (va : Nat) : Nat := if grain then obj / 128 + va % 512 / 128 else obj / 128

/-- The lines of a lock are stamped as for a release store by a core (R118): every line of the object, since each waiter's line is
the one it addressed (log 95). -/
def State.stampLock (s : State) (c obj : Nat) (grain : Bool) : State :=
  (lockLines obj grain).foldl (fun s line => s.stampStore c line) s

/-- The home takes the lines of a lock exclusive: every guest copy is recalled (R118, R78). -/
def State.recallLock (s : State) (obj : Nat) (grain : Bool) : State :=
  (lockLines obj grain).foldl (fun s line => s.invalidateLine 1024 line) s

/-- A holder of a copy of a lock's line does not answer the recall (R103). -/
def State.recallHeld (s : State) (obj : Nat) (grain : Bool) : Bool :=
  (lockLines obj grain).any (fun line => (s.lineUnreachable 1024 line).isSome)

/-- The status word of a grant. -/
def grantStatus (w : Waiter) (grain abandoned : Bool) : W64 :=
  statusWord 0 w.ticket w.passed (decide (w.regionLen ≠ 0)) grain abandoned

/-- Give a lock to a waiter whose request the home is handling: the reply is sent at once. The lock is not in the
team's held-lock set until its `llock` completes (R120). -/
def State.grantNow (s : State) (obj : Nat) (r : LockRec) (w : Waiter) (abandoned : Bool) : State :=
  let s1 := s.setLock obj { r with holder := some w.team, inFlight := some w, abandoned := false, lastAbandoned := abandoned }
  let s2 := if abandoned then s1.reportAbandon w.team obj else s1
  s2.lockReply w.team obj (grantStatus w r.grain abandoned)

/-- Pass a lock on: to nobody (FREE, or ABANDONED after a destroyed holder), to the first waiter, for whom the home takes the line
exclusive, or into transit when that waiter is absent (R117 to R119). A recall that a holder does not answer delays the grant
(R103). -/
def State.passOn (s : State) (obj : Nat) (r : LockRec) (abandoned : Bool) : State :=
  match r.queue with
  | [] =>
    s.setLock obj { r with holder := none, transit := none, windowEnd := none, inFlight := none, abandoned := abandoned }
  | w :: rest =>
    if s.absent w.team then
      (s.setLock obj { r with holder := none, transit := some w, queue := rest, inFlight := none, abandoned := abandoned,
                              windowEnd := some (s.time + s.lkdTiming.2 * 1000) }).readmitTeam w.team
    else
      let s1 := s.setLock obj { r with holder := some w.team, transit := none, windowEnd := none, queue := rest,
                                       inFlight := some w, abandoned := false, lastAbandoned := abandoned }
      let s2 := if s1.recallHeld obj r.grain then (lockLines obj r.grain).foldl (fun s line => s.awaitLine 1024 line none) s1
        else s1.recallLock obj r.grain
      if abandoned then s2.reportAbandon w.team obj else s2

/-- The absent first waiter is passed over (R119): a second time its record goes with status `ABSENT`; otherwise it
moves to just after the next waiter. The grant then goes on. -/
def State.passOver (s : State) (obj : Nat) (r : LockRec) (w : Waiter) : State :=
  match r.queue with
  | [] => s.setLock obj { r with windowEnd := none }
  | n :: rest =>
    if 1 ≤ w.passed then
      (s.lockReply w.team obj (statusWord 4 w.ticket 2 false r.grain false)).passOn obj { r with transit := none } r.abandoned
    else
      s.passOn obj { r with transit := none, queue := n :: { w with passed := w.passed + 1 } :: rest } r.abandoned

/-- A grant reaches its waiter: the line fills its L1 and its request completes `OK` (R118, R119). The wait of a team that was saved
meanwhile is met too (R55, R56). -/
def State.deliverGrant (s : State) (obj : Nat) : State :=
  match tabGet? s.locks obj with
  | none => s
  | some r =>
    match r.inFlight with
    | none => s
    | some w =>
      let s1 :=
        match s.findTeam w.team with
        | none => s
        | some p => (s.l1Fill p.1 (lockLine obj r.grain w.va.toNat)).1
      s1.lockReply w.team obj (grantStatus w r.grain r.lastAbandoned)

/-! ### Requests (R110 to R112, R117) -/

/-- Insert a waiter ahead of every record with a later ticket (R112). -/
def insertWaiter (w : Waiter) (q : List Waiter) : List Waiter :=
  match q with
  | [] => [w]
  | x :: t => if ticketEarlier w.ticket x.ticket then w :: x :: t else x :: insertWaiter w t

/-- A new waiter record joins a lock, or `QFULL` (R112); a transit grant whose window has closed passes over at once
(R117), while its waiter is absent. -/
def State.enqueue (s : State) (obj : Nat) (r : LockRec) (w : Waiter) (ahead : Bool) : State :=
  if 16384 ≤ s.sliceWaiters (s.homeOf obj) then
    { (s.setLock obj r).lockReply w.team obj (statusWord 3 w.ticket 0 false r.grain false) with
      lkdCounts := (s.lkdCounts.1, satAdd1 s.lkdCounts.2) }
  else
    let r1 := { r with queue := if ahead then insertWaiter w r.queue else r.queue ++ [w] }
    let s1 := s.setLock obj r1
    let s2 := s1.modUid w.team (fun t =>
      if t.waitsFor obj then { t with wait := { t.wait with ticket := w.ticket } } else t)
    match r1.transit, r1.windowEnd with
    | some tw, none => if s2.absent tw.team then s2.passOver obj r1 tw else s2
    | _, _ => s2

/-- The team's wait on a lock ends with a fault, which its `llock` or `ltry` reports: at once where the team waits there, resident or
saved, and otherwise, when it is parked or in a signal handler that interrupted the `llock`, as the instruction executes again (R108,
R123, R124). -/
def State.parkWaiter (s : State) (uid : Nat) (f : FaultInfo) : State :=
  match s.teamByUid uid with
  | none => s
  | some t =>
    if t.wait.ofLock = false then s
    else if t.parked ∨ t.waiting = false then
      (s.modUid uid (fun t => { t with wait := { t.wait with met := true, fault := some f } })).readmitTeam uid
    else
      match s.findTeam uid with
      | some p => s.takeFault p { t with wait := .idle } t.pc f
      | none =>
        let b := s.blockByUid t.blk
        let r := { (s.recordFor (t.record.core, t.record.slot) t t.pc f) with
                   pasid := pasidOf b, ident := identWord t b, launch := (b.map (·.launchNo)).getD 0 }
        { (s.modUid uid (fun t => { t with parked := true, record := r, wait := .idle })).syncSaved uid with seq := s.seq + 1 }

/-- The home handles a request (R110 to R112, R117). -/
def State.handleRequest (s : State) (q : LockRequest) : State :=
  let obj := q.obj
  if s.poisoned (lockLine obj q.grain q.waiter.va.toNat) then s.parkWaiter q.team (faultOf 0x0B 0 q.waiter.va 1)
  else
    match tabGet? s.locks obj with
    | none =>
      if 4096 ≤ s.sliceRecords (s.homeOf obj) then
        { s.lockReply q.team obj (statusWord 6 0 0 false q.grain false) with lkdCounts := (satAdd1 s.lkdCounts.1, s.lkdCounts.2) }
      else
        let r := LockRec.fresh q.grain
        if q.ltry then s.grantNow obj r { q.waiter with ticket := 0 } false
        else s.grantNow obj { r with next := 1 } { q.waiter with ticket := 0 } false
    | some r =>
      let free := r.holder.isNone && r.transit.isNone
      if q.ltry then
        if free then s.grantNow obj r { q.waiter with ticket := 0 } r.abandoned
        else s.lockReply q.team obj (statusWord 1 0 0 false r.grain false)
      else
        match q.kept.filter (fun k => ticketEarlier k r.next) with
        | some k =>
          let w := { q.waiter with ticket := k }
          if free then s.grantNow obj r w r.abandoned else s.enqueue obj r w true
        | none =>
          let w := { q.waiter with ticket := r.next }
          let r1 := { r with next := r.next + 1 }
          if free then s.grantNow obj r1 w r.abandoned else s.enqueue obj r1 w false

/-- The home handles a release by a team on core c (R117, R118): stamped, then passed on. -/
def State.releaseLock (s : State) (c obj : Nat) (abandoned : Bool) : State :=
  match tabGet? s.locks obj with
  | none => s
  | some r => (s.stampLock c obj r.grain).passOn obj { r with holder := none, inFlight := none } abandoned

/-- A waiter's record goes (R117, R121): from the queue, or with the transit grant it held, which passes on; a grant of an abandoned
lock stays one (log 96). -/
def State.dropWaiter (s : State) (obj uid : Nat) : State :=
  match tabGet? s.locks obj with
  | none => s
  | some r =>
    match r.transit with
    | some w =>
      if w.team = uid then s.passOn obj { r with transit := none } r.abandoned
      else s.setLock obj { r with queue := r.queue.filter (fun x => x.team != uid) }
    | none => s.setLock obj { r with queue := r.queue.filter (fun x => x.team != uid) }

/-! ### The wait record of a team on a lock (R113, R185, R337) -/

/-- The team gives up its wait on a lock: the request or the waiter record goes, so that it waits on at most one (R113; log 107). -/
def State.forgetLock (s : State) (uid : Nat) (w : WaitRec) : State :=
  if w.ofLock then
    { s with lockReqs := s.lockReqs.filter (fun q => q.team != uid) }.dropWaiter w.object.toNat uid
  else s

/-- The wait record of the team in a place ends without its wait being met. -/
def State.endWait (s : State) (p : Nat × Nat) (t : Team) : State :=
  (s.forgetLock t.uid t.wait).modTeam p (fun t => { t with wait := .idle })

/-- The record of an interrupted instruction that the team in a place will not execute again goes. -/
def State.settleWait (s : State) (p : Nat × Nat) (t : Team) : State := if t.waitOver then s.endWait p t else s

/-- The team waits: its instruction re-executes when the wait is met (R34, R179). A wait that continues keeps the time
it began (R53). It replaces the record of an interrupted `llock` or `bar` (R337). -/
def State.waitWith (s : State) (t : Team) (w : WaitRec) : State :=
  let since := if t.wait.kind = w.kind ∧ t.wait.kind ≠ 0 then t.wait.since else s.time
  let s1 := if w.kind = t.wait.kind ∧ w.object = t.wait.object then s else s.forgetLock t.uid t.wait
  s1.setTeam s.cur { t with wait := { w with since := since } }

/-! ### Steps of the directory -/

/-- LOCK_REQUEST: the home handles the request of the team in a slot (R308). -/
def execLockRequest (core slot : Nat) (s : State) : Result :=
  .next (match s.team? (core, slot) with
    | none => s
    | some t =>
      match s.lockReqs.find? (fun q => q.team == t.uid) with
      | none => s
      | some q => ({ s with lockReqs := s.lockReqs.filter (fun x => x.team != t.uid) }).handleRequest q)

/-- The team holds the lock, or still waits for it. -/
def State.holdsOrWaits (s : State) (uid obj : Nat) : Bool :=
  match s.teamByUid uid with
  | none => false
  | some t => t.held.any (fun e => e.obj == obj) || t.waitsFor obj

/-- LOCK_RELEASE: the holder that is no longer there, or has stopped waiting, gives the lock back (R117, R120): after its `llock` completed the
lock is abandoned, while its grant was in flight it is not. -/
def execLockRelease (obj : Nat) (s : State) : Result :=
  .next (match tabGet? s.locks obj with
    | none => s
    | some r =>
      match r.holder with
      | none => s
      | some u =>
        if s.holdsOrWaits u obj then s
        else s.passOn obj { r with holder := none, inFlight := none } r.inFlight.isNone)

/-- GRANT_DELIVERY: a hand-off reaches its waiter, or a transit grant its readmitted one (R118, R119). -/
def execGrantDelivery (obj : Nat) (s : State) : Result :=
  .next (match tabGet? s.locks obj with
    | none => s
    | some r =>
      match r.transit with
      | some w =>
        if s.absent w.team ∨ s.recallHeld obj r.grain then s
        else
          let s1 := (s.setLock obj { r with transit := none, windowEnd := none, holder := some w.team, inFlight := some w,
                                            abandoned := false, lastAbandoned := r.abandoned }).recallLock obj r.grain
          let s2 := if r.abandoned then s1.reportAbandon w.team obj else s1
          s2.deliverGrant obj
      | none =>
        match r.inFlight with
        | some w =>
          if ((s.teamByUid w.team).map (fun t => t.wait.reply.isNone)).getD false ∧ s.recallHeld obj r.grain = false then
            (s.recallLock obj r.grain).deliverGrant obj
          else s
        | none => s)

/-- GRANT_WINDOW_CLOSE (R117, R119): a waiter that has been readmitted by then is not passed over. -/
def execGrantWindowClose (obj : Nat) (s : State) : Result :=
  .next (match tabGet? s.locks obj with
    | none => s
    | some r =>
      match r.transit, r.windowEnd with
      | some w, some e =>
        let s1 := { s with time := max s.time e }
        if s1.absent w.team then s1.passOver obj r w else s1
      | _, _ => s)

/-- LOCK_DEADLINE: a waiter's deadline passes (R121). -/
def execLockDeadline (obj team : Nat) (s : State) : Result :=
  .next (match tabGet? s.locks obj with
    | none => s
    | some r =>
      match r.waiters.find? (fun w => w.team == team) with
      | none => s
      | some w =>
        if w.deadline = 0 then s
        else
          let s1 := { s with time := max s.time w.deadline }
          (s1.dropWaiter obj team).lockReply team obj (statusWord 2 w.ticket w.passed false r.grain false))

/-! ### Deadlock (R122, R123) -/

/-- The lock a team waits on, with its waiter record. -/
def State.waitsOn (s : State) (uid : Nat) : Option (Nat × Waiter) :=
  (s.locks.filterMap (fun e => (e.2.waiters.find? (fun w => w.team == uid)).map (fun w => (e.1, w)))).head?

/-- The threshold of a waiter's probe runs anew from now (R122, R125). -/
def State.restartProbe (s : State) (obj uid : Nat) : State :=
  let next := s.time + s.lkdTiming.1 * 1000
  let set (w : Waiter) : Waiter := if w.team = uid then { w with probeAt := next } else w
  match tabGet? s.locks obj with
  | none => s
  | some r => s.setLock obj { r with queue := r.queue.map set, transit := r.transit.map set }

/-- DEADLOCK_PROBE: a waiter whose threshold has elapsed sends a probe (R122), unless one of its wait is still on its way. -/
def execDeadlockProbe (obj team : Nat) (s : State) : Result :=
  .next (match s.waitsOn team with
    | none => s
    | some (o, w) =>
      if o ≠ obj ∨ s.probes.any (fun p => p.origin == team && p.obj == obj && p.since == w.since) then s
      else
        let p : Probe :=
          { origin := team, obj := obj, since := w.since, core := w.core, slot := w.slot, at_ := obj, hops := 0,
            path := [(obj, team)], first := true }
        ({ s with time := max s.time w.probeAt, probes := s.probes ++ [p] } : State).restartProbe obj team)

/-- The rank of a wait in a cycle: wait start, core, slot, object (R123). -/
def rankLt (a b : Nat × Nat × Nat × Nat) : Bool :=
  decide (a.1 < b.1) || (a.1 == b.1 && (decide (a.2.1 < b.2.1) || (a.2.1 == b.2.1 &&
    (decide (a.2.2.1 < b.2.2.1) || (a.2.2.1 == b.2.2.1 && decide (a.2.2.2 < b.2.2.2))))))

/-- What ranks the wait of a waiter record on an object. -/
def Waiter.rank (w : Waiter) (obj : Nat) : Nat × Nat × Nat × Nat := (w.since, w.core, w.slot, obj)

/-- What ranks the wait a probe comes from. -/
def Probe.rank (p : Probe) : Nat × Nat × Nat × Nat := (p.since, p.core, p.slot, p.obj)

/-- The report of the cycle a probe went round: each pair is a lock of its path and the holder it went to from it, so the origin is
the last (R123). -/
def State.cycleOf (s : State) (p : Probe) : List (W64 × W64) :=
  let pair (e : Nat × Nat) : W64 × W64 :=
    (BitVec.ofNat 64 e.1, ((s.teamByUid e.2).map (fun t => identWord t (s.blockByUid t.blk))).getD 0)
  (((p.path.map Prod.fst)).zip ((p.path.map Prod.snd).drop 1 ++ [p.origin])).map pair

/-- PROBE_HOP: probe i goes from its lock to the holder, and on to the lock the holder waits on (R122); back at its
origin, which still stands in the wait the probe comes from, it reports the cycle if no waiter it met ranks before that wait
(R123). -/
def execProbeHop (i : Nat) (s : State) : Result :=
  .next (match s.probes[i]? with
    | none => s
    | some p =>
      let gone := { s with probes := s.probes.eraseIdx i }
      match (tabGet? s.locks p.at_).bind (fun r => if r.transit.isSome then none else r.holder) with
      | none => gone
      | some h =>
        match s.waitsOn h with
        | none => gone
        | some (o, w) =>
          if h = p.origin then
            if p.first ∧ w.rank o = p.rank then
              (gone.dropWaiter o p.origin).parkWaiter p.origin ({ faultOf 0x21 0 0 1 with cycle := s.cycleOf p } : FaultInfo)
            else gone
          else if 15 ≤ p.hops then gone
          else
            let q : Probe :=
              { p with at_ := o, hops := p.hops + 1, path := p.path ++ [(o, h)], first := p.first && !rankLt (w.rank o) p.rank }
            { s with probes := s.probes.set i q })

end Sys2Proof.Machine
end

