-- ==== Sys2Proof/Machine/MemIsa.lean ====
section
/-! DEFINITION. Loads, stores, packed and ordered accesses, atomics, prefetches and fences (spec/16, R293 to R306). -/

namespace Sys2Proof.Machine

/-- Bytes of an access size (R293). -/
def sizeBytes : MemSize → Nat
  | .b1 => 1 | .b2 => 2 | .b4 => 4 | .b8 => 8

/-- The width of a packed access by its size code (R297). -/
def packWidth : MemSize → Nat
  | .b1 => 3 | .b2 => 5 | .b4 => 6 | .b8 => 7

/-! ### Addresses (R294) -/

/-- The index registers of a vector access. -/
def vindexRegs : VIndex → List Nat
  | .disp _ => []
  | .idx v => vregsOf v

/-- The address of lane l of a vector M-format access (R294). -/
def Team.vaddr (t : Team) (sb : Nat) (ix : VIndex) (size l : Nat) : W64 :=
  match ix with
  | .disp k => t.s sb + BitVec.ofInt 64 (k * size + l * size)
  | .idx v => t.s sb + (t.src v l).signExtend 64

/-- The address of a scalar M-format access (R294). -/
def Team.saddr (t : Team) (sb : Nat) (ix : SIndex) (size : Nat) : W64 :=
  match ix with
  | .disp k => t.s sb + BitVec.ofInt 64 (k * size)
  | .idx x => t.s sb + t.s x

/-- The address of lane l of an O-format access or of `ldb` (R294). -/
def Team.oaddr (t : Team) (sb : Nat) (x : VSrc) (l : Nat) : W64 := t.s sb + (t.src x l).signExtend 64

/-! ### The lanes of a memory instruction, in ascending order -/

/-- What a lane's access answers: the state after it with the write stamp it saw, a fault, or a hold. -/
inductive MemRes where
  | ok (s : State) (w : Nat)
  | fault (f : LaneFault) (s : State)
  | hold (h : Hold) (s : State)
  deriving DecidableEq, Repr

/-- The running state of the lanes: what faulted, what is held, the largest stamp seen, and whether a lane completed. -/
structure MemAcc where
  s : State
  bad : List (Nat × LaneFault)
  held : Option Hold
  w : Nat
  hit : Bool

/-- One lane joins: a lane that completes gets its done bit (R30). -/
def MemAcc.lane (body : State → Team → Nat → MemRes) (acc : MemAcc) (l : Nat) : MemAcc :=
  match acc.s.team? acc.s.cur with
  | none => acc
  | some t =>
    match body acc.s t l with
    | .ok s w => { acc with s := s.modTeam s.cur (fun t => t.markDone l), w := max acc.w w, hit := true }
    | .fault f s => { acc with s := s, bad := acc.bad ++ [(l, f)] }
    | .hold h s => { acc with s := s, held := acc.held.or (some h) }

/-- The team waits for a tile entry of a core to leave filling or draining (R74), with the wait record of R444; above it, `param` names
the core and entry. -/
def State.tileHold (s : State) (t : Team) (c e : Nat) : State :=
  let x := (s.core c).tile e
  s.waitWith t { WaitRec.idle with kind := 1, param := x.localNo + 3 * 2 ^ 6 + (c * 64 + e + 1) * 2 ^ 16 }

/-- The team is held (R74, R85, R102, R103): a line whose holder does not answer is waited for at its home. -/
def State.holdTeam (s : State) (t : Team) (h : Hold) : State :=
  match h with
  | .tile c e => s.tileHold t c e
  | .line n =>
    (s.setTeam s.cur { t with hold := some n, heldSince := some (t.heldSince.getD s.time) }).awaitLine s.cur.1 n none

/-- How the lanes of a memory instruction end: the acquire of the lanes that completed (R95, R300), then a hold, the fault they
report together (R176), more passes, or completion. -/
def MemAcc.finish (acc : MemAcc) (acq : Bool) : State :=
  let s1 := if acq then (if acc.hit then acc.s.acquireLoad acc.w else acc.s) else acc.s.sawStamp acc.w
  match s1.team? s1.cur with
  | none => s1
  | some t =>
    match acc.held with
    | some h => s1.holdTeam t h
    | none =>
      match laneFaultInfo acc.bad with
      | some f => s1.unitFault t f
      | none => if (lanesOf t.active t.lanes).isEmpty then s1.complete t else s1

/-- The lanes of one pass, the W lanes of a mask word, join (R20); then the pass is over (R305). -/
def MemAcc.pass (body : State → Team → Nat → MemRes) (uid : Nat) (acc : MemAcc) (ls : List Nat) : MemAcc :=
  let r := ls.foldl (MemAcc.lane body) acc
  { r with s := r.s.endPass r.s.cur.1 uid }

/-- Run some lanes, pass by pass. -/
def MemAcc.passes (body : State → Team → Nat → MemRes) (t : Team) (acc : MemAcc) (ls : List Nat) : MemAcc :=
  (List.range t.words).foldl (fun r j => r.pass body t.uid (ls.filter (fun l => l / 32 == j))) acc

/-- Run the lanes: those of the passes allowed, and all the others too once a lane has faulted (R32). -/
def State.vecMem (s : State) (t : Team) (acq : Bool) (body : State → Team → Nat → MemRes) : State :=
  let first := s.passLanes t
  let a1 := MemAcc.passes body t ⟨s, [], none, 0, false⟩ first
  let rest := (lanesOf t.active t.lanes).filter (fun l => !first.contains l)
  let a2 := if a1.bad.isEmpty then a1 else MemAcc.passes body t a1 rest
  a2.finish acq

/-- A lane whose operand registers are poisoned (R433), or whose access does not pass its checks; otherwise `k` performs
it. -/
def State.laneAccess (s : State) (t : Team) (regs : List Nat) (l : Nat) (va : W64) (size : Nat) (kind : AKind)
    (k : State → Phys → MemRes) : MemRes :=
  match t.poisonedReg regs l with
  | some r => .fault ⟨0x0B, 0, BitVec.ofNat 64 r⟩ s
  | none =>
    match s.access (s.agentOf s.cur t) va size size kind with
    | (.ok p, s1) => k s1 p
    | (.fault f, s1) => .fault f s1
    | (.hold h, s1) => .hold h s1

/-- A lane's loaded value goes to its destination with the latch shift (R31, R296). -/
def State.putLane (s : State) (dst : VDst) (l v : Nat) : State :=
  s.modTeam s.cur (fun t => t.put dst l (BitVec.ofNat 64 v))

/-- The destination of a vector load of some bytes: a pair for 8 (R293). -/
def loadDst (d : Nat) (nw : Bool) (size : Nat) : VDst := if size = 8 then .w d nw else .v d nw

/-- The registers a vector store reads as data. -/
def dataRegs (d : VSrc) (size : Nat) : List Nat :=
  match d with
  | .reg k => if size = 8 then [k, k + 1] else [k]
  | .bp _ => []

/-- The data of lane l of a vector store. -/
def Team.storeData (t : Team) (d : VSrc) (size l : Nat) : Nat :=
  match d with
  | .reg k => if size = 8 then (t.pair k l).toNat else (t.vreg k l).toNat
  | .bp b => (t.latch b l).toNat

/-- A vector load (R296). -/
def State.vecLoad (s : State) (dst : VDst) (regs : List Nat) (size : Nat) (acq : Bool) (addr : Team → Nat → W64) :
    Result :=
  .next (s.issue false .vector (dst.regs ++ regs) true (fun t =>
    s.vecMem t acq (fun s t l => s.laneAccess t regs l (addr t l) size .load (fun s p =>
      let (v, w, s1) := s.doLoad s.cur.1 t.uid p size
      .ok (s1.putLane dst l v) w))))

/-- The lanes of a vector store, after any wait for earlier stores (R296). -/
def State.vecStoreLanes (s : State) (t : Team) (d : VSrc) (regs : List Nat) (size : Nat) (tag : Option Scope)
    (addr : Team → Nat → W64) : State :=
  s.vecMem t false (fun s t l => s.laneAccess t regs l (addr t l) size .store (fun s p =>
    .ok (s.doStore s.cur.1 t.uid p (leBytes size (t.storeData d size l)) tag) 0))

/-- A team fault, or completion, of a scalar access (R295). -/
def State.scalarAccess (s : State) (t : Team) (va : W64) (size : Nat) (kind : AKind) (k : State → Phys → State) :
    State :=
  match s.access (s.agentOf s.cur t) va size size kind with
  | (.ok p, s1) => k s1 p
  | (.fault f, s1) =>
    match s1.team? s1.cur with
    | some t => s1.onceFault t f.code f.sub f.addr
    | none => s1
  | (.hold h, s1) =>
    match s1.team? s1.cur with
    | some t => s1.holdTeam t h
    | none => s1

/-- Complete the issuing team's unit after changing the team. -/
def State.completeWith (s : State) (f : Team → Team) : State :=
  match s.team? s.cur with
  | none => s
  | some t => s.complete (f t)

/-- A scalar load (R296, R300): an acquire takes the stamp of what it read (R100). -/
def State.scalarLoad (s : State) (d size : Nat) (acq : Bool) (addr : Team → W64) : Result :=
  .next (s.once false .any (fun t => s.scalarAccess t (addr t) size .load (fun s p =>
    let (v, w, s1) := s.doLoad s.cur.1 t.uid p size
    (if acq then s1.acquireLoad w else s1.sawStamp w).completeWith (fun t => t.setS d (BitVec.ofNat 64 v)))))

/-- The access of a scalar store, after any wait for earlier stores. -/
def State.scalarStoreNow (s : State) (t : Team) (d size : Nat) (tag : Option Scope) (va : W64) : State :=
  s.scalarAccess t va size .store (fun s p =>
    (s.doStore s.cur.1 t.uid p (leBytes size (t.s d).toNat) tag).completeWith (fun t => t))

/-! ### Plain loads and stores (R296) -/

/-- `ld` into vectors (R296). -/
def execLdV (d : Nat) (size : MemSize) (sb : Nat) (ix : VIndex) (nw : Bool) (s : State) : Result :=
  let n := sizeBytes size
  s.vecLoad (loadDst d nw n) (vindexRegs ix) n false (fun t l => t.vaddr sb ix n l)
/-- `ld` into a scalar (R296). -/
def execLdS (d : Nat) (size : MemSize) (sb : Nat) (ix : SIndex) (s : State) : Result :=
  s.scalarLoad d (sizeBytes size) false (fun t => t.saddr sb ix (sizeBytes size))
/-- `st` of vectors (R296). -/
def execStV (d : VSrc) (size : MemSize) (sb : Nat) (ix : VIndex) (s : State) : Result :=
  let n := sizeBytes size
  let regs := dataRegs d n ++ vindexRegs ix
  .next (s.issue false .vector regs true (fun t => s.vecStoreLanes t d regs n none (fun t l => t.vaddr sb ix n l)))
/-- `st` of a scalar (R296). -/
def execStS (d : Nat) (size : MemSize) (sb : Nat) (ix : SIndex) (s : State) : Result :=
  .next (s.once false .any (fun t =>
    s.scalarStoreNow t d (sizeBytes size) none (t.saddr sb ix (sizeBytes size))))

/-! ### Packed accesses (R297) -/

/-- The block index of lane l (R297). -/
def Team.packIx (t : Team) (ix : VIndex) (l : Nat) : Int :=
  match ix with
  | .disp k => k + l
  | .idx v => ((t.src v l).toNat : Int)

/-- The bits of a block: P * w (R297). -/
def packBits (w : Nat) : Nat := 32 / w * w

/-- The first byte's address, the first bit's place in it, and the number of bytes of a lane's block (R297). -/
def Team.packSpan (t : Team) (sb w : Nat) (ix : VIndex) (l : Nat) : W64 × Nat × Nat :=
  let b : Int := t.packIx ix l * packBits w
  let sh := (b % 8).toNat
  (t.s sb + BitVec.ofInt 64 (b / 8), sh, (sh + packBits w + 7) / 8)

/-- Check n bytes from an address one by one, lowest first (R297): the physical bytes with their addresses and leaves, or the first
failing answer. -/
def State.checkBytes (s : State) (a : Agent) (k : AKind) : Nat → W64 → AccRes × List (W64 × Phys × Option Nat) × State
  | 0, _ => (.ok ⟨0, 0, 0, 0⟩, [], s)
  | n + 1, va =>
    match s.access0 a va 1 1 k with
    | (.ok p, leaf, s1) =>
      match s1.checkBytes a k n (va + 1) with
      | (.ok q, ps, s2) => (.ok q, (va, p, leaf) :: ps, s2)
      | r => r
    | (r, _, s1) => (r, [], s1)

/-- The lowest watchpoint that a byte of a block matches, with the lowest byte that matches it (R297, R419). -/
def State.watchBytes (s : State) (k : AKind) (ps : List (W64 × Phys × Option Nat)) : Option (Nat × W64) :=
  let hits := ps.filterMap (fun e => (s.watchHit e.2.1.pa 1 k).map (fun w => (w, e.1)))
  hits.foldl (fun r h => match r with | some x => if h.1 < x.1 then some h else some x | none => some h) none

/-- The access of a block of bytes: every byte passes every check before a watchpoint is met (R297, R419). -/
def State.accessBytes (s : State) (a : Agent) (k : AKind) (n : Nat) (va : W64) : AccRes × List Phys × State :=
  match s.checkBytes a k n va with
  | (.ok q, ps, s1) =>
    match s1.watchBytes k ps with
    | some (w, x) => (accFault 0x28 w x, [], s1)
    | none =>
      let r := ps.foldl (fun r e => let (p, s2) := r.2.taken e.2.1 e.2.2; (r.1 ++ [p], s2)) (([] : List Phys), s1)
      (.ok q, r.1, r.2)
  | (r, _, s1) => (r, [], s1)

/-- A lane of a packed access: its block's bytes are checked, then `k` acts on them. -/
def State.lanePack (s : State) (t : Team) (regs : List Nat) (l : Nat) (sp : W64 × Nat × Nat) (kind : AKind)
    (k : State → List Phys → MemRes) : MemRes :=
  match t.poisonedReg regs l with
  | some r => .fault ⟨0x0B, 0, BitVec.ofNat 64 r⟩ s
  | none =>
    match s.accessBytes (s.agentOf s.cur t) kind sp.2.2 sp.1 with
    | (.ok _, ps, s1) => k s1 ps
    | (.fault f, _, s1) => .fault f s1
    | (.hold h, _, s1) => .hold h s1

/-- A load of one byte at its home (R297): in memory that an L1 may hold, not from the core's own copy. -/
def State.loadByte (s : State) (c uid : Nat) (p : Phys) : Nat × Nat × State :=
  if p.cached then s.loadAtHome c p.pa 1 else s.doLoad c uid p 1

/-- Read bytes one by one at their homes, the first least significant. -/
def State.loadEach (s : State) (c uid : Nat) : List Phys → Nat × Nat × State
  | [] => (0, 0, s)
  | p :: ps =>
    let (v, w, s1) := s.loadByte c uid p
    let (vs, ws, s2) := s1.loadEach c uid ps
    (v + 256 * vs, max w ws, s2)

/-- The bytes of a block in pod memory, by lines: each line's update is one access there (R297). Which of its bits were there before is
not known here, so the queue holds no bytes of it. -/
def State.podLines (s : State) (c uid : Nat) (ps : List Phys) : State :=
  ((ps.map (fun p => p.pa / 128)).eraseDups).foldl (fun s line =>
    let qs := ps.filter (fun p => p.pa / 128 == line && decide (regionOf p.pa = .pod))
    match qs.head? with
    | some p => s.acceptStore c (s.pendOf c uid p qs.length [] none)
    | none => s) s

/-- Update bytes one by one at their homes, bit by bit: `x` and `mask` hold the new bits and which bits they are. The bytes of a line
are one indivisible access (R297): they are updated within one step. -/
def State.storeBits (s : State) (c uid x mask : Nat) : List Phys → State
  | [] => s
  | p :: ps =>
    let m := mask % 256
    if regionOf p.pa = .pod then s.storeBits c uid (x / 256) (mask / 256) ps
    else
    let (_, _, s1) := s.doAtomic c uid p 1 (fun old => some ((old &&& (255 - m)) ||| (x % 256 &&& m)))
    s1.storeBits c uid (x / 256) (mask / 256) ps

/-- `ldp` (R297). -/
def execLdp (d : Nat) (size : MemSize) (sb : Nat) (ix : VIndex) (nw : Bool) (s : State) : Result :=
  let w := packWidth size
  let dst := VDst.v d nw
  let regs := vindexRegs ix
  .next (s.issue false .vector (dst.regs ++ regs) true (fun t =>
    s.vecMem t false (fun s t l =>
      let sp := t.packSpan sb w ix l
      s.lanePack t regs l sp .ldp (fun s ps =>
        let (v, st, s1) := s.loadEach s.cur.1 t.uid ps
        .ok (s1.putLane dst l (v / 2 ^ sp.2.1 % 2 ^ packBits w)) st))))
/-- `stp` (R297). -/
def execStp (d : VSrc) (size : MemSize) (sb : Nat) (ix : VIndex) (s : State) : Result :=
  let w := packWidth size
  let regs := vregsOf d ++ vindexRegs ix
  .next (s.issue false .vector regs true (fun t =>
    s.vecMem t false (fun s t l =>
      let sp := t.packSpan sb w ix l
      s.lanePack t regs l sp .stp (fun s ps =>
        let x := (t.src d l).toNat % 2 ^ packBits w * 2 ^ sp.2.1
        .ok ((s.storeBits s.cur.1 t.uid x ((2 ^ packBits w - 1) * 2 ^ sp.2.1) ps).podLines s.cur.1 t.uid ps) 0))))

/-! ### Ordered loads and stores (R300) -/

/-- The order has an acquire part. -/
def Order.acq : Order → Bool
  | .acq | .acqrel => true
  | _ => false
/-- The order has a release part. -/
def Order.rel : Order → Bool
  | .rel | .acqrel => true
  | _ => false

/-- The scope of the release that an order makes of a store (R99, R100). -/
def relTag (o : Order) (scope : Scope) : Option Scope := if Order.rel o then some scope else none

/-- The wait of a release for the team's earlier stores (R100), before `k`; nothing for an order without a release. -/
def State.releaseFirst (s : State) (rel : Bool) (scope : Scope) (vec : Bool) (t : Team) (k : State → Team → State) : State :=
  if rel then s.afterStores scope vec allStores k else k s t

/-- Ordered `ld` into a vector (R300). -/
def execLdOrdV (d sb : Nat) (x : VSrc) (ord : Order) (scope : Scope) (s : State) : Result :=
  let _ := scope
  s.vecLoad (.v d false) (vregsOf x) 4 (Order.acq ord) (fun t l => t.oaddr sb x l)
/-- Ordered `ld` into a scalar (R300). -/
def execLdOrdS (d sb x : Nat) (ord : Order) (scope : Scope) (s : State) : Result :=
  let _ := scope
  s.scalarLoad d 8 (Order.acq ord) (fun t => t.s sb + t.s x)
/-- Ordered `st` of a vector (R300). -/
def execStOrdV (d : VSrc) (sb : Nat) (x : VSrc) (ord : Order) (scope : Scope) (s : State) : Result :=
  let regs := dataRegs d 4 ++ vregsOf x
  .next (s.issue false .vector regs true (fun t =>
    s.releaseFirst (Order.rel ord) scope true t (fun s t =>
      s.vecStoreLanes t d regs 4 (relTag ord scope) (fun t l => t.oaddr sb x l))))
/-- Ordered `st` of a scalar (R300). -/
def execStOrdS (d sb x : Nat) (ord : Order) (scope : Scope) (s : State) : Result :=
  .next (s.once false .any (fun t =>
    s.releaseFirst (Order.rel ord) scope false t (fun s t =>
      s.scalarStoreNow t d 8 (relTag ord scope) (t.s sb + t.s x))))

/-! ### Atomics (R301 to R305) -/

/-- A vector atomic of 4 bytes: `f` takes the lane's operands and the old value to the new one; `dst` receives the old
value, if any (R301, R302). -/
def State.vecAtomic (s : State) (dst : Option VDst) (regs : List Nat) (sb : Nat) (x : VSrc) (ord : Order)
    (scope : Scope) (f : Team → Nat → Nat → Option Nat) : Result :=
  let dregs := match dst with | some d => d.regs | none => []
  .next (s.issue false .vector (dregs ++ regs) true (fun t =>
    s.releaseFirst (Order.rel ord) scope true t (fun s t =>
      s.vecMem t (Order.acq ord) (fun s t l =>
        s.laneAccess t regs l (t.oaddr sb x l) 4 .atomic (fun s p =>
          let (old, w, s1) := s.doAtomic s.cur.1 t.uid p 4 (f t l)
          match dst with
          | some d => .ok (s1.putLane d l old) w
          | none => .ok s1 w)))))

/-- A scalar atomic of 8 bytes (R301, R303). -/
def State.scalarAtomic (s : State) (d sb x : Nat) (ord : Order) (scope : Scope) (f : Team → Nat → Option Nat) :
    Result :=
  .next (s.once false .any (fun t =>
    s.releaseFirst (Order.rel ord) scope false t (fun s t =>
      s.scalarAccess t (t.s sb + t.s x) 8 .atomic (fun s p =>
        let (old, w, s0) := s.doAtomic s.cur.1 t.uid p 8 (f t)
        let s1 := s0.endPass s.cur.1 t.uid
        (if Order.acq ord then s1.acquireLoad w else s1.sawStamp w).completeWith (fun t => t.setS d (BitVec.ofNat 64 old))))))

/-- `atom.add.i32` (R301). -/
def execAtomAddI32 (d sb : Nat) (x : VSrc) (ord : Order) (scope : Scope) (s : State) : Result :=
  s.vecAtomic (some (.v d false)) (d :: vregsOf x) sb x ord scope
    (fun t l old => some ((old + (t.vreg d l).toNat) % 2 ^ 32))
/-- `atom.add.i64` (R301). -/
def execAtomAddI64 (d sb x : Nat) (ord : Order) (scope : Scope) (s : State) : Result :=
  s.scalarAtomic d sb x ord scope (fun t old => some ((old + (t.s d).toNat) % 2 ^ 64))
/-- `atom.exch.i32` (R301). -/
def execAtomExchI32 (d sb : Nat) (x : VSrc) (ord : Order) (scope : Scope) (s : State) : Result :=
  s.vecAtomic (some (.v d false)) (d :: vregsOf x) sb x ord scope (fun t l _ => some (t.vreg d l).toNat)
/-- `atom.exch.i64` (R301). -/
def execAtomExchI64 (d sb x : Nat) (ord : Order) (scope : Scope) (s : State) : Result :=
  s.scalarAtomic d sb x ord scope (fun t _ => some (t.s d).toNat)
/-- `atom.max.i32` (R301). -/
def execAtomMaxI32 (d sb : Nat) (x : VSrc) (ord : Order) (scope : Scope) (s : State) : Result :=
  s.vecAtomic (some (.v d false)) (d :: vregsOf x) sb x ord scope
    (fun t l old => some (maxI (BitVec.ofNat 32 old) (t.vreg d l)).toNat)
/-- `atom.min.i32` (R301). -/
def execAtomMinI32 (d sb : Nat) (x : VSrc) (ord : Order) (scope : Scope) (s : State) : Result :=
  s.vecAtomic (some (.v d false)) (d :: vregsOf x) sb x ord scope
    (fun t l old => some (minI (BitVec.ofNat 32 old) (t.vreg d l)).toNat)
/-- `red.add.i32` (R302): done when the store buffer accepts it, or, with an acquire part, when it is performed. -/
def execRedAddI32 (d : VSrc) (sb : Nat) (x : VSrc) (ord : Order) (scope : Scope) (s : State) : Result :=
  let regs := vregsOf d ++ vregsOf x
  if Order.acq ord then
    s.vecAtomic none regs sb x ord scope (fun t l old => some ((old + (t.src d l).toNat) % 2 ^ 32))
  else
    .next (s.issue false .vector regs true (fun t =>
      s.releaseFirst (Order.rel ord) scope true t (fun s t =>
        s.vecMem t false (fun s t l =>
          s.laneAccess t regs l (t.oaddr sb x l) 4 .red (fun s p => .ok (s.doRed s.cur.1 t.uid p (t.src d l).toNat) 0)))))
/-- `cas.i32`: the pair at d holds the compare value and the new value (R303). -/
def execCasI32 (d sb : Nat) (x : VSrc) (ord : Order) (scope : Scope) (s : State) : Result :=
  s.vecAtomic (some (.v d false)) (d :: (d + 1) :: vregsOf x) sb x ord scope
    (fun t l old => if old = (t.vreg d l).toNat then some (t.vreg (d + 1) l).toNat else none)
/-- `cas.i64` (R303). -/
def execCasI64 (d sb x : Nat) (ord : Order) (scope : Scope) (s : State) : Result :=
  s.scalarAtomic d sb x ord scope
    (fun t old => if old = (t.s d).toNat then some (t.s (d + 1)).toNat else none)

/-! ### Broadcast loads and prefetches (R298, R299) -/

/-- `ldb` of some bytes (R298). Ordered toward other accesses as a plain load is, so the team saw the line's stamp; the lanes of
one step read pod memory once. -/
def State.vecLdb (s : State) (dst : VDst) (a : Nat) (b : VSrc) (size : Nat) : Result :=
  let regs := vregsOf b
  .next (s.issue false .vector (dst.regs ++ regs) true (fun t =>
    (s.vecMem t false (fun s t l => s.laneAccess t regs l (t.oaddr a b l) size .ldb (fun s p =>
      let (v, w, s1) := s.doLdb s.cur.1 t.uid p size
      .ok (s1.putLane dst l v) w))).draw))

/-- `ldb.n8` (R298). -/
def execLdbN8 (d a : Nat) (b : VSrc) (nw : Bool) (s : State) : Result := s.vecLdb (.v d nw) a b 1
/-- `ldb.n16` (R298). -/
def execLdbN16 (d a : Nat) (b : VSrc) (nw : Bool) (s : State) : Result := s.vecLdb (.v d nw) a b 2
/-- `ldb.n32` (R298). -/
def execLdbN32 (d a : Nat) (b : VSrc) (nw : Bool) (s : State) : Result := s.vecLdb (.v d nw) a b 4
/-- `ldb.n64` (R298). -/
def execLdbN64 (d a : Nat) (b : VSrc) (nw : Bool) (s : State) : Result := s.vecLdb (.w d nw) a b 8

/-- A prefetch: never a fault after R25; nothing for an address that does not pass the checks (R299). -/
def State.prefetch (s : State) (a : Nat) (f : State → Phys → State) : Result :=
  .next (s.once false .any (fun t =>
    match s.access (s.agentOf s.cur t) (t.s a) 1 1 .pref with
    | (.ok p, s1) => (if p.cached then f s1 p else s).completeWith (fun t => t)
    | _ => s.complete t))

/-- `pref.l1` (R299). -/
def execPrefL1 (a : Nat) (s : State) : Result :=
  s.prefetch a (fun s p => if (s.l1Hit s.cur.1 (p.pa / 128)).isSome then s else (s.l1Fill s.cur.1 (p.pa / 128)).1)
/-- `pref.l2`: the line enters the slice that serves the core (R78, R148, R299). -/
def execPrefL2 (a : Nat) (s : State) : Result := s.prefetch a (fun s p => s.share (dieOf s.cur.1) (p.pa / 128))
/-- `pref.l2x`: the line is exclusive at its home (R299). -/
def execPrefL2x (a : Nat) (s : State) : Result :=
  s.prefetch a (fun s p =>
    if (s.lineUnreachable s.cur.1 (p.pa / 128)).isSome then s
    else (s.invalidateLine s.cur.1 (p.pa / 128)).share (dieOf s.cur.1) (p.pa / 128))

/-! ### `fence` (R92, R100, R306) -/

/-- The fence orders earlier stores. -/
def fenceRel : FenceKind → Bool
  | .acq => false
  | _ => true
/-- The fence is an acquire. -/
def fenceAcq : FenceKind → Bool
  | .rel => false
  | _ => true

/-- `fence` (R306). One that is only an acquire still comes after the team's reds (R302). -/
def execFence (kind : FenceKind) (scope : Scope) (s : State) : Result :=
  .next (s.once false .any (fun _ =>
    s.afterStores (if fenceRel kind then scope else .team) false allStores (fun s _ =>
      (if fenceAcq kind then s.acquire else s).completeWith (fun t => t))))

end Sys2Proof.Machine
end

