-- ==== Sys2Proof/Machine/Agents.lean ====
section
/-! DEFINITION. Memory accesses of the device's own units (the grace-period unit, the engines, the port, the trace
units), which have no logical time of their own. -/

namespace Sys2Proof.Machine

/-- The agent of a unit that acts for a process through a context, beside a core (R140, R163). -/
def unitAgent (core pasid ctx : Nat) (blk : Option Block) : Agent := ⟨core, false, pasid, ctx, blk, none⟩

/-- n bytes that a unit reads at a checked address. -/
def State.agentRead (s : State) (p : Phys) (n : Nat) : Nat :=
  match regionOf p.pa with
  | .window k off => leRead (s.winByte k) off n
  | .devreg off => leRead s.mmioByte off n
  | .pod => leRead (Config.podByte s.tick) p.pa n
  | _ => leRead (memGet s.mem) p.pa n

/-- Bytes that a unit writes at a checked address, performed at once with the copies invalidated (R78). -/
def State.agentWrite (s : State) (p : Phys) (bs : List Byte) : State :=
  match regionOf p.pa with
  | .window k off => (s.winWrite k off bs).stampAgent (p.pa / 128)
  | .devreg off => (s.mmioStore off bs).stampAgent (p.pa / 128)
  | .pod => s
  | _ => (if bs.length ≤ 32 then s.invalidate 1024 p.pa else s.invalidateLine 1024 (p.pa / 128)).storeAgent p.pa bs

/-! ### Writes of the device's own units (R78, R85, R103) -/

/-- A write of n bytes by a unit of the device waits: a copy engine owns the line or has marked the range busy, a holder does not answer,
a tile entry is filling or draining, a team stands within the instruction whose register it is, or the epoch changes (R72, R74, R82,
R85, R103). -/
def State.unitWaits (s : State) (pa n : Nat) : Bool :=
  s.epochDue ||
    (match regionOf pa with
     | .window k off =>
       s.rangeBusy pa n || s.regBusy k off none ||
         (match winTile off with
          | some e => let x := (s.core k).tile e; (x.state == 1 && !x.faulted) || x.state == 3
          | none => false)
     | .hbm | .cxl _ | .host => s.lineOwned (pa / 128) || (s.unreachable 1024 pa).isSome
     | _ => false)

/-- Bytes that a unit of the device writes at a physical address that no translation gave it. Nothing is written where there is nothing
(R362), where the line is poisoned (R432), where a window cannot be written (R67), and through a faulted entry (R74; DESIGN CHOICE,
log 89). -/
def State.unitPut (s : State) (pa : Nat) (bs : List Byte) : State :=
  match regionOf pa with
  | .hbm | .cxl _ => if s.cxlHole pa || s.poisoned (pa / 128) then s else (s.invalidate 1024 pa).storeAgent pa bs
  | .host => if s.fenced.contains 120 || s.poisoned (pa / 128) then s else (s.invalidate 1024 pa).storeAgent pa bs
  | .window k off =>
    let faulted := match winTile off with | some e => ((s.core k).tile e).faulted | none => false
    if winRange off = .hole || winReadOnly (winRange off) || faulted then s else (s.winWrite k off bs).stampAgent (pa / 128)
  | _ => s

/-- Two waiting writes are of one unit, which writes in order. -/
def LateSrc.same (x y : LateSrc) : Bool :=
  match x, y with
  | .log, .log => true
  | .aperture, .aperture => true
  | .trace c _, .trace d _ => c == d
  | _, _ => false

/-- A unit of the device writes some bytes: at once, or when what holds them back is over (log 114). -/
def State.unitStore (s : State) (src : LateSrc) (pa : Nat) (bs : List Byte) : State :=
  if s.unitWaits pa bs.length || s.late.any (fun w => w.src.same src) then { s.await 1024 pa none with late := s.late ++ [⟨src, pa, bs⟩] }
  else s.unitPut pa bs

/-- The writes that wait are made, as far as nothing holds them back any more, those of one unit in order. -/
def State.flushLate (s : State) : State :=
  if s.late = [] then s else s.late.foldl (fun s w => s.unitStore w.src w.pa w.bytes) { s with late := [] }

/-! ### The error log (R430, R431, R436) -/

/-- Append a record to the error log: the ring of 2^LOG2N records at ELOGBASE, then TAIL. -/
def State.logError (s : State) (src unit cls action addr : Nat) (ident : W64) : State :=
  let base := fld (s.mgtReg 0x0008).toNat 12 40 * 4096
  let n := 2 ^ max 6 (min 16 ((s.mgtReg 0x0008).toNat % 32))
  let i := (s.mgtReg 0x0010).toNat
  let ws := [s.seq + 1, src * 2 ^ 56 + unit % 256 * 2 ^ 48 + cls * 2 ^ 40 + action * 2 ^ 32, addr, ident.toNat]
  ({ s with seq := s.seq + 1, mgt := tabSet s.mgt 0x0010 (BitVec.ofNat 64 (i + 1)) } : State).unitStore .log (base + i % n * 32)
    (ws.flatMap (leBytes 8))

/-! ### Checked accesses of a unit -/

/-- What a unit's access to a line that a copy engine owns answers: it waits (R85). No fault of R178 has code 0. -/
def heldFault : LaneFault := ⟨0, 0, 0⟩

/-- The access waits (R85). -/
def LaneFault.held (f : LaneFault) : Bool := f.code == 0

/-- A unit's access that is held: the home waits for a holder that does not answer, where that is why (R103). -/
def State.unitHeld (s : State) (a : Agent) (va : W64) (h : Hold) : State :=
  match h with
  | .line _ =>
    match s.locate a 1 .engineWrite va with
    | (.ok (p, _), _) => s.await a.core p.pa none
    | _ => s
  | .tile _ _ => s

/-- A unit's checked read of n aligned bytes. -/
def State.unitRead (s : State) (a : Agent) (va : W64) (n : Nat) : Except LaneFault Nat × State :=
  match s.access a va n n .engineRead with
  | (.ok p, s1) => (.ok (s1.agentRead p n), s1)
  | (.fault f, s1) => (.error f, s1)
  | (.hold h, s1) => (.error heldFault, s1.unitHeld a va h)

/-- A unit's checked write of n aligned bytes: what it answers, and the state after. One of more than a sector waits for the holders of
its whole line (R78). -/
def State.unitWrite (s : State) (a : Agent) (va : W64) (n x : Nat) : Except LaneFault Unit × State :=
  match s.access a va n n .engineWrite with
  | (.ok p, s1) =>
    if 32 < n ∧ (s1.lineUnreachable 1024 (p.pa / 128)).isSome then (.error heldFault, s1.awaitLine 1024 (p.pa / 128) none)
    else (.ok (), s1.agentWrite p (leBytes n x))
  | (.fault f, s1) => (.error f, s1)
  | (.hold h, s1) => (.error heldFault, s1.unitHeld a va h)

/-- A unit's indivisible update of n aligned bytes: what it answers, with the old value, and the state after. -/
def State.unitUpdate (s : State) (a : Agent) (va : W64) (n : Nat) (f : Nat → Option Nat) : Except LaneFault Nat × State :=
  match s.access a va n n .atomic with
  | (.ok p, s1) =>
    let old := s1.agentRead p n
    (.ok old, match f old with | some x => s1.agentWrite p (leBytes n x) | none => s1)
  | (.fault f, s1) => (.error f, s1)
  | (.hold h, s1) => (.error heldFault, s1.unitHeld a va h)

/-- A unit's checks of n writes of 8-byte words upward from an address. -/
def State.unitCheck (s : State) (a : Agent) (va : W64) : Nat → Except LaneFault Unit × State
  | 0 => (.ok (), s)
  | n + 1 =>
    match s.access a va 8 8 .engineWrite with
    | (.fault f, s1) => (.error f, s1)
    | (.hold h, s1) => (.error heldFault, s1.unitHeld a va h)
    | (.ok _, s1) => s1.unitCheck a (va + 8) n

/-- A unit's writes of 8-byte words upward from an address. -/
def State.unitWords (s : State) (a : Agent) (va : W64) (ws : List Nat) : Except LaneFault Unit × State :=
  match ws with
  | [] => (.ok (), s)
  | w :: t =>
    match s.unitWrite a va 8 w with
    | (.ok _, s1) => s1.unitWords a (va + 8) t
    | r => r

/-- An acquire by the issuing team that synchronises with such releases. -/
def State.acquireAll (s : State) : State :=
  match s.team? s.cur with
  | none => s
  | some t => s.acquireTo t (max t.obs.toNat (max s.syncTime s.agentTime))

/-- The device time as an agent reads it: it may have advanced since the last read (R339, log 4). -/
def State.readClock (s : State) : Nat × State :=
  let t := s.time + Config.freeNat s.tick
  (t, { s with time := t }.draw)

/-- Post a record to the host mailbox (R404, R405): TYPE, CORE and NOCORE, then the payload. -/
def State.post (s : State) (type core : Nat) (nocore : Bool) (payload : List W64) : State :=
  { s with mailOut := s.mailOut ++ [BitVec.ofNat 64 (type + core * 2 ^ 8 + bit nocore * 2 ^ 16) :: payload] }

end Sys2Proof.Machine
end

