-- ==== Sys2Proof/Machine/Tile.lean ====
section
/-! DEFINITION. The tile table (R63, R73 to R75), the deferred faults of operations and copies in flight (R153, R169),
and the tile-table instructions (R317 to R321). -/

namespace Sys2Proof.Machine

/-! ### Entries -/

/-- The physical entry of a block's local entry (R63). -/
def Block.entry? (b : Block) (slot : Bool) (n : Nat) : Option Nat := if slot then b.stList[n]? else b.accList[n]?

/-- The block of an identity on a core. -/
def Core.blockUid (k : Core) (uid : Nat) : Option Block := (k.blocks.find? (fun e => e.2.uid == uid)).map (·.2)

/-- The wait record of a tile wait (R444): local number, kind, condition and phase. -/
def tileParam (slot : Bool) (n cond : Nat) (phase : Bool) : Nat := n + bit slot * 2 ^ 5 + cond * 2 ^ 6 + bit phase * 2 ^ 8

/-- A `twait` with this wait record is met by an entry (R319). -/
def tileMet (x : TileEntry) (slot : Bool) (w : WaitRec) : Bool :=
  w.kind == 1 && (w.param == tileParam slot x.localNo 0 x.phase && x.state == 0 ||
    w.param == tileParam slot x.localNo 1 x.phase && x.state == 2)

/-- A tile-table entry changes: every wait of its block that the change meets is met (R319). A parked team's wait is
interrupted and evaluates afresh (R179). -/
def State.setTile (s : State) (c e : Nat) (x : TileEntry) : State :=
  let k := s.core c
  s.setCore c { k with
    tiles := tabSet k.tiles e x,
    teams := k.teams.map (fun p =>
      if x.alloc && p.1 != 0 && p.2.place == x.place && !p.2.parked && tileMet x (decide (32 ≤ e)) p.2.wait then
        (p.1, { p.2 with wait := { p.2.wait with met := true } })
      else p) }

/-- Several entries change in one step. -/
def State.modTiles (s : State) (c : Nat) (es : List Nat) (f : TileEntry → TileEntry) : State :=
  es.foldl (fun s e => s.setTile c e (f ((s.core c).tile e))) s

/-- The physical address of a byte of the tile memory of some entries in order (R70). -/
def tileAddr (c : Nat) (phys : List Nat) (o : Nat) : Nat :=
  windowBase c + 0x600000 + (phys[o / 0x4000]?).getD 0 * 0x4000 + o % 0x4000

/-- An entry's tile memory becomes zero; its poison marks go (R433). -/
def State.zeroTile (s : State) (c e : Nat) : State :=
  let base := tileAddr c [e] 0
  { s with
    mem := s.mem.filter (fun x => decide (x.1 < base) || decide (base + 0x4000 ≤ x.1)),
    winPoison := s.winPoison.filter (fun x => decide (x * 32 < base) || decide (base + 0x4000 ≤ x * 32)) }

/-! ### The block's scratchpad -/

/-- The size of a block's scratchpad. -/
def Block.spSize (b : Block) : Nat := b.spList.length * 1024

/-- The physical address of a byte of a block's scratchpad (R70). -/
def spAddr (c : Nat) (b : Block) (o : Nat) : Nat := windowBase c + 0x400000 + (b.spList[o / 1024]?).getD 0 * 1024 + o % 1024

/-- n bytes of a block's scratchpad as a number. -/
def State.spRead (s : State) (c : Nat) (b : Block) (o n : Nat) : Nat := leRead (fun i => memGet s.mem (spAddr c b i)) o n

/-- A range of a block's scratchpad that a box in flight has marked busy (R85): the number of its first line, which names the wait. -/
def State.spBusy (s : State) (c : Nat) (b : Block) (o n : Nat) : Option Nat :=
  let hit (p size : Nat) : Bool :=
    match regionOf p with
    | .window k off =>
      decide (k = c) && (winRange off == .scratch) &&
        (match b.spList.idxOf? ((off - 0x400000) / 1024) with
         | some i => let r := i * 1024 + off % 1024; decide (r < o + n) && decide (o < r + size)
         | none => false)
    | _ => false
  if s.cores.any (fun k => k.2.copies.any (fun y => y.boxes.any (fun x => x.dst.any (fun p => hit p x.size)))) then
    some (spAddr c b o / 128)
  else none

/-- The first poisoned sector of a range of a block's scratchpad (R433). -/
def State.spPoison (s : State) (c : Nat) (b : Block) (o n : Nat) : Option Nat :=
  ((List.range (n / 32 + 2)).map (fun i => spAddr c b (min (o + 32 * i) (o + n - 1)) / 32)).find? s.winPoison.contains

/-! ### Reports of faults in flight (R153, R169, R172, R327) -/

/-- The physical entries of an operation on its core. -/
def MatOp.phys (o : MatOp) (k : Core) : List Nat :=
  match k.blockUid o.blk with
  | some b => o.entries.filterMap (fun n => b.entry? false n)
  | none => []

/-- The physical entry of a copy's dense side, if it has one. -/
def Copy.entry? (y : Copy) (k : Core) : Option Nat :=
  match k.blockUid y.blk, y.dense with
  | some b, .slot n => b.entry? true n
  | some b, .acc n => b.entry? false n
  | _, _ => none

/-- The copy is a scatter (R158). -/
def Copy.scatter (y : Copy) : Bool := ((y.record[1]?).getD 0).getLsbD 7

/-- The operation is a `quant`. -/
def MatOp.isQuant (o : MatOp) : Bool :=
  match o.kind with
  | .quant _ => true
  | _ => false

/-- A fault that is due: the issue order of what faulted, and the record. -/
structure Due where
  order : Nat
  info : FaultInfo

/-- The record of a faulted operation (R153). -/
def MatOp.due (o : MatOp) : Option Due :=
  o.fault.map (fun f =>
    ⟨o.issue, { faultOf f.code f.sub f.addr 1 with
      unit := o.kstep, token := (o.group.map BitVec.toNat).getD 0, tile := some o.acc }⟩)

/-- The record of a faulted copy (R169). -/
def Copy.due (y : Copy) : Option Due :=
  y.fault.map (fun f =>
    ⟨y.id, { faultOf f.code f.sub f.addr 1 with
      unit := y.fbox, token := y.token.toNat,
      tile := match y.dense with | .slot k => some k | .acc k => some k | .addr _ => none }⟩)

/-- The earliest of some. -/
def earliestDue (l : List Due) : Option Due :=
  l.foldl (fun r d => match r with | none => some d | some x => if d.order < x.order then some d else some x) none

/-- Report the earliest fault of a team's operations and copies that an instruction waits on or names. The record is that
one. `reported` marks every operation the instruction waits on or names, since each of them that has faulted by the
resume restarts (R153), and of the copies only the one in the record (R169); a `quant` is gone with its report (R327). -/
def State.reportDue (s : State) (t : Team) (selO : Nat → MatOp → Bool) (selC : Copy → Bool) : Option (State × FaultInfo) :=
  let hitO (c : Nat) (o : MatOp) : Bool := o.team == t.uid && o.fault.isSome && !o.reported && selO c o
  let hitC (y : Copy) : Bool := y.team == t.uid && y.fault.isSome && !y.reported && selC y
  let dues := s.cores.flatMap (fun k =>
    (k.2.ops.filter (hitO k.1)).filterMap MatOp.due ++ (k.2.copies.filter hitC).filterMap Copy.due)
  (earliestDue dues).map (fun d =>
    ({ s with cores := s.cores.map (fun k =>
        (k.1, { k.2 with
          ops := (k.2.ops.filter (fun o => !(o.isQuant && o.issue == d.order && hitO k.1 o))).map
            (fun o => { o with reported := o.reported || (o.team == t.uid && !o.isQuant && selO k.1 o) }),
          copies := k.2.copies.map (fun y => { y with reported := y.reported || (y.id == d.order && hitC y) }) })) }, d.info))

/-- A faulted operation restarts when its team resumes (R153). -/
def MatOp.restarted (uid : Nat) (o : MatOp) : MatOp :=
  if o.team = uid ∧ o.reported then { o with reported := false, fault := none } else o

/-- The lowest box whose bit is clear (R167). -/
def Copy.kstep (y : Copy) : Nat := ((List.range 64).find? (fun k => !y.bitmap.getLsbD k)).getD 64

/-- A reported copy restarts when its team resumes, unless it is cancelled (R169, R172); then no box of it is a faulted one (R173). -/
def Copy.restarted (uid : Nat) (y : Copy) : Copy :=
  if y.team = uid ∧ y.reported ∧ y.cancelled = false then { y with reported := false, fault := none, fbox := 0 } else y

/-- FAULTED and FAULT clear in an entry; the entry of a gather shows the lowest clear box again (R167). -/
def TileEntry.unmark (x : TileEntry) (kstep : Option Nat) : TileEntry :=
  { x with faulted := false, fault := 0, kstep := kstep.getD x.kstep }

/-- The marks clear in the tile entries with some local numbers. -/
def unmarkEntries (locals : List (Nat × Option Nat)) (l : List TileEntry) : List TileEntry :=
  l.zipIdx.map (fun e => match locals.find? (fun n => n.1 == e.2) with | some n => e.1.unmark n.2 | none => e.1)

/-- What KSTEP of a copy's entry shows while it is filling: that of a gather only. -/
def Copy.shows (y : Copy) : Option Nat := if y.scatter then none else some y.kstep

/-- The reported operations and copies of a team whose block is saved restart at its readmission. -/
def Saved.restartReported (uid : Nat) (x : Saved) : Saved :=
  let cps := x.copies.filter (fun y => y.team == uid && y.reported && !y.cancelled)
  let accs := ((x.ops.filter (fun o => o.team == uid && o.reported)).flatMap MatOp.entries).map (fun n => (n, none)) ++
    cps.filterMap (fun y => match y.dense with | .acc n => some (n, y.shows) | _ => none)
  let sts := cps.filterMap (fun y => match y.dense with | .slot n => some (n, y.shows) | _ => none)
  { x with ops := x.ops.map (MatOp.restarted uid), copies := x.copies.map (Copy.restarted uid),
           accs := unmarkEntries accs x.accs, sts := unmarkEntries sts x.sts }

/-- When a team resumes, its reported operations and copies restart with their entries' marks cleared (R153, R169). -/
def State.restartReported (s : State) (uid : Nat) : State :=
  let s0 := { s with saved := s.saved.map (Saved.restartReported uid) }
  s0.cores.foldl (fun s k =>
    let ops := k.2.ops.filter (fun o => o.team == uid && o.reported)
    let cps := k.2.copies.filter (fun y => y.team == uid && y.reported && !y.cancelled)
    let s0 := s.modTiles k.1 (ops.flatMap (fun o => o.phys k.2)) (fun x => x.unmark none)
    let s1 := cps.foldl (fun s y => s.modTiles k.1 (y.entry? k.2).toList (fun x => x.unmark y.shows)) s0
    let k1 := s1.core k.1
    s1.setCore k.1 { k1 with
      ops := k1.ops.map (MatOp.restarted uid), copies := k1.copies.map (Copy.restarted uid) }) s0

/-- `F.TILE` (R315). -/
def State.tileFault (s : State) (t : Team) (sub : Nat) : State := s.onceFault t 0x18 sub 0

/-- Before its first phase an instruction reports the fault of an entry it names, on its core or in its group: its own team's
operation's or copy's, or `F.TILE` FAULTED for another team's (R153, R316). An operation is named with all its parts. The entry of
the team's own cancelled copy is left to `cwait` (R172). -/
def State.namedAt (s : State) (t : Team) (es : List (Nat × Nat)) (k : State → Team → State) : State :=
  let ofCopy (y : Copy) : Bool := (y.entry? (s.core s.cur.1)).any (fun e => es.contains (s.cur.1, e))
  let issues : List Nat := s.cores.flatMap (fun d =>
    (d.2.ops.filter (fun o => !o.isQuant && (o.phys d.2).any (fun e => es.contains (d.1, e)))).map (·.issue))
  match s.reportDue t (fun _ o => !o.isQuant && issues.contains o.issue) (fun y => !y.cancelled && ofCopy y) with
  | some (s1, f) => s1.unitFault t f
  | none =>
    let own (e : Nat × Nat) : Bool :=
      (s.core e.1).copies.any (fun y => y.team == t.uid && y.cancelled && y.entry? (s.core e.1) == some e.2)
    if es.any (fun e => ((s.core e.1).tile e.2).faulted && !own e) then s.tileFault t 6 else k s t

/-- The same for entries of the issuing core. -/
def State.named (s : State) (t : Team) (es : List Nat) (k : State → Team → State) : State :=
  s.namedAt t (es.map (fun e => (s.cur.1, e))) k

/-! ### The tile-table instructions -/

/-- An instruction that names one entry: held, not faulted, and not the second entry of an FP64 tile where that is a
fault (R315). -/
def State.tileOp (s : State) (need : RoleNeed) (slot : Bool) (n : Nat) (pairBad : Bool)
    (k : State → Team → Block → Nat → TileEntry → State) : Result :=
  .next (s.once false need (fun t =>
    match s.blockOf s.cur.1 t with
    | none => s.tileFault t 1
    | some b =>
      match b.entry? slot n with
      | none => s.tileFault t 1
      | some e =>
        s.named t [e] (fun s t =>
          let x := (s.core s.cur.1).tile e
          if pairBad && x.pair then s.tileFault t 5 else k s t b e x)))

/-- Wait for a tile (R34, R444), keeping what the first phase read. -/
def State.tileWait (s : State) (t : Team) (slot : Bool) (n cond : Nat) (p1 : List W64) : State :=
  s.waitWith t { WaitRec.idle with kind := 1, param := tileParam slot n cond false, p1 := p1 }

/-- `tbind` (R317). -/
def execTbind (t d : Nat) (s : State) : Result :=
  s.tileOp .any true t false (fun s tm b e x =>
    let w := (tm.s d).toNat
    let off := w % 2 ^ 19
    let len := w / 2 ^ 32 % 2 ^ 20
    if off % 128 ≠ 0 then s.onceFault tm 0x0A 0 (BitVec.ofNat 64 off)
    else if len = 0 ∨ 524288 < len then s.tileFault tm 0xC
    else if b.spSize < off + len then s.onceFault tm 0x09 6 (BitVec.ofNat 64 off)
    else if x.state ≠ 0 then s.tileFault tm 4
    else (s.setTile s.cur.1 e { x with length := len, offset := off }).completeWith (fun t => t))

/-- The word of `tstate` (R318). -/
def TileEntry.word (x : TileEntry) (slot : Bool) : Nat :=
  x.kstep % 2 ^ 32 * 2 ^ 32 + bit x.pair * 2 ^ 7 + bit x.wide * 2 ^ 6 + bit slot * 2 ^ 5 + bit x.phase * 2 ^ 3 + x.state

/-- `tstate` (R318). -/
def State.tileState (s : State) (slot : Bool) (n d : Nat) : Result :=
  s.tileOp .any slot n false (fun s _ _ _ x =>
    s.acquire.completeWith (fun t => t.setS d (BitVec.ofNat 64 (x.word slot))))

/-- `tstate` of an accumulator (R318). -/
def execTstateAcc (t d : Nat) (s : State) : Result := s.tileState false t d
/-- `tstate` of a slot (R318). -/
def execTstateSt (t d : Nat) (s : State) : Result := s.tileState true t d

/-- The wait of a `twait` was met by a change of its entry (R319). -/
def State.tileWaitMet (s : State) (param : Nat) : Bool :=
  match s.team? s.cur with
  | some t => t.wait.kind == 1 && t.wait.param == param && t.wait.met && !t.markedOnce
  | none => false

/-- `twait` (R319): a waiter that a change met completes, whatever the entry is by now. -/
def State.tileAwait (s : State) (slot : Bool) (n : Nat) (want phase : Bool) : Result :=
  let p := tileParam slot n (bit want) phase
  if s.tileWaitMet p then .next (s.acquire.completeWith (fun t => t))
  else
    s.tileOp .any slot n true (fun s t _ _ x =>
      let w : WaitRec := { WaitRec.idle with kind := 1, param := p }
      if tileMet x slot w then s.acquire.completeWith (fun t => t) else s.waitWith t w)

/-- `twait` on an accumulator (R319). -/
def execTwaitAcc (t : Nat) (want phase : Bool) (s : State) : Result := s.tileAwait false t want phase
/-- `twait` on a slot (R319). -/
def execTwaitSt (t : Nat) (want phase : Bool) (s : State) : Result := s.tileAwait true t want phase

/-- `tready` (R320), a release at block scope (R97). -/
def State.tileReady (s : State) (slot : Bool) (n : Nat) : Result :=
  s.tileOp .any slot n true (fun s t _ e x =>
    if x.state ≠ 0 then s.tileFault t 4
    else s.afterStores .blk false allStores (fun s _ =>
      (s.setTile s.cur.1 e { (s.core s.cur.1).tile e with state := 2, wide := false, pair := false }).completeWith (fun t => t)))

/-- `tready` of an accumulator (R320). -/
def execTreadyAcc (t : Nat) (s : State) : Result := s.tileReady false t
/-- `tready` of a slot (R320). -/
def execTreadySt (t : Nat) (s : State) : Result := s.tileReady true t

/-- A source is a slot of this number. -/
def MatSrc.isSlot (x : MatSrc) (n : Nat) : Bool :=
  match x with
  | .slot k => k == n
  | .addr _ => false

/-- An entry has readers: a matrix operation in flight whose source it is (R147), or a scatter whose dense side it is
(R167). -/
def Core.tileReaders (k : Core) (b : Block) (slot : Bool) (n e : Nat) : Bool :=
  k.ops.any (fun o => o.blk == b.uid && slot && decide (o.kind = .mma) && (o.srcA.isSlot n || o.srcB.isSlot n)) ||
    k.copies.any (fun y => y.blk == b.uid && y.scatter && !y.complete && y.entry? k == some e)

/-- `trel` (R320), a release at block scope (R97). -/
def State.tileRelease (s : State) (slot : Bool) (n : Nat) : Result :=
  s.tileOp .any slot n true (fun s t b e x =>
    let k := s.core s.cur.1
    let es := if x.wide then e :: (b.entry? slot (n + 1)).toList else [e]
    if x.state = 0 then s.tileFault t 4
    else if es.any (fun e => let y := k.tile e; y.state == 1 || y.state == 3 || k.tileReaders b slot y.localNo e) then
      s.tileWait t slot n 3 []
    else s.afterStores .blk false allStores (fun s _ =>
      (s.modTiles s.cur.1 es (fun y => { y with state := 0, phase := !y.phase, wide := false, pair := false })).completeWith
        (fun t => t)))

/-- `trel` of an accumulator (R320). -/
def execTrelAcc (t : Nat) (s : State) : Result := s.tileRelease false t
/-- `trel` of a slot (R320). -/
def execTrelSt (t : Nat) (s : State) : Result := s.tileRelease true t

/-- `mzero` and `mzero.f64` (R321). -/
def execMzero (t : Nat) (wide : Bool) (s : State) : Result :=
  .next (s.once false .matrix (fun tm =>
    match s.blockOf s.cur.1 tm with
    | none => s.tileFault tm 1
    | some b =>
      match b.entry? false t with
      | none => s.tileFault tm 1
      | some e =>
        if wide ∧ t % 2 = 1 then s.tileFault tm 2
        else
          match (if wide then b.entry? false (t + 1) else some e) with
          | none => s.tileFault tm 1
          | some e2 =>
            let es := if wide then [e, e2] else [e]
            s.named tm es (fun s tm =>
              let k := s.core s.cur.1
              if (k.tile e).pair then s.tileFault tm 5
              else
                match es.find? (fun e => (k.tile e).state == 1 || (k.tile e).state == 3) with
                | some w => s.tileWait tm false (k.tile w).localNo 3 []
                | none =>
                  let s1 := es.foldl (fun s e => s.zeroTile s.cur.1 e) s
                  let s2 := s1.setTile s1.cur.1 e { (s1.core s1.cur.1).tile e with state := 2, wide := wide, pair := false }
                  let s3 := if wide then
                      s2.setTile s2.cur.1 e2 { (s2.core s2.cur.1).tile e2 with state := 2, wide := false, pair := true }
                    else s2
                  s3.completeWith (fun t => t))))

end Sys2Proof.Machine
end

