-- ==== Sys2Proof/Machine/Unit.lean ====
section
/-! DEFINITION. Units (R220): widening by `limm` (R218), stepping by `rep` (R221), the fetch and encoding checks in the
order of R242, and `rep` itself (R222, R290). -/

namespace Sys2Proof.Machine

/-! ### The fields a `rep` steps (R221) -/

/-- What a steppable field holds: nothing, a vector register, a latch, a pair, a scalar, a mask, or a displacement. -/
inductive FieldUse where
  | absent | v (k : Nat) | latch | w (k : Nat) | s (k : Nat) | m (k : Nat) | disp
  deriving DecidableEq, Repr

/-- The fields `d`, `a`, `b` of an instruction that `rep` may precede, and the role it needs (R24). -/
structure FieldUses where
  d : FieldUse
  a : FieldUse
  b : FieldUse
  role : RoleNeed
  deriving DecidableEq, Repr

/-- A vector source. -/
def vuse : VSrc → FieldUse
  | .reg k => .v k
  | .bp _ => .latch
/-- A stored vector source of a size (R293). -/
def sized (z : MemSize) (x : VSrc) : FieldUse :=
  match x, z with
  | .reg k, .b8 => .w k
  | x, _ => vuse x
/-- A loaded vector register of a size (R293). -/
def sizedN (z : MemSize) (k : Nat) : FieldUse := if z = .b8 then .w k else .v k
/-- A vector index. -/
def vixUse : VIndex → FieldUse
  | .disp _ => .disp
  | .idx v => vuse v
/-- A scalar index. -/
def sixUse : SIndex → FieldUse
  | .disp _ => .disp
  | .idx x => .s x

/-- The uses of the fields of an instruction; none where `rep` may not precede it (R220, R290). -/
def fieldUses (i : Instr) : Option FieldUses :=
  match i with
  | .mov16 d a => some ⟨(.v d), (.v a), .absent, .vector⟩
  | .iadd16 d a => some ⟨(.v d), (.v a), .absent, .vector⟩
  | .isub16 d a => some ⟨(.v d), (.v a), .absent, .vector⟩
  | .imul16 d a => some ⟨(.v d), (.v a), .absent, .vector⟩
  | .and16 d a => some ⟨(.v d), (.v a), .absent, .vector⟩
  | .or16 d a => some ⟨(.v d), (.v a), .absent, .vector⟩
  | .xor16 d a => some ⟨(.v d), (.v a), .absent, .vector⟩
  | .shl16 d a => some ⟨(.v d), (.v a), .absent, .vector⟩
  | .shr16 d a => some ⟨(.v d), (.v a), .absent, .vector⟩
  | .sar16 d a => some ⟨(.v d), (.v a), .absent, .vector⟩
  | .imin16 d a => some ⟨(.v d), (.v a), .absent, .vector⟩
  | .imax16 d a => some ⟨(.v d), (.v a), .absent, .vector⟩
  | .fadd16 d a => some ⟨(.v d), (.v a), .absent, .vector⟩
  | .fsub16 d a => some ⟨(.v d), (.v a), .absent, .vector⟩
  | .fmul16 d a => some ⟨(.v d), (.v a), .absent, .vector⟩
  | .fmax16 d a => some ⟨(.v d), (.v a), .absent, .vector⟩
  | .iaddI32 d a b _ => some ⟨(.v d), vuse a, vuse b, .vector⟩
  | .isubI32 d a b _ => some ⟨(.v d), vuse a, vuse b, .vector⟩
  | .imulI32 d a b _ => some ⟨(.v d), vuse a, vuse b, .vector⟩
  | .imadI32 d a b _ => some ⟨(.v d), vuse a, vuse b, .vector⟩
  | .imulhI32 d a b _ => some ⟨(.v d), vuse a, vuse b, .vector⟩
  | .imulhN32 d a b _ => some ⟨(.v d), vuse a, vuse b, .vector⟩
  | .iabsI32 d a _ => some ⟨(.v d), vuse a, .absent, .vector⟩
  | .sel d a b _ => some ⟨(.v d), vuse a, (.m b), .vector⟩
  | .idivI32 d a b _ => some ⟨(.v d), vuse a, vuse b, .vector⟩
  | .idivN32 d a b _ => some ⟨(.v d), vuse a, vuse b, .vector⟩
  | .iremI32 d a b _ => some ⟨(.v d), vuse a, vuse b, .vector⟩
  | .iremN32 d a b _ => some ⟨(.v d), vuse a, vuse b, .vector⟩
  | .iminI32 d a b _ => some ⟨(.v d), vuse a, vuse b, .vector⟩
  | .iminN32 d a b _ => some ⟨(.v d), vuse a, vuse b, .vector⟩
  | .imaxI32 d a b _ => some ⟨(.v d), vuse a, vuse b, .vector⟩
  | .imaxN32 d a b _ => some ⟨(.v d), vuse a, vuse b, .vector⟩
  | .andV d a b _ => some ⟨(.v d), vuse a, vuse b, .vector⟩
  | .orV d a b _ => some ⟨(.v d), vuse a, vuse b, .vector⟩
  | .xorV d a b _ => some ⟨(.v d), vuse a, vuse b, .vector⟩
  | .andn d a b _ => some ⟨(.v d), vuse a, vuse b, .vector⟩
  | .shlN32 d a b _ => some ⟨(.v d), vuse a, vuse b, .vector⟩
  | .shrN32 d a b _ => some ⟨(.v d), vuse a, vuse b, .vector⟩
  | .sarI32 d a b _ => some ⟨(.v d), vuse a, vuse b, .vector⟩
  | .rotN32 d a b _ => some ⟨(.v d), vuse a, vuse b, .vector⟩
  | .clz d a _ => some ⟨(.v d), vuse a, .absent, .vector⟩
  | .popc d a _ => some ⟨(.v d), vuse a, .absent, .vector⟩
  | .brev d a _ => some ⟨(.v d), vuse a, .absent, .vector⟩
  | .bfx d a b _ => some ⟨(.v d), vuse a, vuse b, .vector⟩
  | .bfi d a b _ => some ⟨(.v d), vuse a, vuse b, .vector⟩
  | .movV d a _ => some ⟨(.v d), vuse a, .absent, .vector⟩
  | .iaddI64V d a b _ => some ⟨(.w d), (.w a), (.w b), .vector⟩
  | .isubI64V d a b _ => some ⟨(.w d), (.w a), (.w b), .vector⟩
  | .iaddI64S d a b => some ⟨(.s d), (.s a), (.s b), .any⟩
  | .isubI64S d a b => some ⟨(.s d), (.s a), (.s b), .any⟩
  | .imulI64 d a b => some ⟨(.s d), (.s a), (.s b), .any⟩
  | .andS d a b => some ⟨(.s d), (.s a), (.s b), .any⟩
  | .orS d a b => some ⟨(.s d), (.s a), (.s b), .any⟩
  | .xorS d a b => some ⟨(.s d), (.s a), (.s b), .any⟩
  | .shlN64 d a b => some ⟨(.s d), (.s a), (.s b), .any⟩
  | .shrN64 d a b => some ⟨(.s d), (.s a), (.s b), .any⟩
  | .sarI64 d a b => some ⟨(.s d), (.s a), (.s b), .any⟩
  | .movS d a => some ⟨(.s d), (.s a), .absent, .any⟩
  | .icmpEqI32 d a b => some ⟨(.m d), vuse a, vuse b, .vector⟩
  | .icmpLtI32 d a b => some ⟨(.m d), vuse a, vuse b, .vector⟩
  | .icmpLtN32 d a b => some ⟨(.m d), vuse a, vuse b, .vector⟩
  | .icmpEqI64 d a b => some ⟨(.s d), (.s a), (.s b), .any⟩
  | .icmpLtI64 d a b => some ⟨(.s d), (.s a), (.s b), .any⟩
  | .icmpLtN64 d a b => some ⟨(.s d), (.s a), (.s b), .any⟩
  | .lidV d _ => some ⟨(.v d), .absent, .absent, .vector⟩
  | .lidS d => some ⟨(.s d), .absent, .absent, .any⟩
  | .fpack d a b _ => some ⟨(.v d), vuse a, (.s b), .vector⟩
  | .funpack d a b _ => some ⟨(.v d), vuse a, (.s b), .vector⟩
  | .fstat d => some ⟨(.s d), .absent, .absent, .any⟩
  | .fmode d a => some ⟨(.s d), (.s a), .absent, .any⟩
  | .faddF32 d a b _ => some ⟨(.v d), vuse a, vuse b, .vector⟩
  | .fsubF32 d a b _ => some ⟨(.v d), vuse a, vuse b, .vector⟩
  | .fmulF32 d a b _ => some ⟨(.v d), vuse a, vuse b, .vector⟩
  | .ffmaF32 d a b _ => some ⟨(.v d), vuse a, vuse b, .vector⟩
  | .fdivF32 d a b _ => some ⟨(.v d), vuse a, vuse b, .vector⟩
  | .fsqrtF32 d a _ => some ⟨(.v d), vuse a, .absent, .vector⟩
  | .fminF32 d a b _ => some ⟨(.v d), vuse a, vuse b, .vector⟩
  | .fmaxF32 d a b _ => some ⟨(.v d), vuse a, vuse b, .vector⟩
  | .frcp d a _ => some ⟨(.v d), vuse a, .absent, .vector⟩
  | .frsq d a _ => some ⟨(.v d), vuse a, .absent, .vector⟩
  | .fexp2 d a _ => some ⟨(.v d), vuse a, .absent, .vector⟩
  | .flog2 d a _ => some ⟨(.v d), vuse a, .absent, .vector⟩
  | .froundF32 d a _ => some ⟨(.v d), vuse a, .absent, .vector⟩
  | .fclassF32 d a _ => some ⟨(.v d), vuse a, .absent, .vector⟩
  | .fcmpEqF32 d a b => some ⟨(.m d), vuse a, vuse b, .vector⟩
  | .fcmpLtF32 d a b => some ⟨(.m d), vuse a, vuse b, .vector⟩
  | .faddF64 d a b _ => some ⟨(.w d), (.w a), (.w b), .vector⟩
  | .fsubF64 d a b _ => some ⟨(.w d), (.w a), (.w b), .vector⟩
  | .fmulF64 d a b _ => some ⟨(.w d), (.w a), (.w b), .vector⟩
  | .ffmaF64 d a b _ => some ⟨(.w d), (.w a), (.w b), .vector⟩
  | .fdivF64 d a b _ => some ⟨(.w d), (.w a), (.w b), .vector⟩
  | .fsqrtF64 d a _ => some ⟨(.w d), (.w a), .absent, .vector⟩
  | .fminF64 d a b _ => some ⟨(.w d), (.w a), (.w b), .vector⟩
  | .fmaxF64 d a b _ => some ⟨(.w d), (.w a), (.w b), .vector⟩
  | .fcmpLeF32 d a b => some ⟨(.m d), vuse a, vuse b, .vector⟩
  | .fcmpEqF64 d a b => some ⟨(.m d), (.w a), (.w b), .vector⟩
  | .fcmpLtF64 d a b => some ⟨(.m d), (.w a), (.w b), .vector⟩
  | .fcmpLeF64 d a b => some ⟨(.m d), (.w a), (.w b), .vector⟩
  | .froundF64 d a _ => some ⟨(.w d), (.w a), .absent, .vector⟩
  | .fclassF64 d a _ => some ⟨(.v d), (.w a), .absent, .vector⟩
  | .ftoiI32F32 d a _ => some ⟨(.v d), vuse a, .absent, .vector⟩
  | .itofF32I32 d a _ => some ⟨(.v d), vuse a, .absent, .vector⟩
  | .fcvtF64F32 d a _ => some ⟨(.w d), vuse a, .absent, .vector⟩
  | .fcvtF32F64 d a _ => some ⟨(.v d), (.w a), .absent, .vector⟩
  | .fcvtBf16F32 d a _ => some ⟨(.v d), vuse a, .absent, .vector⟩
  | .fcvtF32Bf16 d a _ => some ⟨(.v d), vuse a, .absent, .vector⟩
  | .fcvtF16F32 d a _ => some ⟨(.v d), vuse a, .absent, .vector⟩
  | .fcvtF32F16 d a _ => some ⟨(.v d), vuse a, .absent, .vector⟩
  | .fcvtNfF32 d a b _ => some ⟨(.v d), vuse a, (.s b), .vector⟩
  | .fcvtF32Nf d a b _ => some ⟨(.v d), vuse a, (.s b), .vector⟩
  | .mand d a b => some ⟨(.m d), (.m a), (.m b), .vector⟩
  | .mor d a b => some ⟨(.m d), (.m a), (.m b), .vector⟩
  | .mxor d a b => some ⟨(.m d), (.m a), (.m b), .vector⟩
  | .mnot d a => some ⟨(.m d), (.m a), .absent, .vector⟩
  | .mmov d a => some ⟨(.m d), (.m a), .absent, .vector⟩
  | .mpop d a => some ⟨(.s d), (.m a), .absent, .vector⟩
  | .mfirst d a => some ⟨(.s d), (.m a), .absent, .vector⟩
  | .shfl d a b _ => some ⟨(.v d), (.v a), vuse b, .vector⟩
  | .bcast d a b _ => some ⟨(.v d), (.v a), (.s b), .vector⟩
  | .reduceAddI32 d a => some ⟨(.s d), vuse a, .absent, .vector⟩
  | .reduceAddF32 d a => some ⟨(.s d), vuse a, .absent, .vector⟩
  | .reduceMaxI32 d a => some ⟨(.s d), vuse a, .absent, .vector⟩
  | .reduceMaxF32 d a => some ⟨(.s d), vuse a, .absent, .vector⟩
  | .scanAddI32 d a _ => some ⟨(.v d), vuse a, .absent, .vector⟩
  | .scanAddF32 d a _ => some ⟨(.v d), vuse a, .absent, .vector⟩
  | .scanMaxI32 d a _ => some ⟨(.v d), vuse a, .absent, .vector⟩
  | .scanMaxF32 d a _ => some ⟨(.v d), vuse a, .absent, .vector⟩
  | .qpass => some ⟨.absent, .absent, .absent, .any⟩
  | .qidle => some ⟨.absent, .absent, .absent, .any⟩
  | .qwake => some ⟨.absent, .absent, .absent, .any⟩
  | .gpstart d => some ⟨(.s d), .absent, .absent, .any⟩
  | .gpwait d a => some ⟨(.s d), (.s a), .absent, .any⟩
  | .dfree d a b => some ⟨(.s d), (.s a), (.s b), .any⟩
  | .lstat d a => some ⟨(.s d), (.s a), .absent, .any⟩
  | .prefL1 a => some ⟨.absent, (.s a), .absent, .any⟩
  | .prefL2 a => some ⟨.absent, (.s a), .absent, .any⟩
  | .prefL2x a => some ⟨.absent, (.s a), .absent, .any⟩
  | .ldbN8 d a b _ => some ⟨(.v d), (.s a), vuse b, .vector⟩
  | .ldbN16 d a b _ => some ⟨(.v d), (.s a), vuse b, .vector⟩
  | .ldbN32 d a b _ => some ⟨(.v d), (.s a), vuse b, .vector⟩
  | .ldbN64 d a b _ => some ⟨(.w d), (.s a), vuse b, .vector⟩
  | .mcommit d => some ⟨(.s d), .absent, .absent, .matrix⟩
  | .mwait a => some ⟨.absent, (.s a), .absent, .matrix⟩
  | .cwait a => some ⟨.absent, (.s a), .absent, .copy⟩
  | .cstatMap d a => some ⟨(.s d), (.s a), .absent, .copy⟩
  | .cstat d a => some ⟨(.s d), (.s a), .absent, .copy⟩
  | .ccancel a => some ⟨.absent, (.s a), .absent, .copy⟩
  | .iaddI32Imm d a _ _ => some ⟨(.v d), vuse a, .absent, .vector⟩
  | .iaddI64Imm d a _ => some ⟨(.s d), (.s a), .absent, .any⟩
  | .moviV d _ _ => some ⟨(.v d), .absent, .absent, .vector⟩
  | .moviS d _ => some ⟨(.s d), .absent, .absent, .any⟩
  | .lea d _ => some ⟨(.s d), .absent, .absent, .any⟩
  | .ldV d size _ ix _ => some ⟨sizedN size d, .absent, vixUse ix, .vector⟩
  | .ldS d _ _ ix => some ⟨(.s d), .absent, sixUse ix, .any⟩
  | .stV d size _ ix => some ⟨sized size d, .absent, vixUse ix, .vector⟩
  | .stS d _ _ ix => some ⟨(.s d), .absent, sixUse ix, .any⟩
  | .ldp d _ _ ix _ => some ⟨(.v d), .absent, vixUse ix, .vector⟩
  | .stp d _ _ ix => some ⟨vuse d, .absent, vixUse ix, .vector⟩
  | _ => none

/-- A source advanced by n: a latch code never has a step (R221). -/
def srcStep (x : VSrc) (n : Nat) : VSrc :=
  match x with
  | .reg k => .reg (k + n)
  | .bp b => .bp b
/-- A vector index advanced by n (R221). -/
def vixStep (x : VIndex) (n : Nat) : VIndex :=
  match x with
  | .disp k => .disp (k + n)
  | .idx v => .idx (srcStep v n)
/-- A scalar index advanced by n (R221). -/
def sixStep (x : SIndex) (n : Nat) : SIndex :=
  match x with
  | .disp k => .disp (k + n)
  | .idx x => .idx (x + n)

/-- The instruction with its fields advanced (R221). -/
def stepped (i : Instr) (nd na nb : Nat) : Instr :=
  match i with
  | .mov16 d a => .mov16 (d + nd) (a + na)
  | .iadd16 d a => .iadd16 (d + nd) (a + na)
  | .isub16 d a => .isub16 (d + nd) (a + na)
  | .imul16 d a => .imul16 (d + nd) (a + na)
  | .and16 d a => .and16 (d + nd) (a + na)
  | .or16 d a => .or16 (d + nd) (a + na)
  | .xor16 d a => .xor16 (d + nd) (a + na)
  | .shl16 d a => .shl16 (d + nd) (a + na)
  | .shr16 d a => .shr16 (d + nd) (a + na)
  | .sar16 d a => .sar16 (d + nd) (a + na)
  | .imin16 d a => .imin16 (d + nd) (a + na)
  | .imax16 d a => .imax16 (d + nd) (a + na)
  | .fadd16 d a => .fadd16 (d + nd) (a + na)
  | .fsub16 d a => .fsub16 (d + nd) (a + na)
  | .fmul16 d a => .fmul16 (d + nd) (a + na)
  | .fmax16 d a => .fmax16 (d + nd) (a + na)
  | .iaddI32 d a b nw => .iaddI32 (d + nd) (srcStep a na) (srcStep b nb) nw
  | .isubI32 d a b nw => .isubI32 (d + nd) (srcStep a na) (srcStep b nb) nw
  | .imulI32 d a b nw => .imulI32 (d + nd) (srcStep a na) (srcStep b nb) nw
  | .imadI32 d a b nw => .imadI32 (d + nd) (srcStep a na) (srcStep b nb) nw
  | .imulhI32 d a b nw => .imulhI32 (d + nd) (srcStep a na) (srcStep b nb) nw
  | .imulhN32 d a b nw => .imulhN32 (d + nd) (srcStep a na) (srcStep b nb) nw
  | .iabsI32 d a nw => .iabsI32 (d + nd) (srcStep a na) nw
  | .sel d a b nw => .sel (d + nd) (srcStep a na) (b + nb) nw
  | .idivI32 d a b nw => .idivI32 (d + nd) (srcStep a na) (srcStep b nb) nw
  | .idivN32 d a b nw => .idivN32 (d + nd) (srcStep a na) (srcStep b nb) nw
  | .iremI32 d a b nw => .iremI32 (d + nd) (srcStep a na) (srcStep b nb) nw
  | .iremN32 d a b nw => .iremN32 (d + nd) (srcStep a na) (srcStep b nb) nw
  | .iminI32 d a b nw => .iminI32 (d + nd) (srcStep a na) (srcStep b nb) nw
  | .iminN32 d a b nw => .iminN32 (d + nd) (srcStep a na) (srcStep b nb) nw
  | .imaxI32 d a b nw => .imaxI32 (d + nd) (srcStep a na) (srcStep b nb) nw
  | .imaxN32 d a b nw => .imaxN32 (d + nd) (srcStep a na) (srcStep b nb) nw
  | .andV d a b nw => .andV (d + nd) (srcStep a na) (srcStep b nb) nw
  | .orV d a b nw => .orV (d + nd) (srcStep a na) (srcStep b nb) nw
  | .xorV d a b nw => .xorV (d + nd) (srcStep a na) (srcStep b nb) nw
  | .andn d a b nw => .andn (d + nd) (srcStep a na) (srcStep b nb) nw
  | .shlN32 d a b nw => .shlN32 (d + nd) (srcStep a na) (srcStep b nb) nw
  | .shrN32 d a b nw => .shrN32 (d + nd) (srcStep a na) (srcStep b nb) nw
  | .sarI32 d a b nw => .sarI32 (d + nd) (srcStep a na) (srcStep b nb) nw
  | .rotN32 d a b nw => .rotN32 (d + nd) (srcStep a na) (srcStep b nb) nw
  | .clz d a nw => .clz (d + nd) (srcStep a na) nw
  | .popc d a nw => .popc (d + nd) (srcStep a na) nw
  | .brev d a nw => .brev (d + nd) (srcStep a na) nw
  | .bfx d a b nw => .bfx (d + nd) (srcStep a na) (srcStep b nb) nw
  | .bfi d a b nw => .bfi (d + nd) (srcStep a na) (srcStep b nb) nw
  | .movV d a nw => .movV (d + nd) (srcStep a na) nw
  | .iaddI64V d a b nw => .iaddI64V (d + nd) (a + na) (b + nb) nw
  | .isubI64V d a b nw => .isubI64V (d + nd) (a + na) (b + nb) nw
  | .iaddI64S d a b => .iaddI64S (d + nd) (a + na) (b + nb)
  | .isubI64S d a b => .isubI64S (d + nd) (a + na) (b + nb)
  | .imulI64 d a b => .imulI64 (d + nd) (a + na) (b + nb)
  | .andS d a b => .andS (d + nd) (a + na) (b + nb)
  | .orS d a b => .orS (d + nd) (a + na) (b + nb)
  | .xorS d a b => .xorS (d + nd) (a + na) (b + nb)
  | .shlN64 d a b => .shlN64 (d + nd) (a + na) (b + nb)
  | .shrN64 d a b => .shrN64 (d + nd) (a + na) (b + nb)
  | .sarI64 d a b => .sarI64 (d + nd) (a + na) (b + nb)
  | .movS d a => .movS (d + nd) (a + na)
  | .icmpEqI32 d a b => .icmpEqI32 (d + nd) (srcStep a na) (srcStep b nb)
  | .icmpLtI32 d a b => .icmpLtI32 (d + nd) (srcStep a na) (srcStep b nb)
  | .icmpLtN32 d a b => .icmpLtN32 (d + nd) (srcStep a na) (srcStep b nb)
  | .icmpEqI64 d a b => .icmpEqI64 (d + nd) (a + na) (b + nb)
  | .icmpLtI64 d a b => .icmpLtI64 (d + nd) (a + na) (b + nb)
  | .icmpLtN64 d a b => .icmpLtN64 (d + nd) (a + na) (b + nb)
  | .lidV d nw => .lidV (d + nd) nw
  | .lidS d => .lidS (d + nd)
  | .fpack d a b nw => .fpack (d + nd) (srcStep a na) (b + nb) nw
  | .funpack d a b nw => .funpack (d + nd) (srcStep a na) (b + nb) nw
  | .fstat d => .fstat (d + nd)
  | .fmode d a => .fmode (d + nd) (a + na)
  | .faddF32 d a b nw => .faddF32 (d + nd) (srcStep a na) (srcStep b nb) nw
  | .fsubF32 d a b nw => .fsubF32 (d + nd) (srcStep a na) (srcStep b nb) nw
  | .fmulF32 d a b nw => .fmulF32 (d + nd) (srcStep a na) (srcStep b nb) nw
  | .ffmaF32 d a b nw => .ffmaF32 (d + nd) (srcStep a na) (srcStep b nb) nw
  | .fdivF32 d a b nw => .fdivF32 (d + nd) (srcStep a na) (srcStep b nb) nw
  | .fsqrtF32 d a nw => .fsqrtF32 (d + nd) (srcStep a na) nw
  | .fminF32 d a b nw => .fminF32 (d + nd) (srcStep a na) (srcStep b nb) nw
  | .fmaxF32 d a b nw => .fmaxF32 (d + nd) (srcStep a na) (srcStep b nb) nw
  | .frcp d a nw => .frcp (d + nd) (srcStep a na) nw
  | .frsq d a nw => .frsq (d + nd) (srcStep a na) nw
  | .fexp2 d a nw => .fexp2 (d + nd) (srcStep a na) nw
  | .flog2 d a nw => .flog2 (d + nd) (srcStep a na) nw
  | .froundF32 d a nw => .froundF32 (d + nd) (srcStep a na) nw
  | .fclassF32 d a nw => .fclassF32 (d + nd) (srcStep a na) nw
  | .fcmpEqF32 d a b => .fcmpEqF32 (d + nd) (srcStep a na) (srcStep b nb)
  | .fcmpLtF32 d a b => .fcmpLtF32 (d + nd) (srcStep a na) (srcStep b nb)
  | .faddF64 d a b nw => .faddF64 (d + nd) (a + na) (b + nb) nw
  | .fsubF64 d a b nw => .fsubF64 (d + nd) (a + na) (b + nb) nw
  | .fmulF64 d a b nw => .fmulF64 (d + nd) (a + na) (b + nb) nw
  | .ffmaF64 d a b nw => .ffmaF64 (d + nd) (a + na) (b + nb) nw
  | .fdivF64 d a b nw => .fdivF64 (d + nd) (a + na) (b + nb) nw
  | .fsqrtF64 d a nw => .fsqrtF64 (d + nd) (a + na) nw
  | .fminF64 d a b nw => .fminF64 (d + nd) (a + na) (b + nb) nw
  | .fmaxF64 d a b nw => .fmaxF64 (d + nd) (a + na) (b + nb) nw
  | .fcmpLeF32 d a b => .fcmpLeF32 (d + nd) (srcStep a na) (srcStep b nb)
  | .fcmpEqF64 d a b => .fcmpEqF64 (d + nd) (a + na) (b + nb)
  | .fcmpLtF64 d a b => .fcmpLtF64 (d + nd) (a + na) (b + nb)
  | .fcmpLeF64 d a b => .fcmpLeF64 (d + nd) (a + na) (b + nb)
  | .froundF64 d a nw => .froundF64 (d + nd) (a + na) nw
  | .fclassF64 d a nw => .fclassF64 (d + nd) (a + na) nw
  | .ftoiI32F32 d a nw => .ftoiI32F32 (d + nd) (srcStep a na) nw
  | .itofF32I32 d a nw => .itofF32I32 (d + nd) (srcStep a na) nw
  | .fcvtF64F32 d a nw => .fcvtF64F32 (d + nd) (srcStep a na) nw
  | .fcvtF32F64 d a nw => .fcvtF32F64 (d + nd) (a + na) nw
  | .fcvtBf16F32 d a nw => .fcvtBf16F32 (d + nd) (srcStep a na) nw
  | .fcvtF32Bf16 d a nw => .fcvtF32Bf16 (d + nd) (srcStep a na) nw
  | .fcvtF16F32 d a nw => .fcvtF16F32 (d + nd) (srcStep a na) nw
  | .fcvtF32F16 d a nw => .fcvtF32F16 (d + nd) (srcStep a na) nw
  | .fcvtNfF32 d a b nw => .fcvtNfF32 (d + nd) (srcStep a na) (b + nb) nw
  | .fcvtF32Nf d a b nw => .fcvtF32Nf (d + nd) (srcStep a na) (b + nb) nw
  | .mand d a b => .mand (d + nd) (a + na) (b + nb)
  | .mor d a b => .mor (d + nd) (a + na) (b + nb)
  | .mxor d a b => .mxor (d + nd) (a + na) (b + nb)
  | .mnot d a => .mnot (d + nd) (a + na)
  | .mmov d a => .mmov (d + nd) (a + na)
  | .mpop d a => .mpop (d + nd) (a + na)
  | .mfirst d a => .mfirst (d + nd) (a + na)
  | .shfl d a b nw => .shfl (d + nd) (a + na) (srcStep b nb) nw
  | .bcast d a b nw => .bcast (d + nd) (a + na) (b + nb) nw
  | .reduceAddI32 d a => .reduceAddI32 (d + nd) (srcStep a na)
  | .reduceAddF32 d a => .reduceAddF32 (d + nd) (srcStep a na)
  | .reduceMaxI32 d a => .reduceMaxI32 (d + nd) (srcStep a na)
  | .reduceMaxF32 d a => .reduceMaxF32 (d + nd) (srcStep a na)
  | .scanAddI32 d a nw => .scanAddI32 (d + nd) (srcStep a na) nw
  | .scanAddF32 d a nw => .scanAddF32 (d + nd) (srcStep a na) nw
  | .scanMaxI32 d a nw => .scanMaxI32 (d + nd) (srcStep a na) nw
  | .scanMaxF32 d a nw => .scanMaxF32 (d + nd) (srcStep a na) nw
  | .qpass => .qpass
  | .qidle => .qidle
  | .qwake => .qwake
  | .gpstart d => .gpstart (d + nd)
  | .gpwait d a => .gpwait (d + nd) (a + na)
  | .dfree d a b => .dfree (d + nd) (a + na) (b + nb)
  | .lstat d a => .lstat (d + nd) (a + na)
  | .prefL1 a => .prefL1 (a + na)
  | .prefL2 a => .prefL2 (a + na)
  | .prefL2x a => .prefL2x (a + na)
  | .ldbN8 d a b nw => .ldbN8 (d + nd) (a + na) (srcStep b nb) nw
  | .ldbN16 d a b nw => .ldbN16 (d + nd) (a + na) (srcStep b nb) nw
  | .ldbN32 d a b nw => .ldbN32 (d + nd) (a + na) (srcStep b nb) nw
  | .ldbN64 d a b nw => .ldbN64 (d + nd) (a + na) (srcStep b nb) nw
  | .mcommit d => .mcommit (d + nd)
  | .mwait a => .mwait (a + na)
  | .cwait a => .cwait (a + na)
  | .cstatMap d a => .cstatMap (d + nd) (a + na)
  | .cstat d a => .cstat (d + nd) (a + na)
  | .ccancel a => .ccancel (a + na)
  | .iaddI32Imm d a imm nw => .iaddI32Imm (d + nd) (srcStep a na) imm nw
  | .iaddI64Imm d a imm => .iaddI64Imm (d + nd) (a + na) imm
  | .moviV d imm nw => .moviV (d + nd) imm nw
  | .moviS d imm => .moviS (d + nd) imm
  | .lea d imm => .lea (d + nd) imm
  | .ldV d size sb ix nw => .ldV (d + nd) size sb (vixStep ix nb) nw
  | .ldS d size sb ix => .ldS (d + nd) size sb (sixStep ix nb)
  | .stV d size sb ix => .stV (srcStep d nd) size sb (vixStep ix nb)
  | .stS d size sb ix => .stS (d + nd) size sb (sixStep ix nb)
  | .ldp d size sb ix nw => .ldp (d + nd) size sb (vixStep ix nb) nw
  | .stp d size sb ix => .stp (srcStep d nd) size sb (vixStep ix nb)
  | i => i

/-! ### Widening by `limm` (R218, R331) -/

/-- A signed field of k bits with the literal's 24 bits above it (R218). -/
def widenS (v k : Nat) (x : Int) : Int := signed (24 + k) (v * 2 ^ k + unsigned k x)

/-- The instruction with its immediate widened by a literal (R218); none before an instruction without an immediate
(R220). Of the S format only `trap` and `brk` take upper bits; for the others they must be zero, which `unitIll` checks
(R331). -/
def widened (v : Nat) (i : Instr) : Option Instr :=
  match i with
  | .iaddI32Imm d a imm nw => some (.iaddI32Imm d a (widenS v 10 imm) nw)
  | .iaddI64Imm d a imm => some (.iaddI64Imm d a (widenS v 10 imm))
  | .moviV d imm nw => some (.moviV d (widenS v 17 imm) nw)
  | .moviS d imm => some (.moviS d (widenS v 17 imm))
  | .lea d imm => some (.lea d (widenS v 17 imm))
  | .bra off => some (.bra (widenS v 17 off))
  | .bzM m off => some (.bzM m (widenS v 17 off))
  | .bnzM m off => some (.bnzM m (widenS v 17 off))
  | .ball m off => some (.ball m (widenS v 17 off))
  | .call off => some (.call (widenS v 17 off))
  | .bzS r off => some (.bzS r (widenS v 17 off))
  | .bnzS r off => some (.bnzS r (widenS v 17 off))
  | .loop r off => some (.loop r (widenS v 17 off))
  | .ldV d z sb (.disp k) nw => some (.ldV d z sb (.disp (widenS v 7 k)) nw)
  | .ldS d z sb (.disp k) => some (.ldS d z sb (.disp (widenS v 7 k)))
  | .stV d z sb (.disp k) => some (.stV d z sb (.disp (widenS v 7 k)))
  | .stS d z sb (.disp k) => some (.stS d z sb (.disp (widenS v 7 k)))
  | .ldp d z sb (.disp k) nw => some (.ldp d z sb (.disp (widenS v 7 k)) nw)
  | .stp d z sb (.disp k) => some (.stp d z sb (.disp (widenS v 7 k)))
  | .trap n => some (.trap (v * 2 ^ 14 + n))
  | .brk n => some (.brk (v * 2 ^ 14 + n))
  | .tstateAcc t d => some (.tstateAcc t d)
  | .tstateSt t d => some (.tstateSt t d)
  | .twaitAcc t w p => some (.twaitAcc t w p)
  | .twaitSt t w p => some (.twaitSt t w p)
  | .treadyAcc t => some (.treadyAcc t)
  | .treadySt t => some (.treadySt t)
  | .trelAcc t => some (.trelAcc t)
  | .trelSt t => some (.trelSt t)
  | .mzero t w => some (.mzero t w)
  | .tbind t d => some (.tbind t d)
  | .bar n g e => some (.bar n g e)
  | .arrive n g e => some (.arrive n g e)
  | .bwait n g => some (.bwait n g)
  | .halt => some .halt
  | .nop => some .nop
  | .sigret d => some (.sigret d)
  | .eret => some .eret
  | .sysrd d r => some (.sysrd d r)
  | .syswr d r => some (.syswr d r)
  | .syswrSet d r => some (.syswrSet d r)
  | .syswrClr d r => some (.syswrClr d r)
  | .park d => some (.park d)
  | .resume d => some (.resume d)
  | .resumeStep d => some (.resumeStep d)
  | _ => none

/-- An S-format instruction other than `trap` and `brk`, which takes no upper immediate bits (R331). -/
def narrowS (i : Instr) : Bool :=
  match i with
  | .tstateAcc _ _ | .tstateSt _ _ | .twaitAcc _ _ _ | .twaitSt _ _ _ | .treadyAcc _ | .treadySt _ | .trelAcc _
  | .trelSt _ | .mzero _ _ | .tbind _ _ | .bar _ _ _ | .arrive _ _ _ | .bwait _ _ | .halt | .nop | .sigret _ | .eret
  | .sysrd _ _ | .syswr _ _ | .syswrSet _ _ | .syswrClr _ _ | .park _ | .resume _ | .resumeStep _ => true
  | _ => false

/-! ### Fetch (R183, R241, R242) -/

/-- The words of a unit: each with its address and its bits. -/
structure UnitWord where
  pa : List Phys
  addr : W57
  w : Nat
  deriving DecidableEq, Repr

/-- The major of a 32-bit word, none for a 16-bit one. -/
def majorOf (w : Nat) : Option Nat := if bits w 0 1 = 0 then none else some (bits w 1 6)

/-- A byte of program text as a team of a core fetches it. -/
def State.fetchByte (s : State) (c uid pa : Nat) : Byte :=
  match regionOf pa with
  | .devreg off => s.mmioByte off
  | .pod => Config.podByte s.tick pa
  | _ => s.coreByte c uid pa

/-- Translate and read one halfword (R183, step 1). -/
def State.fetchHalf (s : State) (a : Agent) (pc : W57) : AccRes × Nat × State :=
  match s.access a (wide pc) 2 2 .fetch with
  | (.ok p, s1) => (.ok p, leRead (s1.fetchByte a.core (a.team.getD 0)) p.pa 2, s1)
  | (r, s1) => (r, 0, s1)

/-- What fetching answers. -/
inductive FetchRes where
  | ok (ws : List UnitWord) (s : State)
  | stop (r : AccRes) (s : State)
  deriving DecidableEq, Repr

/-- Fetch the words of a unit: a `rep` is followed by a further word, and so is a `limm`, unless the sequence is already
wrong (R220). `seen` is the major of the word before. -/
def State.fetchWords (s : State) (a : Agent) : Nat → W57 → Option Nat → FetchRes
  | 0, _, _ => .ok [] s
  | n + 1, pc, seen =>
    match s.fetchHalf a pc with
    | (.ok p, h, s1) =>
      let one (ps : List Phys) (w : Nat) (s2 : State) : FetchRes :=
        let m := majorOf w
        let len : Nat := if m.isNone then 2 else 4
        let more := (m == some 62 && seen.isNone) || (m == some 63 && seen != some 63)
        if more then
          match s2.fetchWords a n (pc + BitVec.ofNat 57 len) m with
          | .ok ws s3 => .ok (⟨ps, pc, w⟩ :: ws) s3
          | r => r
        else .ok [⟨ps, pc, w⟩] s2
      if bits h 0 1 = 0 then one [p] h s1
      else
        match s1.fetchHalf a (pc + 2) with
        | (.ok q, g, s2) => one [p, q] (h + g * 2 ^ 16) s2
        | (r, _, s2) => .stop r s2
    | (r, _, s1) => .stop r s1

/-- The POOL header (R241). -/
def poolHeader : Nat := 0x504F4F7B

/-- A halfword lies in a pool line (R183, step 2). -/
def State.inPool (s : State) (c uid : Nat) (p : Phys) : Bool :=
  leRead (s.fetchByte c uid) (p.pa / 64 * 64) 4 == poolHeader

/-- The instruction of a word runs in passes over the lanes, by its opcode value (R20): the kind that decides the lane
mask of a fault (R175). -/
def wordIsVector (w : Nat) : Bool :=
  let fn := bits w 29 3
  match majorOf w with
  | none => true
  | some m =>
    m < 4 || (m == 5 && (fn == 2 || fn == 3 || fn == 4)) || (m == 6 && (fn == 0 || fn == 2 || fn == 3)) || m == 7 ||
      m == 9 || (12 ≤ m && m ≤ 16) || m == 18 || (m == 19 && fn < 2) || m == 22 || m == 24 || m == 26 || m == 27 ||
      m == 28 || m == 30 || m == 32 || m == 34 || (36 ≤ m && m ≤ 39) || (m == 47 && 4 ≤ fn)

/-- The words decode: the first failing word's subcode with its bits otherwise (R242, step 2). -/
def decodeAll (ws : List UnitWord) : Except (Nat × Nat) (List (UnitWord × Instr)) :=
  match ws with
  | [] => .ok []
  | u :: t =>
    match decodeWord u.w with
    | .error e => .error (e.code, u.w)
    | .ok i =>
      match decodeAll t with
      | .ok r => .ok ((u, i) :: r)
      | .error e => .error e

/-- A unit: its prefixes, its instruction's word and the instruction as the word gives it. -/
structure IssueUnit where
  rep : Option Instr
  limm : Option Nat
  word : UnitWord
  instr : Instr
  deriving DecidableEq, Repr

/-- An instruction is a prefix. -/
def isPrefix (i : Instr) : Bool :=
  match i with
  | .limm _ | .rep _ _ _ _ => true
  | _ => false

/-- The sequence and target checks of R220, with the immediate check of R331 (R242, step 3). An error is a subcode of
`F.ILL` with the word it concerns. -/
def assemble (ws : List (UnitWord × Instr)) : Except (Nat × Nat) IssueUnit :=
  let body (rep : Option Instr) (limm : Option Nat) (u : UnitWord) (i : Instr) : Except (Nat × Nat) IssueUnit :=
    if isPrefix i then .error (6, u.w)
    else if rep.isSome ∧ fieldUses i = none then .error (6, u.w)
    else
      match limm with
      | none => .ok ⟨rep, limm, u, i⟩
      | some v =>
        if widened v i = none then .error (7, u.w)
        else if narrowS i ∧ v ≠ 0 then .error (2, u.w)
        else .ok ⟨rep, limm, u, i⟩
  match ws with
  | [(u, i)] => body none none u i
  | [(u, .rep sb sa sd n), (v, i)] => let _ := u; body (some (.rep sb sa sd n)) none v i
  | [(u, .limm x), (v, i)] => let _ := u; body none (some x) v i
  | [(u, .rep sb sa sd n), (v, .limm x), (w, i)] => let _ := (u, v); body (some (.rep sb sa sd n)) (some x) w i
  | (u, _) :: _ => .error (6, u.w)
  | [] => .error (6, 0)

/-- What the checks of a unit answer. -/
inductive UnitRes where
  | ok (u : IssueUnit) (s : State)
  | fault (f : FaultInfo) (s : State)
  | bad (f : FaultInfo) (u : UnitLatch) (s : State)
  | hold (h : Hold) (s : State)
  deriving DecidableEq, Repr

/-- The length of a word in bytes (R210). -/
def wordLen (w : Nat) : Nat := if (majorOf w).isNone then 2 else 4

/-- The latch of words that make no unit: a signal return may mark them done (R190). -/
def badLatch (pc : W57) (ws : List UnitWord) : UnitLatch :=
  let (addr, w) := ((ws.getLast?).map (fun u => (u.addr, u.w))).getD (pc, 0)
  { UnitLatch.idle with start := pc, word := addr, len := wordLen w, body := w }

/-- The checks of the unit at the team's PC, in the order of R242. Words that were fetched and are no unit answer `bad`. A prefix that stands
wrongly executes once, so its
fault names lane 0; `F.ILL` UNASSIGNED names the active lanes (R175). -/
def State.fetchUnit (s : State) (p : Nat × Nat) (t : Team) : UnitRes :=
  match s.fetchWords (s.agentOf p t) 3 t.pc none with
  | .stop (.fault f) s1 => .fault (faultOf f.code f.sub f.addr (unknownMask t)) s1
  | .stop (.hold h) s1 => .hold h s1
  | .stop (.ok _) s1 => .fault (faultOf 0x08 1 0 (unknownMask t)) s1
  | .ok ws s1 =>
    if ws.any (fun u => u.pa.any (s1.inPool p.1 t.uid)) then .bad (faultOf 0x05 0 0 (unknownMask t)) (badLatch t.pc ws) s1
    else
      match decodeAll ws with
      | .error (sub, w) =>
        .bad (faultOf 0x01 sub 0 (if sub = 1 then unknownMask t else teamFaultMask t (wordIsVector w))) (badLatch t.pc ws) s1
      | .ok is =>
        match assemble is with
        | .error (sub, w) => .bad (faultOf 0x01 sub 0 (teamFaultMask t (wordIsVector w))) (badLatch t.pc ws) s1
        | .ok u => .ok u s1

/-! ### `rep` (R221, R222, R290) -/

/-- A field with a non-zero step is one that cannot step (R221). -/
def FieldUse.stepBad (f : FieldUse) (step : Nat) : Bool :=
  match f with
  | .absent | .latch => step != 0
  | .w _ => step % 2 == 1
  | _ => false

/-- The register number that a field of repeat j names out of its class (R221): a vector register at or above n, a
scalar past `s63`, a mask past `m15`. -/
def FieldUse.regBad (f : FieldUse) (step n j : Nat) : Option Nat :=
  match f with
  | .v k => if n ≤ k + j * step then some (k + j * step) else none
  | .w k => if n ≤ k + j * step then some (k + j * step) else if n ≤ k + j * step + 1 then some (k + j * step + 1) else none
  | .s k => if 64 ≤ k + j * step then some (k + j * step) else none
  | .m k => if 16 ≤ k + j * step then some (k + j * step) else none
  | _ => none

/-- `shfl` and `bcast` name a source other than their destination (R282). -/
def sameShfl (i : Instr) : Bool :=
  match i with
  | .shfl d a _ nw => !nw && d == a
  | .bcast d a _ nw => !nw && d == a
  | _ => false

/-- The first register number that repeats from `j` on, `k` of them, carry out of its class. -/
def repRegBad (f : FieldUses) (r : RepeatState) (n j : Nat) : Nat → Option Nat
  | 0 => none
  | k + 1 =>
    match ((f.d.regBad r.sd n j).or (f.a.regBad r.sa n j)).or (f.b.regBad r.sb n j) with
    | some x => some x
    | none => repRegBad f r n (j + 1) k

/-- The checks of the repeats that remain (R221, R222), after the role check of R25. -/
def repCheck (t : Team) (i : Instr) (r : RepeatState) : Option (Nat × Nat × W64) :=
  if r.total < r.remain ∨ 64 < r.total then some (0x01, 6, 0)
  else
    match fieldUses i with
    | none => some (0x01, 6, 0)
    | some f =>
      if f.d.stepBad r.sd || f.a.stepBad r.sa || f.b.stepBad r.sb then some (0x01, 6, 0)
      else if (List.range r.remain).any (fun k =>
          let j := r.total - r.remain + k
          sameShfl (stepped i (j * r.sd) (j * r.sa) (j * r.sb))) then some (0x01, 3, 0)
      else if f.role.ok t.role = false then some (0x04, 0, 0)
      else (repRegBad f r t.nreg (r.total - r.remain) r.remain).map (fun x => (0x03, 1, BitVec.ofNat 64 x))

/-- The instruction that the latched word gives, widened by the latched literal. -/
def UnitLatch.instr (u : UnitLatch) : Option Instr :=
  match decodeWord u.body with
  | .error _ => none
  | .ok i =>
    match u.limm with
    | none => some i
    | some v => widened v i

/-- The repeat state that governs a unit behind a `rep` prefix: the image where a unit is in progress, otherwise that of the prefix
(R222). -/
def Team.repOf (t : Team) (sb sa sd cnt : Nat) : RepeatState :=
  if t.rep.remain = 0 then ⟨cnt + 1, cnt + 1, sd, sa, sb⟩ else t.rep

/-- What fails of the repeats of the latched unit. -/
def State.repFault (s : State) (t : Team) (r : RepeatState) : Option (Nat × Nat × W64) :=
  match s.latch.instr with
  | none => some (0x01, 6, 0)
  | some i => repCheck t i r

/-- A fault of a unit's repeats, unless it has been reported and its lanes marked done since (R33, R190). -/
def State.unitBad (s : State) (t : Team) (code sub : Nat) (addr : W64) : State :=
  let f := faultOf code sub addr (teamFaultMask t (wordIsVector s.latch.body))
  if t.excused f then s.complete t else s.unitFault t f

/-- `rep`: checks all the repeats that remain, and starts the unit when none is in progress (R221, R222). -/
def execRep (sb sa sd cnt : Nat) (s : State) : Result :=
  .next (match s.team? s.cur with
    | none => s
    | some t =>
      let r := t.repOf sb sa sd cnt
      match s.repFault t r with
      | some (code, sub, addr) => s.unitBad t code sub addr
      | none => s.setTeam s.cur { t with rep := r })

/-! ### Issue of one unit -/

/-- The latch of a unit that issues. -/
def IssueUnit.latch (u : IssueUnit) (pc : W57) (lim : Option Nat) : UnitLatch :=
  { start := pc, word := u.word.addr, len := wordLen u.word.w, limm := none,
    rep := u.rep.isSome, passLimit := lim, stuffed := false, body := u.word.w }

/-- Run the words of a unit whose latch is set: `limm` joins its literal, `rep` checks and starts, and the instruction
runs with its fields widened and stepped (R220 to R222). -/
def State.runUnit (s : State) (run : Instr → State → Result) (u : IssueUnit) : Result :=
  let body (s : State) (i : Instr) : Result :=
    match u.rep with
    | none =>
      match s.team? s.cur with
      | some t => if t.rep.remain = 0 then run i s else .next (s.unitBad t 0x01 6 0)
      | none => .next s
    | some r =>
      match run r s with
      | .next s1 =>
        match s1.team? s1.cur with
        | some t =>
          if t.parked ∨ t.rep.remain = 0 ∨ (s1.repFault t t.rep).isSome then .next s1
          else
            let j := t.rep.total - t.rep.remain
            run (stepped i (j * t.rep.sd) (j * t.rep.sa) (j * t.rep.sb)) s1
        | none => .next s1
      | o => o
  match u.limm with
  | none => body s u.instr
  | some v =>
    match run (.limm v) s with
    | .next s1 =>
      match widened v u.instr with
      | some i => body s1 i
      | none => .next s1
    | o => o

/-- The lane mask of `F.STEP` before the team's next unit (R175): that of the unit there, as far as it can be fetched. -/
def State.stepMask (s : State) (t : Team) : LaneMask :=
  match s.fetchUnit s.cur t with
  | .ok u _ => teamFaultMask t (wordIsVector u.word.w)
  | .bad f _ _ | .fault f _ => f.mask
  | .hold _ _ => unknownMask t

/-- Issue the next unit of the team in `cur`: fetch and check it, latch it, run it. `run` gives an instruction its
meaning. After a stepped unit `F.STEP` comes first (R343). In recovery mode no team operates (R378). -/
def State.issueUnit (s : State) (run : Instr → State → Result) (lim : Option Nat) : Result :=
  match s.team? s.cur with
  | none => .next s
  | some t0 =>
    if t0.canIssue (s.blockOf s.cur.1 t0) = false ∨ s.fe.recovery then .next s
    else
      let s0 := s.settleWait s.cur t0
      let t := { (s0.team? s.cur).getD t0 with hold := none }
      if t.stepDue then .next (s0.takeFault s.cur t t.pc (faultOf 0x2A 0 0 (s0.stepMask t)))
      else
      match (s0.setTeam s.cur t).fetchUnit s.cur t with
      | .fault f s1 => .next (s1.takeFault s1.cur t t.pc f)
      | .bad f u s1 =>
        .next (if t.excused f then { s1 with latch := u }.complete t else s1.takeFault s1.cur t t.pc f)
      | .hold (.line n) s1 => .next ((s1.setTeam s1.cur { t with hold := some n }).awaitLine s1.cur.1 n none)
      | .hold (.tile _ _) s1 => .next s1
      | .ok u s1 => { s1 with latch := u.latch t.pc lim }.runUnit run u

/-! ### The passes of a unit (R20, R49) -/

/-- The instruction's passes are FP64 passes, which occupy their datapath for two cycles (R49). -/
def wideFloat (i : Instr) : Bool :=
  match i with
  | .faddF64 .. | .fsubF64 .. | .fmulF64 .. | .ffmaF64 .. | .fdivF64 .. | .fsqrtF64 .. | .fminF64 .. | .fmaxF64 ..
  | .fcmpEqF64 .. | .fcmpLtF64 .. | .fcmpLeF64 .. | .froundF64 .. | .fclassF64 .. | .fcvtF64F32 .. | .fcvtF32F64 .. => true
  | _ => false

/-- The mask words of the passes that a vector instruction has still to run from a team's state (R20). -/
def Team.passWords (t : Team) : List Nat := (List.range t.words).filter (fun j => decide (t.pwords ≤ j) && maskWord t.active j != 0)

/-- The unit at which a team stood has issued all its passes: the team completed it or a fault parked or halted the team. -/
def Team.unitOver (t1 : Team) : Bool :=
  t1.parked || t1.brkHalt || (t1.done == 0 && t1.pwords == 0 && t1.hold.isNone && t1.heldSince.isNone && !t1.waiting)

/-- The mask words of the passes that an attempt at a unit issued (R20, R426): all that were left, or those that have been marked done
since. -/
def Team.passesMade (t0 : Team) (t1 : Option Team) : List Nat :=
  match t1 with
  | none => t0.passWords
  | some t => if t.unitOver then t0.passWords else t0.passWords.filter (fun j => maskWord t.done j != maskWord t0.done j || decide (j < t.pwords))

end Sys2Proof.Machine
end

