-- ==== Sys2Proof/Machine/Trace.lean ====
section
/-! DEFINITION. The trace units (R421 to R425), the lane-cycle record (R426), and the event counters with their samples
(R427, R428). -/

namespace Sys2Proof.Machine

/-! ### The registers of a trace unit (R421) -/

/-- EN. -/
def Trace.on (u : Trace) : Bool := u.ctl.getLsbD 20
/-- The traced process. -/
def Trace.pasid (u : Trace) : Nat := fld u.ctl.toNat 0 20
/-- MODE 1: stop when full. -/
def Trace.stopsFull (u : Trace) : Bool := u.ctl.getLsbD 24
/-- The size of the buffer. -/
def Trace.size (u : Trace) : Nat := 4096 * 2 ^ min 20 (u.base.toNat % 32)
/-- The virtual base of the buffer. -/
def Trace.bufBase (u : Trace) : Nat := fld u.base.toNat 12 45 * 4096

/-- The state with the trace unit of core c changed. -/
def State.modTrace (s : State) (c : Nat) (f : Trace → Trace) : State :=
  s.setCore c { s.core c with trace := f (s.core c).trace }

/-- The unit traces the team in a slot of core c (R423). -/
def State.traced (s : State) (p : Nat × Nat) (t : Team) : Bool :=
  let u := (s.core p.1).trace
  u.on && p.2 != 0 && u.teams.getLsbD p.2 && pasidOf (s.blockOf p.1 t) == u.pasid

/-! ### Writing packets (R422, R424, R425) -/

/-- A number that saturates. -/
def saturate (n x : Nat) : Nat := min x (2 ^ n - 1)

/-- A packet is dropped and counted. -/
def Trace.drop (u : Trace) : Trace :=
  { u with lost := saturate 32 (u.lost + 1), dropped := saturate 32 (u.dropped + 1) }

/-- What holds at a page boundary: no page is translated, a buffer written to its end is full in MODE 1, and a pause that waits for
the boundary takes place. -/
def Trace.edge (u : Trace) : Trace :=
  if u.wptr % 4096 = 0 then
    { u with page := none, full := u.full || (u.stopsFull && decide (u.size ≤ u.wptr)), paused := u.paused || u.pausing,
             pausing := false }
  else u

/-- The page fails: it is skipped and counted; when every page has failed in turn the unit stops (R424). -/
def Trace.skip (u : Trace) : Trace :=
  ({ u with wptr := u.wptr / 4096 * 4096 + 4096, skipped := saturate 16 (u.skipped + 1), failed := u.failed + 1,
            err := decide (u.size / 4096 ≤ u.failed + 1) } : Trace).edge

/-- Translate the page of the next word: it needs the Write permission and the class normal, and passes the checks of its region (R295,
R424). A walk that waits for a line leaves the unit without a page (R85). -/
def State.tracePage (s : State) (c : Nat) : State :=
  let u := (s.core c).trace
  let va := u.bufBase + u.wptr % u.size
  match s.ctxOf u.pasid with
  | none => s.modTrace c Trace.skip
  | some i =>
    if apertureBase ≤ va then s.modTrace c Trace.skip
    else
      let a := unitAgent c u.pasid i none
      match s.translate a va AKind.engineWrite.need with
      | (.error (0, _), s1) => s1
      | (.error _, s1) => s1.modTrace c Trace.skip
      | (.ok x, s1) =>
        if s1.placeOk x.leaf x.pa && s1.classOk x.leaf x.pa && pteClass x.leaf == 0 &&
            s1.regionCheck a (BitVec.ofNat 64 va) ⟨x.pa, 0, 128, va⟩ .engineWrite == none then
          s1.modTrace c (fun u => { u with page := some (x.pa / 4096 * 4096), failed := 0 })
        else s1.modTrace c Trace.skip

/-- Write the words of a packet to the translated page. A word whose line is held is written later; WPTR as it reads covers a word once
it is visible (R423). -/
def State.traceWords (s : State) (c : Nat) (ws : List Nat) : State :=
  ws.foldl (fun s w =>
    let u := (s.core c).trace
    match u.page with
    | none => s
    | some p =>
      (s.unitStore (.trace c u.wptr) (p + u.wptr % 4096) (leBytes 8 w)).modTrace c (fun u => { u with wptr := u.wptr + 8 })) s

/-- The words of a list of packets. -/
def packetWords (ps : List (List Nat)) : Nat := (ps.map List.length).sum

/-- A full buffer drops a packet; a paused unit holds up to 16 KiB of packets (R425). None if neither is the case. -/
def Trace.keeps (u : Trace) (ws : List Nat) : Option Trace :=
  if u.full then some u.drop
  else if u.paused then
    some (if packetWords u.held + ws.length ≤ 2048 then { u with held := u.held ++ [ws] } else u.drop)
  else none

/-- A packet that would cross a page boundary is preceded by PAD words up to it (R423), whose DT is free like every packet's (log 1). -/
def State.tracePad (s : State) (c n : Nat) : State :=
  let r := (s.core c).trace.wptr % 4096
  if 4096 < r + 8 * n then
    let k := (4096 - r) / 8
    ({ s with tick := s.tick + k }.traceWords c ((List.range k).map (fun i => at' (Config.freeNat (s.tick + i) % 2048) 44))).modTrace c Trace.edge
  else s

/-- Write one packet, or hold or drop it. A unit that holds no page, and has dropped a packet since, drops what arises until the sequence
of R424 has been written. -/
def State.tracePut (s : State) (c : Nat) (ws : List Nat) : State :=
  let u := (s.core c).trace
  if u.on = false ∨ u.err then s
  else
    match u.keeps ws with
    | some u1 => s.modTrace c (fun _ => u1)
    | none =>
      let s1 := s.tracePad c ws.length
      match (s1.core c).trace.keeps ws with
      | some u1 => s1.modTrace c (fun _ => u1)
      | none =>
        let u1 := (s1.core c).trace
        let s2 := if u1.page.isNone ∧ u1.failed = 0 ∧ u1.dropped = 0 then s1.tracePage c else s1
        if (s2.core c).trace.page.isNone then s2.modTrace c Trace.drop
        else (s2.traceWords c ws).modTrace c (fun u => ({ u with since := u.since + 1 } : Trace).edge)

/-- Word 0 of a packet: TYPE, SLOT and DT, with its payload. DT counts cycles and is a free value (log 1). -/
def State.traceHead (s : State) (type slot payload : Nat) : Nat :=
  at' type 60 + at' slot 55 + at' (Config.freeNat s.tick % 2048) 44 + payload

/-- SYNC (R422). -/
def State.traceSync (s : State) (c : Nat) : State :=
  let (t, s1) := s.readClock
  (s1.tracePut c [at' 1 60, t % 2 ^ 64]).modTrace c (fun u => { u with since := 0 })

/-- Write one packet; after 256 packets a SYNC follows (R423). -/
def State.traceSend (s : State) (c : Nat) (ws : List Nat) : State :=
  let s1 := s.tracePut c ws
  if 256 ≤ (s1.core c).trace.since then s1.traceSync c else s1

/-- PC[44:1] of word 0 of a packet. -/
def pcLow (pc : W57) : Nat := fld pc.toNat 1 44

/-- PC[56:45] of word 1 of a packet. -/
def pcHigh (pc : W57) : Nat := at' (fld pc.toNat 45 12) 52

/-- MASK packets for some words of `m0` of the team in a slot. -/
def State.traceMasks (s : State) (p : Nat × Nat) (t : Team) (js : List Nat) : State :=
  js.foldl (fun s j => (s.traceSend p.1 [s.traceHead 4 p.2 (at' j 38 + maskWord (t.mreg 0) j)]).draw) s

/-- CONTEXT of the team in a slot, with a MASK for each word of `m0` (R422, R423). -/
def State.traceContext (s : State) (p : Nat × Nat) (t : Team) : State :=
  match s.blockOf p.1 t with
  | none => s
  | some b =>
    let phase := ((b.barriers[0]?).map (fun x => x.phase.toNat)).getD 0
    let s1 := (s.traceSend p.1 [s.traceHead 2 p.2 (pcLow t.pc), pcHigh t.pc + at' b.pasid 32 + phase,
      at' (b.launchNo % 2 ^ 16) 48 + at' b.z 32 + at' b.y 16 + b.x]).draw
    s1.traceMasks p t (List.range t.words)

/-- CONTEXT of every traced team of core c. -/
def State.traceContexts (s : State) (c : Nat) : State :=
  (s.core c).teams.foldl (fun s e => if s.traced (c, e.1) e.2 then s.traceContext (c, e.1) e.2 else s) s

/-- What the unit writes first after packets were dropped: LOSS with the count, SYNC, and the contexts (R424). -/
def State.traceResync (s : State) (c : Nat) : State :=
  let n := (s.core c).trace.dropped
  let s1 := (s.tracePut c [s.traceHead 5 0 n]).draw.modTrace c (fun u => { u with dropped := u.dropped - n })
  (s1.traceSync c).traceContexts c

/-- A unit that has dropped packets and holds no page tries the next one; when it translates, the sequence of R424 comes first. -/
def State.traceRetry (s : State) (c : Nat) : State :=
  let u := (s.core c).trace
  if u.on ∧ 0 < u.dropped ∧ u.err = false ∧ u.full = false ∧ u.paused = false then
    let s1 := if u.page.isNone then s.tracePage c else s
    if (s1.core c).trace.page.isSome then s1.traceResync c else s1
  else s

/-- A packet arises. When packets were dropped for want of a page, the next page is tried after a free time (log 4). -/
def State.tracePacket (s : State) (c : Nat) (ws : List Nat) : State :=
  let s1 := s.traceSend c ws
  if (s1.core c).trace.page.isNone ∧ 0 < (s1.core c).trace.dropped ∧ Config.freeBool s1.tick then s1.draw.traceRetry c else s1

/-- A packet of one word. -/
def State.traceOne (s : State) (p : Nat × Nat) (type payload : Nat) : State :=
  (s.draw).tracePacket p.1 [s.traceHead type p.2 payload]

/-! ### Counters and samples (R427, R428) -/

/-- SAMPLE of counter e, naming the unit at a PC. -/
def State.traceSample (s : State) (p : Nat × Nat) (pc : W57) (e : Nat) (async : Bool) : State :=
  (s.draw).tracePacket p.1 [s.traceHead 6 p.2 (pcLow pc), pcHigh pc + at' e 45 + at' (bit async) 44]

/-- A counter of a trace unit. -/
def Trace.counter (u : Trace) (e : Nat) : TraceCounter := tabGet ⟨0, 0, false⟩ u.counters e

/-- Counter e of core c wraps: OVF, and a SAMPLE of the unit that caused it, or one that waits for the next unit. -/
def State.traceWrap (s : State) (c e : Nat) (unit : Option (Nat × W57)) : State :=
  let s1 := s.modTrace c (fun u =>
    { u with counters := tabSet u.counters e { u.counter e with count := 0, ovf := true },
             async := if u.ctl.getLsbD 23 ∧ unit.isNone then u.async ++ [e] else u.async })
  match unit with
  | some x => if (s1.core c).trace.ctl.getLsbD 23 then s1.traceSample (c, x.1) x.2 e false else s1
  | none => s1

/-- One event of a kind: every counter that selects it advances (R427). -/
def State.traceCount (s : State) (c kind : Nat) (unit : Option (Nat × W57)) : State :=
  if (s.core c).trace.on = false then s
  else
    (List.range 8).foldl (fun s e =>
      let x := (s.core c).trace.counter e
      if x.event ≠ kind then s
      else if x.count + 1 = 2 ^ 48 then s.traceWrap c e unit
      else s.modTrace c (fun u => { u with counters := tabSet u.counters e { x with count := x.count + 1 } })) s

/-- n events of a kind. -/
def State.traceCountN (s : State) (c kind n : Nat) (unit : Option (Nat × W57)) : State :=
  (List.range n).foldl (fun s _ => s.traceCount c kind unit) s

/-! ### The lane-cycle record (R426) -/

/-- The lowest range that holds a PC; 16 is the unbinned counters. -/
def Trace.rangeOf (u : Trace) (pc : W57) : Nat :=
  ((List.range 16).find? (fun k =>
    let r := tabGet (0, 0) u.ranges k
    decide (r.1.toNat ≤ pc.toNat) && decide (pc.toNat < r.2.toNat))).getD 16

/-- The classes of the 32 positions of mask word j: active, diverged and absent. -/
def laneClasses (t : Team) (j : Nat) : List Nat :=
  let on := maskWord (t.mreg 0) j
  let act := maskWord t.active j
  [popcount 32 act, 32 - popcount 32 on, popcount 32 on - popcount 32 act, 0]

/-- Cycles are added to a range. -/
def Trace.addCycles (u : Trace) (k : Nat) (xs : List Nat) : Trace :=
  let old := tabGet [0, 0, 0, 0] u.cycles k
  { u with cycles := tabSet u.cycles k ((old.zip xs).map (fun e => (e.1 + e.2) % 2 ^ 64)) }

/-! ### What a unit leaves in the trace (R423, R427) -/

/-- `bz`, `bnz` and `ball`: traced whether taken or not. -/
def condBranch (i : Instr) : Bool :=
  match i with
  | .bzM .. | .bnzM .. | .ball .. | .bzS .. | .bnzS .. => true
  | _ => false

/-- The other transfers that are traced when taken. -/
def plainBranch (i : Instr) : Bool :=
  match i with
  | .bra .. | .call .. | .ret .. | .jmpr .. | .lbrk .. => true
  | _ => false

/-- Where the loop-end step of a unit returns to (R288). -/
def loopReturn (a nxt : W57) : List LoopEntry → Option W57
  | [] => none
  | e :: rest =>
    if nxt = e.stop ∧ e.start.toNat ≤ a.toNat ∧ a.toNat < e.stop.toNat then
      if e.count - 1 ≠ 0 then some e.start else loopReturn a nxt rest
    else none

/-- The BRANCH packets of an instruction that completed and took a team from one state to the next: how many. -/
def branchCount (i : Instr) (u : UnitLatch) (t0 t1 : Team) : Nat :=
  let ended := decide (t1.loops ≠ t0.loops) && loopReturn u.start u.next t0.loops == some t1.pc
  match i with
  | .sigret .. | .eret => 0
  | .loop .. => bit (decide (t1.loops.length ≤ t0.loops.length)) + bit ended
  | _ => bit (condBranch i || plainBranch i) + bit (ended && !plainBranch i)

/-- The words of `m0` that differ. -/
def changedWords (t0 t1 : Team) : List Nat :=
  (List.range t0.words).filter (fun j => maskWord (t0.mreg 0) j != maskWord (t1.mreg 0) j)

/-- MASK packets for what changed in `m0`, when MSK is set (R423). -/
def State.traceChanged (s : State) (p : Nat × Nat) (t0 : Team) : State :=
  match s.team? p with
  | none => s
  | some t1 =>
    if (s.core p.1).trace.ctl.getLsbD 22 ∧ s.traced p t1 then
      (changedWords t0 t1).foldl (fun s j => s.traceOne p 4 (at' j 38 + maskWord (t1.mreg 0) j)) s
    else s

/-- The samples that wait name the unit that a traced team issues now (R428). -/
def State.traceAsync (s : State) (p : Nat × Nat) (pc : W57) : State :=
  let es := (s.core p.1).trace.async
  es.foldl (fun s e => s.traceSample p pc e true) (s.modTrace p.1 (fun u => { u with async := [] }))

/-- The team is about to issue a unit that it has not issued before (R427): nothing of the unit at its PC has been done, waited for or
held back yet. -/
def Team.freshUnit (t : Team) : Bool := t.done == 0 && t.rep.remain == 0 && t.pwords == 0 && !t.waiting && t.heldSince.isNone

/-- The attempt itself: with the issue of a unit the waiting samples and its count; then its passes and their lanes (R426 to R428). -/
def State.traceIssue (s : State) (p : Nat × Nat) (t0 : Team) (t1 : Option Team) (i : Instr) (vec : Bool) : State :=
  let u := some (p.2, t0.pc)
  let s1 := if t0.freshUnit then (s.traceAsync p t0.pc).traceCount p.1 1 u else s
  if vec && t0.role == .vector then
    let js := t0.passesMade t1
    let s2 := s1.traceCountN p.1 2 js.length u
    let n := if wideFloat i then 2 else 1
    let cyc :=
      if t0.passWords.isEmpty then (if t1.all Team.unitOver then [laneClasses t0 0] else [])
      else js.flatMap (fun j => List.replicate n (laneClasses t0 j))
    cyc.foldl (fun s x => s.modTrace p.1 (fun u => u.addCycles (u.rangeOf t0.pc) x)) s2
  else s1

/-- The instruction went past the checks that stand before its first pass (R25). -/
def passedChecks (t1 : Option Team) : Bool :=
  match t1 with
  | some t => !(t.parked && decide (t.record.code ≤ 5))
  | none => true

/-- A wait of R34 has a kind of its own in R444: those of a lock poll, of anvils and of `halt` are none. -/
def WaitRec.architectural (w : WaitRec) : Bool := decide (1 ≤ w.kind) && decide (w.kind ≤ 9)

/-- The BRANCH packets of the unit that a traced team completed (R423). -/
def State.traceBranches (s : State) (p : Nat × Nat) (t0 : Team) : State :=
  match s.team? p, s.latch.instr with
  | some t1, some i =>
    if (s.core p.1).trace.ctl.getLsbD 21 ∧ t1.parked = false ∧ t1.brkHalt = false ∧ t1.unitOver then
      (List.range (branchCount i s.latch t0 t1)).foldl (fun s _ => s.traceOne p 3 (pcLow t1.pc)) s
    else s
  | _, _ => s

/-- What the unit that the team in a place issued leaves in the trace: `s0` is the state before it. -/
def State.traceUnit (s : State) (s0 : State) (p : Nat × Nat) : State :=
  match s0.team? p with
  | none => s
  | some t0 =>
    if s0.traced p t0 = false ∨ t0.canIssue (s0.blockOf p.1 t0) = false ∨ t0.stepDue then s
    else
      let t1 := s.team? p
      let s1 :=
        match s0.fetchUnit p t0 with
        | .ok u _ =>
          ((s.traceIssue p t0 t1 u.instr (wordIsVector u.word.w && passedChecks t1)).traceChanged p t0).traceBranches p t0
        | _ => s
      let s2 := s1.traceCountN p.1 3 ((s1.core p.1).misses - (s0.core p.1).misses) none
      if t1.any (fun t1 => t1.waiting && t1.wait.architectural && !t0.waiting) then s2.traceCount p.1 4 none else s2

/-- The faults and parks of a step on the core of a trace unit (R427): the traced teams that are parked or halted by a fault and were not
before it. A unit with a traced team on a datapath has counted idle cycles (R426). -/
def State.traceParks (s : State) (s0 : State) : State :=
  (s.cores.filter (fun k => k.2.trace.on)).foldl (fun s k =>
    let c := k.1
    let mine := (s.core c).teams.filter (fun e => s.traced (c, e.1) e.2)
    let was (e : Nat × Team) : Bool := (s0.team? (c, e.1)).any (fun t => t.uid == e.2.uid && (t.parked || t.brkHalt))
    let s1 := s.traceCountN c 7 (mine.filter (fun e => (e.2.parked || e.2.brkHalt) && !was e)).length none
    if mine.any (fun e => e.2.role == .vector) then s1.modTrace c (fun u => { u with seen := true }) else s1) s

/-! ### The steps of a trace unit -/

/-- TRACE_ENABLE (R421, R423): a write of the first register; EN from 0 to 1 starts at the beginning with a SYNC and the
contexts; words of an earlier trace that still wait are not written any more. Clearing EN drops the packets a pause holds. -/
def execTraceEnable (core : Nat) (val : BitVec 64) (s : State) : Result :=
  .next (
    let u := (s.core core).trace
    let en := val.getLsbD 20
    let base : Trace := { u with
      teams := BitVec.ofNat 32 (fld val.toNat 32 32), ctl := BitVec.ofNat 64 (fld val.toNat 0 25),
      page := if fld val.toNat 0 20 = u.pasid then u.page else none }
    if en ∧ u.on = false then
      let s1 := s.modTrace core (fun _ =>
        { base with wptr := 0, err := false, paused := false, full := false, held := [], page := none, failed := 0, dropped := 0,
                    since := 0, pausing := false, async := [], ran := true })
      let s1 : State := { s1 with late := s1.late.filter (fun w => !w.src.same (.trace core 0)) }
      (s1.traceSync core).traceContexts core
    else if en then s.modTrace core (fun _ => base)
    else
      s.modTrace core (fun _ => { base with
        lost := saturate 32 (u.lost + u.held.length), held := [], page := none, paused := false, pausing := false, async := [] }))

/-- TRACE_SYNC (R423): 4,096 cycles have passed since the last SYNC. -/
def execTraceSync (core : Nat) (s : State) : Result :=
  .next (if (s.core core).trace.on then s.traceSync core else s)

/-- TRACE_RESUME (R425): once no shootdown of its address space is pending, a paused unit translates afresh and writes what it
held, then the LOSS sequence if packets were dropped. -/
def execTraceResume (core : Nat) (s : State) : Result :=
  .next (
    let u := (s.core core).trace
    if u.paused = false ∨ s.shootdowns.any (fun x => x.pasid == u.pasid) then s
    else
      let s1 := s.modTrace core (fun u => { u with paused := false, held := [], page := none })
      (u.held.foldl (fun s ws => s.traceSend core ws) s1).traceRetry core)

/-- COUNTER_WRAP (R428): a counter of cycles or of L1 load misses wraps; what it counts lies outside the model (log 1). -/
def execCounterWrap (core e : Nat) (s : State) : Result :=
  .next (
    let u := (s.core core).trace
    if e < 8 ∧ u.on ∧ ((u.counter e).event = 0 ∨ (u.counter e).event = 3) then s.traceWrap core e none else s)

end Sys2Proof.Machine
end

