-- ==== Sys2Proof/Machine/Matrix.lean ====
section
/-! DEFINITION. Matrix operations, drains and quantising (R143 to R157, R322 to R327), the commit groups (R152), and the
steps of the anvils. -/

namespace Sys2Proof.Machine

/-! ### The format block (R144) -/

/-- A format block. -/
structure FormatBlock where
  fmtA : W32
  fmtB : W32
  slayout : Bool
  blk : Nat
  shape : Nat
  cls : Nat
  ksteps : Nat
  scaleA : Nat
  scaleB : Nat
  strideA : Nat
  strideB : Nat
  rsvBad : Bool
  deriving DecidableEq, Repr

/-- The fields of the four words of a format block (R144). -/
def FormatBlock.of (w0 w1 w2 w3 : Nat) : FormatBlock :=
  { fmtA := BitVec.ofNat 32 (fld w0 0 32), fmtB := BitVec.ofNat 32 (fld w0 32 32), slayout := fld w1 24 1 == 1,
    blk := fld w1 22 2, shape := fld w1 20 2, cls := fld w1 16 4, ksteps := fld w1 0 16, scaleA := fld w2 0 19,
    scaleB := fld w2 32 19, strideA := fld w3 0 32, strideB := fld w3 32 32,
    rsvBad := fld w1 25 39 != 0 || fld w2 19 13 != 0 || fld w2 51 13 != 0 }

/-- The format block of captured words. -/
def FormatBlock.ofWords (ws : List W64) : FormatBlock :=
  let w (i : Nat) : Nat := ((ws[i]?).getD 0).toNat
  FormatBlock.of (w 0) (w 1) (w 2) (w 3)

/-- Element width in bits of a class and format word (R143, R149). -/
def elemBits (cls : Nat) (fw : W32) : Nat :=
  match cls with
  | 0 => 64 | 1 => 32 | 2 => 16 | 3 => 16 | _ => (NFmt.of fw).w

/-- Elements of K per k-step (R149): in class 4 the wider width counts. -/
def kstepLen (cls : Nat) (fa fb : W32) : Nat :=
  match cls with
  | 0 => 8 | 1 => 16 | 2 => 64 | 3 => 64
  | _ => if 5 ≤ max (NFmt.of fa).w (NFmt.of fb).w then 128 else 256

/-- M and N of a shape (R146). -/
def shapeDims (shape : Nat) : Nat × Nat :=
  match shape with
  | 0 => (64, 64) | 1 => (64, 256) | 2 => (128, 128) | _ => (256, 64)

/-- Entries of one output sub-tile (R146). -/
def subEntries (cls : Nat) : Nat := if cls = 0 then 2 else 1

/-- Entries of an operation (R146). -/
def opEntries (shape cls : Nat) : Nat := (if shape = 0 then 1 else 4) * subEntries cls

/-- K. -/
def FormatBlock.k (f : FormatBlock) : Nat := f.ksteps * kstepLen f.cls f.fmtA f.fmtB
/-- Bytes of a row of A. -/
def FormatBlock.rowA (f : FormatBlock) : Nat := f.k * elemBits f.cls f.fmtA / 8
/-- Bytes of a column of B. -/
def FormatBlock.colB (f : FormatBlock) : Nat := f.k * elemBits f.cls f.fmtB / 8

/-- The scale block length (R144). -/
def blkLength (code : Nat) : Nat := 8 * 2 ^ code

/-- A stride is wrong for an address source (R145). -/
def strideBad (src : MatSrc) (stride row : Nat) : Bool :=
  match src with
  | .slot _ => false
  | .addr _ => stride % 128 != 0 || decide (stride < row)

/-- The FMTBLK check of R145. -/
def FormatBlock.bad (f : FormatBlock) (a b : MatSrc) : Bool :=
  f.rsvBad || decide (4 < f.cls) || f.ksteps == 0 ||
    (f.cls == 4 && (!nfValid f.fmtA || !nfValid f.fmtB)) ||
    (decide (f.cls < 4) && (f.fmtA != 0 || f.fmtB != 0)) ||
    (f.blk != 0 && decide (f.cls < 2)) || strideBad a f.strideA f.rowA || strideBad b f.strideB f.colB

/-- A source operand (R143). -/
def Team.matSrc (t : Team) (x : TSrc) : MatSrc :=
  match x with
  | .slot k => .slot k
  | .reg r => .addr (t.s r)

/-- A source that is an address not aligned to a line. -/
def MatSrc.misaligned (x : MatSrc) : Option W64 :=
  match x with
  | .addr va => if va.toNat % 128 ≠ 0 then some va else none
  | .slot _ => none

/-- The physical entry of a slot source the block holds. -/
def MatSrc.entry? (x : MatSrc) (b : Block) : Option Nat :=
  match x with
  | .slot k => b.entry? true k
  | .addr _ => none

/-- A slot source that the block does not hold. -/
def MatSrc.notHeld (x : MatSrc) (b : Block) : Bool :=
  match x with
  | .slot k => (b.entry? true k).isNone
  | .addr _ => false

/-- The blocks of a block's group with their cores and places, by rank (R27). -/
def State.groupOf (s : State) (b : Block) : List (Nat × Nat × Block) :=
  sortByRank (s.cores.flatMap (fun k => k.2.blocks.filterMap (fun e =>
    if e.2.launch = b.launch ∧ e.2.gang = b.gang ∧ e.2.linear + b.rank = b.linear + e.2.rank then some (k.1, e.1, e.2) else none)))
where
  /-- Ascending by rank. -/
  sortByRank (l : List (Nat × Nat × Block)) : List (Nat × Nat × Block) :=
    (List.range 8).flatMap (fun r => l.filter (fun e => e.2.2.rank == r))

/-- The extents of scale bytes or of a slot source that lie outside the block's scratchpad (R145): the offset. -/
def State.matExtent (s : State) (c : Nat) (b : Block) (f : FormatBlock) (m n : Nat) (a b' : MatSrc) : Option Nat :=
  let sc (off rows : Nat) : Option Nat :=
    if f.blk ≠ 0 ∧ b.spSize < off + rows * (f.k / blkLength f.blk) then some off else none
  let sl (x : MatSrc) : Option Nat :=
    (x.entry? b).bind (fun e =>
      let y := (s.core c).tile e
      if b.spSize < y.offset + y.length then some y.offset else none)
  ((sc f.scaleA m).or (sc f.scaleB n)).or ((sl a).or (sl b'))

/-- A slot source smaller than R143 requires. -/
def State.slotShort (s : State) (c : Nat) (b : Block) (x : MatSrc) (need : Nat) : Bool :=
  (x.entry? b).any (fun e => decide (((s.core c).tile e).length < need))

/-- The checks of R145 and R151 after the format block was read: a fault as code, subcode and address. R145 gives no order within its
last row and R151 none for its own checks (DESIGN CHOICE, log 110). -/
def State.matChecks (s : State) (c : Nat) (b : Block) (gang : Bool) (acc : Nat) (a b' : MatSrc) (f : FormatBlock) :
    Option (Nat × Nat × W64) :=
  let (m, n0) := shapeDims f.shape
  let n := if gang then 128 * b.gang else n0
  let e := opEntries f.shape f.cls
  let isSlot (x : MatSrc) : Bool := match x with | .slot _ => true | .addr _ => false
  if f.bad a b' then some (0x01, 0x10, 0)
  else
    match s.matExtent c b f m n a b' with
    | some o => some (0x09, 6, BitVec.ofNat 64 o)
    | none =>
      match a.misaligned.or b'.misaligned with
      | some va => some (0x0A, 0, va)
      | none =>
        if gang ∧ b.gang = 1 then some (0x18, 8, 0)
        else if gang ∧ b.rank ≠ 0 then some (0x18, 9, 0)
        else if gang ∧ (isSlot a || isSlot b') then some (0x18, 0xA, 0)
        else if gang ∧ f.shape ≠ 2 then some (0x18, 0, 0)
        else if (b.entry? false acc).isNone then some (0x18, 1, 0)
        else if acc % e ≠ 0 then some (0x18, 2, 0)
        else if (List.range e).any (fun i => (b.entry? false (acc + i)).isNone) || a.notHeld b || b'.notHeld b then
          some (0x18, 1, 0)
        else if s.slotShort c b a (m * f.rowA) || s.slotShort c b b' (n * f.colB) then some (0x18, 3, 0)
        else none

/-! ### Anvils (R146) -/

/-- The anvils of a core that serve an operation. -/
def Core.busyAnvils (k : Core) : BitVec 4 := k.ops.foldl (fun r o => if o.running then r ||| o.anvils else r) 0

/-- The block of an operation can run its engines (R155). -/
def Block.engines (b : Block) : Bool := b.started && !b.stopped && !b.swapping

/-- A matrix operation that has stopped without a fault (R155). -/
def MatOp.stoppedOp (o : MatOp) : Bool := decide (o.kind = .mma) && !o.running && o.fault.isNone

/-- An operation that has stopped, and restarts when its anvils are free (R155). -/
def Core.anvilWaiters (k : Core) : List MatOp := k.ops.filter (fun o => o.stoppedOp && (k.blockUid o.blk).any Block.engines)

/-- The anvils an operation of a shape takes, if they are free. -/
def Core.takeAnvils (k : Core) (shape : Nat) : Option (BitVec 4) :=
  let busy := k.busyAnvils
  if shape = 0 then
    ((List.range 4).find? (fun i => !busy.getLsbD i)).map (fun i => BitVec.ofNat 4 (2 ^ i))
  else if busy = 0 then some 0xF else none

/-! ### Start (R316, R322) -/

/-- The kind of the anvil wait, which has no image (R146); its `param` is 1 for a group's. -/
def anvilKind : Nat := 13

/-- The class of the flush bits of an operation: that of its elements, for the input and for the result (R150). -/
def matFlush (cls : Nat) : FClass :=
  match cls with
  | 0 => .c64 | 1 => .c32 | 2 => .c16 | 3 => .c16 | _ => .narrow

/-- Start one member's part of an operation: its entries are zeroed if empty and go to filling, with the marks of its
class, and the operation joins the open group (R322). -/
def State.startPart (s : State) (t : Team) (f : FormatBlock) (acc : Nat) (a b' : MatSrc) (gang : Bool) (issue : Nat)
    (part : Nat × Nat × Block) : State :=
  let c := part.1
  let b := part.2.2
  let locals := (List.range (opEntries f.shape f.cls)).map (fun i => acc + i)
  let es := locals.filterMap (fun n => b.entry? false n)
  let s1 := es.foldl (fun s e => if ((s.core c).tile e).state = 0 then s.zeroTile c e else s) s
  let s2 := s1.modTiles c es (fun x =>
    { x with state := 1, kstep := 0, wide := f.cls == 0 && x.localNo % 2 == 0, pair := f.cls == 0 && x.localNo % 2 == 1 })
  let k := s2.core c
  let o : MatOp :=
    { id := s2.nextUid, issue := issue, team := t.uid, blk := b.uid, kind := .mma, acc := acc, entries := locals,
      srcA := a, srcB := b', strideA := f.strideA, strideB := f.strideB, fmtA := f.fmtA, fmtB := f.fmtB, cls := f.cls,
      shape := f.shape, blkLen := f.blk, slayout := f.slayout, gang := gang, member := b.rank, ksteps := f.ksteps,
      kstep := 0, group := none, anvils := (k.takeAnvils f.shape).getD 0, running := true, pins := [],
      iflush := t.iflush (matFlush f.cls), rflush := t.rflush (matFlush f.cls), scaleA := f.scaleA, scaleB := f.scaleB, dstPa := [], scaleDst := 0,
      fault := none, reported := false }
  { s2.setCore c { k with ops := k.ops ++ [o] } with nextUid := s2.nextUid + 1 }

/-- Phases 2 and 3 of `mma` and `mmag` (R322): its start is a release at team scope (R97). An operation that restarts takes its anvils
first (R155). -/
def State.matStart (s : State) (t : Team) (b : Block) (gang : Bool) (acc : Nat) (a b' : MatSrc) (ws : List W64) : State :=
  let f := FormatBlock.ofWords ws
  let c := s.cur.1
  let parts := if gang then s.groupOf b else [(c, t.place, b)]
  let locals := (List.range (opEntries f.shape f.cls)).map (fun i => acc + i)
  let slotWaits := [a, b'].filterMap (fun x =>
    match x, x.entry? b with
    | .slot k, some e => if ((s.core c).tile e).state ≠ 2 then some k else none
    | _, _ => none)
  let accBusy := parts.flatMap (fun p => locals.filter (fun n =>
    (p.2.2.entry? false n).any (fun e => let x := (s.core p.1).tile e; x.state != 0 && x.state != 2)))
  match slotWaits, accBusy with
  | k :: _, _ => s.tileWait t true k 1 ws
  | [], n :: _ => s.tileWait t false n 2 ws
  | [], [] =>
    if parts.any (fun p => ((s.core p.1).takeAnvils f.shape).isNone || !(s.core p.1).anvilWaiters.isEmpty) then
      s.waitWith t { WaitRec.idle with kind := anvilKind, param := bit gang, p1 := ws }
    else
      s.afterStores .team false allStores (fun s t =>
        (parts.foldl (fun r p => r.startPart t f acc a b' gang s.nextUid p) s).completeWith (fun t => t))

/-- What the first phase of an instruction that waits in its second phase read. -/
def Team.captured (t : Team) : Option (List W64) :=
  if (t.wait.kind = 1 ∨ t.wait.kind = 4 ∨ t.wait.kind = anvilKind) ∧ t.wait.p1 ≠ [] then some t.wait.p1 else none

/-- A team's access to its block's scratchpad waits for a box in flight (R85). -/
def State.spHold (s : State) (t : Team) (line : Nat) : State :=
  s.setTeam s.cur { t with hold := some line, heldSince := some (t.heldSince.getD s.time) }

/-- The words of the format block at an offset, as they stand. -/
def State.formatWords (s : State) (c : Nat) (b : Block) (off : Nat) : List W64 :=
  (List.range 4).map (fun i => BitVec.ofNat 64 (s.spRead c b (off + 8 * i) 8))

/-- The entries an operation names, each with its core: its accumulator entries, those of every member for `mmag`, and its slots
(R151). -/
def State.matNamed (s : State) (b : Block) (gang : Bool) (acc : Nat) (slots : List Nat) (f : FormatBlock) : List (Nat × Nat) :=
  let c := s.cur.1
  let e := if f.cls ≤ 4 then opEntries f.shape f.cls else 1
  let parts : List (Nat × Block) := if gang then (s.groupOf b).map (fun p => (p.1, p.2.2)) else [(c, b)]
  parts.flatMap (fun p => (List.range e).filterMap (fun i => (p.2.entry? false (acc + i)).map (fun x => (p.1, x)))) ++
    slots.map (fun x => (c, x))

/-- `mma` and `mmag` (R143 to R147, R151, R322): the faults that stand on the entries it names are reported before its checks
(R316). -/
def State.matOp (s : State) (gang : Bool) (acc : Nat) (xa xb : TSrc) (c : Nat) : Result :=
  .next (s.once false .matrix (fun t =>
    match s.blockOf s.cur.1 t with
    | none => s.tileFault t 1
    | some b =>
      let a := t.matSrc xa
      let b' := t.matSrc xb
      let core := s.cur.1
      let slots := (a.entry? b).toList ++ (b'.entry? b).toList
      let off := (t.s c).toNat % 2 ^ 19
      let ws := t.captured.getD (s.formatWords core b off)
      s.namedAt t (s.matNamed b gang acc slots (FormatBlock.ofWords ws)) (fun s t =>
        if t.captured.isSome then s.matStart t b gang acc a b' ws
        else if off % 32 ≠ 0 then s.onceFault t 0x0A 0 (BitVec.ofNat 64 off)
        else if b.spSize < off + 32 then s.onceFault t 0x09 6 (BitVec.ofNat 64 off)
        else
          match s.spPoison core b off 32, s.spBusy core b off 32 with
          | some sec, _ => s.onceFault t 0x0B 0 (BitVec.ofNat 64 (sec * 32))
          | none, some line => s.spHold t line
          | none, none =>
            match s.matChecks core b gang acc a b' (FormatBlock.ofWords ws) with
            | some (code, sub, addr) => s.onceFault t code sub addr
            | none => s.matStart t b gang acc a b' ws)))

/-- `mma` (R322). -/
def execMma (t : Nat) (a b : TSrc) (c : Nat) (s : State) : Result := s.matOp false t a b c
/-- `mmag` (R151, R322). -/
def execMmag (t : Nat) (a b : TSrc) (c : Nat) (s : State) : Result := s.matOp true t a b c

/-! ### Commit groups (R152, R323) -/

/-- An operation of a team's group g is not complete. A `quant` that left a pending fault is complete (R327). -/
def State.groupOpen (s : State) (uid : Nat) (g : BitVec 16) : Bool :=
  s.cores.any (fun k => k.2.ops.any (fun o => o.team == uid && o.group == some g && !(o.isQuant && o.fault.isSome)))

/-- D advances over complete groups, at most n of them (R152). -/
def State.advanceGroups (s : State) (uid : Nat) : Nat → State
  | 0 => s
  | n + 1 =>
    match s.teamByUid uid with
    | none => s
    | some t =>
      if t.drained = t.issued ∨ s.groupOpen uid (t.drained + 1) then s
      else (s.modUid uid (fun t => { t with drained := t.drained + 1 })).advanceGroups uid n

/-- At most 64 groups are open (R152). -/
def groupLimit : Nat := 64

/-- `mcommit` (R152, R323). -/
def execMcommit (d : Nat) (s : State) : Result :=
  .next (s.once false .matrix (fun t =>
    if (t.issued - t.drained).toNat = groupLimit then s.waitWith t { WaitRec.idle with kind := 6 }
    else
      let i := t.issued + 1
      let join (k : Nat × Core) : Nat × Core :=
        (k.1, { k.2 with
          ops := k.2.ops.map (fun o => if o.team = t.uid ∧ o.group = none then { o with group := some i } else o) })
      let s1 := { s with cores := s.cores.map join }
      let s2 := s1.completeWith (fun t => { t with issued := i }.setS d (i.zeroExtend 64))
      s2.advanceGroups t.uid groupLimit))

/-- A token that has not been issued (R152). -/
def tokenBad (count tok : BitVec 16) : Bool := decide (1 ≤ (tok - count).toNat ∧ (tok - count).toNat ≤ 2 ^ 15 - 1)
/-- The group or copy of a token has completed (R152, R165). -/
def tokenDone (count done tok : BitVec 16) : Bool := decide ((count - done).toNat ≤ (count - tok).toNat)
/-- A token covers a group or copy: it is that one or a later one (R153, R169). -/
def tokenCovers (tok g : BitVec 16) : Bool := decide ((tok - g).toNat < 2 ^ 15)

/-- `mwait` (R152, R153, R323). -/
def execMwait (a : Nat) (s : State) : Result :=
  .next (s.once false .matrix (fun t =>
    let tok : BitVec 16 := (t.s a).truncate 16
    if tokenBad t.issued tok then s.tileFault t 7
    else
      match s.reportDue t (fun _ o => o.group.any (tokenCovers tok)) (fun _ => false) with
      | some (s1, f) => s1.unitFault t f
      | none =>
        if tokenDone t.issued t.drained tok then s.acquire.completeWith (fun t => t)
        else s.waitWith t { WaitRec.idle with kind := 7, param := tok.toNat }))

/-! ### K-steps (R148 to R150) -/

/-- What a fetch of source bytes answers: the bytes as a number with the lines read so far, a fault, or a line that is held. -/
inductive Fetched where
  | ok (x : Nat) (ls : List SrcLine) (s : State)
  | fault (f : FlightFault) (s : State)
  | held (s : State)
  deriving DecidableEq, Repr

/-- A block's engines as an agent (R140, R148). -/
def blockAgent (c : Nat) (b : Block) : Agent := unitAgent c b.pasid b.ctx (some b)

/-- Memory that a source of a matrix operation may lie in (R148). -/
def matMemory (p : Phys) : Bool :=
  p.cls == 0 && (match regionOf p.pa with | .hbm | .cxl _ => true | _ => false)

/-- One source line (R148): read once, in the permitted memory only; a copy of a line of another die is held in the guest slice
(R78). A line that has been poisoned while it was pinned faults when it is needed (R442). -/
def State.fetchLine (s : State) (a : Agent) (ls : List SrcLine) (va : W64) : Fetched :=
  match ls.find? (fun l => l.va == va.toNat) with
  | some l => if s.poisoned (l.pa / 128) then .fault ⟨0x0B, 0, va⟩ s else .ok l.data ls s
  | none =>
    match (if (stepForm a va).isSome then .error (accFault 0x09 1 va) else (s.locate a 128 .engineRead va).1) with
    | .ok (p, _) =>
      if matMemory p = false then .fault ⟨0x09, 5, va⟩ s
      else
        match s.access a va 128 128 .engineRead with
        | (.fault f, s1) => .fault ⟨f.code, f.sub, f.addr⟩ s1
        | (.hold _, s1) => .held s1
        | (.ok p, s1) =>
          let s2 := (s1.drainLine a.core (p.pa / 128)).share (dieOf a.core) (p.pa / 128)
          let x := leRead (memGet s2.mem) p.pa 128
          .ok x (⟨va.toNat, p.pa, x⟩ :: ls) s2
    | .error _ =>
      match s.access a va 128 128 .engineRead with
      | (.fault f, s1) => .fault ⟨f.code, f.sub, f.addr⟩ s1
      | (_, s1) => .held s1

/-- n lines from an address on, joined. -/
def State.fetchLines (s : State) (a : Agent) (ls : List SrcLine) (va : W64) : Nat → Fetched
  | 0 => .ok 0 ls s
  | n + 1 =>
    match s.fetchLine a ls va with
    | .ok x ls1 s1 =>
      match s1.fetchLines a ls1 (va + 128) n with
      | .ok y ls2 s2 => .ok (x + y * 2 ^ 1024) ls2 s2
      | r => r
    | r => r

/-- `len` bytes of a source at a byte offset of row i (R143). -/
def State.fetchRow (s : State) (c : Nat) (b : Block) (ls : List SrcLine) (src : MatSrc) (i stride row off len : Nat) : Fetched :=
  match src with
  | .slot k =>
    match b.entry? true k with
    | none => .ok 0 ls s
    | some e =>
      let o := ((s.core c).tile e).offset + i * row + off
      match s.spPoison c b o len, s.spBusy c b o len with
      | some sec, _ => .fault ⟨0x0B, 0, BitVec.ofNat 64 (sec * 32)⟩ s
      | none, some _ => .held s
      | none, none => .ok (s.spRead c b o len) ls s
  | .addr va =>
    let first := off / 128
    let n := (off + len - 1) / 128 + 1 - first
    match s.fetchLines (blockAgent c b) ls (va + BitVec.ofNat 64 (i * stride + first * 128)) n with
    | .ok x ls1 s1 => .ok (x / 2 ^ (8 * (off % 128)) % 2 ^ (8 * len)) ls1 s1
    | r => r

/-- The rows of a source that a k-step needs, with the lines read so far. -/
structure FetchedRows where
  rows : List Nat
  ls : List SrcLine
  deriving DecidableEq, Repr

/-- n rows of a source from row i on. -/
def State.fetchRows (s : State) (c : Nat) (b : Block) (ls : List SrcLine) (src : MatSrc) (stride row off len : Nat) (i : Nat) :
    Nat → Except (Option FlightFault) FetchedRows × State
  | 0 => (.ok ⟨[], ls⟩, s)
  | n + 1 =>
    match s.fetchRow c b ls src i stride row off len with
    | .ok x ls1 s1 =>
      match s1.fetchRows c b ls1 src stride row off len (i + 1) n with
      | (.ok l, s2) => (.ok { l with rows := x :: l.rows }, s2)
      | r => r
    | .fault f s1 => (.error (some f), s1)
    | .held s1 => (.error none, s1)

/-- The value of an element of a class with input flush (R150, R196). -/
def elemVal (cls : Nat) (fw : W32) (flush : Bool) (x : Nat) : FVal :=
  match cls with
  | 0 => f64.decIn flush x
  | 1 => f32.decIn flush x
  | 2 => bf16.decIn flush x
  | 3 => f16.decIn flush x
  | _ => (NFmt.of fw).decIn flush x

/-- A value times a scale byte (R198). -/
def scaleVal (v : FVal) (sc : Nat) : FVal :=
  if sc = 255 then .nan false
  else
    match v with
    | .fin n m e => .fin n m (e + sc - 127)
    | v => v

/-- The values of a row of ks elements with their scales. -/
def rowVals (cls : Nat) (fw : W32) (flush : Bool) (ks x : Nat) (scale : Nat → Nat) : List FVal :=
  let w := elemBits cls fw
  (List.range ks).map (fun t =>
    let v := elemVal cls fw flush (x / 2 ^ (w * t) % 2 ^ w)
    if cls < 2 then v else scaleVal v (scale t))

/-- The product of two elements: none for an invalid one; a NaN element is invalid (R150). -/
def prodVal (a b : FVal) : Option FVal :=
  match mulVal a b with
  | .ok v => some v
  | .error _ => none

/-- The sum of two values, exact: none when it is invalid. -/
def sumVal (a b : Option FVal) : Option FVal :=
  match a, b with
  | some x, some y =>
    match addVal .rne x y with
    | .ok z => some z
    | .error _ => none
  | _, _ => none

/-- The exact sum of the products of two rows (R150, classes 2 to 4). The sum of zeros is negative only when all of them
are. -/
def dotExact (a b : List FVal) : Option FVal :=
  (List.zipWith prodVal a b).foldl sumVal (some (.fin true 0 0))

/-- One level of the pairing tree (R150, classes 0 and 1). -/
def treeLevel (f : Fmt) (l : List (Option FVal)) : List (Option FVal) × Flags :=
  match l with
  | x :: y :: t =>
    let (r, fl) := treeLevel f t
    match sumVal x y with
    | some v =>
      let q := f.ofVal .rne false v
      (some (f.dec q.bits) :: r, q.flags ||| fl)
    | none => (none :: r, fInv ||| fl)
  | l => (l, 0)

/-- n levels of the tree. -/
def treeSum (f : Fmt) (l : List (Option FVal)) : Nat → List (Option FVal) × Flags
  | 0 => (l, 0)
  | n + 1 =>
    let (r, fl) := treeLevel f l
    let (r', fl') := treeSum f r n
    (r', fl ||| fl')

/-- The accumulator's new value (R150). -/
def accStep (f : Fmt) (rflush : Bool) (c : Nat) (x : Option FVal) : FRes :=
  match x, f.dec c with
  | none, _ => f.nanRes true
  | some _, .nan sig => f.nanRes sig
  | some v, cv => f.finish .rne rflush (addVal .rne cv v)

/-- One output element of a k-step (R150). -/
def elemStep (cls : Nat) (rflush : Bool) (a b : List FVal) (c : Nat) : FRes :=
  if cls < 2 then
    let f := if cls = 0 then f64 else f32
    let (r, fl) := treeSum f (List.zipWith prodVal a b) (if cls = 0 then 3 else 4)
    let q := accStep f rflush c ((r.head?).getD none)
    ⟨q.bits, q.flags ||| fl⟩
  else accStep f32 rflush c (dotExact a b)

/-- M and N of one member's part. -/
def MatOp.dims (o : MatOp) : Nat × Nat := shapeDims o.shape

/-- The index of the sub-tile of an output element (R146). -/
def subTile (shape i j : Nat) : Nat :=
  match shape with
  | 0 => 0 | 1 => j / 64 | 2 => 2 * (i / 64) + j / 64 | _ => i / 64

/-- Bytes of an accumulator element. -/
def accBytes (cls : Nat) : Nat := if cls = 0 then 8 else 4

/-- The byte of an output element in the operation's entries (R70, R146). -/
def accOffset (shape cls i j : Nat) : Nat :=
  subTile shape i j * (subEntries cls * 0x4000) + (64 * (i % 64) + j % 64) * accBytes cls

/-- The elements of an operation's k-step. -/
def MatOp.ks (o : MatOp) : Nat := kstepLen o.cls o.fmtA o.fmtB

/-- The place of the scale byte of element k of row i among the scale bytes (R150): `rows` is M, or N for B. -/
def MatOp.scaleAt (o : MatOp) (rows i k : Nat) : Nat :=
  let l := blkLength o.blkLen
  if o.slayout then k / l * rows + i else i * (o.ksteps * o.ks / l) + k / l

/-- The scale byte of element k of row i (R150). -/
def State.scaleByte (s : State) (c : Nat) (b : Block) (o : MatOp) (base rows i k : Nat) : Nat :=
  if o.blkLen = 0 then 127 else s.spRead c b (base + o.scaleAt rows i k) 1

/-- The first poisoned sector among the scale bytes that a k-step reads for some rows (R433). -/
def State.scalePoison (s : State) (c : Nat) (b : Block) (o : MatOp) (base rows : Nat) : Option Nat :=
  if o.blkLen = 0 ∨ s.winPoison = [] then none
  else
    (List.range rows).findSome? (fun i => (List.range o.ks).findSome? (fun k =>
      s.spPoison c b (base + o.scaleAt rows i (o.kstep * o.ks + k)) 1))

/-- The core and block whose scratchpad holds an operation's scale bytes: that of the issuing team. -/
def State.issuer (s : State) (o : MatOp) (c : Nat) (b : Block) : Nat × Block :=
  match s.findTeam o.team with
  | some p => ((s.team? p).bind (s.blockOf p.1)).elim (c, b) (fun x => (p.1, x))
  | none => (c, b)

/-- The values of the output of one k-step of one part of an operation, with their addresses, and the flags. `rows` are the rows of
A, `cols` the part's columns of B. -/
def State.kstepOut (s : State) (c : Nat) (b : Block) (o : MatOp) (rows cols : List Nat) : List (Nat × Nat) × Flags :=
  let (ic, ib) := s.issuer o c b
  let k0 := o.kstep * o.ks
  let n := if o.gang then 128 * b.gang else o.dims.2
  let j0 := if o.gang then 128 * o.member else 0
  let phys := o.phys (s.core c)
  let av := (List.range rows.length).zip rows |>.map (fun e =>
    (e.1, rowVals o.cls o.fmtA o.iflush o.ks e.2 (fun t => s.scaleByte ic ib o o.scaleA o.dims.1 e.1 (k0 + t))))
  let bv := (List.range cols.length).zip cols |>.map (fun e =>
    (e.1, rowVals o.cls o.fmtB o.iflush o.ks e.2 (fun t => s.scaleByte ic ib o o.scaleB n (j0 + e.1) (k0 + t))))
  let outs := av.flatMap (fun a => bv.map (fun x =>
    let pa := tileAddr c phys (accOffset o.shape o.cls a.1 x.1)
    (pa, elemStep o.cls o.rflush a.2 x.2 (leRead (memGet s.mem) pa (accBytes o.cls)))))
  (outs.map (fun e => (e.1, e.2.bits)), outs.foldl (fun f e => f ||| e.2.flags) 0)

/-- The operation with an identity, and its core. -/
def State.findOp (s : State) (id : Nat) : Option (Nat × MatOp) :=
  (s.cores.filterMap (fun k => (k.2.ops.find? (fun o => o.id == id)).map (fun o => (k.1, o)))).head?

/-- The state with an operation changed. -/
def State.modOp (s : State) (c id : Nat) (f : MatOp → MatOp) : State :=
  s.setCore c { s.core c with ops := (s.core c).ops.map (fun o => if o.id = id then f o else o) }

/-- The state without an operation. -/
def State.dropOp (s : State) (c id : Nat) : State :=
  s.setCore c { s.core c with ops := (s.core c).ops.filter (fun o => o.id != id) }

/-- An operation meets a fault (R153): all its parts stop, and their entries are marked. -/
def State.faultOp (s : State) (o : MatOp) (f : FlightFault) : State :=
  s.cores.foldl (fun s k =>
    (k.2.ops.filter (fun x => x.issue == o.issue)).foldl (fun s x =>
      (s.modOp k.1 x.id (fun x => { x with fault := some f, anvils := 0, running := false, pins := [] })).modTiles k.1 (x.phys k.2)
        (fun y => { y with faulted := true, fault := f.code, kstep := x.kstep })) s) s

/-- The team of an operation takes flags (R150). -/
def State.orSticky (s : State) (uid : Nat) (f : Flags) : State := s.modUid uid (fun t => { t with sticky := t.sticky ||| f })

/-- An operation, drain or `quant` is complete: its entries are ready, and its group may be (R73, R152). -/
def State.finishOp (s : State) (c : Nat) (o : MatOp) : State :=
  let es := o.phys (s.core c)
  ((s.dropOp c o.id).modTiles c es (fun x => { x with state := 2 })).advanceGroups o.team groupLimit

/-- One part of an operation on its core, with its block. -/
structure Part where
  core : Nat
  op : MatOp
  blk : Block
  deriving DecidableEq, Repr

/-- The parts of an operation, by group rank (R151). An `mma` has one. -/
def State.partsOf (s : State) (issue : Nat) : List Part :=
  let all := s.cores.flatMap (fun k => (k.2.ops.filter (fun o => o.issue == issue && decide (o.kind = .mma))).filterMap (fun o =>
    (k.2.blockUid o.blk).map (fun b => Part.mk k.1 o b)))
  (List.range 8).flatMap (fun r => all.filter (fun p => p.op.member == r))

/-- Every part of an operation changes. -/
def State.modParts (s : State) (ps : List Part) (f : MatOp → MatOp) : State :=
  ps.foldl (fun s p => s.modOp p.core p.op.id f) s

/-- The parts take free anvils, if every one finds them (R151, R155). -/
def State.takeParts (s : State) (ps : List Part) : Option State :=
  if ps.all (fun p => ((s.core p.core).takeAnvils p.op.shape).isSome) then
    some (ps.foldl (fun s p =>
      let av := ((s.core p.core).takeAnvils p.op.shape).getD 0
      s.modOp p.core p.op.id (fun o => { o with anvils := av, running := true })) s)
  else none

/-- The stopped operations of a block restart on free anvils, in the order of their issue, before its teams issue (R155). -/
def State.restartOps (s : State) (c blk : Nat) : State :=
  let waiting := (s.core c).anvilWaiters.filter (fun o => o.blk == blk)
  waiting.foldl (fun s o =>
    let ps := s.partsOf o.issue
    if ps.all (fun p => p.blk.engines) then (s.takeParts ps).getD s else s) s

/-- A line that an operation has read is used by a k-step after the next one ends (R148). -/
def usedLater (src : MatSrc) (stride rows la ksteps next : Nat) (l : SrcLine) : Bool :=
  match src with
  | .slot _ => false
  | .addr va =>
    let o := l.va - va.toNat
    decide (va.toNat ≤ l.va) && stride != 0 && decide (o / stride < rows) && decide (next * la < o % stride + 128) &&
      decide (o % stride < ksteps * la)

/-- The slice that pins a line for a core: its home on the core's die, otherwise the guest slice there (R78, R148). -/
def State.pinSlice (s : State) (c pa : Nat) : Nat :=
  let h := s.homeOf pa
  if sliceDie h = dieOf c then h else 8 * dieOf c + h % 8

/-- The lines that a slice pins (R148). -/
def State.pinned (s : State) (g : Nat) : Nat :=
  (s.cores.map (fun k => (k.2.ops.map (fun o => (o.pins.filter (fun l => s.pinSlice k.1 l.pa == g)).length)).sum)).sum

/-- A slice would pin more than 2,048 lines (R148). -/
def State.pinsFull (s : State) : Bool := (List.range 32).any (fun g => decide (2048 < s.pinned g))

/-- The parts stop at a k-step boundary when a block of theirs has stopped: the anvils are free and no line stays pinned (R155). -/
def State.stopParts (s : State) (ps : List Part) : State :=
  if ps.all (fun p => p.blk.engines) then s else s.modParts ps (fun o => { o with anvils := 0, running := false, pins := [] })

/-- The first poisoned sector of the tile memory of some entries of a core (R433). -/
def State.tilePoison (s : State) (c : Nat) (es : List Nat) : Option Nat :=
  es.findSome? (fun e =>
    let base := tileAddr c [e] 0
    s.winPoison.find? (fun x => decide (base ≤ x * 32) && decide (x * 32 < base + 0x4000)))

/-- The first poisoned sector of the accumulators of an operation. -/
def State.accPoison (s : State) (p : Part) : Option Nat :=
  s.tilePoison p.core (p.op.phys (s.core p.core))

/-- The scale bytes of a k-step lie in a range that a box in flight has marked busy (R85). -/
def State.scalesBusy (s : State) (c : Nat) (b : Block) (o : MatOp) (n : Nat) : Bool :=
  o.blkLen != 0 &&
    ((s.spBusy c b o.scaleA (o.dims.1 * (o.ksteps * o.ks / blkLength o.blkLen))).isSome ||
      (s.spBusy c b o.scaleB (n * (o.ksteps * o.ks / blkLength o.blkLen))).isSome)

/-- What one k-step of an operation reads: its rows of A, its columns of B, and the lines. -/
def State.kstepFetch (s : State) (p : Part) : Except (Option FlightFault) (FetchedRows × FetchedRows) × State :=
  let o := p.op
  let la := o.ks * elemBits o.cls o.fmtA / 8
  let lb := o.ks * elemBits o.cls o.fmtB / 8
  let n := if o.gang then 128 * p.blk.gang else o.dims.2
  let (ic, ib) := s.issuer o p.core p.blk
  match (s.scalePoison ic ib o o.scaleA o.dims.1).or (s.scalePoison ic ib o o.scaleB n), s.scalesBusy ic ib o n with
  | some sec, _ => (.error (some ⟨0x0B, 0, BitVec.ofNat 64 (sec * 32)⟩), s)
  | none, true => (.error none, s)
  | none, false =>
    match s.fetchRows p.core p.blk o.pins o.srcA o.strideA (o.ksteps * la) (o.kstep * la) la 0 o.dims.1 with
    | (.error e, s1) => (.error e, s1)
    | (.ok rows, s1) =>
      match s1.fetchRows p.core p.blk rows.ls o.srcB o.strideB (o.ksteps * lb) (o.kstep * lb) lb 0 n with
      | (.error e, s2) => (.error e, s2)
      | (.ok cols, s2) =>
        let keep := cols.ls.filter (fun l =>
          usedLater o.srcA o.strideA o.dims.1 la o.ksteps (o.kstep + 1) l || usedLater o.srcB o.strideB n lb o.ksteps (o.kstep + 1) l)
        let s3 := s2.modOp p.core o.id (fun o => { o with pins := keep })
        if s3.pinsFull then (.error none, s2) else (.ok (rows, cols), s3)

/-- One part of an operation takes a k-step: each element of its output, its flags, and KSTEP. -/
def State.kstepPart (rows cols : List Nat) (s : State) (p : Part) : State :=
  let o := p.op
  let cs := if o.gang then (cols.drop (128 * o.member)).take 128 else cols
  let (outs, fl) := s.kstepOut p.core p.blk o rows cs
  let s1 := (outs.foldl (fun s e => s.memWrite e.1 (leBytes (accBytes o.cls) e.2)) s).orSticky o.team fl
  ((s1.modOp p.core o.id (fun o => { o with kstep := o.kstep + 1 })).modTiles p.core (o.phys (s1.core p.core))
    (fun x => { x with kstep := o.kstep + 1 })).traceCount p.core 5 none

/-- The next k-step of an operation whose anvils serve it: all its parts together, on lines that are read once (R148, R151). -/
def State.kstepAll (s : State) (ps : List Part) (p : Part) : State :=
  match ps.findSome? s.accPoison with
  | some sec => s.faultOp p.op ⟨0x0B, 0, BitVec.ofNat 64 (sec * 32)⟩
  | none =>
    match s.kstepFetch p with
    | (.error (some f), s1) => s1.faultOp p.op f
    | (.error none, s1) => s1.stopParts ps
    | (.ok (rows, cols), s1) =>
      let s2 := ps.foldl (State.kstepPart rows.rows cols.rows) s1
      if p.op.kstep + 1 = p.op.ksteps then ps.foldl (fun s q => s.finishOp q.core q.op) s2 else s2.stopParts ps

/-- KSTEP_COMPLETE (R148 to R150, R153): the next k-step of an operation, of all its parts (log 97). An operation that has stopped
takes free anvils first; when its block stops, the k-step that its anvils run goes on to its end (R155). -/
def execKstepComplete (op : Nat) (s : State) : Result :=
  .next (match s.findOp op with
    | none => s
    | some (_, o) =>
      let ps := s.partsOf o.issue
      match ps with
      | [] => s
      | p :: _ =>
        if o.kind ≠ .mma ∨ o.fault.isSome then s
        else if o.running then s.kstepAll ps p
        else if ps.all (fun p => p.blk.engines) then
          match s.takeParts ps with
          | some s1 => s1.kstepAll ps p
          | none => s
        else s)

/-! ### Drains (R157, R324) -/

/-- What the check of a destination answers: the physical address of each unit of 8 bytes. -/
inductive Units where
  | ok (pas : List Nat) (s : State)
  | fault (f : LaneFault) (s : State)
  | held (h : Hold) (s : State)
  deriving DecidableEq, Repr

/-- Units of some bytes at some addresses cover the whole of a sector (R433). -/
def wholeSector (size : Nat) (pas : List Nat) (x : Nat) : Bool := (List.range (32 / size)).all (fun i => pas.contains (x * 32 + size * i))

/-- A poisoned sector that units of some bytes written into a window cover only in part (R433). -/
def State.partSector (s : State) (size : Nat) (pas : List Nat) : Option Nat :=
  (s.winPoison.find? (fun x => pas.any (fun p => p / 32 == x) && !wholeSector size pas x)).map (· * 32)

/-- The first poisoned sector that units of 8 bytes of a window lie in. -/
def State.unitPoison (s : State) (pas : List Nat) : Option Nat :=
  (pas.find? (fun p => s.winPoison.contains (p / 32))).map (fun p => p / 32 * 32)

/-- The sector that a unit written at an address lies in is poisoned, and the units at `vas` cover only a part of it. -/
def State.sectorPart (s : State) (vas : List W64) (va : W64) (pa : Nat) : Bool :=
  isWindow pa && s.winPoison.contains (pa / 32) &&
    !(List.range 4).all (fun i => vas.contains (BitVec.ofNat 64 (va.toNat / 32 * 32 + 8 * i)))

/-- Check the units of 8 bytes of a destination at some addresses, in ascending order, to write and perhaps to read; `all` are those of
the whole destination. -/
def State.unitsAt (s : State) (a : Agent) (rd : Bool) (all vas : List W64) : Units :=
  match vas with
  | [] => .ok [] s
  | va :: t =>
    match s.access a va 8 1 .checkWrite with
    | (.fault f, s1) => .fault f s1
    | (.hold h, s1) => .held h s1
    | (.ok p, s1) =>
      if s1.sectorPart all va p.pa then .fault ⟨0x0B, 0, BitVec.ofNat 64 (p.pa / 32 * 32)⟩ s1
      else
        match (if rd then s1.access a va 8 1 .checkRead else (.ok p, s1)) with
        | (.fault f, s2) => .fault f s2
        | (.hold h, s2) => .held h s2
        | (.ok _, s2) =>
          match s2.unitsAt a rd all t with
          | .ok l s3 => .ok (p.pa :: l) s3
          | r => r

/-- The first unit of an address destination of `.add` in memory it may not name (R324). -/
def State.addBad (s : State) (a : Agent) (vas : List W64) : Option W64 :=
  vas.find? (fun va =>
    match s.access a va 8 1 .checkRead with
    | (.ok p, _) =>
      (match regionOf p.pa with | .host | .pod => true | _ => false) || p.cls == 1
    | _ => false)

/-- The offsets of the units of 64 rows. -/
def rowUnits (stride row : Nat) : List Nat :=
  (List.range 64).flatMap (fun i => (List.range (row / 8)).map (fun u => i * stride + 8 * u))

/-- Check a drain's or `quant`'s destination and go on with its units. -/
def State.drainDest (s : State) (t : Team) (b : Block) (dst : MatSrc) (stride row : Nat) (add : Bool)
    (k : State → Team → List Nat → State) : State :=
  let c := s.cur.1
  match dst with
  | .slot n =>
    match b.entry? true n with
    | none => s.tileFault t 1
    | some e =>
      let x := (s.core c).tile e
      let pas := (rowUnits stride row).map (fun o => spAddr c b (x.offset + o))
      if x.length < 63 * stride + row then s.tileFault t 3
      else
        match (if add then s.unitPoison pas else s.partSector 8 pas) with
        | some p => s.onceFault t 0x0B 0 (BitVec.ofNat 64 p)
        | none => k s t pas
  | .addr va =>
    if va.toNat % 16 ≠ 0 then s.onceFault t 0x0A 0 va
    else
      let a := s.agentOf s.cur t
      let vas := (rowUnits stride row).map (fun o => va + BitVec.ofNat 64 o)
      match s.unitsAt a add vas vas with
      | .fault f s1 => s1.onceFault t f.code f.sub f.addr
      | .held h s1 => s1.holdTeam t h
      | .ok pas s1 =>
        match (if add then s1.addBad a vas else none) with
        | some va => s1.onceFault t 0x09 5 va
        | none => k s1 t pas

/-- Phases 2 and 3 of a drain or a `quant`: its source entries go to draining. What its first phase checked and translated stands
while it waits; an entry that has become empty meanwhile cannot drain (R73). -/
def State.drainStart (s : State) (t : Team) (b : Block) (n : Nat) (dst : MatSrc) (es : List Nat) (o : MatOp) : State :=
  let c := s.cur.1
  let busy (e : Nat) : Bool := let x := (s.core c).tile e; x.state == 1 || x.state == 3
  let slotWait := (dst.entry? b).filter (fun e => ((s.core c).tile e).state == 1)
  let p1 := o.dstPa.map (BitVec.ofNat 64)
  match es.find? busy, slotWait with
  | some _, _ => s.tileWait t false n 3 p1
  | none, some e => s.tileWait t true ((s.core c).tile e).localNo 3 p1
  | none, none =>
    if es.any (fun e => ((s.core c).tile e).state == 0) then s.tileFault t 4
    else
      let s1 := s.modTiles c es (fun x => { x with state := 3 })
      let k := s1.core c
      { s1.setCore c { k with ops := k.ops ++ [o] } with nextUid := s1.nextUid + 1 }.completeWith (fun t => t)

/-- An operation record of a drain or `quant`. -/
def State.drainOp (s : State) (t : Team) (b : Block) (kind : MatKind) (n cls : Nat) (locals pas : List Nat) : MatOp :=
  { id := s.nextUid, issue := s.nextUid, team := t.uid, blk := b.uid, kind := kind, acc := n, entries := locals,
    srcA := .slot 0, srcB := .slot 0, strideA := 0, strideB := 0, fmtA := 0, fmtB := t.fpmode, cls := cls, shape := 0,
    blkLen := 0, slayout := false, gang := false, member := 0, ksteps := 0, kstep := 0, group := none, anvils := 0,
    running := false, pins := [], iflush := t.iflush (matFlush cls), rflush := t.rflush (matFlush cls), scaleA := 0, scaleB := 0, dstPa := pas,
    scaleDst := 0, fault := none, reported := false }

/-- The source entry of a drain or `quant`, with the destination slot, after the reports of R316. -/
def State.drainSource (s : State) (n : Nat) (xd : TSrc) (k : State → Team → Block → Nat → TileEntry → MatSrc → State) :
    Result :=
  .next (s.once false .matrix (fun t =>
    match s.blockOf s.cur.1 t with
    | none => s.tileFault t 1
    | some b =>
      let dst := t.matSrc xd
      match b.entry? false n with
      | none => s.tileFault t 1
      | some e =>
        if dst.notHeld b then s.tileFault t 1
        else
          s.named t (e :: (dst.entry? b).toList) (fun s t => k s t b e ((s.core s.cur.1).tile e) dst)))

/-- The translations that the first phase of a waiting drain or `quant` made; the tile it found is FP64 when it made as many as one
has. -/
def Team.drainCaptured (t : Team) : Option (List Nat) := t.captured.map (fun ws => ws.map BitVec.toNat)

/-- A WIDE tile's units of 8 bytes. -/
def wideUnits : Nat := 4096

/-- Go on with a source tile that is not poisoned as the first phase reads it (R433). -/
def State.cleanTile (s : State) (t : Team) (es : List Nat) (k : State → State) : State :=
  match s.tilePoison s.cur.1 es with
  | some sec => s.onceFault t 0x0B 0 (BitVec.ofNat 64 (sec * 32))
  | none => k s

/-- The start of a drain from its destination's units on. -/
def State.drainFrom (s : State) (t : Team) (b : Block) (n e : Nat) (dst : MatSrc) (add wide : Bool) (pas : List Nat) : State :=
  let locals := if wide then [n, n + 1] else [n]
  let es := if wide then e :: (b.entry? false (n + 1)).toList else [e]
  s.drainStart t b n dst es (s.drainOp t b (.drain add) n (if wide then 0 else 1) locals pas)

/-- `mdrain` and `mdrain.add` (R157, R324). -/
def State.drain (s : State) (n : Nat) (xd : TSrc) (sb : Nat) (add : Bool) : Result :=
  s.drainSource n xd (fun s t b e x dst =>
    match t.drainCaptured with
    | some pas => s.drainFrom t b n e dst add (pas.length == wideUnits) pas
    | none =>
      if x.pair then s.tileFault t 5
      else if x.state = 0 then s.tileFault t 4
      else
        let es := if x.wide then e :: (b.entry? false (n + 1)).toList else [e]
        s.named t es (fun s t =>
          let row := if x.wide then 512 else 256
          let rs := (t.s sb).toNat % 2 ^ 32
          let stride := if rs = 0 then row else rs
          if stride % 16 ≠ 0 ∨ stride < row then s.tileFault t 0xC
          else s.drainDest t b dst stride row add (fun s t pas =>
            s.cleanTile t es (fun s => s.drainFrom t b n e dst add x.wide pas))))

/-- `mdrain` (R324). -/
def execMdrain (t : Nat) (dst : TSrc) (sb : Nat) (s : State) : Result := s.drain t dst sb false
/-- `mdrain.add` (R157, R324). -/
def execMdrainAdd (t : Nat) (dst : TSrc) (sb : Nat) (s : State) : Result := s.drain t dst sb true

/-- The start of a `quant` from its destination's units on. -/
def State.quantFrom (s : State) (t : Team) (b : Block) (n e : Nat) (dst : MatSrc) (bmaj : Bool) (desc so : Nat) (pas : List Nat) :
    State :=
  let o := s.drainOp t b (.quant bmaj) n 1 [n] pas
  s.drainStart t b n dst [e] { o with fmtA := BitVec.ofNat 32 desc, blkLen := desc / 2 ^ 32 % 4, scaleDst := so }

/-- The poisoned sectors of the scratchpad that a range of a block covers only in part (R433): at its ends. -/
def State.partRange (s : State) (c : Nat) (b : Block) (o n : Nat) : Option Nat :=
  ((if o % 32 ≠ 0 then [spAddr c b o / 32] else []) ++ (if (o + n) % 32 ≠ 0 then [spAddr c b (o + n - 1) / 32] else [])).find?
    s.winPoison.contains

/-- `quant` and `quant.bmaj` (R326). -/
def State.quantise (s : State) (n : Nat) (xd : TSrc) (sb sc : Nat) (bmaj : Bool) : Result :=
  s.drainSource n xd (fun s t b e x dst =>
    let desc := (t.s sb).toNat
    let so := (t.s sc).toNat % 2 ^ 19
    match t.drainCaptured with
    | some pas => s.quantFrom t b n e dst bmaj desc so pas
    | none =>
      if x.wide || x.pair then s.tileFault t 0xB
      else if x.state = 0 then s.tileFault t 4
      else
        let fw : W32 := BitVec.ofNat 32 desc
        let row := 8 * (NFmt.of fw).w
        let rs := desc / 2 ^ 48
        let stride := if rs = 0 then row else rs
        let blk := desc / 2 ^ 32 % 4
        if nfValid fw = false then s.onceFault t 0x01 0x11 0
        else if blk = 0 ∨ (rs ≠ 0 ∧ rs % 16 ≠ 0) ∨ stride < row then s.tileFault t 0xC
        else
          s.drainDest t b dst stride row false (fun s t pas =>
            if b.spSize < so + 64 * (64 / blkLength blk) then s.onceFault t 0x09 6 (BitVec.ofNat 64 so)
            else
              match s.partRange s.cur.1 b so (64 * (64 / blkLength blk)) with
              | some sec => s.onceFault t 0x0B 0 (BitVec.ofNat 64 (sec * 32))
              | none => s.cleanTile t [e] (fun s => s.quantFrom t b n e dst bmaj desc so pas)))

/-- `quant` (R326). -/
def execQuant (t : Nat) (dst : TSrc) (sb sc : Nat) (s : State) : Result := s.quantise t dst sb sc false
/-- `quant.bmaj` (R326). -/
def execQuantBmaj (t : Nat) (dst : TSrc) (sb sc : Nat) (s : State) : Result := s.quantise t dst sb sc true

/-- Bytes of a destination as an engine of a team of core c reads them. -/
def State.engineLoad (s : State) (c uid pa n : Nat) : Nat :=
  match regionOf pa with
  | .window k off => leRead (s.winByte k) off n
  | .pod => leRead (fun a => (pendByte (s.core c).stores uid a).getD (Config.podByte s.tick a)) pa n
  | _ => leRead (servedByte (s.core c).stores uid s.mem) pa n

/-- Bytes an engine of core c writes at a held translation, as a plain store of its team (R325). A write to a line
poisoned since is discarded (R324). -/
def State.engineStore (s : State) (c uid pa : Nat) (bs : List Byte) : State :=
  match regionOf pa with
  | .window k off => (s.winWrite k off bs).stampStore c (pa / 128)
  | .devreg off => (s.mmioStore off bs).stampStore c (pa / 128)
  | .pod => s.acceptStore c (s.pendOf c uid ⟨pa, 1, 128, 0⟩ bs.length (cellsAt pa bs) none)
  | _ =>
    if s.poisoned (pa / 128) then s
    else ((s.drainLine c (pa / 128)).invalidate c pa).storeHome c pa bs

/-- An engine's write to some bytes waits (R72, R74, R85, R102, R103): a fence counter on the way is full, a copy engine owns the line or
has marked the range busy, a holder does not answer, a store that comes first waits, the tile entry is filling or draining for another
operation, or the team whose register it is stands within an instruction. -/
def State.engineHeld (s : State) (c pa n : Nat) (own : List Nat) : Bool :=
  s.epochDue || s.counterFull c pa ||
    (match regionOf pa with
     | .window k off =>
       s.rangeBusy pa n || s.regBusy k off none ||
         (match winTile off with
          | some e => let x := (s.core k).tile e; (x.state == 1 || x.state == 3) && !(k == c && own.contains e)
          | none => false)
     | .hbm | .cxl _ | .host =>
       !s.poisoned (pa / 128) && (s.lineOwned (pa / 128) || (s.unreachable c pa).isSome ||
         (s.core c).stores.any (fun q => q.pa / 128 == pa / 128 && (q.stuck.isSome || (s.unreachable c q.pa).isSome)))
     | _ => false)

/-- What keeps an engine's operation from writing now: the first address that is held. The home waits for the holder (R103). -/
def State.engineWait (s : State) (c uid : Nat) (o : MatOp) : Option State :=
  (o.dstPa.find? (fun pa => s.engineHeld c pa 8 (o.phys (s.core c)))).map (fun pa => s.await c pa (some uid))

/-- The sum of one unit of 8 bytes under `.add` (R324): two FP32 elements or one FP64 element. -/
def addUnit (o : MatOp) (d t : Nat) : FRes :=
  if o.cls = 0 then f64.add .rne o.rflush (f64.decIn o.iflush d) (f64.decIn o.iflush t)
  else
    let g (x y : Nat) : FRes := f32.add .rne o.rflush (f32.decIn o.iflush x) (f32.decIn o.iflush y)
    let lo := g (d % 2 ^ 32) (t % 2 ^ 32)
    let hi := g (d / 2 ^ 32) (t / 2 ^ 32)
    ⟨hi.bits * 2 ^ 32 + lo.bits, lo.flags ||| hi.flags⟩

/-- A unit written into a window lies in a poisoned sector of which `all` the units, of `size` bytes, cover only a part. -/
def State.partDropped (s : State) (size : Nat) (all : List Nat) (pa : Nat) : Bool :=
  s.winPoison != [] && isWindow pa && s.winPoison.contains (pa / 32) && !wholeSector size all (pa / 32)

/-- A unit of a drain is not written: its place in the tile, or the sector that it would read or write a part of, has been poisoned
since the start, and a drain that has started does not fault (R324, R433; DESIGN CHOICE, log 111). -/
def State.unitDropped (s : State) (c : Nat) (phys : List Nat) (add : Bool) (all : List Nat) (u pa : Nat) : Bool :=
  s.winPoison != [] &&
    (s.winPoison.contains (tileAddr c phys (8 * u) / 32) ||
      (add && isWindow pa && s.winPoison.contains (pa / 32)) || s.partDropped 8 all pa)

/-- Write the units of a drain from tile byte 8u on. What comes before a unit at its home is performed first (R324). -/
def State.drainUnits (s : State) (c : Nat) (phys : List Nat) (o : MatOp) (add : Bool) (u : Nat) (pas : List Nat) :
    State × Flags :=
  match pas with
  | [] => (s, 0)
  | pa :: t =>
    if s.unitDropped c phys add o.dstPa u pa then s.drainUnits c phys o add (u + 1) t
    else
      let s0 := if add then s.drainLine c (pa / 128) else s
      let x := leRead (memGet s0.mem) (tileAddr c phys (8 * u)) 8
      let r : FRes := if add then addUnit o (s0.engineLoad c o.team pa 8) x else ⟨x, 0⟩
      let (s1, fl) := (s0.engineStore c o.team pa (leBytes 8 r.bits)).drainUnits c phys o add (u + 1) t
      (s1, r.flags ||| fl)

/-- Window sectors that an engine has written whole lose their poison (R433). -/
def State.sectorClears (s : State) (size : Nat) (pas : List Nat) : State :=
  { s with winPoison := s.winPoison.filter (fun x => !wholeSector size pas x) }

/-- DRAIN_COMPLETE (R157, R324): the whole tile is written in one step, when nothing holds its destination (R443). -/
def execDrainComplete (op : Nat) (s : State) : Result :=
  .next (match s.findOp op with
    | none => s
    | some (c, o) =>
      match o.kind with
      | .drain add =>
        match s.engineWait c o.team o with
        | some s1 => s1
        | none =>
          let (s1, fl) := s.drainUnits c (o.phys (s.core c)) o add 0 o.dstPa
          ((if add then s1 else s1.sectorClears 8 o.dstPa).orSticky o.team fl).finishOp c o
      | _ => s)

/-! ### Quantising (R207, R208, R327) -/

/-- The largest finite value of a narrow format (R196, R207). -/
def NFmt.maxVal (f : NFmt) : FVal :=
  if f.e = 0 then .fin false (if f.signed then 2 ^ (f.w - 1) - 1 else 2 ^ f.w - 1) 0 else f.dec f.maxCode

/-- A value times 2^(127 - s). -/
def unscale (v : FVal) (sc : Nat) : FVal :=
  match v with
  | .fin n m e => .fin n m (e + 127 - sc)
  | v => v

/-- The magnitude of a value. -/
def FVal.abs : FVal → FVal
  | .nan s => .nan s
  | .inf _ => .inf false
  | .fin _ m e => .fin false m e

/-- The scale byte of a block without a NaN (R207). -/
def quantScale (f : NFmt) (vs : List FVal) : Nat :=
  let fins := vs.filter (fun v => match v with | .fin _ _ _ => true | _ => false)
  let a := fins.foldl (fun r v => if r.lt v.abs then v.abs else r) (.fin false 0 0)
  if fins.isEmpty then 127
  else if a.isZero then 0
  else ((List.range 255).find? (fun sc => !(f.maxVal.lt (unscale a sc)))).getD 254

/-- One block of `quant` (R207): codes, scale byte and flags. -/
def quantBlock (f : NFmt) (mode : W32) (xs : List Nat) : List Nat × Nat × Flags :=
  let vs := xs.map (f32.decIn (mode.getLsbD 5))
  if vs.any FVal.isNan then (xs.map (fun _ => 0), 255, fInv)
  else
    let sc := quantScale f vs
    let rs := vs.map (fun v => f.narrow (RM.of mode.toNat) (mode.getLsbD 11) (unscale v sc))
    (rs.map (·.bits), sc, rs.foldl (fun fl r => fl ||| r.flags) 0)

/-- The blocks of one row of 64 values. -/
def quantRow (f : NFmt) (mode : W32) (b : Nat) (xs : List Nat) : List (List Nat × Nat × Flags) :=
  (List.range (64 / b)).map (fun jb => quantBlock f mode ((xs.drop (jb * b)).take b))

/-- Codes packed densely (R143). -/
def packCodes (w : Nat) (cs : List Nat) : Nat :=
  match cs with
  | [] => 0
  | c :: t => c + 2 ^ w * packCodes w t

/-- What a `quant` computes: its rows of blocks, and every exception raised. -/
def State.quantRows (s : State) (c : Nat) (o : MatOp) : List (List (List Nat × Nat × Flags)) × Flags :=
  let phys := o.phys (s.core c)
  let rows := (List.range 64).map (fun i =>
    quantRow (NFmt.of o.fmtA) o.fmtB (blkLength o.blkLen)
      ((List.range 64).map (fun j => leRead (memGet s.mem) (tileAddr c phys ((64 * i + j) * 4)) 4)))
  (rows, rows.foldl (fun r row => row.foldl (fun r x => r ||| x.2.2) r) 0)

/-- The sectors of a block's scratchpad that a written range covers whole lose their poison (R433). -/
def State.clearRange (s : State) (c : Nat) (b : Block) (o n : Nat) : State :=
  if s.winPoison = [] then s
  else
    let whole := ((List.range (n / 32 + 1)).filter (fun i => decide ((o + 31) / 32 * 32 + 32 * i + 32 ≤ o + n))).map (fun i =>
      spAddr c b ((o + 31) / 32 * 32 + 32 * i) / 32)
    { s with winPoison := s.winPoison.filter (fun x => !whole.contains x) }

/-- The codes and scale bytes of a `quant` are written (R326, R327). What has been poisoned since the start is not written in part
(log 111). -/
def State.quantWrite (s : State) (c : Nat) (b : Block) (o : MatOp) (bmaj : Bool) (rows : List (List (List Nat × Nat × Flags))) : State :=
  let f := NFmt.of o.fmtA
  let l := blkLength o.blkLen
  let words := rows.flatMap (fun row =>
    let x := packCodes f.w (row.flatMap (fun e => e.1))
    (List.range f.w).map (fun u => x / 2 ^ (64 * u) % 2 ^ 64))
  let kept := (words.zip o.dstPa).filter (fun e => !s.partDropped 8 o.dstPa e.2)
  let s1 := (kept.foldl (fun s e => s.engineStore c o.team e.2 (leBytes 8 e.1)) s).sectorClears 8 o.dstPa
  let scales := ((List.range 64).zip rows).flatMap (fun r =>
    ((List.range (64 / l)).zip r.2).map (fun e => (if bmaj then e.1 * 64 + r.1 else r.1 * (64 / l) + e.1, e.2.2.1)))
  let n := 64 * (64 / l)
  let part := if s1.winPoison = [] then [] else (List.range n).filter (fun i =>
    let x := o.scaleDst + i
    s1.winPoison.contains (spAddr c b x / 32) && (decide (x / 32 * 32 < o.scaleDst) || decide (o.scaleDst + n < x / 32 * 32 + 32)))
  let s2 := (scales.filter (fun e => !part.contains e.1)).foldl (fun s e =>
    let pa := spAddr c b (o.scaleDst + e.1)
    (s.memWrite pa (leBytes 1 e.2)).stampStore c (pa / 128)) s1
  s2.clearRange c b o.scaleDst n

/-- QUANT_COMPLETE (R327): every block is computed; then everything is written, or nothing and `F.FPE` is left pending, or `F.POISON` for a
source that has been poisoned since the start (log 111). The writes
wait while something holds them (R443). -/
def execQuantComplete (op : Nat) (s : State) : Result :=
  .next (match s.findOp op with
    | none => s
    | some (c, o) =>
      match o.kind, (s.core c).blockUid o.blk with
      | .quant bmaj, some b =>
        if o.fault.isSome then s
        else
          let (rows, fl) := s.quantRows c o
          let bad : Option FlightFault :=
            match s.tilePoison c (o.phys (s.core c)) with
            | some sec => some ⟨0x0B, 0, BitVec.ofNat 64 (sec * 32)⟩
            | none => if fl &&& o.fmtB.extractLsb' 16 5 ≠ 0 then some ⟨0x11, fl.toNat, 0⟩ else none
          if bad.isSome then
            ((s.modOp c o.id (fun o => { o with fault := bad })).modTiles c (o.phys (s.core c))
              (fun x => { x with state := 2 })).advanceGroups o.team groupLimit
          else
            match s.engineWait c o.team o, s.spBusy c b o.scaleDst (64 * (64 / blkLength o.blkLen)) with
            | some s1, _ => s1
            | none, some _ => s
            | none, none => ((s.quantWrite c b o bmaj rows).orSticky o.team fl).finishOp c o
      | _, _ => s)

end Sys2Proof.Machine
end

