-- ==== Sys2Proof/Machine/Copy.lean ====
section
/-! DEFINITION. Tensor copies (R158 to R174, R328, R329): the layout record, the boxes, and the copy instructions. -/

namespace Sys2Proof.Machine

/-! ### The layout record (R158 to R162) -/

/-- One dimension of a window: its extent in the window, origin, tensor extent and stride in bytes. -/
structure CopyDim where
  n : Nat
  origin : Int
  extent : Nat
  stride : Nat
  deriving DecidableEq, Repr

/-- A layout record. -/
structure Layout where
  base : W57
  fill : Nat
  rows : Nat
  bank : Nat
  esize : Nat
  scatter : Bool
  dims : List CopyDim
  deriving DecidableEq, Repr

/-- The number of dimensions of a record (R158). -/
def recDims (ws : List W64) : Nat := recWord ws 1 % 8 + 1

/-- STRIDEi of a record, i from 1 to 6 (R158). -/
def recStride (ws : List W64) (i : Nat) : Nat := fld (recWord ws (9 + (i - 1) / 2)) (if i % 2 = 0 then 32 else 0) 32

/-- A dimension of a record. -/
def recDim (ws : List W64) (esize i : Nat) : CopyDim :=
  let w := recWord ws (2 + i)
  { n := fld w 32 8 + 1, origin := signed 32 (fld w 0 32), extent := fld w 40 24,
    stride := if i = 0 then esize else recStride ws i * 16 }

/-- The fields of a record (R158, R162). -/
def Layout.of (ws : List W64) : Layout :=
  let w := recWord ws 1
  let es := 2 ^ fld w 8 2
  let fv := fld w 32 32
  { base := BitVec.ofNat 57 (recWord ws 0), fill := if es = 8 then fv * 2 ^ 32 else fv % 2 ^ (8 * es), rows := fld w 16 8,
    bank := fld w 10 2, esize := es, scatter := fld w 7 1 == 1,
    dims := (List.range (recDims ws)).map (recDim ws es) }

/-- Elements of a window row. -/
def Layout.row (y : Layout) : Nat := ((y.dims.head?).map (·.n)).getD 0
/-- NR (R161). -/
def Layout.nr (y : Layout) : Nat := (y.dims.tail).foldl (fun r d => r * d.n) 1
/-- PITCH (R161). -/
def Layout.pitch (y : Layout) : Nat := (y.row * y.esize + 15) / 16 * 16
/-- NB (R164). -/
def Layout.nb (y : Layout) : Nat := (y.nr + y.rows - 1) / y.rows

/-- The dense offset of unswizzled offset a (R161): the formula, also where NR x PITCH is no multiple of the span, for which R161 says as
well that no unit leaves the image (DESIGN CHOICE, log 113). -/
def Layout.swizzle (y : Layout) (a : Nat) : Nat :=
  if y.bank = 0 then a else a ^^^ (a / (16 * 2 ^ y.bank) % 2 ^ y.bank * 16)

/-- The offset of a window row from the base over the dimensions above 0; none where a coordinate is out of range
(R159). -/
def rowOffset (dims : List CopyDim) (r : Nat) : Option Int :=
  match dims with
  | [] => some 0
  | d :: t =>
    let c := d.origin + ((r % d.n : Nat) : Int)
    if 0 ≤ c ∧ c < d.extent then (rowOffset t (r / d.n)).map (· + c * d.stride) else none

/-- The tensor address of element (w0, r): none out of range (R159). -/
def Layout.elem (y : Layout) (r w : Nat) : Option W64 :=
  match y.dims with
  | [] => none
  | d :: t =>
    let c := d.origin + (w : Int)
    if 0 ≤ c ∧ c < d.extent then (rowOffset t r).map (fun o => wide y.base + BitVec.ofInt 64 (o + c * y.esize)) else none

/-- The window rows of box k (R164). -/
def Layout.boxRows (y : Layout) (k : Nat) : List Nat :=
  (List.range (min y.nr ((k + 1) * y.rows) - k * y.rows)).map (· + k * y.rows)

/-- The first failing check of a record (R160): subcode and offset of the word in the record (R354). -/
def recordBad (ws : List W64) : Option (Nat × Nat) :=
  let y := Layout.of ws
  let d := recDims ws
  let above := (List.range 7).filter (fun i => decide (d ≤ i))
  let rsv : List Nat :=
    (if fld (recWord ws 0) 57 7 ≠ 0 then [0] else []) ++
    (if fld (recWord ws 1) 24 8 ≠ 0 ∨ fld (recWord ws 1) 12 4 ≠ 0 ∨ fld (recWord ws 1) 3 4 ≠ 0 ∨ d = 8 then [8] else []) ++
    (above.filter (fun i => recWord ws (2 + i) != 0)).map (fun i => 0x10 + 8 * i) ++
    ((above.filter (fun i => decide (1 ≤ i) && recStride ws i != 0)).map (fun i => 8 * (9 + (i - 1) / 2)))
  let ext := (List.range d).find? (fun i => fld (recWord ws (2 + i)) 40 24 == 0)
  let zeroStride := (List.range d).find? (fun i =>
    decide (1 ≤ i) && recStride ws i == 0 && fld (recWord ws (2 + i)) 32 8 != 0)
  match rsv, ext with
  | o :: _, _ => some (2, o)
  | [], some i => some (3, 0x10 + 8 * i)
  | [], none =>
    if y.base.toNat % 16 ≠ 0 then some (1, 0)
    else if y.rows = 0 then some (4, 8)
    else if 8192 < y.rows * y.pitch then some (5, 8)
    else if 64 < y.nb then some (6, 8)
    else
      match y.scatter, zeroStride with
      | true, some i => some (7, 8 * (9 + (i - 1) / 2))
      | _, _ => none

/-! ### The dense side (R161, R163) -/

/-- Where a dense offset of a copy lies: a physical address, or a virtual one. -/
def Copy.denseAt (y : Copy) (c : Nat) (b : Block) (o : Nat) : Nat ⊕ W64 :=
  match y.dense with
  | .slot _ => .inl (spAddr c b (y.denseOff + o))
  | .acc n => .inl (tileAddr c ((b.entry? false n).toList) o)
  | .addr va => .inr (va + BitVec.ofNat 64 o)

/-- The copy engine of core c looks past the lines its own boxes own (R84). -/
def State.engineAccess (s : State) (c : Nat) (a : Agent) (va : W64) (size : Nat) (k : AKind) : AccRes × State :=
  let cps := (s.core c).copies
  let hide (on : Bool) (s : State) : State :=
    s.setCore c { s.core c with copies := if on then cps.map (fun y => { y with boxes := [] }) else cps }
  let r := (hide true s).access a va size size k
  (r.1, hide false r.2)

/-- What an engine's sequence of accesses answers: addresses in order, a fault, or a hold. -/
inductive Engine where
  | ok (pas : List Nat) (s : State)
  | fault (f : LaneFault) (s : State)
  | held (s : State)

/-- Translate places of a destination in order; physical ones stand as they are. The home of a line waits for a holder that does not
answer (R103). -/
def State.engineUnits (s : State) (c uid : Nat) (a : Agent) (size : Nat) (xs : List (Nat ⊕ W64)) : Engine :=
  match xs with
  | [] => .ok [] s
  | .inl pa :: t =>
    match s.engineUnits c uid a size t with
    | .ok l s1 => .ok (pa :: l) s1
    | r => r
  | .inr va :: t =>
    match s.engineAccess c a va size .boxWrite with
    | (.fault f, s1) => .fault f s1
    | (.hold _, s1) =>
      .held (match (s1.locate a 1 .boxWrite va).1 with
        | .ok (p, _) => s1.await c p.pa (some uid)
        | .error _ => s1)
    | (.ok p, s1) =>
      match s1.engineUnits c uid a size t with
      | .ok l s2 => .ok (p.pa :: l) s2
      | r => r

/-! ### Boxes (R164 to R171) -/

/-- The destination places of box k: the dense bytes of its rows by 8 bytes for a gather, its in-range elements for a
scatter (R164). -/
def Copy.boxDst (y : Copy) (c : Nat) (b : Block) (k : Nat) : List (Nat ⊕ W64) :=
  let l := Layout.of y.record
  if l.scatter then
    (l.boxRows k).flatMap (fun r => (List.range l.row).filterMap (fun w => (l.elem r w).map Sum.inr))
  else
    (l.boxRows k).flatMap (fun r => (List.range (l.pitch / 8)).map (fun u => y.denseAt c b (l.swizzle (r * l.pitch + 8 * u))))

/-- A copy's engine may work on it: not complete, cancelled or faulted, its block running, no shootdown pending for its
address space (R168 to R172). -/
def State.copyRuns (s : State) (y : Copy) (b : Block) : Bool :=
  !y.complete && !y.cancelled && y.fault.isNone && b.engines && !s.shootdowns.any (fun x => x.pasid == b.pasid)

/-- The boxes that are neither complete nor in flight, ascending. -/
def Copy.openBoxes (y : Copy) : List Nat :=
  (List.range y.nbox).filter (fun k => !y.bitmap.getLsbD k && !y.boxes.any (fun x => x.num == k))

/-- The state with a copy of a core changed. -/
def State.modCopy (s : State) (c id : Nat) (f : Copy → Copy) : State :=
  s.setCore c { s.core c with copies := (s.core c).copies.map (fun y => if y.id = id then f y else y) }

/-- A box met a fault (R169). The first one stands. -/
def State.faultBox (s : State) (c : Nat) (y : Copy) (k : Nat) (f : LaneFault) : State :=
  let s1 := s.modCopy c y.id (fun y =>
    { y with boxes := y.boxes.filter (fun x => x.num != k),
             fault := y.fault.or (some ⟨f.code, f.sub, f.addr⟩), fbox := if y.fault.isSome then y.fbox else k })
  match y.entry? (s.core c) with
  | some e =>
    if y.fault.isSome ∨ y.cancelled then s1
    else s1.modTiles c [e] (fun x => { x with faulted := true, fault := f.code, kstep := k })
  | none => s1

/-- The unit of a copy's destination: 8 bytes of a dense row, or an element (R164). -/
def Layout.unit (l : Layout) : Nat := if l.scatter then l.esize else 8

/-- The destination lines of a box from unit i on that it still owns: lines of memory, while a window's range is busy as a whole
(R84). -/
def ownedLines (dst : List Nat) (i : Nat) : List Nat := (((dst.drop i).filter (fun p => !isWindow p)).map (· / 128)).eraseDups

/-- An engine's box would write a window where another engine has marked the range busy, or a tile entry that is filling or draining
for something else (R74, R85). -/
def State.boxHeld (s : State) (c : Nat) (y : Copy) (size : Nat) (pas : List Nat) : Bool :=
  let others : State := s.setCore c { s.core c with copies := [] }
  pas.any (fun pa => isWindow pa && others.engineHeld c pa size ((y.entry? (s.core c)).toList))

/-- Issue box n of a copy (R165, R166, R168): its destination is translated and owned, in ascending order of the box. Whether it is held back
comes with the state. -/
def State.issueBox (s : State) (c : Nat) (y : Copy) (b : Block) (n : Nat) : Bool × State :=
  let size := (Layout.of y.record).unit
  match s.engineUnits c y.team (blockAgent c b) size (y.boxDst c b n) with
  | .held s1 => (true, s1)
  | .fault f s1 => (false, s1.faultBox c y n f)
  | .ok pas s1 =>
    if s1.boxHeld c y size pas then (true, s1)
    else
      match s1.partSector size pas with
      | some p => (false, s1.faultBox c y n ⟨0x0B, 0, BitVec.ofNat 64 p⟩)
      | none =>
        let x : Box := { num := n, paused := false, owned := ownedLines pas 0, dst := pas, size := size, pos := 0, src := [], page := none }
        (false, s1.modCopy c y.id (fun y => { y with boxes := y.boxes ++ [x] }))

/-- The first of some boxes that nothing holds back: a held access holds only its own box (R74). -/
def State.issueFirst (s : State) (c : Nat) (l : List (Copy × Block × Nat)) : State :=
  match l with
  | [] => s
  | (y, b, n) :: t =>
    match s.issueBox c y b n with
    | (true, s1) => s1.issueFirst c t
    | (false, s1) => s1

/-- BOX_ISSUE (R165, R166, R168): the next box, in queue order and ascending within a copy. -/
def execBoxIssue (core : Nat) (s : State) : Result :=
  .next (
    let k := s.core core
    let ready := k.copies.flatMap (fun y =>
      match k.blockUid y.blk with
      | some b => if s.copyRuns y b then y.openBoxes.map (fun n => (y, b, n)) else []
      | none => [])
    if 64 ≤ (k.copies.map (fun y => y.boxes.length)).sum then s else s.issueFirst core ready)

/-- The copy with an identity, its core, and its block. -/
def State.findCopy (s : State) (id : Nat) : Option (Nat × Copy × Block) :=
  (s.cores.filterMap (fun k =>
    ((k.2.copies.find? (fun y => y.id == id)).bind (fun y => (k.2.blockUid y.blk).map (fun b => (k.1, y, b)))))).head?

/-! ### What a box reads and writes (R159 to R162, R166) -/

/-- Where a box has come to in its source: the lines it has read, each once (R84), and the page it is in (R168). -/
structure BoxPos where
  src : List SrcLine
  page : Option (Nat × Nat)
  deriving DecidableEq, Repr

/-- Why a box does not go on: a fault, a line that is held, or the boundary of a source page while a shootdown is pending (R168). -/
inductive BoxStop where
  | fault (f : LaneFault)
  | held
  | pause
  deriving DecidableEq, Repr

/-- A shootdown of an address space is pending (R168). -/
def State.downFor (s : State) (pasid : Nat) : Bool := s.shootdowns.any (fun x => x.pasid == pasid)

/-- The page that an address lies in, as the translation just made of it has it: its base and the log2 of its size. An aperture has no
pages (R62). -/
def State.pageOf (s : State) (a : Agent) (va : W64) : Option (Nat × Nat) :=
  if inAperture va then none else (tlbFind (s.core a.core).tlb a.pasid (va.toNat % 2 ^ 57)).map (fun e => (e.base, e.log2))

/-- An address lies in another page than the one a box is in. -/
def pageLeft (page : Option (Nat × Nat)) (va : W64) : Bool := page.any (fun p => va.toNat % 2 ^ 57 / 2 ^ p.2 * 2 ^ p.2 != p.1)

/-- n bytes of a source by a box: a line of memory is read once, as a whole, after what the core has pending on it; a range of a window
as it is accessed. The page is translated when the box comes to it, which it does not do across a page boundary while a shootdown is
pending (R84, R97, R168). -/
def State.boxRead (s : State) (c uid : Nat) (a : Agent) (p : BoxPos) (va : W64) (n : Nat) : Except BoxStop (Nat × BoxPos) × State :=
  let line := va.toNat / 128 * 128
  match p.src.find? (fun l => l.va == line) with
  | some l => (.ok (l.data / 2 ^ (8 * (va.toNat % 128)) % 2 ^ (8 * n), p), s)
  | none =>
    if pageLeft p.page va && s.downFor a.pasid then (.error .pause, s)
    else
      match s.engineAccess c a va n .engineRead with
      | (.fault f, s1) => (.error (.fault f), s1)
      | (.hold _, s1) => (.error .held, s1)
      | (.ok q, s1) =>
        let page := s1.pageOf a va
        if isWindow q.pa then (.ok (s1.engineLoad c uid q.pa n, { p with page := page }), s1)
        else
          let s2 := if regionOf q.pa = .pod then s1 else s1.drainLine c (q.pa / 128)
          let x := s2.engineLoad c uid (q.pa / 128 * 128) 128
          (.ok (x / 2 ^ (8 * (va.toNat % 128)) % 2 ^ (8 * n), ⟨⟨line, q.pa / 128 * 128, x⟩ :: p.src, page⟩), s2)

/-- n elements of a window row from w on, read by the engine: their bytes, with fill where out of range (R162). What it read before it
stopped comes with the stop. -/
def State.gatherRow (s : State) (c uid : Nat) (a : Agent) (l : Layout) (r w : Nat) (p : BoxPos) :
    Nat → List Byte × BoxPos × Option BoxStop × State
  | 0 => ([], p, none, s)
  | n + 1 =>
    match l.elem r w with
    | none =>
      let (bs, q, e, s1) := s.gatherRow c uid a l r (w + 1) p n
      (leBytes l.esize l.fill ++ bs, q, e, s1)
    | some va =>
      match s.boxRead c uid a p va l.esize with
      | (.error e, s1) => ([], p, some e, s1)
      | (.ok (x, q), s1) =>
        let (bs, q1, e, s2) := s1.gatherRow c uid a l r (w + 1) q n
        (leBytes l.esize x ++ bs, q1, e, s2)

/-- The 8-byte units of a row of bytes. -/
def chunk8 (n : Nat) (bs : List Byte) : List (List Byte) :=
  match n with
  | 0 => []
  | n + 1 => bs.take 8 :: chunk8 n (bs.drop 8)

/-- What a box does from where it stands: every unit it writes in order, where it has come to, and what stopped it, if it did not come
to its end. -/
structure BoxEnd where
  units : List (List Byte)
  at_ : BoxPos
  stop : Option BoxStop
  s : State
  deriving DecidableEq, Repr

/-- The rows of a gather box (R161, R162), by units of 8 bytes. -/
def State.gatherRows (s : State) (c uid : Nat) (a : Agent) (l : Layout) (p : BoxPos) (rows : List Nat) : BoxEnd :=
  match rows with
  | [] => ⟨[], p, none, s⟩
  | r :: t =>
    match s.gatherRow c uid a l r 0 p l.row with
    | (bs, q, some e, s1) => ⟨chunk8 (bs.length / 8) bs, q, some e, s1⟩
    | (bs, q, none, s1) =>
      let e := s1.gatherRows c uid a l q t
      { e with units := chunk8 (l.pitch / 8) (bs ++ List.replicate 16 0) ++ e.units }

/-- The elements of a scatter box: the dense places it reads (R161, R162). -/
def State.scatterElems (s : State) (c : Nat) (a : Agent) (l : Layout) (y : Copy) (b : Block) (p : BoxPos)
    (elems : List (Nat × Nat)) : BoxEnd :=
  match elems with
  | [] => ⟨[], p, none, s⟩
  | (r, w) :: t =>
    match y.denseAt c b (l.swizzle (r * l.pitch + w * l.esize)) with
    | .inl q =>
      if s.winPoison.contains (q / 32) then ⟨[], p, some (.fault ⟨0x0B, 0, BitVec.ofNat 64 (q / 32 * 32)⟩), s⟩
      else
        let e := s.scatterElems c a l y b p t
        { e with units := leBytes l.esize (s.engineLoad c y.team q l.esize) :: e.units }
    | .inr va =>
      match s.boxRead c y.team a p va l.esize with
      | (.error e, s1) => ⟨[], p, some e, s1⟩
      | (.ok (x, q), s1) =>
        let e := s1.scatterElems c a l y b q t
        { e with units := leBytes l.esize x :: e.units }

/-- The first unit of a box, from the next one it writes to unit n, whose destination has been poisoned since its issue: a line, or a
window sector that the box writes only a part of. The box stops there (R169, R432, R433). -/
def State.boxPoison (s : State) (c : Nat) (y : Copy) (b : Block) (x : Box) (n : Nat) : Option (Nat × LaneFault) :=
  let bad (pa : Nat) : Bool := if isWindow pa then s.partDropped x.size x.dst pa else s.poisoned (pa / 128)
  ((x.dst.zip (y.boxDst c b x.num)).zipIdx.find? (fun e => decide (x.pos ≤ e.2) && decide (e.2 < n) && bad e.1.1)).map (fun e =>
    (e.2, ⟨0x0B, 0, match isWindow e.1.1, e.1.2 with | false, .inr va => va | _, _ => BitVec.ofNat 64 (e.1.1 / 32 * 32)⟩))

/-- What a box reads from its start on, with the lines it has read before (R166). -/
def State.boxReads (s : State) (c : Nat) (y : Copy) (b : Block) (x : Box) : BoxEnd :=
  let l := Layout.of y.record
  let a := blockAgent c b
  if l.scatter then
    let elems := (l.boxRows x.num).flatMap (fun r => (List.range l.row).filterMap (fun w => (l.elem r w).map (fun _ => (r, w))))
    s.scatterElems c a l y b ⟨x.src, x.page⟩ elems
  else s.gatherRows c y.team a l ⟨x.src, x.page⟩ (l.boxRows x.num)

/-- Everything a box does from where it stands, up to a destination that has been poisoned (R166, R169). -/
def State.runBox (s : State) (c : Nat) (y : Copy) (b : Block) (x : Box) : BoxEnd :=
  let e := s.boxReads c y b x
  match e.s.boxPoison c y b x e.units.length with
  | some (i, f) => { e with units := e.units.take i, stop := some (.fault f) }
  | none => e

/-- The engine writes units i on of a box in order. Where two elements of a scatter map to the same bytes, which one stays is free
(R166, log 10). -/
def State.boxWrites (s : State) (c : Nat) (y : Copy) (dst : List Nat) (i : Nat) (us : List (List Byte)) : State :=
  match us with
  | [] => s
  | u :: t =>
    let pa := (dst[i]?).getD 0
    let again := (dst.take i).contains pa
    let s1 := if again ∧ Config.freeBool s.tick then s else s.engineStore c y.team pa u
    (if again then s1.draw else s1).boxWrites c y dst (i + 1) t

/-- Box x of a copy has come n units further (R84, R166): they are written, and the lines it has finished are released. -/
def BoxEnd.advance (e : BoxEnd) (c : Nat) (y : Copy) (x : Box) (n : Nat) : State :=
  let s1 := e.s.boxWrites c y x.dst x.pos ((e.units.drop x.pos).take n)
  let i := min e.units.length (x.pos + n)
  let x1 : Box := { x with pos := i, src := e.at_.src, page := e.at_.page, owned := ownedLines x.dst i }
  s1.modCopy c y.id (fun y => { y with boxes := y.boxes.map (fun z => if z.num = x.num then x1 else z) })

/-- The ready entry of a scatter that is cancelled bears no mark of its fault (R73, R172), unless another copy's fault stands there. -/
def State.unmarkScatter (s : State) (c : Nat) (y : Copy) : State :=
  let k := s.core c
  if k.copies.any (fun z => z.id != y.id && z.fault.isSome && !z.cancelled && z.entry? k == y.entry? k) then s
  else s.modTiles c (y.entry? k).toList (fun x => { x with faulted := false, fault := 0 })

/-- The copies of a team complete in token order (R165, R172): the entry of a gather goes to ready. At most n advance. -/
def State.advanceCopies (s : State) (c uid : Nat) : Nat → State
  | 0 => s
  | n + 1 =>
    match s.teamByUid uid with
    | none => s
    | some t =>
      match (s.core c).copies.find? (fun y => y.team == uid && y.token == t.copyDone + 1 && !y.complete) with
      | none => s
      | some y =>
        let done := (List.range y.nbox).all (fun k => y.bitmap.getLsbD k)
        if t.copyDone = t.copyIssued ∨ ¬(done ∨ (y.cancelled ∧ y.boxes = [])) then s
        else
          let s1 := s.modCopy c y.id (fun y => { y with complete := true })
          let s2 :=
            if y.scatter then (if y.cancelled then s1.unmarkScatter c y else s1)
            else s1.modTiles c ((y.entry? (s.core c)).toList) (fun x => { x with state := 2, faulted := false, fault := 0 })
          (s2.modUid uid (fun t => { t with copyDone := t.copyDone + 1 })).advanceCopies c uid n

/-- The copies an engine's queue holds (R165). -/
def copyLimit : Nat := 32

/-- A box would write a register of a team that stands within an instruction (R72). -/
def State.boxWaits (s : State) (x : Box) : Bool :=
  x.dst.any (fun pa => match regionOf pa with | .window k off => s.regBusy k off none | _ => false)

/-- A box in flight that can go on. -/
def State.liveBox (s : State) (copy box : Nat) : Option (Nat × Copy × Block × Box) :=
  match s.findCopy copy with
  | none => none
  | some (c, y, b) =>
    ((y.boxes.find? (fun x => x.num == box)).filter (fun x => !x.paused && b.started && !s.boxWaits x)).map (fun x => (c, y, b, x))

/-- A copy engine finishes the next destination line of a box (R84, R166): no row of the opcode table names this step. -/
def State.finishLine (s : State) (copy box : Nat) : State :=
  match s.liveBox copy box with
  | none => s
  | some (c, y, b, x) =>
    let e := s.runBox c y b x
    let rest := x.dst.drop x.pos
    let line := ((rest.head?).getD 0) / 128
    let n := (rest.zipIdx.filter (fun p => p.1 / 128 == line)).foldl (fun r p => max r (p.2 + 1)) 0
    if x.pos + n ≤ e.units.length ∧ n < rest.length then e.advance c y x n else s

/-- BOX_COMPLETE (R165, R166, R170): the box's bytes are written, its lines released and its bit set. A box that must cross into
another source page while a shootdown is pending does not come to its end (R168). -/
def execBoxComplete (copy box : Nat) (s : State) : Result :=
  .next (match s.liveBox copy box with
    | none => s
    | some (c, y, b, x) =>
      let e := s.runBox c y b x
      match e.stop with
      | some _ => s
      | none =>
        let s1 := (e.s.boxWrites c y x.dst x.pos (e.units.drop x.pos)).sectorClears x.size x.dst
        let y1 : Copy := { y with bitmap := y.bitmap ||| BitVec.ofNat 64 (2 ^ box), boxes := y.boxes.filter (fun x => x.num != box) }
        let s2 := s1.modCopy c y.id (fun _ => y1)
        let s3 := if y.scatter ∨ y.fault.isSome then s2 else
          s2.modTiles c ((y.entry? (s.core c)).toList) (fun t => { t with kstep := y1.kstep })
        (s3.traceCount c 6 none).advanceCopies c y.team copyLimit)

/-- BOX_FAULT (R169): a box in flight meets a fault; what it wrote before stays written. -/
def execBoxFault (copy box : Nat) (s : State) : Result :=
  .next (match s.liveBox copy box with
    | none => s
    | some (c, y, b, x) =>
      let e := s.runBox c y b x
      match e.stop with
      | some (.fault f) => ((e.advance c y x e.units.length).faultBox c y box f).advanceCopies c y.team copyLimit
      | _ => s)

/-- BOX_PAUSE (R168): a box in flight reaches the boundary of a source page while a shootdown of its address space is pending, and
pauses with what it wrote before. -/
def execBoxPause (copy box : Nat) (s : State) : Result :=
  .next (match s.liveBox copy box with
    | none => s
    | some (c, y, b, x) =>
      let e := s.runBox c y b x
      match e.stop with
      | some .pause =>
        (e.advance c y x e.units.length).modCopy c y.id (fun y =>
          { y with boxes := y.boxes.map (fun x => if x.num = box then { x with paused := true } else x) })
      | _ => s)

/-- The boxes in flight of a block's copies that a test selects end with their bits clear; what they have written stays. A cancelled
copy is complete when its last box has ended (R171, R172). -/
def State.endBoxes (s : State) (c blk : Nat) (sel : Copy → Box → Bool) : State :=
  let k := s.core c
  let mine := k.copies.filter (fun y => y.blk == blk && !y.complete)
  let s1 := s.setCore c { k with copies := k.copies.map (fun y =>
    if y.blk = blk ∧ y.complete = false then { y with boxes := y.boxes.filter (fun x => !sel y x) } else y) }
  ((mine.map (·.team)).eraseDups).foldl (fun s u => s.advanceCopies c u copyLimit) s1

/-- The copies of a stopped block are frozen: its boxes in flight have ended (R171, R415). -/
def State.freezeCopies (s : State) (c blk : Nat) : State :=
  let s1 := s.endBoxes c blk (fun _ _ => true)
  let k := s1.core c
  s1.setCore c { k with copies := k.copies.map (fun y => if y.blk = blk ∧ y.complete = false then { y with frozen := true } else y) }

/-- BOX_ABORT (R171): a stopped block's boxes in flight end, their bits clear, and its copies are frozen. -/
def execBoxAbort (blk : Nat) (s : State) : Result :=
  .next (match s.findBlock blk with
    | none => s
    | some (c, pl) =>
      match tabGet? (s.core c).blocks pl with
      | none => s
      | some b => if b.engines then s else s.freezeCopies c blk)

/-! ### The copy instructions (R328, R329) -/

/-- The dense side of `tcopy` (R328). -/
inductive DenseArg where
  | src (x : TSrc)
  | acc (n : Nat)

/-- The dense side an operand names. -/
def Team.denseSide (t : Team) (x : DenseArg) : DenseSide :=
  match x with
  | .src (.slot k) => .slot k
  | .src (.reg r) => .addr (t.s r)
  | .acc n => .acc n

/-- The local entry of a dense side: its kind and number. -/
def DenseSide.local? (x : DenseSide) : Option (Bool × Nat) :=
  match x with
  | .slot k => some (true, k)
  | .acc n => some (false, n)
  | .addr _ => none

/-- Phases 2 and 3 of `tcopy` (R165, R167, R328), whose start is a release at team scope (R97). `ws` holds the record and, last, the dense side's
scratchpad offset. -/
def State.copyStart (s : State) (t : Team) (b : Block) (d : Nat) (dense : DenseSide) (e : Option Nat) (ws : List W64) : State :=
  let c := s.cur.1
  let record := ws.take 12
  let l := Layout.of record
  let want := if l.scatter then 2 else 0
  if copyLimit ≤ (s.core c).copies.length then s.waitWith t { WaitRec.idle with kind := 4, p1 := ws }
  else
    match dense.local?, e.filter (fun e => ((s.core c).tile e).state != want) with
    | some (slot, n), some _ => s.tileWait t slot n (bit l.scatter) ws
    | _, _ =>
      s.afterStores .team false allStores (fun s t =>
        let tok := t.copyIssued + 1
        let y : Copy :=
          { id := s.nextUid, team := t.uid, blk := b.uid, token := tok, record := record, dense := dense, bitmap := 0,
            nbox := l.nb, boxes := [], denseOff := recWord ws 12, fault := none, fbox := 0, reported := false,
            cancelled := false, complete := false, frozen := false }
        let k := s.core c
        let s1 := { s.setCore c { k with copies := k.copies ++ [y] } with nextUid := s.nextUid + 1 }
        let s2 := if l.scatter then s1 else s1.modTiles c e.toList (fun x => { x with state := 1, kstep := 0 })
        s2.completeWith (fun t => { t with copyIssued := tok }.setS d (tok.zeroExtend 64)))

/-- The checks of a record and dense side in the order of R160 and R163: code, subcode, address. -/
def State.copyChecks (s : State) (c off : Nat) (dense : DenseSide) (e : Option Nat) (ws : List W64) : Option (Nat × Nat × W64) :=
  match recordBad ws with
  | some (sub, o) => some (0x19, sub, BitVec.ofNat 64 (off + o))
  | none =>
    let l := Layout.of ws
    let size := l.nr * l.pitch
    match dense with
    | .slot _ => if (e.map (fun e => ((s.core c).tile e).length)).getD 0 < size then some (0x18, 3, 0) else none
    | .acc _ => if 16384 < size then some (0x18, 3, 0) else none
    | .addr va => if va.toNat % 128 ≠ 0 then some (0x0A, 0, va) else none

/-- `tcopy` (R160, R163, R328). -/
def State.tcopy (s : State) (d sa : Nat) (x : DenseArg) : Result :=
  .next (s.once false .copy (fun t =>
    match s.blockOf s.cur.1 t with
    | none => s.tileFault t 1
    | some b =>
      let dense := t.denseSide x
      let c := s.cur.1
      let e := dense.local?.bind (fun p => b.entry? p.1 p.2)
      if dense.local?.isSome ∧ e.isNone then s.tileFault t 1
      else
        s.named t e.toList (fun s t =>
          match t.captured with
          | some ws => s.copyStart t b d dense e ws
          | none =>
            if e.any (fun e => ((s.core c).tile e).pair) then s.tileFault t 5
            else
              let off := (t.s sa).toNat % 2 ^ 19
              if off % 32 ≠ 0 then s.onceFault t 0x19 1 (BitVec.ofNat 64 off)
              else if b.spSize < off + 96 then s.onceFault t 0x09 6 (BitVec.ofNat 64 off)
              else
                match s.spPoison c b off 96, s.spBusy c b off 96 with
                | some sec, _ => s.onceFault t 0x0B 0 (BitVec.ofNat 64 (sec * 32))
                | none, some line => s.spHold t line
                | none, none =>
                  let ws := (List.range 12).map (fun i => BitVec.ofNat 64 (s.spRead c b (off + 8 * i) 8))
                  match s.copyChecks c off dense e ws with
                  | some (code, sub, addr) => s.onceFault t code sub addr
                  | none =>
                    let so := (e.map (fun e => ((s.core c).tile e).offset)).getD 0
                    s.copyStart t b d dense e (ws ++ [BitVec.ofNat 64 so]))))

/-- `tcopy` with a slot or an address as dense side (R328). -/
def execTcopyDense (c a : Nat) (dst : TSrc) (s : State) : Result := s.tcopy c a (.src dst)
/-- `tcopy` with an accumulator entry as dense side (R328). -/
def execTcopyAcc (c a t : Nat) (s : State) : Result := s.tcopy c a (.acc t)

/-- An instruction on a copy token (R329): `F.TILE` TOKEN for one not issued. -/
def State.copyTokenOp (s : State) (a : Nat) (k : Team → BitVec 16 → State) : Result :=
  .next (s.once false .copy (fun t =>
    let tok : BitVec 16 := (t.s a).truncate 16
    if tokenBad t.copyIssued tok then s.tileFault t 7 else k t tok))

/-- `cwait` (R165, R169, R329): the covered copies leave the queue (R173). -/
def execCwait (a : Nat) (s : State) : Result :=
  s.copyTokenOp a (fun t tok =>
    match s.reportDue t (fun _ _ => false) (fun y => tokenCovers tok y.token) with
    | some (s1, f) => s1.unitFault t f
    | none =>
      if tokenDone t.copyIssued t.copyDone tok then
        let k := s.core s.cur.1
        let s1 := s.setCore s.cur.1
          { k with copies := k.copies.filter (fun y => !(y.team == t.uid && y.complete && tokenCovers tok y.token)) }
        s1.acquire.completeWith (fun t => t)
      else s.waitWith t { WaitRec.idle with kind := 5, param := tok.toNat })

/-- The copy of a team's token, while it has a queue entry. -/
def State.copyOf (s : State) (t : Team) (tok : BitVec 16) : Option Copy :=
  (s.core s.cur.1).copies.find? (fun y => y.team == t.uid && y.token == tok)

/-- `cstat.map` (R173, R329). -/
def execCstatMap (d a : Nat) (s : State) : Result :=
  s.copyTokenOp a (fun t tok => s.complete (t.setS d (((s.copyOf t tok).map (·.bitmap)).getD 0)))
/-- `cstat` (R173, R329). -/
def execCstat (d a : Nat) (s : State) : Result :=
  s.copyTokenOp a (fun t tok =>
    s.complete (t.setS d (BitVec.ofNat 64 (((s.copyOf t tok).map Copy.word).getD (tok.toNat * 2 ^ 48 + 2)))))

/-- `ccancel` (R172, R174). -/
def execCcancel (a : Nat) (s : State) : Result :=
  s.copyTokenOp a (fun t tok =>
    match s.copyOf t tok with
    | none => s.complete t
    | some y =>
      if y.complete then s.complete t
      else
        let c := s.cur.1
        ((s.modCopy c y.id (fun y => { y with cancelled := true })).advanceCopies c t.uid copyLimit).completeWith (fun t => t))

end Sys2Proof.Machine
end

