-- ==== Sys2Proof/Machine/FrontEnd.lean ====
section
/-! DEFINITION. The front-end complexes (R365 to R379): queues, packets, launches, the capture FIFO, takeovers and live
updates. -/

namespace Sys2Proof.Machine

/-! ### Queues (R366, R367) -/

/-- The address of word i of queue table entry q (R366). -/
def State.queueAddr (s : State) (q i : Nat) : Nat := s.fe.qtab.toNat / 4096 % 2 ^ 40 * 4096 + q * 64 + 8 * i

/-- Word i of queue table entry q. -/
def State.queueWord (s : State) (q i : Nat) : Nat := s.unitWord (s.queueAddr q i)

/-- The slots of queue q's ring. -/
def State.queueSlots (s : State) (q : Nat) : Nat := 2 ^ max 4 (min 16 (s.queueWord q 0 % 32))
/-- HEAD of queue q. -/
def State.queueHead (s : State) (q : Nat) : Nat := fld (s.queueWord q 2) 32 32
/-- ERR of queue q. -/
def State.queueErr (s : State) (q : Nat) : Nat := fld (s.queueWord q 2) 8 8
/-- ENABLE of queue q. -/
def State.queueOn (s : State) (q : Nat) : Bool := fld (s.queueWord q 2) 0 1 == 1

/-- No reserved field of queue q's entry is set: an entry with one is rejected, and its queue is not read (R13; log 99). -/
def State.queueClean (s : State) (q : Nat) : Bool :=
  let w0 := s.queueWord q 0
  let w2 := s.queueWord q 2
  fld w0 57 7 == 0 && fld w0 5 3 == 0 && fld (s.queueWord q 1) 32 32 == 0 && fld w2 16 16 == 0 && fld w2 2 6 == 0 &&
    (List.range 5).all (fun i => s.queueWord q (3 + i) == 0)

/-- The entry of queue q cannot be written now: its line is held (R78, R85). -/
def State.queueHeld (s : State) (q : Nat) : Bool := s.unitWaits (s.queueAddr q 2) 8

/-- The front end writes HEAD, ERR and ENABLE of queue q. -/
def State.setQueue (s : State) (q head err en : Nat) : State :=
  let w := s.queueWord q 2
  s.unitPut (s.queueAddr q 2) (leBytes 8 (head % 2 ^ 32 * 2 ^ 32 + fld w 16 16 * 2 ^ 16 + err * 2 ^ 8 + fld w 1 7 * 2 + en))

/-- The front end as an agent of queue q's process (R366, R372). -/
def State.queueAgent (s : State) (q : Nat) : Agent :=
  unitAgent 0 (fld (s.queueWord q 1) 0 20) (fld (s.queueWord q 1) 20 12) none

/-- The virtual address of slot i of queue q (R366). -/
def State.slotVa (s : State) (q i : Nat) : W64 :=
  wide (BitVec.ofNat 57 (fld (s.queueWord q 0) 8 49 * 256 + i % s.queueSlots q * 256))

/-- The valid byte of slot i (R367). -/
def State.slotValid (s : State) (q i : Nat) : Nat := if i / s.queueSlots q % 2 = 0 then 0x5A else 0xA5

/-- Word i of run-list entry e (R379). -/
def State.runPart (s : State) (e i : Nat) : Nat := s.unitWord (s.fe.runlist.toNat / 16 % 2 ^ 48 * 16 + 16 * e + 8 * i)

/-- Run-list entry e (R379). -/
def State.runWord (s : State) (e : Nat) : Nat := s.runPart e 0

/-- No reserved field of run-list entry e is set (R13; log 99). -/
def State.runClean (s : State) (e : Nat) : Bool := fld (s.runWord e) 12 8 == 0 && fld (s.runWord e) 40 24 == 0 && s.runPart e 1 == 0

/-- The entries of the run list (R379). -/
def State.runCount (s : State) : Nat := s.fe.runlist.toNat / 2 ^ 52

/-- The process of the current turn of the run list (R379). An empty run list gives no turn, and an entry that is rejected gives its to
none. -/
def State.turnProc (s : State) : Option Nat :=
  if s.runCount = 0 ∨ s.runClean s.fe.runEntry = false then none else some (s.runWord s.fe.runEntry % 4096)

/-- The turn of run-list entry e begins (R379): it lasts its quantum, or, when saving one context and restoring the next costs more,
twice that cost, with STRETCH set. The cost, in ns, is free (log 4). -/
def State.beginTurn (s : State) (e : Nat) : State :=
  if s.runCount = 0 then { s with fe := { s.fe with turnLen := 0, stretch := false } }
  else
    let i := e % s.runCount
    let quantum := max 100 (min 1000000 (fld (s.runWord i) 20 20)) * 1000
    let cost := Config.freeNat s.tick
    { s with fe := { s.fe with
        runEntry := i, turnAt := s.time, turnLen := if quantum < cost then 2 * cost else quantum, stretch := decide (quantum < cost) } }.draw

/-- The front end reads queue q: it is enabled without an error, it is its process's turn, and nothing stops the front
end (R371, R378, R379, R396). -/
def State.queueRuns (s : State) (q : Nat) : Bool :=
  !s.fe.recovery && !s.fe.paused && s.queueOn q && s.queueErr q == 0 && s.queueClean q &&
    s.turnProc == some (fld (s.queueWord q 1) 20 12)

/-- The captured submission writes are consumed in order as hints, those to other queues than the turn's too (R374, R379). What leaves
the FIFO stands in the committed table at once, so that a takeover loses none of it (R376; DEDUCED, log 41). -/
def State.consume (s : State) : State :=
  let cons := (((s.fe.capture.map Prod.fst).getLast?).map (BitVec.ofNat 64)).getD s.fe.capCons
  let hints := s.fe.capture.foldl (fun h e => tabSet h e.2.1 (e.2.2.truncate 32)) s.fe.hints
  { s with fe := { s.fe with capture := [], capCons := cons, hints := hints, table := { s.fe.table with capCons := cons, hints := hints } } }

/-- The state table is committed (R375). -/
def State.commitTable (s : State) : State :=
  { s with fe := { s.fe with
      table := { format := s.fe.format, capCons := s.fe.capCons, hints := s.fe.hints, runEntry := s.fe.runEntry } } }

/-- A packet error (R371, R372): ERR is set, the queue stops at the slot, and LAUNCHERR is posted (R405). -/
def State.packetError (s : State) (q slot code : Nat) (addr : W64) : State :=
  (s.setQueue q slot code (bit (s.queueOn q))).post 2 0 true
    [BitVec.ofNat 64 (slot % 2 ^ 32 * 2 ^ 32 + q), BitVec.ofNat 64 code, addr]

/-- The packet at HEAD starts: HEAD moves on and the state table is committed (R375). -/
def State.packetStart (s : State) (q : Nat) : State :=
  (s.commitTable).setQueue q (s.queueHead q + 1) 0 (bit (s.queueOn q))

/-- The types of R368. -/
def packetTypes : List Nat := [1, 2, 3, 4, 5]

/-- The slot at HEAD of queue q can be read, both lines of it (R371): its place. -/
def State.slotPlace (s : State) (q : Nat) : AccRes × State :=
  let a := s.queueAgent q
  let va := s.slotVa q (s.queueHead q)
  match s.access a va 8 8 .engineRead with
  | (.ok p, s1) =>
    match s1.access a (va + 128) 8 8 .engineRead with
    | (.ok _, s2) => (.ok p, s2)
    | r => r
  | r => r

/-- Read the slot at HEAD of queue q as a packet of a type, with the checks of R371 up to the trailer's. `k` gets the
bytes of the slot as a number and HEAD. The front end takes the captured writes before it reads; nothing starts or fails while the
queue's entry cannot be written. -/
def State.packet (s : State) (q type : Nat) (k : State → Nat → Nat → State) : Result :=
  .next (
    if s.queueRuns q = false ∨ s.queueHeld q then s
    else
      let head := s.queueHead q
      match s.consume.slotPlace q with
      | (.fault _, s1) => s1.packetError q head 3 0
      | (.hold _, s1) => s1
      | (.ok p, s1) =>
        let raw := s1.agentRead p 256
        let tr := fld raw 2016 32
        let f := fld tr 12 4
        if fld tr 24 8 ≠ s1.slotValid q head then s1
        else if packetTypes.contains (tr % 256) = false then s1.packetError q head 1 0
        else if tr % 256 ≠ type then s1
        else if fld tr 16 8 ≠ 0 ∨ 2 ≤ fld tr 8 4 ∨ (f ≠ 0 ∧ f ≠ 3 ∧ f ≠ 4 ∧ f ≠ 5) then s1.packetError q head 2 0
        else if fld tr 8 4 = 1 ∧ s1.fe.inFlight.any (fun x => x.queue == q) then s1
        else k s1 raw head)

/-- A 64-bit word of a packet. -/
def packetWord (raw off : Nat) : Nat := fld raw (8 * off) 64

/-- FSCOPE of a slot (R367). -/
def packetScope (raw : Nat) : Nat := fld (fld raw 2016 32) 12 4

/-- The release at the completion of a packet (R368): every store of its work is performed before it counts as complete, those of
block `blk` for a launch, and what the front end writes later comes after them. -/
def State.packetRelease (s : State) (fscope : Nat) (blk : Option Nat) : State :=
  if fscope = 0 then s
  else
    let s1 := s.cores.foldl (fun s k => s.drainCore k.1 (fun p => some p.blk == blk)) s
    { s1 with agentTime := max s1.agentTime s1.syncTime }

/-- The check of a packet's address (R372): a code, in the order ALIGN, ADDRESS, POISON, or the physical place. None: the line is
waited for. -/
def State.packetAddr (s : State) (q : Nat) (va : W64) (wr : Bool) : Except (Option Nat) Phys × State :=
  let a := s.queueAgent q
  let k : AKind := if wr then .engineWrite else .engineRead
  if va.toNat % 8 ≠ 0 then (.error (some 8), s)
  else if (stepForm a va).isSome then (.error (some 7), s)
  else
    match (s.locate a 8 k va).1 with
    | .ok (p, _) =>
      if p.cls = 2 then (.error (some 7), s)
      else
        match s.access a va 8 8 k with
        | (.fault f, s1) => (.error (some (if f.code = 0x0B then 9 else 7)), s1)
        | (.hold h, s1) => (.error none, s1.unitHeld a va h)
        | (.ok p, s1) => (.ok p, s1)
    | .error (.hold _) => (.error none, s)
    | .error _ => (.error (some 7), s)

/-- WRITE (R368, R372). -/
def execWrite (q : Nat) (s : State) : Result :=
  s.packet q 2 (fun s raw head =>
    let va := BitVec.ofNat 64 (packetWord raw 0)
    match s.packetAddr q va true with
    | (.error (some c), s1) => s1.packetError q head c va
    | (.error none, s1) => s1
    | (.ok p, s1) => ((s1.packetStart q).agentWrite p (leBytes 8 (packetWord raw 8))).packetRelease (packetScope raw) none)

/-- TIME (R368, R372). -/
def execTime (q : Nat) (s : State) : Result :=
  s.packet q 4 (fun s raw head =>
    let va := BitVec.ofNat 64 (packetWord raw 0)
    match s.packetAddr q va true with
    | (.error (some c), s1) => s1.packetError q head c va
    | (.error none, s1) => s1
    | (.ok p, s1) =>
      let (t, s2) := (s1.packetStart q).readClock
      (s2.agentWrite p (leBytes 8 t)).packetRelease (packetScope raw) none)

/-- NOP_PACKET (R368). -/
def execNopPacket (q : Nat) (s : State) : Result :=
  s.packet q 5 (fun s raw _ => (s.packetStart q).packetRelease (packetScope raw) none)

/-- WAIT (R368, R372): the packet starts and waits. -/
def execWait (q : Nat) (s : State) : Result :=
  s.packet q 3 (fun s raw head =>
    let va := BitVec.ofNat 64 (packetWord raw 0)
    match s.packetAddr q va false with
    | (.error (some c), s1) => s1.packetError q head c va
    | (.error none, s1) => s1
    | (.ok _, s1) =>
      let s2 := s1.packetStart q
      { s2 with fe := { s2.fe with
          inFlight := s2.fe.inFlight ++ [⟨q, head, packetScope raw, none, some (va, BitVec.ofNat 64 (packetWord raw 8))⟩] } })

/-- The state without a packet in flight. -/
def State.packetDone (s : State) (x : InFlight) : State :=
  { s with fe := { s.fe with inFlight := s.fe.inFlight.filter (fun y => y != x) } }

/-- A WAIT in flight reads its value, with an acquire (R368, R372): it completes, fails a check, or waits on, which answers none. -/
def State.tryWait (s : State) (q : Nat) (x : InFlight) : Option State :=
  match x.wait with
  | none => none
  | some (va, v) =>
    match s.packetAddr q va false with
    | (.error (some c), s1) => some ((s1.packetDone x).packetError q x.slot c va)
    | (.error none, _) => none
    | (.ok p, s1) => if v.toNat ≤ s1.agentRead p 8 then some ((s1.packetDone x).packetRelease x.fscope none) else none

/-- WAIT_COMPLETE (R368, R372): the first WAIT of the queue whose value has come completes. -/
def execWaitComplete (q : Nat) (s : State) : Result :=
  .next (if s.queueHeld q then s else ((s.fe.inFlight.filter (fun x => x.queue == q)).findSome? (s.tryWait q)).getD s)

/-! ### LAUNCH (R369 to R371) -/

/-- A read of a kernel descriptor's words upward. -/
def State.descWords (s : State) (a : Agent) (va : W64) : Nat → Except LaneFault (List Nat) × State
  | 0 => (.ok [], s)
  | n + 1 =>
    match s.unitRead a va 8 with
    | (.ok w, s1) =>
      match s1.descWords a (va + 8) n with
      | (.ok l, s2) => (.ok (w :: l), s2)
      | r => r
    | (.error f, s1) => (.error f, s1)

/-- Team word t of a descriptor (R370). -/
def descTeam (ws : List Nat) (t : Nat) : Nat := fld ((ws[1 + t / 2]?).getD 0) (32 * (t % 2)) 32

/-- The RSV check of a descriptor (R370). -/
def descRsvBad (ws : List Nat) : Bool :=
  let w := (ws[0]?).getD 0
  let n := w % 32
  fld w 42 22 != 0 || fld w 30 2 != 0 || fld w 22 2 != 0 || fld w 13 3 != 0 || fld w 5 3 != 0 ||
    (List.range 31).any (fun t =>
      let x := descTeam ws t
      if t < n then fld x 21 11 != 0 || fld x 13 3 != 0 || fld x 3 5 != 0 || x % 4 == 3 else x != 0) ||
    descTeam ws 31 != 0

/-- The RANGE check of a descriptor (R38, R370). -/
def descRangeBad (ws : List Nat) : Bool :=
  let w := (ws[0]?).getD 0
  let n := w % 32
  n == 0 || decide (512 < fld w 32 10) || decide (32 < fld w 24 6) || decide (32 < fld w 16 6) || decide (16 < fld w 8 5) ||
    (List.range n).any (fun t =>
      let x := descTeam ws t
      if x % 4 = 0 then fld x 16 5 == 0 else fld x 16 5 != 0 || fld x 8 5 != 0)

/-- A team word as a team shape (R38, R370). -/
def teamShape (x : Nat) : TeamShape :=
  { role := if x % 4 = 0 then .vector else if x % 4 = 1 then .matrix else .copy,
    lanes := if x % 4 = 0 then 32 * (fld x 8 5 + 1) else 1,
    nreg := 4 * fld x 16 5, noRefs := fld x 2 1 == 1 }

/-- The register-file granules a team needs (R69). -/
def TeamShape.granules (t : TeamShape) : Nat := t.nreg / 4 * ((t.lanes + 31) / 32)

/-- The granules open to launched work (R40). -/
def launchGranules : Nat := 2032

/-- The block shape fits an empty core (R39, R40). The other limits of R40 are those of R38. -/
def shapeFits (ts : List TeamShape) : Bool := decide ((ts.map TeamShape.granules).sum ≤ launchGranules)

/-- The launch of a checked packet and descriptor (R369, R370). -/
def State.launchOf (s : State) (q raw : Nat) (ws : List Nat) : Launch :=
  let w := (ws[0]?).getD 0
  let x := packetWord raw 0x58
  let high := fld x 16 1 == 1 || fld (s.queueWord q 2) 1 1 == 1
  { id := s.nextUid, queue := q, pasid := fld (s.queueWord q 1) 0 20, ctx := fld (s.queueWord q 1) 20 12,
    launchNo := s.fe.launchNo, entry := BitVec.ofNat 57 (packetWord raw 0),
    args := (List.range 8).map (fun a => BitVec.ofNat 64 (packetWord raw (0x18 + 8 * a))),
    gx := fld (packetWord raw 0x10) 0 16, gy := fld (packetWord raw 0x10) 16 16, gz := fld (packetWord raw 0x10) 32 16,
    gang := 2 ^ fld x 18 2, stagger := fld x 0 16, prio := if high then .high else .normal, spKib := fld w 32 10,
    accs := fld w 16 6, sts := fld w 24 6, bars := fld w 8 5,
    shape := (List.range (w % 32)).map (fun t => teamShape (descTeam ws t)), nextIx := 0, cancelled := [], live := [],
    rounds := (if high then s.fe.rrHigh else s.fe.rrNormal) - 1 }

/-- The blocks of a launch. -/
def Launch.total (l : Launch) : Nat := l.gx * l.gy * l.gz

/-- LAUNCH (R369 to R371): checked, then handed to the dispatcher. -/
def execLaunch (q : Nat) (s : State) : Result :=
  s.packet q 1 (fun s raw head =>
    let e := packetWord raw 0
    let kd := packetWord raw 8
    let g := packetWord raw 0x10
    let x := packetWord raw 0x58
    if fld e 57 7 ≠ 0 ∨ fld e 0 1 ≠ 0 ∨ fld kd 57 7 ≠ 0 ∨ fld kd 0 6 ≠ 0 ∨ fld g 48 16 ≠ 0 ∨ fld x 20 44 ≠ 0 ∨
        fld x 17 1 ≠ 0 ∨ fld raw 0x300 0x4E0 ≠ 0 then s.packetError q head 2 0
    else if fld e 56 1 = 1 ∨ fld g 0 16 = 0 ∨ fld g 16 16 = 0 ∨ fld g 32 16 = 0 then s.packetError q head 4 0
    else
      match s.descWords (s.queueAgent q) (wide (BitVec.ofNat 57 kd)) 17 with
      | (.error f, s1) => if f.held then s1 else s1.packetError q head 3 0
      | (.ok ws, s1) =>
        let l := s1.launchOf q raw ws
        if descRsvBad ws then s1.packetError q head 2 0
        else if descRangeBad ws then s1.packetError q head 4 0
        else if shapeFits l.shape = false then s1.packetError q head 5 0
        else if l.total % l.gang ≠ 0 then s1.packetError q head 6 0
        else
          let s2 := s1.packetStart q
          { s2 with
            nextUid := s2.nextUid + 1,
            fe := { s2.fe with
              launchNo := (s2.fe.launchNo + 1) % 2 ^ 16, launches := s2.fe.launches ++ [l],
              inFlight := s2.fe.inFlight ++ [⟨q, head, packetScope raw, some l.id, none⟩] } })

/-- The state with a launch changed. -/
def State.modLaunch (s : State) (id : Nat) (f : Launch → Launch) : State :=
  { s with fe := { s.fe with launches := s.fe.launches.map (fun l => if l.id = id then f l else l) } }

/-- The scope of the release at a launch's completion (R368). -/
def State.launchScope (s : State) (launch : Nat) : Nat :=
  ((s.fe.inFlight.find? (fun x => x.launch == some launch)).map (·.fscope)).getD 0

/-- A block of a launch has retired: the launch completes with its last one, after its release (R368). -/
def State.blockGone (s : State) (launch uid : Nat) : State :=
  let s1 := (s.packetRelease (s.launchScope launch) (some uid)).modLaunch launch (fun l => { l with live := l.live.filter (fun u => u != uid) })
  if s1.fe.launches.any (fun l => l.id == launch && l.nextIx == l.total && l.cancelled.isEmpty && l.live.isEmpty) then
    { s1 with fe := { s1.fe with
        launches := s1.fe.launches.filter (fun l => l.id != launch),
        inFlight := s1.fe.inFlight.filter (fun x => x.launch != some launch) } }
  else s1

/-! ### Queue control and submission (R366, R371, R373, R374) -/

/-- QUEUE_ENABLE (R366): a disabled queue starts at slot 0. In recovery mode no queue operates (R378); a line that is held is waited
for. -/
def execQueueEnable (q : Nat) (s : State) : Result :=
  .next (if s.queueOn q ∨ s.fe.recovery ∨ s.queueHeld q then s else s.setQueue q 0 0 1)

/-- QUEUE_RESUME (R366, R371): ERR clears and the slot at HEAD is read again. -/
def execQueueResume (q : Nat) (s : State) : Result :=
  .next (if s.queueOn q ∧ s.fe.recovery = false ∧ s.queueHeld q = false then s.setQueue q (s.queueHead q) 0 1 else s)

/-- The writes the capture FIFO holds (R374). -/
def captureLimit : Nat := 1024

/-- SUBMISSION_WRITE (R373, R374): the write is stamped, and captured or dropped. In recovery mode the submission pages do not operate
(R378). -/
def execSubmissionWrite (q : Nat) (val : BitVec 64) (s : State) : Result :=
  .next (
    let fe := s.fe
    if fe.recovery then s
    else if captureLimit ≤ fe.capture.length then
      { s with fe := { fe with capSeq := fe.capSeq + 1, drops := min (fe.drops + 1) (2 ^ 32 - 1) } }
    else { s with fe := { fe with capSeq := fe.capSeq + 1, capture := fe.capture ++ [(fe.capSeq.toNat, q, val)] } })

/-! ### Takeovers and live update (R375 to R377) -/

/-- The standby complex takes over (R376): it imports the committed state table and goes on at CAPCONS + 1. During an update it runs
the new image, whose version and table format are free (log 9), and the update is over (R377). -/
def State.takeOver (s : State) : State :=
  let f := s.fe
  let t := f.table
  let word (n : Nat) (old : W32) : W32 := if f.updating then (Config.freeWord (s.tick + n)).truncate 32 else old
  let s1 : State := { s with
    tick := s.tick + 2,
    fe := { f with
      active := 1 - f.active, standby := false, updating := false, upderr := if f.updating then 0 else f.upderr,
      fwver := word 0 f.fwver, format := word 1 f.format, capCons := t.capCons, hints := t.hints,
      capture := f.capture.filter (fun e => decide (t.capCons.toNat < e.1)) } }
  if s1.fe.runEntry = t.runEntry then s1 else s1.beginTurn t.runEntry

/-- UPDATE (R377): the standby boots the staged image. -/
def execUpdate (s : State) : Result :=
  .next (if s.fe.recovery ∨ s.fe.updating then s else { s with fe := { s.fe with updating := true, standby := false } })

/-- The result of booting and verifying a firmware image, as the format of R6 decides: 0 or a code of UPDERR (log 9). -/
def State.bootResult (s : State) : Nat := Config.freeNat s.tick % 4

/-- STANDBY_IMPORT (R375, R377): the standby has booted and imports the committed table, once; during an update its image may
fail, which ends the update. -/
def execStandbyImport (s : State) : Result :=
  .next (
    if s.fe.recovery ∨ s.fe.standby then s
    else if s.fe.updating then
      let r := s.bootResult
      { s with
        fe := { s.fe with standby := r == 0, updating := r == 0, upderr := r },
        runDigest := if r = 0 then tabSet s.runDigest (1 - s.fe.active) (Config.imageDigest s.tick) else s.runDigest }.draw
    else
      { s with
        fe := { s.fe with standby := true },
        runDigest := tabSet s.runDigest (1 - s.fe.active) (tabGet 0 s.runDigest s.fe.active) })

/-- UPDATE_TAKEOVER (R377): the new image takes over, and the update is over. -/
def execUpdateTakeover (s : State) : Result := .next (if s.fe.updating ∧ s.fe.standby then s.takeOver else s)

/-- FAILOVER (R376): ignored during an update (R377), and without effect while no standby is ready. -/
def execFailover (s : State) : Result := .next (if s.fe.updating ∨ s.fe.standby = false then s else s.takeOver)

/-- WATCHDOG_TAKEOVER (R376): the active complex missed its watchdog for 10 ms, which is an error of that complex (R431). A standby that
has verified a new image ends its update with the takeover. -/
def execWatchdogTakeover (s : State) : Result :=
  .next (
    if s.fe.recovery then s
    else
      let s1 := ({ s with time := s.time + 10000000 } : State).logError 9 s.fe.active 2 (if s.fe.standby then 3 else 0) 0 0
      if s.fe.standby then s1.takeOver else s1)

end Sys2Proof.Machine
end

