-- ==== Sys2Proof/Machine/Retire.lean ====
section
/-! DEFINITION. Barriers' phases (R333, R336), and the end of a team and of a block (R41, R344). -/

namespace Sys2Proof.Machine

/-! ### Groups of blocks, resident or saved -/

/-- Two blocks belong to one gang-shaped group, or are one block (R27). -/
def Block.groupWith (a b : Block) : Bool :=
  a.launch == b.launch && a.linear + b.rank == b.linear + a.rank

/-- Every block of b's group changes, resident or saved. -/
def State.mapGroup (s : State) (b : Block) (f : Block → Block) : State :=
  { s with
    cores := s.cores.map (fun k =>
      (k.1, { k.2 with blocks := k.2.blocks.map (fun e => if e.2.groupWith b then (e.1, f e.2) else e) })),
    saved := s.saved.map (fun x => if x.blk.groupWith b then { x with blk := f x.blk } else x) }

/-- The blocks of b's group with their live teams (R335), resident or saved. -/
def State.groupTeams (s : State) (b : Block) : List (Block × Tab Team) :=
  s.cores.flatMap (fun k => (k.2.blocks.filter (fun e => e.2.groupWith b)).map (fun e => (e.2, k.2.teamsOf e.2.uid))) ++
    (s.saved.filter (fun x => x.blk.groupWith b)).map (fun x => (x.blk, x.teams))

/-- The barrier is shared by the group: written with gang scope, and g > 1 (R333, R334). -/
def Block.gangScope (b : Block) (gang : Bool) : Bool := gang && decide (1 < b.gang)

/-- Barrier slot n of a block. -/
def Block.barrier (b : Block) (n : Nat) : Option Barrier := b.barriers[n]?

/-- The block with barrier slot n changed. -/
def Block.modBarrier (b : Block) (n : Nat) (f : Barrier → Barrier) : Block :=
  { b with barriers := b.barriers.modify n f }

/-- Barrier n of a block, or of all blocks of its group, changes. -/
def State.modBarrier (s : State) (b : Block) (n : Nat) (gang : Bool) (f : Barrier → Barrier) : State :=
  s.mapGroup b (fun x => if gang || x.uid == b.uid then x.modBarrier n f else x)

/-- The MASK bit of a team index (R333). -/
def Barrier.has (x : Barrier) (tindex : Nat) : Bool := x.mask.getLsbD tindex

/-- The condition of R336 holds for barrier n of a block. -/
def State.phaseDone (s : State) (b : Block) (n : Nat) (x : Barrier) : Bool :=
  x.isOpen &&
    (if x.expect = 0 then
      (s.groupTeams b).all (fun m =>
        !(x.gang || m.1.uid == b.uid) ||
          m.2.all (fun e => ((m.1.barrier n).map (fun y => y.has e.2.tindex)).getD false))
     else decide (x.expect ≤ x.arrived))

/-- Evaluate the completion of barrier n of a block (R336). -/
def State.evalBarrier (s : State) (b : Block) (n : Nat) : State :=
  match (s.blockByUid b.uid).bind (fun b => b.barrier n) with
  | none => s
  | some x =>
    if s.phaseDone b n x then
      s.modBarrier b n x.gang (fun y => { y with phase := y.phase + 1, mask := 0, arrived := 0, isOpen := false })
    else s

/-- Evaluate every barrier of a block and of its group. -/
def State.evalBarriers (s : State) (b : Block) : State :=
  (s.groupTeams b).foldl (fun s m => (List.range m.1.barriers.length).foldl (fun s n => s.evalBarrier m.1 n) s) s

/-! ### The end of a team (R336, R344, R411) and of a block (R41) -/

/-- A team's MASK bits clear in every barrier of its block (R336). -/
def State.clearArrivals (s : State) (t : Team) : State :=
  match s.blockByUid t.blk with
  | none => s
  | some b =>
    s.mapGroup b (fun x =>
      if x.uid = b.uid then
        { x with barriers := x.barriers.map (fun y => { y with mask := y.mask &&& ~~~ (BitVec.ofNat 31 (2 ^ t.tindex)) }) }
      else x)

/-- A resident block goes: its scratchpad, entries, barriers and place are free (R41). -/
def State.freeBlock (s : State) (c pl : Nat) (b : Block) : State :=
  let k := s.core c
  s.setCore c { k with
    blocks := tabErase k.blocks pl,
    tiles := k.tiles.filter (fun e => !(b.accList ++ b.stList).contains e.1),
    ops := k.ops.filter (fun o => o.blk != b.uid),
    copies := k.copies.filter (fun y => y.blk != b.uid) }

/-- What a team leaves behind goes with it: its requests, copies and operations. -/
def State.dropWork (s : State) (uid : Nat) : State :=
  { s with
    lockReqs := s.lockReqs.filter (fun q => q.team != uid),
    cores := s.cores.map (fun k =>
      (k.1, { k.2 with copies := k.2.copies.filter (fun y => y.team != uid), ops := k.2.ops.filter (fun o => o.team != uid) })) }

/-- The team in a slot ends: its place in a lock's queue goes (log 107), its barriers' bits clear and the phases are evaluated, its slot and
registers are free, and
with the last team of its block the block goes (R41, R336). -/
def State.endTeam (s : State) (p : Nat × Nat) (t : Team) : State :=
  match s.blockOf p.1 t with
  | none => s
  | some b =>
    let s1 := ((s.forgetLock t.uid t.wait).clearArrivals t).dropWork t.uid
    let k := s1.core p.1
    let s2 := s1.setCore p.1 { k with teams := tabErase k.teams p.2 }
    let s3 := s2.evalBarriers b
    if ((s3.core p.1).teamsOf b.uid).isEmpty then (s3.freeBlock p.1 t.place b).blockGone b.launch b.uid else s3

/-- A saved team ends; with the last one its block's slot is free (R411). -/
def State.endSaved (s : State) (uid : Nat) : State :=
  match s.saved.find? (fun x => x.teams.any (fun e => e.2.uid == uid)) with
  | none => s
  | some x =>
    match x.teams.find? (fun e => e.2.uid == uid) with
    | none => s
    | some e =>
      let s1 := (s.clearArrivals e.2).dropWork uid
      let left := x.teams.filter (fun e => e.2.uid != uid)
      let s2 := { s1 with saved := s1.saved.map (fun (y : Saved) =>
        if y.blk.uid = x.blk.uid then
          { y with teams := left, ops := y.ops.filter (fun o => o.team != uid), copies := y.copies.filter (fun o => o.team != uid) }
        else y) }
      let s3 := s2.evalBarriers x.blk
      if left.isEmpty then
        ({ s3 with saved := s3.saved.filter (fun y => y.blk.uid != x.blk.uid) } : State).blockGone x.blk.launch x.blk.uid
      else s3

end Sys2Proof.Machine
end

