-- ==== Sys2Proof/Machine/Barrier.lean ====
section
/-! DEFINITION. The barrier instructions (R331 to R337). -/

namespace Sys2Proof.Machine

/-- The scope of a barrier instruction as an ordering scope. -/
def barScope (gang : Bool) : Scope := if gang then .gang else .blk

/-- The acquire of a barrier (R97, R335): in a block the teams share their core's logical time. -/
def State.barAcquire (s : State) (gang : Bool) : State := if gang then s.acquireAll else s.acquire

/-- `F.REG` of a barrier (R334). -/
def State.barFault (s : State) (t : Team) (sub n : Nat) : State := s.onceFault t 0x03 sub (BitVec.ofNat 64 n)

/-- Slot n of some block of the group is open at another scope (R334): the barrier of a gang scope is slot n of every block of the
group, so a phase that a member opened at block scope stands in its way. -/
def State.otherScope (s : State) (b : Block) (n : Nat) (gang : Bool) : Bool :=
  (s.groupTeams b).any (fun m =>
    (gang || m.1.uid == b.uid) && ((m.1.barrier n).map (fun y => y.isOpen && y.gang != gang)).getD false)

/-- The checks of R334, in their order. `expect` is none for `bwait`. -/
def State.barBad (s : State) (b : Block) (n : Nat) (gang : Bool) (expect : Option Nat) : Option Nat :=
  match b.barrier n with
  | none => some 0x10
  | some x =>
    let teams := b.teamCount * (if gang then b.gang else 1)
    if expect.any (fun e => decide (teams < e)) then some 0x11
    else if s.otherScope b n gang || (x.isOpen && expect.any (fun e => e != x.expect)) then some 0x12
    else none

/-- A barrier instruction on its block, after the checks of R334. -/
def State.barOp (s : State) (n : Nat) (gang : Bool) (expect : Option Nat) (k : State → Team → Block → Bool → Barrier → State) :
    Result :=
  .next (s.once false .any (fun t =>
    match s.blockOf s.cur.1 t with
    | none => s.barFault t 0x10 n
    | some b =>
      let g := b.gangScope gang
      match s.barBad b n g expect, b.barrier n with
      | none, some x => k s t b g x
      | r, _ => s.barFault t (r.getD 0x10) n))

/-- The wait of a barrier instruction that has not recorded a phase. -/
def State.barWait (s : State) (t : Team) (n : Nat) (gang : Bool) (p1 : List W64) : State :=
  s.waitWith t { WaitRec.idle with kind := 2, scope := (barScope gang).code, param := n, p1 := p1 }

/-- A barrier instruction other than `bar` completes: it replaces the record of an interrupted `bar` (R337), and neither a kept ticket,
which only a wait replaces (R307), nor the record of an `llock`, which keeps its place (R185). -/
def Team.barDone (t : Team) : Team := if t.wait.kind = 10 ∨ t.wait.kind = 3 then t else { t with wait := .idle }

/-- PHASE of a phase that opens (R333): in a gang scope that of the group, the largest its members count (log 94). -/
def State.groupPhase (s : State) (b : Block) (n : Nat) (gang : Bool) (x : Barrier) : W32 :=
  if gang then
    BitVec.ofNat 32 (((s.groupTeams b).map (fun m => ((m.1.barrier n).map (fun y => y.phase.toNat)).getD 0)).foldl max x.phase.toNat)
  else x.phase

/-- The arrival of R335 in one step: the phase opens, the MASK bit is set, and completion is evaluated. The phase it arrived in
comes with it. -/
def State.arriveAt (s : State) (t : Team) (b : Block) (n : Nat) (gang : Bool) (expect : Nat) (x : Barrier) : W32 × State :=
  let p := if x.isOpen then x.phase else s.groupPhase b n gang x
  let s1 := s.modBarrier b n gang (fun x =>
    let y := if x.isOpen then x else { x with isOpen := true, gang := gang, expect := expect, phase := p }
    { y with arrived := y.arrived + 1 })
  let s2 := s1.modBarrier b n false (fun x => { x with mask := x.mask ||| BitVec.ofNat 31 (2 ^ t.tindex) })
  (p, s2.evalBarrier b n)

/-- `arrive` (R335). -/
def execArrive (n : Nat) (gang : Bool) (expect : Nat) (s : State) : Result :=
  s.barOp n gang (some expect) (fun s t b g x =>
    if x.has t.tindex then s.barWait t n g []
    else
      s.afterStores (barScope g) false allStores (fun s t =>
        ((s.arriveAt t b n g expect x).2).completeWith Team.barDone))

/-- The wait of `bar` for a phase to pass (R335). -/
def State.barAwait (s : State) (t : Team) (n : Nat) (gang : Bool) (p : W32) : State :=
  let now := (((s.blockOf s.cur.1 t).bind (fun b => b.barrier n)).map (·.phase)).getD p
  if now = p then
    s.waitWith t { WaitRec.idle with
      kind := 2, scope := (barScope gang).code, param := n, object := p.setWidth 64, p1 := t.key s.latch.start }
  else ((s.forgetLock t.uid t.wait).barAcquire gang).completeWith (fun t => { t with wait := .idle })

/-- The gang scope of a barrier instruction of a team. -/
def State.barGang (s : State) (t : Team) (gang : Bool) : Bool :=
  ((s.blockOf s.cur.1 t).map (fun b => b.gangScope gang)).getD false

/-- The instruction of the issuing unit re-executes in the barrier wait it began, which `p1` names. One that a signal return marked done
does not execute (R190). -/
def Team.barAgain (t : Team) (n : Nat) (p1 : List W64) : Bool :=
  t.wait.kind == 2 && t.wait.param == n && t.wait.p1 == p1 && !t.markedOnce

/-- `bar` (R335, R337): a re-execution does not arrive again. -/
def execBar (n : Nat) (gang : Bool) (expect : Nat) (s : State) : Result :=
  match s.team? s.cur with
  | some t =>
    if t.barAgain n (t.key s.latch.start) then .next (s.barAwait t n (s.barGang t gang) (t.wait.object.setWidth 32))
    else
      s.barOp n gang (some expect) (fun s t b g x =>
        if x.has t.tindex then s.barWait t n g []
        else
          s.afterStores (barScope g) false allStores (fun s t =>
            let (p, s1) := s.arriveAt t b n g expect x
            match s1.team? s1.cur with
            | some t => s1.barAwait t n g p
            | none => s1))
  | none => .next s

/-- `bwait` on a barrier (R335): it completes once the team's MASK bit is clear. -/
def State.bwaitAt (s : State) (t : Team) (n : Nat) (gang : Bool) (x : Barrier) : State :=
  if x.has t.tindex then s.barWait t n gang (t.key s.latch.start ++ [0])
  else (s.barAcquire gang).completeWith Team.barDone

/-- `bwait` (R335): the checks of R334 come before the wait, and a wait that has begun ends with its phase. -/
def execBwait (n : Nat) (gang : Bool) (s : State) : Result :=
  match s.team? s.cur with
  | some t =>
    match t.barAgain n (t.key s.latch.start ++ [0]), (s.blockOf s.cur.1 t).bind (fun b => b.barrier n) with
    | true, some x => .next (s.bwaitAt t n (s.barGang t gang) x)
    | _, _ => s.barOp n gang none (fun s t _ g x => s.bwaitAt t n g x)
  | none => .next s

end Sys2Proof.Machine
end

