-- ==== Sys2Proof/Machine/Grace.lean ====
section
/-! DEFINITION. The grace-period tracker (spec/06, R126 to R142, R311). -/

namespace Sys2Proof.Machine

/-- The state with a process record. -/
def State.setProc (s : State) (i : Nat) (p : GraceProc) : State := { s with procs := tabSet s.procs i p }

/-- The context whose record a team uses: its block's, or 4,095 for the supervisor (R398). -/
def State.procOf (s : State) (p : Nat × Nat) (t : Team) : Nat := (s.agentOf p t).ctx

/-! ### The completed generation (R132) -/

/-- The smallest of some generations. -/
def minGen (l : List Nat) : Option Nat := l.foldl (fun r x => some (match r with | none => x | some y => min x y)) none

/-- The completed generation (R132). -/
def State.completedNow (s : State) (ctx : Nat) : Nat :=
  let p := s.proc ctx
  let low := minGen ((s.trackedTeams ctx).map (fun e => e.1.qsGen.toNat) ++ p.pairs.map (fun e => e.1.toNat))
  match low with
  | none => p.gen.toNat
  | some g => min p.gen.toNat g

/-! ### The swapped-team list (R133, R134) -/

/-- Insert a generation in ascending order, counting one team. -/
def pairAdd (g : W64) (l : List (W64 × Nat)) : List (W64 × Nat) :=
  match l with
  | [] => [(g, 1)]
  | (h, n) :: t => if h = g then (h, n + 1) :: t else if g.toNat < h.toNat then (g, 1) :: (h, n) :: t else (h, n) :: pairAdd g t

/-- Merge the two largest pairs of an ascending list (R134). -/
def pairMerge (l : List (W64 × Nat)) : List (W64 × Nat) :=
  match l with
  | [a, b] => [(a.1, a.2 + b.2)]
  | a :: t => a :: pairMerge t
  | [] => []

/-- Enter a swapped team's generation (R133, R134). -/
def State.swapEnter (s : State) (ctx : Nat) (t : Team) : State :=
  if t.tracked then
    let p := s.proc ctx
    let l := pairAdd t.qsGen p.pairs
    if 256 < l.length then
      { s.setProc ctx { p with pairs := pairMerge l } with qscCounts := (s.qscCounts.1, satAdd1 s.qscCounts.2) }
    else s.setProc ctx { p with pairs := l }
  else s

/-- Take one team from the pair with the largest generation that is at most g. -/
def pairDrop (g : W64) (l : List (W64 × Nat)) : List (W64 × Nat) :=
  match (l.filter (fun e => decide (e.1.toNat ≤ g.toNat))).getLast? with
  | none => l
  | some e => (l.map (fun x => if x.1 = e.1 then (x.1, x.2 - 1) else x)).filter (fun x => x.2 != 0)

/-- Remove a readmitted or destroyed team's entry (R133, R134). -/
def State.swapLeave (s : State) (ctx : Nat) (t : Team) : State :=
  if t.tracked then
    let p := s.proc ctx
    s.setProc ctx { p with pairs := pairDrop t.qsGen p.pairs }
  else s

/-! ### The instructions (R128 to R131, R135 to R137, R311) -/

/-- The release at device scope of a grace-period instruction, then `k`. -/
def State.graceOp (s : State) (rel : Bool) (k : State → Team → Nat → GraceProc → State) : Result :=
  .next (s.once false .any (fun t =>
    s.releaseFirst rel .dev false t (fun s t =>
      let c := s.procOf s.cur t
      k s t c (s.proc c))))

/-- `qpass` (R128, R130). While it waits for its stores its quiescent point is in flight (R142). -/
def execQpass (s : State) : Result :=
  .next (s.once false .any (fun t =>
    (s.setTeam s.cur { t with qsDue := true }).afterStores .dev false allStores (fun s t =>
      s.acquireAll.completeWith (fun u => { u with qsGen := (s.proc (s.procOf s.cur t)).gen, qsDue := false }))))
/-- `qidle` (R129). A team that holds no references stays untracked whatever its bit says; the model leaves the bit clear (DESIGN
CHOICE, log 91). -/
def execQidle (s : State) : Result :=
  s.graceOp true (fun s _ _ _ => s.completeWith (fun t => { t with extQuiet := t.extQuiet || !t.noRefs }))
/-- `qwake` (R129, R130). -/
def execQwake (s : State) : Result :=
  s.graceOp false (fun s _ _ p => s.acquireAll.completeWith (fun t => { t with extQuiet := false, qsGen := p.gen }))
/-- `gpstart` (R131). -/
def execGpstart (d : Nat) (s : State) : Result :=
  s.graceOp true (fun s _ c p => (s.setProc c { p with gen := p.gen + 1 }).completeWith (fun t => t.setS d (p.gen + 1)))
/-- The team stands in a grace-period wait of a kind that nothing has interrupted since it began: `p1` holds its PC. -/
def WaitRec.stands (w : WaitRec) (kind : Nat) (pc : W57) : Bool := w.kind == kind && w.p1 == [wide pc]

/-- `gpwait` (R135, R136): the quiescent point is passed when the wait begins, and again on a resume (R128, R311). -/
def execGpwait (d a : Nat) (s : State) : Result :=
  s.graceOp false (fun s t _ p =>
    let g := t.s a
    if p.gen.toNat < g.toNat then s.completeWith (fun t => t.setS d 1)
    else
      let t1 := if t.wait.stands 8 s.latch.start then t else { t with qsGen := p.gen }
      if g.toNat ≤ p.completed.toNat then (s.setTeam s.cur t1).acquireAll.completeWith (fun t => t.setS d 0)
      else s.waitWith t1 { WaitRec.idle with kind := 8, object := g, p1 := [wide s.latch.start] })
/-- `dfree` (R137): waits while the ring is full, passing a quiescent point as the wait begins (R128). -/
def execDfree (d a b : Nat) (s : State) : Result :=
  s.graceOp true (fun s t c p =>
    if 65536 ≤ p.deferred.length then
      s.waitWith (if t.wait.kind = 9 then t else { t with qsGen := p.gen })
        { WaitRec.idle with kind := 9, p1 := [wide s.latch.start] }
    else
      let e : Deferred :=
        { addr := t.s d, len := (t.s a).truncate 32, tag := (t.s a).extractLsb' 32 32, ticket := t.s b, since := s.time }
      (s.setProc c { p with deferred := p.deferred ++ [e] }).completeWith (fun t => t))

/-! ### Steps of the unit -/

/-- A context whose entry is no longer valid has no process record (R126, R391): the next process there starts from a new one. -/
def State.dropContexts (s : State) : State :=
  { s with procs := s.procs.filter (fun e => e.1 == 4095 || s.ctxValid e.1) }

/-- GRACE_RECOMPUTE (R132): C takes its value; the waits it meets are met, and saved blocks with one are queued for
readmission (R55). The stall reports of the next generation begin anew (R139). -/
def execGraceRecompute (p : Nat) (s : State) : Result :=
  .next (
    let g := s.proc p
    let c := max g.completed.toNat (s.completedNow p)
    let s1 := s.setProc p { g with completed := BitVec.ofNat 64 c, stallAt := if c = g.completed.toNat then g.stallAt else 0 }
    s1.queueSaved (fun b t => b.ctx == p && t.wait.kind == 8 && decide (t.wait.object.toNat ≤ c)))

/-- The freeable ring of a context: its virtual base and its k (R391). A k outside 10 to 20 counts as the nearer of the two (DESIGN
CHOICE, log 71). -/
def State.freeRing (s : State) (ctx : Nat) : Nat × Nat :=
  let w := s.ctxWord ctx 2
  (w / 2 ^ 6 % 2 ^ 51 * 2 ^ 6, max 10 (min 20 (w % 32)))

/-- The unit as an agent of a context (R140). -/
def State.graceAgent (s : State) (ctx : Nat) : Agent := unitAgent 0 (s.ctxPasid ctx) ctx none

/-- A ring access faulted: the unit stops and posts FREEFAULT (R140, R405). One that waits leaves the unit as it is (R85). The rule
names faults of writes; a read of TAIL or HEAD that faults ends the same way (DESIGN CHOICE, log 92). -/
def State.freeFault (s : State) (ctx : Nat) (f : LaneFault) : State :=
  if f.held then s
  else (s.setProc ctx { s.proc ctx with stopped := true }).post 4 0 true
    [BitVec.ofNat 64 (s.ctxPasid ctx), BitVec.ofNat 64 f.code, f.addr]

/-- DEFERRED_MOVE: the head entry moves to the freeable ring (R138, R140); the room meets the wait of a saved `dfree`
(R55, R137). -/
def execDeferredMove (p : Nat) (s : State) : Result :=
  .next (
    let g := s.proc p
    match g.deferred with
    | [] => s
    | e :: rest =>
      if g.stopped ∨ g.completed.toNat < e.ticket.toNat then s
      else
        let a := s.graceAgent p
        let (base, k) := s.freeRing p
        let va : W64 := wide (BitVec.ofNat 57 base)
        match s.unitRead a va 8 with
        | (.error f, s1) => s1.freeFault p f
        | (.ok tail, s1) =>
          if 2 ^ k ≤ (tail + 2 ^ 64 - g.headSeen) % 2 ^ 64 then s1
          else
            let at_ := va + BitVec.ofNat 64 (0x40 + tail % 2 ^ k * 32)
            match s1.unitWords a at_ [e.addr.toNat, e.tag.toNat * 2 ^ 32 + e.len.toNat, e.ticket.toNat, g.completed.toNat] with
            | (.error f, s2) => s2.freeFault p f
            | (.ok _, s2) =>
              match s2.unitWrite a va 8 ((tail + 1) % 2 ^ 64) with
              | (.error f, s3) => s3.freeFault p f
              | (.ok _, s3) =>
                (s3.setProc p { s3.proc p with deferred := rest }).queueSaved (fun b t => b.ctx == p && t.wait.kind == 9))

/-- HEAD_POLL: while the head entry's ticket is complete and the ring is full as far as the unit knows, it reads HEAD (R138). -/
def execHeadPoll (p : Nat) (s : State) : Result :=
  .next (
    let g := s.proc p
    let a := s.graceAgent p
    let (base, k) := s.freeRing p
    let va : W64 := wide (BitVec.ofNat 57 base)
    match g.deferred with
    | [] => s
    | e :: _ =>
      if g.stopped ∨ g.completed.toNat < e.ticket.toNat then s
      else
        match s.unitRead a va 8 with
        | (.error f, s1) => s1.freeFault p f
        | (.ok tail, s1) =>
          if (tail + 2 ^ 64 - g.headSeen) % 2 ^ 64 < 2 ^ k then s1
          else
            match s1.unitRead a (va + 8) 8 with
            | (.ok h, s2) => s2.setProc p { s2.proc p with headSeen := h }
            | (.error f, s2) => s2.freeFault p f)

/-- QSC_RESUME (R140, R141). -/
def execQscResume (s : State) : Result :=
  .next (s.setProc s.qscProc { s.proc s.qscProc with stopped := false })

/-- The order of the teams of a stall report (R139). -/
def stallKey (e : Team × Block) : Nat :=
  ((e.1.qsGen.toNat * 2 ^ 16 + e.2.launchNo) * 2 ^ 48 + e.2.linear) * 32 + e.1.tindex

/-- The report words of a stalled generation (R406). -/
def State.stallWords (s : State) (ctx g : Nat) : List W64 :=
  let bl := (sortByKey stallKey ((s.trackedTeams ctx ++ s.trackedSaved ctx).filter (fun e => decide (e.1.qsGen.toNat < g)))).take 16
  let w (n : Nat) := BitVec.ofNat 64 n
  [w (2 ^ 63 + s.ctxPasid ctx * 2 ^ 16 + bl.length * 2 ^ 8 + 2), w (s.seq + 1), w g, 0] ++
    bl.flatMap (fun e => [identWord e.1 (some e.2), w (e.2.launchNo * 2 ^ 48 + e.1.qsGen.toNat % 2 ^ 48)])

/-- A team waits for generation g or a later one (R139). A team that waits in `dfree` waits for the generation of the head entry, which
must leave first (DEDUCED, log 93). -/
def waitsFor (p : GraceProc) (g : Nat) (t : Team) : Bool :=
  (t.wait.kind == 8 && decide (g ≤ t.wait.object.toNat)) ||
    (t.wait.kind == 9 && (match p.deferred with | e :: _ => decide (g ≤ e.ticket.toNat) | [] => false))

/-- GRACE_STALL_REPORT (R139): generation C + 1 has not completed within the threshold and a team waits for it or for a later one. It is
complete as soon as every tracked team has passed it (R132), though C is recomputed later. -/
def execGraceStallReport (p : Nat) (s : State) : Result :=
  .next (
    let q := s.proc p
    let g := q.completed.toNat + 1
    let res := s.cores.flatMap (fun k => k.2.teams.filterMap (fun e =>
      if e.1 ≠ 0 ∧ ((tabGet? k.2.blocks e.2.place).map (·.ctx)) = some p ∧ waitsFor q g e.2 then some (k.1, e.2) else none))
    let sav := s.saved.flatMap (fun b => if b.blk.ctx = p then (b.teams.map (·.2)).filter (waitsFor q g) else [])
    if g ≤ s.completedNow p ∨ (res.isEmpty ∧ sav.isEmpty) then s
    else
      let head := match q.deferred with | e :: _ => if g ≤ e.ticket.toNat then [e.since] else [] | [] => []
      let since := (minGen (res.map (fun e => e.2.wait.since) ++ sav.map (fun t => t.wait.since) ++ head)).getD 0
      let due := max since q.stallAt + s.qscStall * 1000
      let s1 := { s with time := max s.time due, seq := s.seq + 1, qscCounts := (satAdd1 s.qscCounts.1, s.qscCounts.2) }
      let s2 := s1.setProc p { q with stallAt := s1.time }
      let ws := s.stallWords p g
      match sortByKey (fun e => e.2.wait.since) res with
      | e :: _ => s2.postReport e.1 ws
      | [] => s2.post 3 0 true (ws.take 4))

end Sys2Proof.Machine
end

