-- ==== Sys2Proof/Machine/System.lean ====
section
/-! DEFINITION. `trap`, `brk`, `halt`, `nop`, `sigret`, the system registers, and the supervisor's instructions
(R338 to R346). -/

namespace Sys2Proof.Machine

/-! ### `trap`, `brk` and `nop` (R338, R345) -/

/-- The unit completes, then the team parks with a team fault at the next unit (R175, R338). -/
def State.completeThenFault (s : State) (t : Team) (f : FaultInfo) : State :=
  let r := if s.latch.stuffed then (t.pc, t.loops) else loopEnd s.latch.start s.latch.next t.loops
  let t1 : Team := { t with done := 0, marked := none, heldSince := none, wait := t.wait.kept, rep := .idle, pc := r.1, loops := r.2 }
  s.takeFault s.cur t1 t1.pc f

/-- `trap` (R338): a release at system scope, then `F.SYS`; the resumption will be an acquire. -/
def execTrap (n : Nat) (s : State) : Result :=
  .next (s.once false .any (fun _ =>
    s.afterStores .sys false allStores (fun s t =>
      s.completeThenFault { t with trapped := true } (faultOf 0x30 0 (BitVec.ofNat 64 n) 1))))

/-- `brk` (R338). -/
def execBrk (n : Nat) (s : State) : Result :=
  .next (s.once false .any (fun t => s.completeThenFault t (faultOf 0x29 0 (BitVec.ofNat 64 n) 1)))

/-- `nop` (R345). -/
def execNop (s : State) : Result := .next (s.once false .any (fun t => s.complete t))

/-! ### `halt` (R344) -/

/-- The wait of `halt` for the team's operations and copies, which has no image in R444. -/
def haltKind : Nat := 14

/-- The team has an operation or a copy that is not complete. -/
def State.hasWork (s : State) (uid : Nat) : Bool :=
  s.cores.any (fun k => k.2.ops.any (fun o => o.team == uid) || k.2.copies.any (fun y => y.team == uid && !y.complete))

/-- `halt` (R344). -/
def execHalt (s : State) : Result :=
  .next (s.once false .any (fun t =>
    if s.cur.2 = 0 then
      let k := s.core s.cur.1
      ((s.setCore s.cur.1 { k with even := true }).completeWith (fun t => t)).modTeam s.cur
        (fun t => if t.parked then t else { t with halted := true })
    else if t.held ≠ [] then s.onceFault t 0x20 7 0
    else
      match s.reportDue t (fun _ _ => true) (fun y => !y.cancelled) with
      | some (s1, f) => s1.unitFault t f
      | none =>
        if s.hasWork t.uid then s.waitWith t { WaitRec.idle with kind := haltKind }
        else s.afterStores .pod false allStores (fun s t => s.endTeam s.cur t)))

/-! ### `sigret` (R188) -/

/-- What loading words answers. -/
inductive Loaded where
  | ok (ws : List Nat) (s : State)
  | fault (f : LaneFault) (s : State)
  | hold (h : Hold) (s : State)
  deriving DecidableEq, Repr

/-- Load n 64-bit words upward from an address through a team's translation; the team sees their stamps. -/
def State.loadWords (s : State) (a : Agent) (va : W64) : Nat → Loaded
  | 0 => .ok [] s
  | n + 1 =>
    match s.access a va 8 8 .load with
    | (.fault f, s1) => .fault f s1
    | (.hold h, s1) => .hold h s1
    | (.ok p, s1) =>
      let (v, w, s2) := s1.doLoad s.cur.1 (a.team.getD 0) p 8
      match (s2.sawStamp w).loadWords a (va + 8) n with
      | .ok ws s3 => .ok (v :: ws) s3
      | r => r

/-- The subcode FRAME of `F.PROT` at a frame address. -/
def State.frameFault (s : State) (t : Team) (f : W64) : State := s.onceFault t 0x09 0x000A f

/-- A frame is malformed (R188): an RSV field that is not zero, those of every loop entry among them, a depth above 4, or a PC
that cannot be. `w i` is word i. -/
def frameBad (w : Nat → Nat) : Bool :=
  fld (w 0) 56 8 != 0 || fld (w 0) 2 22 != 0 || fld (w 1) 56 8 != 0 || fld (w 1) 0 1 != 0 || fld (w 5) 5 27 != 0 ||
    repeatRsv (w 6) || fld (w 7) 3 61 != 0 || decide (4 < w 7 % 8) ||
    (List.range 4).any (fun i =>
      fld (w (8 + 3 * i)) 57 7 != 0 || fld (w (9 + 3 * i)) 57 7 != 0 || fld (w (10 + 3 * i)) 32 32 != 0) ||
    fld (w 20) 33 31 != 0 || fld (w 21) 6 58 != 0 || fld (w 22) 57 7 != 0 || w 23 != 0

/-- A 32-bit word of a frame at a byte offset. -/
def frameHalf (w : Nat → Nat) (off : Nat) : Nat := fld (w (off / 8)) (off % 8 * 8) 32

/-- The team as a frame restores it (R188). -/
def Team.ofFrame (t : Team) (w : Nat → Nat) : Team :=
  let W := t.words
  let t1 : Team := { t with
    pc := BitVec.ofNat 57 (w 1), fpmode := BitVec.ofNat 32 (fld (w 5) 32 32) &&& modeMask, sticky := BitVec.ofNat 5 (w 5),
    rep := RepeatState.ofWord (w 6), loops := loopsOf (w 7 % 8) (fun i => w (8 + i)), pvalue := BitVec.ofNat 64 (w 20),
    pwords := fld (w 21) 0 6, sigstk := BitVec.ofNat 57 (w 22) }
  let t2 := (List.range 64).foldl (fun t k => t.setS k (BitVec.ofNat 64 (w (24 + k)))) t1
  let t3 := t2.setM 0 (maskOfWords W (fun j => frameHalf w (0x2C0 + 4 * j)))
  let done := maskOfWords W (fun j => frameHalf w (0x340 + 4 * j))
  let mark := if w 0 % 2 = 1 then maskOfWords W (fun j => frameHalf w (0x3C0 + 4 * j)) else 0
  let marked := if w 0 % 2 = 1 then some (Mark.mk mark (fld (w 0) 40 8) (fld (w 0) 24 16)) else none
  let t4 : Team := { t3 with done := (done ||| mark) &&& t.allLanes, marked := marked }
  if t.role = .vector then
    (List.range t.lanes).foldl (fun t l =>
      (List.range 4).foldl (fun t b => t.setLatch b l (BitVec.ofNat 32 (frameHalf w (0x440 + 16 * l + 4 * b)))) t) t4
  else t4

/-- The 64-bit words of a frame that `sigret` reads: the latches are those of a vector-role team. -/
def Team.frameWords (t : Team) : Nat := 0x440 / 8 + (if t.role = .vector then 2 * t.lanes else 0)

/-- `sigret` (R188). -/
def execSigret (d : Nat) (s : State) : Result :=
  .next (s.once false .any (fun t =>
    let f := t.s d
    if f.toNat % 128 ≠ 0 then s.frameFault t f
    else
      match s.loadWords (s.agentOf s.cur t) f t.frameWords with
      | .fault e s1 => s1.onceFault t e.code e.sub e.addr
      | .hold h s1 => s1.holdTeam t h
      | .ok ws s1 =>
        let w (i : Nat) : Nat := (ws[i]?).getD 0
        if frameBad w then s1.frameFault t f
        else
          let s2 := s1.acquire
          match s2.team? s2.cur with
          | some t => s2.afterUnit ({ t with wait := t.wait.kept }.ofFrame w)
          | none => s2))

/-! ### The system registers (R339, R340) -/

/-- The system registers of R339. -/
inductive SysReg where
  | fpmode | sticky | place | launch | grid | clock | sigstk | evec | epc | ecause | svctl | rqcount
  deriving DecidableEq, Repr

/-- The register of a number (R339). -/
def SysReg.of (r : Nat) : Option SysReg :=
  match r with
  | 0x000 => some .fpmode | 0x001 => some .sticky | 0x002 => some .place | 0x003 => some .launch
  | 0x004 => some .grid | 0x005 => some .clock | 0x006 => some .sigstk | 0x100 => some .evec
  | 0x101 => some .epc | 0x102 => some .ecause | 0x103 => some .svctl | 0x104 => some .rqcount
  | _ => none

/-- The privileged registers (R339). -/
def SysReg.priv : SysReg → Bool
  | .evec | .epc | .ecause | .svctl | .rqcount => true
  | _ => false

/-- `sys.place` (R339). -/
def placeReg (p : Nat × Nat) : Nat :=
  stackGroupOf p.1 * 2 ^ 20 + gangOf p.1 * 2 ^ 15 + dieOf p.1 * 2 ^ 13 + p.2 * 2 ^ 8 + p.1

/-- The value of a system register, with the state after the read: the clock may have advanced. -/
def State.sysRead (s : State) (t : Team) (r : SysReg) : W64 × State :=
  let w (n : Nat) : W64 := BitVec.ofNat 64 n
  let b := s.blockOf s.cur.1 t
  let k := s.core s.cur.1
  match r with
  | .fpmode => (t.fpmode.setWidth 64, s)
  | .sticky => (t.sticky.setWidth 64, s)
  | .place => (w (placeReg s.cur), s)
  | .launch => (w (pasidOf b * 2 ^ 16 + (b.map (·.launchNo)).getD 0), s)
  | .grid => (match b with
      | none => 0
      | some b => w (b.gang * 2 ^ 48 + b.gz * 2 ^ 32 + b.gy * 2 ^ 16 + b.gx), s)
  | .clock => let (x, s1) := s.readClock; (w x, s1)
  | .sigstk => (t.sigstk.setWidth 64, s)
  | .evec => (k.evec, s)
  | .epc => (k.epc, s)
  | .ecause => (w k.ecause, s)
  | .svctl => (w (bit k.even), s)
  | .rqcount => (w k.replay.length, s)

/-- A write of a system register: RSV bits are dropped and RO registers keep their value (R12, R339). -/
def State.sysWrite (s : State) (t : Team) (r : SysReg) (x : W64) : State × Team :=
  let k := s.core s.cur.1
  match r with
  | .fpmode => (s, { t with fpmode := x.setWidth 32 &&& modeMask })
  | .sticky => (s, { t with sticky := x.setWidth 5 })
  | .sigstk => (s, { t with sigstk := x.setWidth 57 })
  | .evec => (s.setCore s.cur.1 { k with evec := x }, t)
  | .epc => (s.setCore s.cur.1 { k with epc := x }, t)
  | .svctl => (s.setCore s.cur.1 { k with even := x.getLsbD 0 }, t)
  | .place | .launch | .grid | .clock | .ecause | .rqcount => (s, t)

/-- The checks of R339, then the access. -/
def State.sysOp (s : State) (r : Nat) (k : Team → SysReg → State) : Result :=
  .next (s.once false .any (fun t =>
    match SysReg.of r with
    | none => let f := faultOf 0x01 1 0 (unknownMask t); if t.excused f then s.complete t else s.unitFault t f
    | some x => if x.priv ∧ s.cur.2 ≠ 0 then s.onceFault t 0x02 0 0 else k t x))

/-- `sysrd` (R340). -/
def execSysrd (d r : Nat) (s : State) : Result :=
  s.sysOp r (fun t x =>
    let (v, s1) := s.sysRead t x
    s1.complete (t.setS d v))

/-- A read-modify-write of a system register (R340). -/
def State.sysModify (s : State) (d r : Nat) (f : W64 → W64 → W64) : Result :=
  s.sysOp r (fun t x =>
    let old := if x = .clock then 0 else (s.sysRead t x).1
    let (s1, t1) := s.sysWrite t x (f old (t.s d))
    s1.complete t1)

/-- `syswr` (R340). -/
def execSyswr (d r : Nat) (s : State) : Result := s.sysModify d r (fun _ a => a)
/-- `syswr.set` (R340). -/
def execSyswrSet (d r : Nat) (s : State) : Result := s.sysModify d r (fun x a => x ||| a)
/-- `syswr.clr` (R340). -/
def execSyswrClr (d r : Nat) (s : State) : Result := s.sysModify d r (fun x a => x &&& ~~~a)

/-! ### `eret`, `park` and `resume` (R341 to R343) -/

/-- `eret` (R341). -/
def execEret (s : State) : Result :=
  .next (s.once true .any (fun t =>
    let k := s.core s.cur.1
    let ok := canonical k.epc && !k.epc.getLsbD 0
    (if ok then s.setCore s.cur.1 { k with even := true } else s).transferChecked t k.epc true t.loops))

/-- `F.PROT` HANDLE (R342). -/
def State.handleFault (s : State) (t : Team) (h : W64) : State := s.onceFault t 0x09 0x000B h

/-- A handle that faults (R342): KIND 2 or 3, KIND 1 where it is not taken, or slot 0. -/
def handleBad (h : W64) (kind1 : Bool) : Bool :=
  decide (2 ≤ handleKind h) || (decide (handleKind h = 1) && !kind1) || (decide (handleKind h = 0) && decide (h.toNat % 32 = 0))

/-- A running team parks with a record of code 0 (R343). The spec gives such a record no lane mask (log 4). -/
def State.parkTeam (s : State) (p : Nat × Nat) : State :=
  match s.team? p with
  | none => s
  | some t =>
    if t.parked ∨ t.halted ∨ (({ t with yielded := false } : Team).canIssue (s.blockOf p.1 t)) = false then s
    else
      let t1 : Team := { t with wait := t.wait.interrupted, hold := none, yielded := false }
      s.draw.takeFault p t1 t1.pc (faultOf 0 0 0 (BitVec.ofNat 1024 (Config.freeNat s.tick)))

/-- `park` (R343). -/
def execPark (d : Nat) (s : State) : Result :=
  .next (s.once true .any (fun t =>
    let h := t.s d
    if handleBad h false then s.handleFault t h
    else (s.parkTeam (s.cur.1, h.toNat % 32)).completeWith (fun t => t)))

/-- A parked team, wherever it stands, lets go of its record and runs from its saved PC; its deferred faults restart, and a
saved team's block is queued for readmission (R55, R343). A resumed `trap` is an acquire at system scope (R338). -/
def State.resumeUid (s : State) (uid : Nat) (step : Bool) : State :=
  match s.teamByUid uid with
  | none => s
  | some t =>
    if t.parked = false then s
    else
      let clear (t : Team) : Team :=
        { t with parked := false, record := .empty, stepArm := step, marked := t.markRecord, trapped := false, obs := if t.trapped then 0 else t.obs }
      let s1 := (s.modUid uid clear).restartReported uid
      match s1.findTeam uid with
      | none => (s1.syncSaved uid).queueReadmit t.blk
      | some p =>
        let k := s1.core p.1
        let lt := if t.trapped then max k.ltime (max s1.syncTime s1.agentTime) else k.ltime
        s1.setCore p.1 { k with replay := k.replay.filter (fun e => e.slot != p.2), ltime := lt }

/-- `resume` and `resume.step` (R342, R343). -/
def State.resumeOp (s : State) (d : Nat) (step : Bool) : Result :=
  .next (s.once true .any (fun t =>
    let h := t.s d
    if handleBad h true then s.handleFault t h
    else
      let uid := if handleKind h = 0 then (s.team? (s.cur.1, h.toNat % 32)).map (·.uid) else s.parkedBySeq (h.toNat % 2 ^ 62)
      (match uid with
       | none => s
       | some u => s.resumeUid u step).completeWith (fun t => t)))

/-- `resume` (R343). -/
def execResume (d : Nat) (s : State) : Result := s.resumeOp d false
/-- `resume.step` (R343). -/
def execResumeStep (d : Nat) (s : State) : Result := s.resumeOp d true

end Sys2Proof.Machine
end

