-- ==== Sys2Proof/Machine/Swap.lean ====
section
/-! DEFINITION. Save slots (R391 to R394): which are free, what a swap-out writes, and what readmission reads. -/

namespace Sys2Proof.Machine

/-! ### Save slots (R391, R392) -/

/-- The save slots of a context in use: by saved blocks, and by readmitted blocks that have not started. -/
def State.usedSlots (s : State) (ctx : Nat) : List Nat :=
  (s.saved.filter (fun x => x.blk.ctx == ctx)).map (·.slotIx) ++
    s.cores.flatMap (fun k => k.2.blocks.filterMap (fun e => if e.2.ctx = ctx then e.2.slotIx else none))

/-- The free save slots of a context, lowest first. -/
def State.freeSaveSlots (s : State) (ctx : Nat) : List Nat :=
  let used := s.usedSlots ctx
  (List.range (s.ctxWord ctx 4 % 2 ^ 16)).filter (fun i => !used.contains i)

/-- The blocks of a context whose swap-out is in progress. -/
def State.swappingOf (s : State) (ctx : Nat) : Nat :=
  (s.cores.map (fun k => (k.2.blocks.filter (fun e => e.2.ctx == ctx && e.2.swapping)).length)).sum

/-- A group of resident blocks has a save slot for each (R392). -/
def State.hasSlots (s : State) (b : Block) : Bool :=
  decide (s.swappingOf b.ctx + (s.groupOf b).length ≤ (s.freeSaveSlots b.ctx).length)

/-! ### Storage of images -/

/-- n bytes copied from one physical range to another. -/
def State.copyRange (s : State) (src dst n : Nat) : State :=
  let cells := s.mem.filter (fun c => decide (src ≤ c.1 ∧ c.1 < src + n))
  let rest := s.mem.filter (fun c => !decide (dst ≤ c.1 ∧ c.1 < dst + n))
  { s with mem := cells.foldl (fun (m : List Host.Cell) (c : Host.Cell) => memSet m (c.1 - src + dst) c.2) rest }.touchRange dst n

/-- The physical place of granule i of a list of 1 KiB scratchpad granules. -/
def scratchGranule (c g : Nat) : Nat := windowBase c + 0x400000 + g * 1024

/-- The physical place of a tile entry's memory. -/
def tileBase (c e : Nat) : Nat := tileAddr c [e] 0

/-! ### The image of a block (R392, R393) -/

/-- The word of a team in a kernel descriptor (R370). -/
def TeamShape.word (x : TeamShape) : Nat :=
  match x.role with
  | .vector => at' (x.nreg / 4) 16 + at' (x.lanes / 32 - 1) 8 + at' (bit x.noRefs) 2
  | r => at' (bit x.noRefs) 2 + r.code

/-- The resource counts of a block as a kernel descriptor (R370, R392). -/
def Block.descriptor (b : Block) : List Nat :=
  (at' b.spList.length 32 + at' b.stList.length 24 + at' b.accList.length 16 + at' b.barriers.length 8 + b.teamCount) ::
    (List.range 16).map (fun i =>
      ((b.shape[2 * i]?).map TeamShape.word).getD 0 + at' (((b.shape[2 * i + 1]?).map TeamShape.word).getD 0) 32)

/-- The image of a block on core c is written to a save slot (R392). -/
def State.storeBlock (s : State) (c : Nat) (b : Block) (base : Nat) : State :=
  let k := s.core c
  let ts := (k.teamsOf b.uid).map (·.2)
  let s1 := s.storeWords base
    ([placeWord (some b) 0, placeWord (some b) 8] ++ (List.range 30).map (fun i => (Config.headerImage i b.rank b.descriptor).toNat))
  let s2 := s1.storeWords (base + 0x1000) ((b.accList ++ b.stList).flatMap (fun e => (List.range 8).map (fun i => tileWord k e (8 * i))))
  let s3 := s2.storeWords (base + 0x2000) (b.barriers.flatMap (fun x => [x.word 0, x.word 1]))
  let s4 := s3.storeWords (base + 0x3000) ((k.copies.filter (fun y => y.blk == b.uid)).flatMap Copy.image)
  let s5 := ts.foldl (fun s t => s.storeTeam base ts b t) s4
  let s6 := b.spList.zipIdx.foldl (fun s e => s.copyRange (scratchGranule c e.1) (base + 0x40000 + 1024 * e.2) 1024) s5
  b.accList.zipIdx.foldl (fun s e => s.copyRange (tileBase c e.1) (base + 0xC0000 + 0x4000 * e.2) 0x4000) s6

/-- The scratchpad and accumulator entries of a block on core c are read back from its slot (R394). -/
def State.loadBlock (s : State) (c : Nat) (b : Block) (base : Nat) : State :=
  let s1 := b.spList.zipIdx.foldl (fun s e => s.copyRange (base + 0x40000 + 1024 * e.2) (scratchGranule c e.1) 1024) s
  b.accList.zipIdx.foldl (fun s e => s.copyRange (base + 0xC0000 + 0x4000 * e.2) (tileBase c e.1) 0x4000) s1

/-! ### Poison that goes with the block (R433) -/

/-- The offsets, in 32-byte sectors, of the poisoned sectors of equal-sized pieces of storage. -/
def State.pickPoison (s : State) (size : Nat) (bases : List Nat) : List Nat :=
  bases.zipIdx.flatMap (fun e =>
    (s.winPoison.filter (fun x => decide (e.1 ≤ x * 32 ∧ x * 32 < e.1 + size))).map (fun x => (x * 32 - e.1 + e.2 * size) / 32))

/-- The poisoned lines among n bytes of memory, by their 32-byte sectors from the start (R432). -/
def State.poisonedSectors (s : State) (base n : Nat) : List Nat :=
  (s.poison.filter (fun l => decide (base ≤ l * 128 ∧ l * 128 < base + n))).flatMap (fun l =>
    (List.range 4).map (fun i => (l * 128 - base) / 32 + i))

/-- Poisoned sectors back at their places. -/
def putPoison (size : Nat) (bases offs : List Nat) : List Nat :=
  offs.filterMap (fun o => (bases[o * 32 / size]?).map (fun b => (b + o * 32 % size) / 32))

/-! ### A swap-out completes (R394) -/

/-- What is left of a team's issue state when its block is saved. -/
def Team.saved (t : Team) : Team :=
  { t with wait := t.wait.interrupted, hold := none, heldSince := none, qsDue := false, markers := none, yielded := false, yieldFor := [], yieldCycles := 0,
           boost := none, cyclesReady := 0, rfList := [] }

/-- A team of a block that is swapped out parks at its next instruction with the fault of a store that never completes (R104). -/
def State.parkLost (s : State) (p : Nat × Nat) (t : Team) : State :=
  match t.lost with
  | [] => s
  | l :: _ => if t.parked then s else
    let rest := if l.sub = 3 then t.lost.filter (fun x => x.sub != 3) else t.lost.erase l
    s.takeFault p { t with lost := rest, wait := t.wait.interrupted } t.pc (lostFault l (if l.sub = 3 then t.lost.length - rest.length else 0) (unknownMask t))

/-- The same for every team of a block on core c. -/
def State.parkLosers (s : State) (c : Nat) (b : Block) : State :=
  ((s.core c).teamsOf b.uid).foldl (fun s e => s.parkLost (c, e.1) e.2) s

/-- The block in place `pl` of core c is written to a save slot and its resources are free (R394): its operations have stopped at a k-step
boundary (R155), and its copies are frozen with their boxes in flight ended (R171). -/
def State.saveBlock (s : State) (c pl : Nat) (b : Block) (slotIx : Nat) (readmit : Option Nat) : State :=
  let s := s.freezeCopies c b.uid
  let k := s.core c
  let ts := k.teamsOf b.uid
  let slots := ts.map Prod.fst
  let x : Saved :=
    { blk := { b with swapping := false, swapFor := none, metAt := none, preempt := none, order := none, slotIx := none }, slotIx := slotIx,
      teams := ts.map (fun e => (e.2.tindex, e.2.saved)), accs := b.accList.map k.tile, sts := b.stList.map k.tile,
      ops := (k.ops.filter (fun o => o.blk == b.uid)).map (fun o => { o with running := false, anvils := 0, pins := [] }),
      copies := k.copies.filter (fun y => y.blk == b.uid),
      spPoison := s.pickPoison 1024 (b.spList.map (scratchGranule c)),
      tilePoison := s.pickPoison 0x4000 (b.accList.map (tileBase c)), readmit := readmit,
      preempted := b.preempt, ltime := k.ltime }
  let s1 := s.storeBlock c b (s.saveSlot b.ctx slotIx)
  let k1 := s1.core c
  let s2 := s1.setCore c { k1 with
    teams := k1.teams.filter (fun e => !slots.contains e.1), replay := k1.replay.filter (fun e => !slots.contains e.slot) }
  let s3 := s2.freeBlock c pl b
  { s3 with saved := s3.saved ++ [x] }

/-- A resident block, with its core and place, is saved, and its teams enter the swapped-team list (R133). -/
def State.saveAway (s : State) (m : Nat × Nat × Block) (slotIx : Nat) (readmit : Option Nat) : State :=
  (((s.core m.1).teamsOf m.2.2.uid).map (·.2)).foldl (fun s t => s.swapEnter m.2.2.ctx t) (s.saveBlock m.1 m.2.1 m.2.2 slotIx readmit)

/-- A saved team has work (R55, R56): its wait is met, by a reply, by a grant held in transit for it (R119), by its generation, or
by room in the ring of deferred objects; or, when `victim` says that its block was swapped out for waiting (R54), it was
resumed while the swap-out was in progress and neither waits nor is parked. -/
def State.savedMet (s : State) (victim : Bool) (b : Block) (t : Team) : Bool :=
  t.wait.reply.isSome || s.locks.any (fun e => e.2.transit.any (fun w => w.team == t.uid)) ||
    (t.wait.kind == 8 && decide (t.wait.object.toNat ≤ (s.proc b.ctx).completed.toNat)) ||
    (t.wait.kind == 9 && decide ((s.proc b.ctx).deferred.length < 65536)) ||
    (victim && !t.parked && !(t.waiting && decide (t.wait.kind ≤ 9)))

/-- Nothing of a block is left to finish before its save: no k-step of an operation, no drain and no `quant` in flight (R155), no store
that waits for an acknowledgement (R98, R103). -/
def State.saveReady (s : State) (c : Nat) (b : Block) : Bool :=
  let k := s.core c
  let uids := (k.teamsOf b.uid).map (fun e => e.2.uid)
  !k.ops.any (fun o => o.blk == b.uid && o.fault.isNone && (o.running || decide (o.kind ≠ .mma))) && !k.stores.any (fun p => uids.contains p.team)

/-- The stores of a block's teams are performed (R98). -/
def State.drainBlock (s : State) (c : Nat) (b : Block) : State :=
  let uids := ((s.core c).teamsOf b.uid).map (fun e => e.2.uid)
  s.drainCore c (fun p => uids.contains p.team)

/-- A quiescent point that was in flight as the swap-out began takes effect before the context is saved (R142): its stores are performed
by then. Its `qpass` executes again later. -/
def State.passDue (s : State) (c : Nat) (b : Block) : State :=
  let k := s.core c
  let g := (s.proc b.ctx).gen
  s.setCore c { k with teams := k.teams.map (fun e =>
    if e.1 ≠ 0 ∧ e.2.blk = b.uid ∧ e.2.qsDue ∧ e.2.parked = false then (e.1, { e.2 with qsGen := g }) else e) }

/-- SWAP_OUT_COMPLETE (R394, R56): the block, with its whole group, is written to save slots. A wait met meanwhile queues it
for readmission at once, at the place of the moment it was met (R44). -/
def execSwapOutComplete (blk : Nat) (s : State) : Result :=
  .next (match s.blockByUid blk, s.findBlock blk with
    | some b, some _ =>
      let s1 := (s.groupOf b).foldl (fun s m => s.drainBlock m.1 m.2.2) s
      let g := s1.groupOf b
      if b.swapping = false ∨ g.any (fun m => !s1.saveReady m.1 m.2.2) then s1
      else
        let s2 := g.foldl (fun s m =>
          let s := (s.parkLosers m.1 m.2.2).passDue m.1 m.2.2
          match s.freeSaveSlots b.ctx with
          | [] => s
          | i :: _ => s.saveAway m i m.2.2.metAt) s1
        s2.queueSaved (fun x t => x.groupWith b && s2.savedMet b.swapFor.isSome x t)
    | _, _ => s)

end Sys2Proof.Machine
end

