-- ==== Sys2Proof/Machine/Supervisor.lean ====
section
/-! DEFINITION. The supervisor's events, the mailbox and the team-state port (R398 to R412). -/

namespace Sys2Proof.Machine

/-! ### Events (R341, R400) -/

/-- The team stands where an event or an asynchronous signal can enter: its done mask is zero, no `rep` unit is in progress,
and no `reduce` or `scan` stands between its passes (R185, R341). -/
def Team.atBoundary (t : Team) : Bool := t.done == 0 && t.rep.remain == 0 && t.pwords == 0

/-- The cause of the event to deliver next, and the core with that event delivered (R400). -/
def Core.nextEvent (k : Core) (now : Nat) : Option (Nat × Core) :=
  match k.replay.findIdx? (fun e => !e.delivered) with
  | some i => some (1, { k with replay := k.replay.modify i (fun e => { e with delivered := true }) })
  | none =>
    match k.reports.find? (fun e => !e.2.delivered) with
    | some r => some (3, { k with reports := tabModify k.reports r.1 (fun e => { e with delivered := true }) })
    | none =>
      if k.doorbell then some (2, { k with doorbell := false })
      else if k.timerPending then some (4, { k with timerPending := false, timerDue := now + 1000000 })
      else none

/-- EVENT_ENTRY (R341). In recovery mode no team operates (R378). -/
def execEventEntry (core : Nat) (s : State) : Result :=
  .next (match s.team? (core, 0), (s.core core).nextEvent s.time with
    | some t, some (cause, k) =>
      if k.even ∧ t.parked = false ∧ t.atBoundary ∧ s.fe.recovery = false then
        (s.setCore core { k with epc := wide t.pc, ecause := cause, even := false }).setTeam (core, 0)
          { t with pc := k.evec.setWidth 57, halted := false, yielded := false, hold := none, wait := t.wait.kept }
      else s
    | _, _ => s)

/-- SUPERVISOR_TIMER (R400): 1 ms has passed since the last timer event. -/
def execSupervisorTimer (core : Nat) (s : State) : Result :=
  .next (
    let k := s.core core
    ({ s with time := max s.time k.timerDue }).setCore core { k with timerPending := true })

/-! ### The mailbox (R403 to R405) -/

/-- The base of a ring field and its record count N (R403). -/
def ringOf (w : Nat) : Nat × Nat := (fld w 12 40 * 4096, 2 ^ max 6 (min 16 (w % 32)))

/-- The outbound ring. -/
def State.outRing (s : State) : Nat × Nat := ringOf (s.mgtReg 0x2000).toNat

/-- The inbound ring of a core. -/
def State.inRing (s : State) (c : Nat) : Nat × Nat :=
  let (b, n) := ringOf (s.mgtReg 0x2008).toNat
  (b + c * 128 * n, n)

/-- The VALID byte of record i of a ring of n records (R404). -/
def validByte (i n : Nat) : Nat := if i / n % 2 = 0 then 0x5A else 0xA5

/-- DOORBELL (R403): the core's inbound ring has new records. -/
def execDoorbell (core : Nat) (s : State) : Result := .next (s.setCore core { s.core core with doorbell := true })

/-- A ring's header line, which holds RES and CONS, waits: what the device reads or writes there is held (R85, R103). -/
def State.ringWaits (s : State) (base : Nat) : Bool := s.unitWaits base 64

/-- SUPRESUME (R399, R405): the device consumes the record and resumes the parked supervisor. It consumes a record with non-zero reserved bits
and does not use it (R13; DESIGN CHOICE, log 99). -/
def execSupresume (core : Nat) (s : State) : Result :=
  .next (
    let (b, n) := s.inRing core
    let i := s.unitWord (b + 8)
    let r := b + 0x40 + i % n * 64
    let w := s.unitWord r
    if s.ringWaits b ∨ s.lineOwned (r / 128) then s.await 1024 b none
    else if s.unitWord (r + 56) / 2 ^ 56 ≠ validByte i n ∨ w % 2 ^ 16 ≠ core * 2 ^ 8 + 1 then s
    else
      let s1 := s.unitPut (b + 8) (leBytes 8 (i + 1))
      if w / 2 ^ 16 ≠ 0 then s1 else s1.modTeam (core, 0) (fun t => { t with parked := false, record := .empty }))

/-- The number of the oldest held record (R404): the one it took, or the one it takes now, when RES moves on. -/
def State.takeNumber (s : State) : Nat × State :=
  match s.mailNo with
  | some i => (i, s)
  | none =>
    let i := s.unitWord s.outRing.1
    (i, ({ s with mailNo := some i } : State).unitPut s.outRing.1 (leBytes 8 (i + 1)))

/-- MAILBOX_POST (R404): the oldest record the device holds takes its number, and goes into the ring once that has room for it and the
lines it writes are free (R78, R85). -/
def execMailboxPost (s : State) : Result :=
  .next (match s.mailOut with
    | [] => s
    | ws :: rest =>
      let (b, n) := s.outRing
      if s.ringWaits b then s.await 1024 b none
      else
        let (i, s1) := s.takeNumber
        let r := b + 0x40 + i % n * 64
        if n ≤ (i + 2 ^ 64 - s.unitWord (b + 8)) % 2 ^ 64 then s1
        else if s1.unitWaits r 64 ∨ s1.unitWaits (r + 32) 32 then (s1.await 1024 r none).await 1024 (r + 32) none
        else
          let word (k : Nat) : Nat :=
            let x := ((ws[k]?).getD 0).toNat
            if k = 7 then x % 2 ^ 56 + validByte i n * 2 ^ 56 else x
          (List.range 8).foldl (fun s k => s.unitPut (r + 8 * k) (leBytes 8 (word k))) { s1 with mailOut := rest, mailNo := none })

/-! ### DATA of the team-state port (R408) -/

/-- The state with a port changed. -/
def State.setPort (s : State) (c : Nat) (p : Port) : State := { s with ports := tabSet s.ports c p }

/-- TEAM_STATE_DATA_READ (R408). -/
def execTeamStateDataRead (port : Nat) (s : State) : Result :=
  .next (
    let p := s.port port
    s.setPort port { p with data := BitVec.ofNat 64 (s.dataWord p) })

/-- The word that eight bytes written at an offset leave in the aligned word at `w`. -/
def mergeData (old w off : Nat) (val : W64) : Nat :=
  mergeAt old val.toNat (List.range 8)
where
  /-- Byte i of the value lands at off + i. -/
  mergeAt (old val : Nat) (is : List Nat) : Nat :=
    is.foldl (fun r i =>
      if w ≤ off + i ∧ off + i < w + 8 then mergeWord r (8 * (off + i - w)) [BitVec.ofNat 8 (val / 2 ^ (8 * i))] else r) old

/-- TEAM_STATE_DATA_WRITE (R23, R408): only writable items change. A saved team's record in its slot follows. -/
def execTeamStateDataWrite (port : Nat) (val : BitVec 64) (s : State) : Result :=
  .next (
    let p := s.port port
    match s.dataTeam p with
    | none => s
    | some t =>
      let b := s.blockByUid t.blk
      let rf := s.rfoffOf t
      let put (t : Team) (w : Nat) : Team :=
        t.setRecordWord w (BitVec.ofNat 64 (mergeData (t.recordWord b rf w) w p.off val))
      let w := p.off / 8 * 8
      let s1 := s.modUid t.uid (fun t => if p.off % 8 = 0 then put t w else put (put t w) (w + 8))
      if s1.saved.any (fun x => x.blk.uid == t.blk) then s1.syncSaved t.uid else s1)

/-! ### Signal frames (R186, R187, R409) -/

/-- The words of a signal frame (R186) with the words that are written; a signal whose record has code 0 is asynchronous. -/
def Team.frame (t : Team) (signal : Nat) : List Nat :=
  let r := t.record
  let async := r.code == 0
  let mask := if async then t.mreg 0 else r.mask
  let fault (x : Nat) : Nat := if async then 0 else x
  let pairs (x : LaneMask) : List Nat := (List.range 16).map (fun i => maskPair x (8 * i))
  [signal * 2 ^ 48 + fault r.code * 2 ^ 40 + fault r.sub * 2 ^ 24 + bit async * 2, t.pc.toNat, fault r.addr.toNat,
   fault r.unit * 2 ^ 32 + fault r.token * 2 ^ 16 + t.lanes, r.seq, t.fpmode.toNat * 2 ^ 32 + t.sticky.toNat, t.rep.word,
   t.loops.length] ++
    (List.range 12).map (fun i => loopWord t.loops (i / 3) (i % 3)) ++
    [t.pvalue.toNat, t.pwords % 64, t.sigstk.toNat, 0] ++ (List.range 64).map (fun k => (t.s k).toNat) ++
    pairs (t.mreg 0) ++ pairs t.done ++ pairs mask ++
    (if t.role = .vector then
      (List.range (2 * t.lanes)).map (fun i => (t.latch (i % 2 * 2) (i / 2)).toNat + (t.latch (i % 2 * 2 + 1) (i / 2)).toNat * 2 ^ 32)
     else [])

/-- The team as its handler starts (R187); it stays parked with its record cleared (R409). -/
def Team.enterHandler (t : Team) (signal : Nat) (entry : W57) (f : W64) : Team :=
  let mask := if t.record.code = 0 then t.mreg 0 else t.record.mask
  let t1 : Team := { t with
    pc := entry, done := 0, marked := none, markers := none, loops := [], rep := .idle, pvalue := 0, pwords := 0, fpmode := t.fpmode &&& 0xFFE0FFFF,
        sticky := 0,
    sigstk := f.setWidth 57, record := .empty, wait := t.wait.kept }
  ((t1.setM 0 mask).setS 1 (BitVec.ofNat 64 signal)).setS 2 f

/-- The agent whose translation a team's frame is written through (R409). -/
def State.frameAgent (s : State) (port : Nat) (t : Team) : Agent :=
  match s.findTeam t.uid with
  | some p => s.agentOf p t
  | none =>
    let b := s.blockByUid t.blk
    unitAgent port (pasidOf b) ((b.map (·.ctx)).getD 4095) none

/-- A word of a frame is stored as the team's core stores (R81, R409): performed at its home at once, with the core's logical time and
its copy of the line. -/
def State.frameStore (s : State) (c : Nat) (p : Phys) (bs : List Byte) : State :=
  match regionOf p.pa with
  | .window k off => (s.winWrite k off bs).stampStore c (p.pa / 128)
  | .devreg off => (s.mmioStore off bs).stampStore c (p.pa / 128)
  | .pod => s
  | _ => ((s.drainLine c (p.pa / 128)).invalidate c p.pa).storeHome c p.pa bs

/-- The words of a frame are stored upward from an address. -/
def State.frameWrite (s : State) (a : Agent) (va : W64) (ws : List Nat) : Except LaneFault Unit × State :=
  match ws with
  | [] => (.ok (), s)
  | w :: t =>
    match s.access a va 8 8 .engineWrite with
    | (.fault f, s1) => (.error f, s1)
    | (.hold h, s1) => (.error heldFault, s1.unitHeld a va h)
    | (.ok p, s1) => (s1.frameStore a.core p (leBytes 8 w)).frameWrite a (va + 8) t

/-- A frame that cannot be written (R409): STATUS is 2; while an access of it is held, the operation goes on (R85). -/
def State.frameFails (s : State) (port : Nat) (f : LaneFault) : State :=
  if f.held then s else s.setPort port { s.port port with status := 2 }

/-- The frame of a team stands: the team enters its handler, and its core's trace follows the change (R409, R423). -/
def State.frameDone (s : State) (port : Nat) (t : Team) (signal : Nat) (entry : W57) (f : W64) : State :=
  let s1 := s.modUid t.uid (fun t => t.enterHandler signal entry f)
  let s2 := match s1.findTeam t.uid with
    | some q => s1.traceChanged q t
    | none => s1.syncSaved t.uid
  s2.setPort port { s.port port with status := 0 }

/-- FRAME (R409). -/
def execFrame (port : Nat) (s : State) : Result :=
  .next (
    let p := s.port port
    match ((s.portTeam p).bind s.teamByUid).filter (fun t => t.parked) with
    | none => s.setPort port { p with status := 3 }
    | some t =>
      let f := wide (p.stack.setWidth 57) - BitVec.ofNat 64 t.frameSize
      let a := s.frameAgent port t
      let ws := t.frame p.signal
      match s.unitCheck a f ws.length with
      | (.error e, s1) => s1.frameFails port e
      | (.ok _, s1) =>
        match s1.frameWrite a f ws with
        | (.error e, _) => s1.frameFails port e
        | (.ok _, s2) => s2.frameDone port t p.signal (p.entry.setWidth 57) f)

/-! ### KILL and RELEASE (R406, R411) -/

/-- The entries of a team's operations and copies in flight stay as they are, marked with fault code 0xFF (R411). -/
def State.markKilled (s : State) (uid : Nat) : State :=
  let bad (x : TileEntry) : TileEntry := { x with faulted := true, fault := 0xFF }
  let s1 := s.cores.foldl (fun s k =>
    let es := (k.2.ops.filter (fun o => o.team == uid)).flatMap (fun o => o.phys k.2) ++
      (k.2.copies.filter (fun y => y.team == uid && !y.complete)).filterMap (fun y => y.entry? k.2)
    s.modTiles k.1 es (fun x => if x.state = 1 ∨ x.state = 3 then bad x else x)) s
  { s1 with saved := s1.saved.map (fun x =>
      let accs := (x.ops.filter (fun o => o.team == uid)).flatMap (fun o => o.entries) ++
        (x.copies.filter (fun y => y.team == uid && !y.complete)).filterMap (fun y => match y.dense with | .acc n => some n | _ => none)
      let sts := (x.copies.filter (fun y => y.team == uid && !y.complete)).filterMap (fun y => match y.dense with | .slot n => some n | _ => none)
      { x with
        accs := x.accs.map (fun e => if accs.contains e.localNo && (e.state == 1 || e.state == 3) then bad e else e),
        sts := x.sts.map (fun e => if sts.contains e.localNo && (e.state == 1 || e.state == 3) then bad e else e) }) }

/-- The operations and copies of a destroyed team go at their next k-step or box boundary (R411, step 2). -/
def State.dropEngines (s : State) (uid : Nat) : State :=
  { s with cores := s.cores.map (fun k =>
      (k.1, { k.2 with copies := k.2.copies.filter (fun y => y.team != uid), ops := k.2.ops.filter (fun o => o.team != uid) })) }

/-- The core through which the locks of a swapped-out team are released takes over the logical time of the team's core, so that the releases
stand after the team's stores (R81, R120). -/
def State.raiseTime (s : State) (c time : Nat) : State :=
  s.setCore c { s.core c with ltime := max (s.core c).ltime time }

/-- A destroyed team's locks and waits (R117, R120, R411): held locks pass on abandoned, a lock whose grant is in flight passes
on as released, and its waiter records go. -/
def State.dropLocks (s : State) (c : Nat) (t : Team) : State :=
  let s1 := (s.locks.filter (fun e => e.2.holder == some t.uid)).foldl (fun s e =>
    s.releaseLock c e.1 (t.held.any (fun h => h.obj == e.1))) s
  (s1.locks.filter (fun e => e.2.waiters.any (fun w => w.team == t.uid))).foldl (fun s e => s.dropWaiter e.1 t.uid) s1

/-- The resident team of an identity is destroyed (R411), in the order of the rule: it is stopped, its operations and copies go, and once its
stores are performed its locks and waits go and the team ends. -/
def State.killResident (s : State) (p : Nat × Nat) (t : Team) : State :=
  let s1 := ((s.modTeam p (fun t => { t with halted := true, yielded := false })).markKilled t.uid).dropEngines t.uid
  let s2 := s1.drainCore p.1 (fun x => x.team == t.uid)
  if (s2.core p.1).stores.any (fun x => x.team == t.uid) then s2
  else
    let s3 := s2.dropLocks p.1 t
    let k := s3.core p.1
    (s3.setCore p.1 { k with replay := k.replay.filter (fun e => e.slot != p.2) }).endTeam p t

/-- A swapped-out team of a saved block is destroyed (R411): its stores were performed before the save (R98). -/
def State.killSaved (s : State) (c : Nat) (x : Saved) (t : Team) : State :=
  ((((s.raiseTime c x.ltime).markKilled t.uid).dropLocks c t).swapLeave x.blk.ctx t).endSaved t.uid

/-- KILL (R411, R412): a block whose swap-out is in progress is saved first. The port is busy until the stores of the team are
performed. -/
def execKill (port : Nat) (s : State) : Result :=
  let p := s.port port
  match (s.portTeam p).bind s.teamByUid with
  | none => .next (s.setPort port { p with status := 3, ended := true })
  | some t =>
    let swapping := ((s.blockByUid t.blk).map Block.swapping).getD false
    match (if swapping then execSwapOutComplete t.blk s else .next s) with
    | .next s1 =>
      let s2 :=
        match s1.findTeam t.uid with
        | some q =>
          if ((s1.blockByUid t.blk).map Block.swapping).getD false then s1
          else match s1.team? q with
            | some t1 => s1.killResident q t1
            | none => s1
        | none =>
          match s1.teamByUid t.uid, s1.saved.find? (fun (x : Saved) => x.blk.uid == t.blk) with
          | some t1, some x => s1.killSaved port x t1
          | _, _ => s1
      .next (s2.setPort port { p with status := if (s2.teamByUid t.uid).isSome then 1 else 0, ended := true })
    | r => r

/-- RELEASE (R406): the report place that SIGNAL names is free. -/
def execRelease (port : Nat) (s : State) : Result :=
  .next (
    let p := s.port port
    let k := s.core port
    (s.setCore port { k with reports := tabErase k.reports p.signal }).setPort port { p with status := 0, ended := true })

end Sys2Proof.Machine
end

