-- ==== Sys2Proof/Machine/Consistency.lean ====
section
/-! DEFINITION. Epochs and retention (R82, R83), host accesses (R78), stores performed by events (R100, R101), the error log
(R430, R431), fencing (R434) and lost links (R103, R105). -/

namespace Sys2Proof.Machine

/-! ### Logical time, epochs and retention (R81 to R83) -/

/-- LOGICAL_TIME_ADVANCE (R81): the 32-bit T advances by at least 1. Past the bound of R82 it waits for the epoch to change. -/
def execLogicalTimeAdvance (core n : Nat) (s : State) : Result :=
  .next (let k := s.core core; s.setCore core { k with ltime := max k.ltime (min (k.ltime + max 1 n) 0xFFFFFFFF) })

/-- EPOCH_CHANGE (R82, R83): every L1 that is awake drops its lines; one in retention keeps them, but is woken before a fourth change and
drops them all; every T is 0; stamps of older epochs read as 0, and no slice has evicted a line of the new one (R81). -/
def execEpochChange (s : State) : Result :=
  .next (
    if s.epochDue = false then s
    else
      let e := (s.epoch + 1) % 4
      { s with
        epoch := e, stamps := [], floors := [], agentTime := 0,
        cores := s.cores.map (fun k =>
          let old := k.2.retention && decide (k.2.slept < 3)
          (k.1, { k.2 with
            ltime := 0, l1 := if old then k.2.l1 else [], retention := old, slept := if old then k.2.slept + 1 else 0,
            teams := k.2.teams.map (fun t => (t.1, { t.2 with obs := 0 })) })) })

/-- L1_RETENTION_SLEEP (R83). -/
def execL1RetentionSleep (core : Nat) (s : State) : Result :=
  .next (if (s.core core).retention then s else s.setCore core { s.core core with retention := true, slept := 0 })

/-- RETENTION_WAKE (R83): lines of other epochs go. -/
def execRetentionWake (core : Nat) (s : State) : Result :=
  .next (
    let k := s.core core
    s.setCore core { k with retention := false, slept := 0, l1 := k.l1.filter (fun l => l.2.epoch == s.epoch) })

/-! ### Stores performed (R100, R101) -/

/-- STORE_PERFORMED (R100): store i of a core's queue is performed at its home. -/
def execStorePerformed (core i : Nat) (s : State) : Result := .next (s.performStore core i)

/-- FENCE_MARKER_ACK (R101): the switch or egress of a path acknowledges the markers of a core that it holds, once the accesses it
counted before each have been acknowledged; those that can be performed are. -/
def execFenceMarkerAck (path core : Nat) (s : State) : Result :=
  .next (
    let mine (t : Team) : List (Nat × Nat) := (t.markers.getD []).filter (fun m => m.1 == path)
    let ms := (s.core core).teams.flatMap (fun e => mine e.2)
    let s1 := s.drainCore core (fun p => ms.any (fun m => s.markerHolds core m p))
    let k := s1.core core
    let held (m : Nat × Nat) : Bool := k.stores.any (s1.markerHolds core m)
    s1.setCore core { k with
      teams := k.teams.map (fun e => (e.1, { e.2 with markers := e.2.markers.map (fun l => l.filter (fun m => m.1 != path || held m)) })) })

/-! ### The host (R78, R85) -/

/-- n bytes of free values from draw t on. -/
def freeBytes (t n : Nat) : List Byte := (List.range n).map (fun i => BitVec.ofNat 8 (Config.freeNat (t + i)))

/-- Every L1 copy of a line goes. -/
def State.dropL1 (s : State) (line : Nat) : State :=
  { s with cores := s.cores.map (fun k => (k.1, { k.2 with l1 := tabErase k.2.l1 line })) }

/-- The host reaches the device: port 0 is up (R361), and the device is not in recovery mode, in which only the management interfaces
operate (R378). -/
def State.hostReaches (s : State) : Bool := !s.linkDown 0 16 && !s.fe.recovery

/-- HOST_SNOOP (R78, R85): the host takes a line of its own memory, which it may then have written; the device's copies go.
A line that a copy engine owns is waited for. -/
def execHostSnoop (line : Nat) (s : State) : Result :=
  .next (match regionOf (line * 128) with
    | .host =>
      if s.hostReaches = false ∨ s.lineOwned line ∨ s.epochDue then s
      else ({ s with tick := s.tick + 128 }.storeAgent (line * 128) (freeBytes s.tick 128)).dropL1 line
    | _ => s)

/-- The host bit of the directory entry that covers an address is set or cleared. The access of the host makes the entry where there
is none (R80): of a line's grain and with the class normal, which the spec leaves open for an access of the host (DESIGN CHOICE, log 88). -/
def State.setHostBit (s : State) (pa : Nat) (on : Bool) : State :=
  match s.dirAt pa with
  | some _ => s.modDir pa (fun d => { d with host := on })
  | none => if on then
      let g := s.newGrain pa 128
      { s with dirs := tabSet s.dirs (pa / g * g / 32) ⟨0, g, 0, true⟩ }
    else s

/-- HOST_CXL_MEM_ACCESS (R78, R85): the host reads a line of device memory and keeps a copy, writes eight bytes of it, or gives
its copy back. A write waits for the dies that hold a copy (R103). There is nothing where no memory is (R362). -/
def execHostCxlMemAccess (addr : Nat) (req : HostReq) (s : State) : Result :=
  .next (
    let line := addr / 128
    let dev := match regionOf addr with | .hbm => true | .cxl _ => !s.cxlHole addr | _ => false
    if dev = false ∨ s.hostReaches = false ∨ s.lineOwned line ∨ s.poisoned line ∨ s.epochDue then s
    else
      match req with
      | .read =>
        let st := s.stampOf line
        let s1 := (lineSectors line).foldl (fun s a => s.setHostBit a true) s
        { s1.setStamp line st.wts (max st.rts (max st.wts s.agentTime)) with agentTime := max s.agentTime st.wts }
      | .write val =>
        let s1 := s.setHostBit addr false
        if (s1.unreachable 1024 addr).isSome then s1.await 1024 addr none
        else (s1.invalidate 1024 addr).storeAgent (addr / 8 * 8) (leBytes 8 val.toNat)
      | .release => (lineSectors line).foldl (fun s a => s.setHostBit a false) s)

/-! ### Poison and fences (R432 to R434) -/

/-- Every copy of a line outside its home goes, and with it what its home waits for. -/
def State.dropCopies (s : State) (line : Nat) : State :=
  ((lineSectors line).foldl (fun s a => s.modDir a (fun d => { d with sharers := 0, host := false })) s).dropL1 line

/-- A line is poisoned: every cached copy of it goes (R432). -/
def State.poisonLine (s : State) (line : Nat) : State :=
  { s with
    poison := if s.poison.contains line then s.poison else line :: s.poison,
    restored := s.restored.filter (fun x => x != line),
    awaited := s.awaited.filter (fun w => w.pa / 128 != line) }.dropCopies line

/-- A team of a fenced die is destroyed without its stores (R434). -/
def State.fenceTeam (s : State) (p : Nat × Nat) (t : Team) : State :=
  let k := s.core p.1
  let s1 := (s.setCore p.1 { k with stores := k.stores.filter (fun x => x.team != t.uid) }).dropLocks p.1 t
  if p.2 = 0 then s1 else s1.endTeam p t

/-- The locks whose home slice is on die d are lost (R124): a team outside the die that waits on one, or has been interrupted in such a wait,
faults with DIELOST at its `llock`. -/
def State.fenceLocks (s : State) (d : Nat) : State :=
  let gone (obj : Nat) : Bool := sliceDie (s.homeOf obj) == d
  let ts := (s.cores.filter (fun k => dieOf k.1 != d)).flatMap (fun k => k.2.teams.map (·.2)) ++
    s.saved.flatMap (fun x => x.teams.map (·.2))
  let hit := ts.filter (fun t => t.wait.ofLock && t.wait.reply.isNone && gone t.wait.object.toNat)
  let s1 := { s with locks := s.locks.filter (fun e => !gone e.1), lockReqs := s.lockReqs.filter (fun q => !gone q.obj) }
  hit.foldl (fun s t => s.parkWaiter t.uid (faultOf 0x0C 1 t.wait.object 1)) s1

/-- A checkpoint in progress fails: a link has failed, or an error is lasting (R396, R442). -/
def State.failCkpt (s : State) : State := if s.fe.ckpt then { s with fe := { s.fe with ckptFail := true } } else s

/-- Die d is fenced (R434), for an error at an address that an access of a team met: the log gets its record first (R436), the locks and the
lines homed there are lost, its teams are destroyed, its cores are empty, and the mailbox gets a record. A further error of a fenced die is
logged (R431). -/
def State.fenceDie (s : State) (d addr : Nat) (ident : W64) : State :=
  let s0 := s.failCkpt.logError 6 d 2 2 addr ident
  if s.fenced.contains d then s0
  else
    let s1 : State := { s0 with
      fenced := d :: s0.fenced, restored := s0.restored.filter (fun l => sliceDie (s0.homeOf (l * 128)) != d) }
    let cs := (List.range 64).map (fun i => 64 * d + i)
    let s2 := cs.foldl (fun s c => (s.core c).teams.foldl (fun s e => s.fenceTeam (c, e.1) e.2) s) (s1.fenceLocks d)
    (cs.foldl (fun s c => s.setCore c { Core.reset c with teams := [] }) s2).post 0x80 0 true []

/-! ### Lost links (R103 to R105, R430) -/

/-- An error is detected and its retry begins (R430): source, unit, address and identity, and what names the link in `fenced`, or 0. -/
def State.detect (s : State) (src unit addr : Nat) (ident : W64) (code : Nat) : State :=
  { s with errs := s.errs ++ [[BitVec.ofNat 64 src, BitVec.ofNat 64 unit, BitVec.ofNat 64 addr, ident, BitVec.ofNat 64 code]] }

/-- DIE_LINK_FAILURE (R103): the link between two dies is down until its retry. When no home waits over it, its record names the higher die
(DESIGN CHOICE, log 115). -/
def execDieLinkFailure (d1 d2 : Nat) (s : State) : Result :=
  .next (
    let code := 100 + 4 * min d1 d2 + max d1 d2
    if d1 = d2 ∨ 4 ≤ max d1 d2 ∨ s.fenced.contains code then s
    else ({ s with fenced := s.fenced ++ [code] } : State).detect 6 (max d1 d2) 0 0 code)

/-- CXL_PORT_FAILURE (R103): a port is down until it has retrained. Right after reset it is a link that could not negotiate 256-byte flits
and stays down (R361). -/
def execCxlPortFailure (port : Nat) (s : State) : Result :=
  .next (
    if 4 ≤ port ∨ s.fenced.contains (116 + port) then s
    else ({ s with fenced := s.fenced ++ [116 + port] } : State).detect 7 port 0 0 (116 + port))

/-- The stores that never complete after a holder was lost: each is dropped and counts as lost for its team (R103, R104). -/
def State.loseStores (s : State) (sub : Nat) (sel : PendStore → Bool) : State :=
  s.cores.foldl (fun s k =>
    let gone := k.2.stores.filter sel
    let k1 := s.core k.1
    let s1 := s.setCore k.1 { k1 with stores := k1.stores.filter (fun p => !sel p) }
    gone.foldl (fun s p => s.modUid p.team (fun t => { t with lost := t.lost ++ [⟨0x0C, sub, p⟩] })) s1) s

/-- What an engine of a team waits to write when the holder is lost counts as a store of the team that never completes (R104). -/
def State.loseEngine (s : State) (sub : Nat) (w : Await) : State :=
  match w.engine with
  | none => s
  | some u => s.modUid u (fun t => { t with lost := t.lost ++ [⟨0x0C, sub,
      { team := u, blk := t.blk, no := 0, pa := w.pa, va := 0, size := 0, uncached := false, chain := none, data := [], red := none,
        tag := none, mayMerge := false, ordered := false, stuck := some w.holder }⟩] })

/-- The lines of the device that a lost holder shared are poisoned (R103): a die's guest copies, or the host's copies and the
host-homed lines held in L2. -/
def State.poisonShared (s : State) (h : Nat) : State :=
  let ds := s.dirs.filter (fun d => if h = 16 then d.2.host else d.2.sharers.getLsbD h)
  let ls := ds.flatMap (fun d => (List.range ((d.2.grain + 127) / 128)).map (fun i => d.1 / 4 + i))
  let hs := if h = 16 then (s.stamps.map Prod.fst).filter (fun l => decide (regionOf (l * 128) = .host)) else []
  (ls ++ hs).foldl (fun s l => s.poisonLine l) s

/-- The third die over which a home retries an invalidation toward another die: the lowest-numbered one to which both links work
(R103). -/
def State.retryRoute (s : State) (home holder : Nat) : Option Nat :=
  (List.range 4).find? (fun d => d != home && d != holder && !s.fenced.contains d && !s.linkDown home d && !s.linkDown d holder)

/-- The retry over a link succeeds (R103): the link stays in use, what waited over it goes on, and the error is logged as transient. -/
def State.linkRestored (s : State) (src unit addr : Nat) (ident : W64) (code : Nat) : State :=
  let onLink (pa h : Nat) : Bool := linkCode (sliceDie (s.homeOf pa)) h == code
  let free (k : Core) : Core :=
    { k with stores := k.stores.map (fun p => if p.stuck.any (onLink p.pa) then { p with stuck := none } else p) }
  let s1 : State := { s with
    fenced := if code = 0 then s.fenced else s.fenced.filter (fun x => x != code),
    awaited := s.awaited.filter (fun w => !onLink w.pa w.holder), cores := s.cores.map (fun k => (k.1, free k.2)) }
  s1.logError src unit 1 0 addr ident

/-- The retry fails and a holder, a die or (16) the host, is lost (R103): the stores that waited for it never complete, the lines it shared
are poisoned, and the die or port 0 is fenced off. -/
def State.linkLost (s : State) (h addr : Nat) (ident : W64) : State :=
  let sub := if h = 16 then 2 else 1
  let s1 := (s.awaited.filter (fun x => x.holder == h)).foldl (fun s x => s.loseEngine sub x)
    (s.failCkpt.loseStores sub (fun p => p.stuck == some h))
  let s2 : State := { s1.poisonShared h with awaited := s.awaited.filter (fun x => x.holder != h) }
  if h = 16 then ({ s2 with fenced := if s2.fenced.contains 120 then s2.fenced else 120 :: s2.fenced } : State).logError 7 0 2 2 addr ident
  else s2.fenceDie h addr ident

/-- The retry of a die link or of a CXL port ends (R103, R430). A die is reached over a third die if any; a lost port of 1 to 3 is fenced off,
and the memory behind it is a hole. -/
def State.linkRetry (s : State) (ok : Bool) (src unit addr : Nat) (ident : W64) (code : Nat) : State :=
  let other := if (code - 100) / 4 = unit then (code - 100) % 4 else (code - 100) / 4
  if ok && (src == 7 || code == 0 || (s.retryRoute other unit).isSome) then s.linkRestored src unit addr ident code
  else if src = 7 ∧ unit % 4 ≠ 0 then
    let p := 120 + unit % 4
    ({ s.failCkpt with fenced := if s.fenced.contains p then s.fenced else p :: s.fenced } : State).logError 7 unit 2 2 addr ident
  else s.linkLost (if src = 7 then 16 else unit % 4) addr ident

/-- The team whose access a home's wait is for, by its `lid` word (R431), or 0. -/
def State.awaitIdent (s : State) (w : Await) : W64 :=
  let held := s.cores.findSome? (fun k =>
    ((k.2.stores.find? (fun p => p.stuck == some w.holder && p.pa / 128 == w.pa / 128)).map (·.team)) <|>
      ((k.2.teams.find? (fun e => e.2.hold == some (w.pa / 128))).map (·.2.uid)))
  match (w.engine <|> held).bind s.teamByUid with
  | some t => identWord t (s.blockByUid t.blk)
  | none => 0

/-- INVALIDATION_RETRY (R103): the one retry of the invalidation that a home has waited for longest succeeds or fails, and with it the error
of that link is settled (R430). -/
def execInvalidationRetry (ok : Bool) (s : State) : Result :=
  .next (match s.awaited with
    | [] => s
    | w :: _ =>
      let h := w.holder
      let code := linkCode (sliceDie (s.homeOf w.pa)) h
      let s1 : State := { s with errs := s.errs.filter (fun e => ((e[4]?).getD 0).toNat != code) }
      s1.linkRetry ok (if h = 16 then 7 else 6) (if h = 16 then 0 else h) w.pa (s.awaitIdent w) code)

/-- UALINK_PORT_FAILURE (R105): each unacknowledged access of the port is retried once on another port that reaches the device;
what still fails is lost, and its fault record tells a team how many. Whether a retry succeeds is free (log 4). A further failure of a
fenced port is logged (R431). -/
def execUalinkPortFailure (port : Nat) (s : State) : Result :=
  .next (
    if 12 ≤ port then s
    else if s.fenced.contains (130 + port) then s.logError 8 port 2 2 0 0
    else
      let onPort (p : PendStore) : Bool := decide (regionOf p.pa = .pod) && s.egress p.pa == some port
      let s1 : State := { s.failCkpt with fenced := s.fenced ++ [130 + port] }
      let s2 := s1.cores.foldl (fun s k =>
        let mine := (k.2.stores.filter onPort).zipIdx
        let bad := mine.filter (fun e => (s.egress e.1.pa).isNone || Config.freeBool (s.tick + e.2))
        let k1 := s.core k.1
        let s3 := { s.setCore k.1 { k1 with stores := k1.stores.filter (fun p => !onPort p) } with tick := s.tick + mine.length }
        bad.foldl (fun s e => s.modUid e.1.team (fun t => { t with lost := t.lost ++ [⟨0x0C, 3, e.1⟩] })) s3) s1
      s2.logError 8 port 2 2 0 0)

end Sys2Proof.Machine
end

