-- ==== Sys2Proof/Machine/FloatIsa.lean ====
section
/-! DEFINITION. The floating-point group (spec/14, R260 to R276) and the 16-bit forms of floating-point values (R212). -/

namespace Sys2Proof.Machine

/-- An FP32 instruction of one source. -/
def State.fp1 (s : State) (d : Nat) (nw : Bool) (a : VSrc) (f : Team → FVal → FRes) : Result :=
  s.vecOp (.v d nw) (vregsOf a) (fun t l => t.fpLane (f t (t.f32src a l)))

/-- An FP32 instruction of two sources. -/
def State.fp2 (s : State) (d : Nat) (nw : Bool) (a b : VSrc) (f : RM → Bool → FVal → FVal → FRes) : Result :=
  s.vecOp (.v d nw) (vregsOf a ++ vregsOf b)
    (fun t l => t.fpLane (f t.rm (t.rflush .c32) (t.f32src a l) (t.f32src b l)))

/-- An FP64 instruction of one source. -/
def State.fpw1 (s : State) (d : Nat) (nw : Bool) (a : Nat) (f : Team → FVal → FRes) : Result :=
  s.vecOp (.w d nw) [a, a + 1] (fun t l => t.fpLane (f t (t.f64pair a l)))

/-- An FP64 instruction of two sources. -/
def State.fpw2 (s : State) (d : Nat) (nw : Bool) (a b : Nat) (f : RM → Bool → FVal → FVal → FRes) : Result :=
  s.vecOp (.w d nw) [a, a + 1, b, b + 1]
    (fun t l => t.fpLane (f t.rm (t.rflush .c64) (t.f64pair a l) (t.f64pair b l)))

/-- The result of a comparison and its exceptions: invalid for a signalling NaN, and for a quiet one if `quiet`
(R263, R267). -/
def cmpRes (quiet : Bool) (f : FVal → FVal → Bool) (a b : FVal) : FRes :=
  let inv := a.isSig || b.isSig || (quiet && (a.isNan || b.isNan))
  ⟨if f a b then 1 else 0, if inv then fInv else 0⟩

/-- a ≤ b (R267). -/
def FVal.le (a b : FVal) : Bool := a.lt b || a.eqv b

/-- An FP32 comparison (R267). -/
def State.fcmp32 (s : State) (d : Nat) (a b : VSrc) (quiet : Bool) (f : FVal → FVal → Bool) : Result :=
  s.vecOp (.m d) (vregsOf a ++ vregsOf b) (fun t l => t.fpLane (cmpRes quiet f (t.f32src a l) (t.f32src b l)))

/-- An FP64 comparison (R267). -/
def State.fcmp64 (s : State) (d a b : Nat) (quiet : Bool) (f : FVal → FVal → Bool) : Result :=
  s.vecOp (.m d) [a, a + 1, b, b + 1] (fun t l => t.fpLane (cmpRes quiet f (t.f64pair a l) (t.f64pair b l)))

/-- `fadd.f32` (R264). -/
def execFaddF32 (d : Nat) (a b : VSrc) (nw : Bool) (s : State) : Result := s.fp2 d nw a b f32.add
/-- `fsub.f32` (R264). -/
def execFsubF32 (d : Nat) (a b : VSrc) (nw : Bool) (s : State) : Result := s.fp2 d nw a b f32.sub
/-- `fmul.f32` (R264). -/
def execFmulF32 (d : Nat) (a b : VSrc) (nw : Bool) (s : State) : Result := s.fp2 d nw a b f32.mul
/-- `ffma.f32` (R265). -/
def execFfmaF32 (d : Nat) (a b : VSrc) (nw : Bool) (s : State) : Result :=
  s.vecOp (.v d nw) (d :: (vregsOf a ++ vregsOf b))
    (fun t l => t.fpLane (f32.fma t.rm (t.rflush .c32) (t.f32reg d l) (t.f32src a l) (t.f32src b l)))
/-- `fdiv.f32` (R264). -/
def execFdivF32 (d : Nat) (a b : VSrc) (nw : Bool) (s : State) : Result := s.fp2 d nw a b f32.div
/-- `fsqrt.f32` (R264). -/
def execFsqrtF32 (d : Nat) (a : VSrc) (nw : Bool) (s : State) : Result :=
  s.fp1 d nw a (fun t v => f32.sqrt t.rm (t.rflush .c32) v)
/-- `fmin.f32` (R266). -/
def execFminF32 (d : Nat) (a b : VSrc) (nw : Bool) (s : State) : Result :=
  s.fp2 d nw a b (fun _ fl => f32.minmax false fl)
/-- `fmax.f32` (R266). -/
def execFmaxF32 (d : Nat) (a b : VSrc) (nw : Bool) (s : State) : Result :=
  s.fp2 d nw a b (fun _ fl => f32.minmax true fl)
/-- `frcp` (R269). -/
def execFrcp (d : Nat) (a : VSrc) (nw : Bool) (s : State) : Result := s.fp1 d nw a (fun t => frcpVal (t.rflush .c32))
/-- `frsq` (R269). -/
def execFrsq (d : Nat) (a : VSrc) (nw : Bool) (s : State) : Result := s.fp1 d nw a (fun t => frsqVal (t.rflush .c32))
/-- `fexp2` (R269). -/
def execFexp2 (d : Nat) (a : VSrc) (nw : Bool) (s : State) : Result := s.fp1 d nw a (fun t => fexp2Val (t.rflush .c32))
/-- `flog2` (R269). -/
def execFlog2 (d : Nat) (a : VSrc) (nw : Bool) (s : State) : Result := s.fp1 d nw a (fun t => flog2Val (t.rflush .c32))
/-- `fround.f32` (R270). -/
def execFroundF32 (d : Nat) (a : VSrc) (nw : Bool) (s : State) : Result := s.fp1 d nw a (fun t => f32.fround t.rm)
/-- `fclass.f32` (R268). -/
def execFclassF32 (d : Nat) (a : VSrc) (nw : Bool) (s : State) : Result :=
  s.vec1 d nw a (fun x => BitVec.ofNat 32 (f32.classify x.toNat))
/-- `fcmp.eq.f32` (R267). -/
def execFcmpEqF32 (d : Nat) (a b : VSrc) (s : State) : Result := s.fcmp32 d a b false FVal.eqv
/-- `fcmp.lt.f32` (R267). -/
def execFcmpLtF32 (d : Nat) (a b : VSrc) (s : State) : Result := s.fcmp32 d a b true FVal.lt
/-- `fcmp.le.f32` (R267). -/
def execFcmpLeF32 (d : Nat) (a b : VSrc) (s : State) : Result := s.fcmp32 d a b true FVal.le
/-- `fadd.f64` (R264). -/
def execFaddF64 (d a b : Nat) (nw : Bool) (s : State) : Result := s.fpw2 d nw a b f64.add
/-- `fsub.f64` (R264). -/
def execFsubF64 (d a b : Nat) (nw : Bool) (s : State) : Result := s.fpw2 d nw a b f64.sub
/-- `fmul.f64` (R264). -/
def execFmulF64 (d a b : Nat) (nw : Bool) (s : State) : Result := s.fpw2 d nw a b f64.mul
/-- `ffma.f64` (R265). -/
def execFfmaF64 (d a b : Nat) (nw : Bool) (s : State) : Result :=
  s.vecOp (.w d nw) [d, d + 1, a, a + 1, b, b + 1]
    (fun t l => t.fpLane (f64.fma t.rm (t.rflush .c64) (t.f64pair d l) (t.f64pair a l) (t.f64pair b l)))
/-- `fdiv.f64` (R264). -/
def execFdivF64 (d a b : Nat) (nw : Bool) (s : State) : Result := s.fpw2 d nw a b f64.div
/-- `fsqrt.f64` (R264). -/
def execFsqrtF64 (d a : Nat) (nw : Bool) (s : State) : Result :=
  s.fpw1 d nw a (fun t v => f64.sqrt t.rm (t.rflush .c64) v)
/-- `fmin.f64` (R266). -/
def execFminF64 (d a b : Nat) (nw : Bool) (s : State) : Result := s.fpw2 d nw a b (fun _ fl => f64.minmax false fl)
/-- `fmax.f64` (R266). -/
def execFmaxF64 (d a b : Nat) (nw : Bool) (s : State) : Result := s.fpw2 d nw a b (fun _ fl => f64.minmax true fl)
/-- `fcmp.eq.f64` (R267). -/
def execFcmpEqF64 (d a b : Nat) (s : State) : Result := s.fcmp64 d a b false FVal.eqv
/-- `fcmp.lt.f64` (R267). -/
def execFcmpLtF64 (d a b : Nat) (s : State) : Result := s.fcmp64 d a b true FVal.lt
/-- `fcmp.le.f64` (R267). -/
def execFcmpLeF64 (d a b : Nat) (s : State) : Result := s.fcmp64 d a b true FVal.le
/-- `fround.f64` (R270). -/
def execFroundF64 (d a : Nat) (nw : Bool) (s : State) : Result := s.fpw1 d nw a (fun t => f64.fround t.rm)
/-- `fclass.f64` (R268). -/
def execFclassF64 (d a : Nat) (nw : Bool) (s : State) : Result :=
  s.vecOp (.v d nw) [a, a + 1] (fun t l => laneVal (BitVec.ofNat 64 (f64.classify (t.pair a l).toNat)))
/-- `ftoi.i32.f32` (R271). -/
def execFtoiI32F32 (d : Nat) (a : VSrc) (nw : Bool) (s : State) : Result :=
  s.fp1 d nw a (fun t v =>
    let r := toInt t.rm (-(2 ^ 31)) (2 ^ 31 - 1) v
    ⟨(r.1 % 2 ^ 32).toNat, r.2⟩)
/-- `itof.f32.i32` (R271). -/
def execItofF32I32 (d : Nat) (a : VSrc) (nw : Bool) (s : State) : Result :=
  s.vecOp (.v d nw) (vregsOf a)
    (fun t l => t.fpLane (f32.round t.rm false (t.src a l).msb (t.src a l).toInt.natAbs 0 false))
/-- `fcvt.f64.f32` (R271). -/
def execFcvtF64F32 (d : Nat) (a : VSrc) (nw : Bool) (s : State) : Result :=
  s.vecOp (.w d nw) (vregsOf a) (fun t l => t.fpLane (f64.ofVal t.rm (t.rflush .c64) (t.f32src a l)))
/-- `fcvt.f32.f64` (R271). -/
def execFcvtF32F64 (d a : Nat) (nw : Bool) (s : State) : Result :=
  s.vecOp (.v d nw) [a, a + 1] (fun t l => t.fpLane (f32.ofVal t.rm (t.rflush .c32) (t.f64pair a l)))
/-- `fcvt.bf16.f32` (R271). -/
def execFcvtBf16F32 (d : Nat) (a : VSrc) (nw : Bool) (s : State) : Result :=
  s.fp1 d nw a (fun t v => bf16.ofVal t.rm (t.rflush .c16) v)
/-- `fcvt.f32.bf16` (R271): the source is bits [15:0] (R192). -/
def execFcvtF32Bf16 (d : Nat) (a : VSrc) (nw : Bool) (s : State) : Result :=
  s.vecOp (.v d nw) (vregsOf a)
    (fun t l => t.fpLane (f32.ofVal t.rm (t.rflush .c32) (bf16.decIn (t.iflush .c16) ((t.src a l).toNat % 2 ^ 16))))
/-- `fcvt.f16.f32` (R271). -/
def execFcvtF16F32 (d : Nat) (a : VSrc) (nw : Bool) (s : State) : Result :=
  s.fp1 d nw a (fun t v => f16.ofVal t.rm (t.rflush .c16) v)
/-- `fcvt.f32.f16` (R271): the source is bits [15:0] (R192). -/
def execFcvtF32F16 (d : Nat) (a : VSrc) (nw : Bool) (s : State) : Result :=
  s.vecOp (.v d nw) (vregsOf a)
    (fun t l => t.fpLane (f32.ofVal t.rm (t.rflush .c32) (f16.decIn (t.iflush .c16) ((t.src a l).toNat % 2 ^ 16))))

/-- A vector instruction that takes a narrow format word from a scalar: an invalid word, or an operand check of the
instruction's own that fails, is `F.ILL` FMTWORD for the team (R272, R273). -/
def State.vecNarrow (s : State) (d : Nat) (nw : Bool) (regs : List Nat) (sb : Nat) (ok : W64 → Bool)
    (f : Team → NFmt → W64 → Nat → LaneRes) : Result :=
  .next (s.issue false .vector ((VDst.v d nw).regs ++ regs) true (fun t =>
    let fw : W32 := (t.s sb).truncate 32
    if nfValid fw && ok (t.s sb) then s.vecAlu t (.v d nw) (fun l => t.guardPoison regs l (f t (NFmt.of fw) (t.s sb) l))
    else s.checkFault t true 0x01 0x0011 0))

/-- The code a lane converts to, with its flags (R272). -/
def Team.narrowOf (t : Team) (f : NFmt) (v : FVal) : FRes := f.narrow t.rm (t.rflush .narrow) v

/-- The FP32 value of a code (R272). -/
def Team.ofNarrow (t : Team) (f : NFmt) (code : Nat) : FRes :=
  f32.ofVal t.rm (t.rflush .c32) (f.decIn (t.iflush .narrow) code)

/-- `fcvt.nf.f32` (R272). -/
def execFcvtNfF32 (d : Nat) (a : VSrc) (b : Nat) (nw : Bool) (s : State) : Result :=
  s.vecNarrow d nw (vregsOf a) b (fun _ => true) (fun t f _ l => t.fpLane (t.narrowOf f (t.f32src a l)))
/-- `fcvt.f32.nf` (R272). -/
def execFcvtF32Nf (d : Nat) (a : VSrc) (b : Nat) (nw : Bool) (s : State) : Result :=
  s.vecNarrow d nw (vregsOf a) b (fun _ => true)
    (fun t f _ l => t.fpLane (t.ofNarrow f ((t.src a l).toNat % 2 ^ f.w)))

/-- The element index of a pack descriptor (R273). -/
def packIndex (x : W64) : Nat := x.toNat / 2 ^ 32 % 256

/-- INDEX is below the number of elements (R273, R197). -/
def packOk (x : W64) : Bool := decide (packIndex x < 32 / (NFmt.of (x.truncate 32)).w)

/-- A word with element i replaced and the bits above the last element zero (R197, R273). -/
def packInto (w i code word : Nat) : Nat :=
  let word := word % 2 ^ (w * (32 / w))
  word - word / 2 ^ (w * i) % 2 ^ w * 2 ^ (w * i) + code * 2 ^ (w * i)

/-- `fpack` (R273). -/
def execFpack (d : Nat) (a : VSrc) (b : Nat) (nw : Bool) (s : State) : Result :=
  s.vecNarrow d nw (d :: vregsOf a) b packOk (fun t f x l =>
    let r := t.narrowOf f (t.f32src a l)
    t.fpLane ⟨packInto f.w (packIndex x) r.bits (t.vreg d l).toNat, r.flags⟩)
/-- `funpack` (R273). -/
def execFunpack (d : Nat) (a : VSrc) (b : Nat) (nw : Bool) (s : State) : Result :=
  s.vecNarrow d nw (vregsOf a) b packOk (fun t f x l =>
    t.fpLane (t.ofNarrow f ((t.src a l).toNat / 2 ^ (f.w * packIndex x) % 2 ^ f.w)))
/-- `fstat`: read and clear the sticky flags (R274). -/
def execFstat (d : Nat) (s : State) : Result :=
  .next (s.once false .any (fun t => s.complete { t.setS d (t.sticky.zeroExtend 64) with sticky := 0 }))
/-- `fmode`: exchange the mode word (R275). -/
def execFmode (d a : Nat) (s : State) : Result :=
  .next (s.once false .any (fun t =>
    s.complete { t.setS d (t.fpmode.zeroExtend 64) with fpmode := (t.s a).truncate 32 &&& modeMask }))

/-- `fadd` in its 16-bit form (R212). -/
def execFadd16 (d a : Nat) (s : State) : Result := s.fp2 d false (.reg d) (.reg a) f32.add
/-- `fsub` in its 16-bit form (R212). -/
def execFsub16 (d a : Nat) (s : State) : Result := s.fp2 d false (.reg d) (.reg a) f32.sub
/-- `fmul` in its 16-bit form (R212). -/
def execFmul16 (d a : Nat) (s : State) : Result := s.fp2 d false (.reg d) (.reg a) f32.mul
/-- `fmax` in its 16-bit form (R212). -/
def execFmax16 (d a : Nat) (s : State) : Result :=
  s.fp2 d false (.reg d) (.reg a) (fun _ fl => f32.minmax true fl)

end Sys2Proof.Machine
end

