-- ==== Sys2Proof/Machine/Flow.lean ====
section
/-! DEFINITION. Masks, cross-lane instructions and control flow (spec/15, R277 to R292). -/

namespace Sys2Proof.Machine

/-! ### Masks (R280) -/

/-- A mask instruction: once, on the whole mask. -/
def State.maskOp (s : State) (d : Nat) (f : Team → LaneMask) : Result :=
  .next (s.once false .vector (fun t => s.complete (t.setM d (f t))))

/-- `mand` (R280). -/
def execMand (d a b : Nat) (s : State) : Result := s.maskOp d (fun t => t.mreg a &&& t.mreg b)
/-- `mor` (R280). -/
def execMor (d a b : Nat) (s : State) : Result := s.maskOp d (fun t => t.mreg a ||| t.mreg b)
/-- `mxor` (R280). -/
def execMxor (d a b : Nat) (s : State) : Result := s.maskOp d (fun t => t.mreg a ^^^ t.mreg b)
/-- `mnot` (R280). -/
def execMnot (d a : Nat) (s : State) : Result := s.maskOp d (fun t => ~~~(t.mreg a))
/-- `mmov` (R280). -/
def execMmov (d a : Nat) (s : State) : Result := s.maskOp d (fun t => t.mreg a)
/-- `mpop` (R280). -/
def execMpop (d a : Nat) (s : State) : Result :=
  s.scalarOp .vector d (fun t => BitVec.ofNat 64 (lanesOf (t.mreg a) t.lanes).length)
/-- `mfirst` (R280). -/
def execMfirst (d a : Nat) (s : State) : Result :=
  s.scalarOp .vector d (fun t =>
    match (lanesOf (t.mreg a) t.lanes).head? with
    | some l => BitVec.ofNat 64 l
    | none => BitVec.allOnes 64)

/-! ### `shfl` and `bcast` (R281, R282) -/

/-- The value of register a in lane k, 0 for a lane the team does not have. -/
def Team.laneOr0 (t : Team) (a k : Nat) : W32 := if t.lanes ≤ k then 0 else t.vreg a k

/-- The value a lane reads from lane k of register a: poison there faults the reading lane (R433). -/
def Team.crossLane (t : Team) (a k : Nat) : LaneRes := t.guardPoison [a] k (laneVal32 (t.laneOr0 a k))

/-- `shfl` (R281). -/
def execShfl (d a : Nat) (b : VSrc) (nw : Bool) (s : State) : Result :=
  s.vecOpWith (.v d nw) (vregsOf b) [a] (fun t l => t.crossLane a (t.src b l).toNat)
/-- `bcast` (R281). -/
def execBcast (d a b : Nat) (nw : Bool) (s : State) : Result :=
  s.vecOpWith (.v d nw) [] [a] (fun t _ => t.crossLane a ((t.s b).toNat % 2 ^ 32))

/-! ### `reduce` and `scan` (R283, R284) -/

/-- A combining operation: what a lone value becomes, the fold, the empty result, and whether it is an integer. -/
structure Combine where
  enter : Team → W32 → W32
  fold : Team → W32 → W32 → FRes
  empty : W32
  int : Bool

/-- `.add.i32`. -/
def combAddI : Combine := ⟨fun _ x => x, fun _ p x => ⟨(p + x).toNat, 0⟩, 0, true⟩
/-- `.max.i32`. -/
def combMaxI : Combine := ⟨fun _ x => x, fun _ p x => ⟨(maxI p x).toNat, 0⟩, 0x80000000, true⟩

/-- An FP32 code after input flush. -/
def Team.flushIn32 (t : Team) (x : W32) : W32 :=
  if t.iflush .c32 && f32.isSub x.toNat then x &&& 0x80000000 else x

/-- `.add.f32`. -/
def combAddF : Combine :=
  ⟨Team.flushIn32, fun t p x => f32.add t.rm (t.rflush .c32) (f32.dec p.toNat) (f32.dec x.toNat), 0, false⟩
/-- `.max.f32`. -/
def combMaxF : Combine :=
  ⟨Team.flushIn32, fun t p x => f32.minmax true (t.rflush .c32) (f32.dec p.toNat) (f32.dec x.toNat), 0xFF800000, false⟩

/-- The running fold over the lanes of a pass: value, presence, flags, and each lane's value (last lane first). -/
structure FoldSt where
  p : W32
  pres : Bool
  flags : Flags
  outs : List (Nat × W32)

/-- One lane joins the fold. -/
def Combine.lane (c : Combine) (t : Team) (a : VSrc) (st : FoldSt) (l : Nat) : FoldSt :=
  let x := c.enter t (t.src a l)
  if st.pres then
    let r := c.fold t st.p x
    let p := BitVec.ofNat 32 r.bits
    { p := p, pres := true, flags := st.flags ||| r.flags, outs := (l, p) :: st.outs }
  else { p := x, pres := true, flags := st.flags, outs := (l, x) :: st.outs }

/-- How a pass loop ends. -/
inductive RedEnd where
  | done
  | stopped
  | fault (f : FaultInfo)

/-- The active lanes of mask word j. -/
def Team.wordLanes (t : Team) (j : Nat) : List Nat := (lanesOf t.active t.lanes).filter (fun l => l / 32 == j)

/-- The words j and later, `n` of them, of a reduction or scan: passes in order, each changing the record in one step
(R283). `lim` passes may still run. A word with a poisoned active lane stops the fold before its pass, as a word that raises F.FPE
does (R181): its good lanes and the later words stay undone and the mask names the poisoned lanes (R32; DESIGN CHOICE, log 102). -/
def redLoop (c : Combine) (a : VSrc) (scan : Option VDst) : Nat → Nat → Option Nat → Team → Team × RedEnd
  | 0, _, _, t => (t, .done)
  | n + 1, j, lim, t =>
    let ls := t.wordLanes j
    if ls.isEmpty then redLoop c a scan n (j + 1) lim { t with pwords := j + 1 }
    else if lim = some 0 then (t, .stopped)
    else if ls.any (fun l => (t.poisonedReg (vregsOf a) l).isSome) then
      (t, .fault (faultOf 0x0B 0 (BitVec.ofNat 64 ((vregsOf a).headD 0))
        (maskOf (ls.filter (fun l => (t.poisonedReg (vregsOf a) l).isSome)))))
    else
      let st := ls.foldl (c.lane t a) ⟨t.pvalue.truncate 32, t.pvalue.getLsbD 32, 0, []⟩
      if st.flags &&& t.traps ≠ 0 then (t, .fault (faultOf 0x11 st.flags.toNat 0 (maskOf ls)))
      else
        let t1 :=
          match scan with
          | none => t
          | some dst =>
            let t1 := st.outs.reverse.foldl (fun (t : Team) (e : Nat × W32) => t.put dst e.1 (e.2.zeroExtend 64)) t
            { t1 with done := t.done ||| maskOf ls }
        let pv : W64 := (1 : W64) <<< 32 ||| st.p.zeroExtend 64
        redLoop c a scan n (j + 1) (lim.map (· - 1))
          { t1 with sticky := t1.sticky ||| st.flags, pvalue := pv, pwords := j + 1 }

/-- Run a reduction or scan from its record and finish it. -/
def State.redRun (s : State) (t : Team) (c : Combine) (a : VSrc) (scan : Option VDst) (fin : W64 → Team → Team) :
    State :=
  let t := if t.pwords = 0 then { t with pvalue := 0 } else t
  match redLoop c a scan (t.words - t.pwords) t.pwords s.latch.passLimit t with
  | (t1, .stopped) => s.setTeam s.cur t1
  | (t1, .fault f) => s.unitFault t1 f
  | (t1, .done) => s.complete (fin t1.pvalue { t1 with pvalue := 0, pwords := 0 })

/-- `reduce`: the fold into a scalar (R283). -/
def State.reduce (s : State) (d : Nat) (a : VSrc) (c : Combine) : Result :=
  .next (s.issue false .vector (vregsOf a) true (fun t =>
    s.redRun t c a none (fun pv t =>
      let p : W32 := if pv.getLsbD 32 then pv.truncate 32 else c.empty
      t.setS d (if c.int then p.signExtend 64 else p.zeroExtend 64))))

/-- `scan`: the fold at each lane into a vector (R283). -/
def State.scan (s : State) (d : Nat) (a : VSrc) (nw : Bool) (c : Combine) : Result :=
  .next (s.issue false .vector ((VDst.v d nw).regs ++ vregsOf a) true (fun t =>
    s.redRun t c a (some (.v d nw)) (fun _ t => t)))

/-- `reduce.add.i32` (R283). -/
def execReduceAddI32 (d : Nat) (a : VSrc) (s : State) : Result := s.reduce d a combAddI
/-- `reduce.add.f32` (R283). -/
def execReduceAddF32 (d : Nat) (a : VSrc) (s : State) : Result := s.reduce d a combAddF
/-- `reduce.max.i32` (R283). -/
def execReduceMaxI32 (d : Nat) (a : VSrc) (s : State) : Result := s.reduce d a combMaxI
/-- `reduce.max.f32` (R283). -/
def execReduceMaxF32 (d : Nat) (a : VSrc) (s : State) : Result := s.reduce d a combMaxF
/-- `scan.add.i32` (R283). -/
def execScanAddI32 (d : Nat) (a : VSrc) (nw : Bool) (s : State) : Result := s.scan d a nw combAddI
/-- `scan.add.f32` (R283). -/
def execScanAddF32 (d : Nat) (a : VSrc) (nw : Bool) (s : State) : Result := s.scan d a nw combAddF
/-- `scan.max.i32` (R283). -/
def execScanMaxI32 (d : Nat) (a : VSrc) (nw : Bool) (s : State) : Result := s.scan d a nw combMaxI
/-- `scan.max.f32` (R283). -/
def execScanMaxF32 (d : Nat) (a : VSrc) (nw : Bool) (s : State) : Result := s.scan d a nw combMaxF

/-! ### Branches, calls and loops (R285 to R288) -/

/-- The target of a branch word: its own address plus twice the offset (R285). -/
def UnitLatch.target (u : UnitLatch) (off : Int) : W64 := wide u.word + BitVec.ofInt 64 (2 * off)

/-- A branch: taken with the pops of R288, or complete in sequence. -/
def State.branch (s : State) (need : RoleNeed) (off : Int) (cond : Team → Bool) : Result :=
  .next (s.once false need (fun t =>
    if cond t then
      let tgt := s.latch.target off
      s.transferChecked t tgt false (branchPops s.latch.start (tgt.truncate 57) t.loops)
    else s.complete t))

/-- `bra` (R285). -/
def execBra (off : Int) (s : State) : Result := s.branch .any off (fun _ => true)
/-- `bz` on a mask (R285). -/
def execBzM (m : Nat) (off : Int) (s : State) : Result := s.branch .vector off (fun t => t.mreg m == 0)
/-- `bnz` on a mask (R285). -/
def execBnzM (m : Nat) (off : Int) (s : State) : Result := s.branch .vector off (fun t => t.mreg m != 0)
/-- `ball` (R285). -/
def execBall (m : Nat) (off : Int) (s : State) : Result :=
  s.branch .vector off (fun t => t.mreg 0 &&& ~~~(t.mreg m) == 0)
/-- `bz` on a scalar (R285). -/
def execBzS (r : Nat) (off : Int) (s : State) : Result := s.branch .any off (fun t => t.s r == 0)
/-- `bnz` on a scalar (R285). -/
def execBnzS (r : Nat) (off : Int) (s : State) : Result := s.branch .any off (fun t => t.s r != 0)
/-- `call` (R287). -/
def execCall (off : Int) (s : State) : Result :=
  .next (s.once false .any (fun t =>
    let tgt := s.latch.target off
    if canonical tgt then s.transfer (t.setS 63 (wide s.latch.word + 4)) (tgt.truncate 57) t.loops
    else s.onceFault t 0x09 0x0001 tgt))
/-- `jmpr` (R287). -/
def execJmpr (a : Nat) (s : State) : Result :=
  .next (s.once false .any (fun t => s.transferChecked t (t.s a) true t.loops))
/-- `ret` (R287). -/
def execRet (s : State) : Result :=
  .next (s.once false .any (fun t => s.transferChecked t (t.s 63) true t.loops))

/-- `loop` (R288). -/
def execLoop (r : Nat) (off : Int) (s : State) : Result :=
  .next (s.once false .any (fun t =>
    let e := s.latch.target off
    let n : W32 := (t.s r).truncate 32
    if 2 * off ≤ 4 then s.onceFault t 0x06 0x0002 0
    else if n = 0 then s.transferChecked t e false t.loops
    else if 4 ≤ t.loops.length then s.onceFault t 0x06 0x0001 0
    else
      let start := s.latch.word + 4
      s.transfer t start (⟨start, e.truncate 57, n⟩ :: t.loops)))

/-- `lbrk` (R288). -/
def execLbrk (s : State) : Result :=
  .next (s.once false .any (fun t =>
    match t.loops with
    | e :: rest => s.transfer t e.stop rest
    | [] => s.transfer t (s.latch.word + 4) []))

end Sys2Proof.Machine
end

