-- ==== Sys2Proof/Machine/LockIsa.lean ====
section
/-! DEFINITION. The line lock instructions (R107 to R118, R307 to R310). -/

namespace Sys2Proof.Machine

/-- `F.LOCK` at the instruction (R113). -/
def State.lockFault (s : State) (t : Team) (sub : Nat) (va : W64) : State := s.onceFault t 0x20 sub va

/-- The region [va, va + len) leaves its half of the address space, wraps, or is not canonical (R113, R308). -/
def regionBad (va : W64) (len : Nat) : Bool :=
  let last := va + BitVec.ofNat 64 len - 1
  decide (len ≠ 0) && (!canonical va || !canonical last || va.getLsbD 56 != last.getLsbD 56 || decide (last.toNat < va.toNat))

/-- The size of the virtual range a held entry's object has, and its base (R308). -/
def HeldLock.range (e : HeldLock) : Nat × Nat :=
  let n := if e.grain then 512 else 128
  (e.va.toNat / n * n, n)

/-- The first waiting kind of an instruction of this chapter: `llock` waits architecturally (R444); an `ltry` that waits
for its reply has no image (R307). -/
def ltryKind : Nat := 12

/-- The grant that is on its way to a team, of the lock it waits on. -/
def State.grantOf (s : State) (t : Team) : Option Waiter :=
  ((tabGet? s.locks t.wait.object.toNat).bind (fun r => r.inFlight)).filter (fun w => w.team == t.uid)

/-- The lock request that the wait record names completes with a status word (R308): the lock joins the held-lock set, with what the
request named, and with the acquire of R97 when the code is `OK`; a ticket is kept with `QFULL`. -/
def State.lockDone (s : State) (t : Team) (d : Nat) (scope : Scope) (st : W64) : State :=
  let code := st.toNat % 256
  let obj := t.wait.object.toNat
  let grain := st.getLsbD 9
  let s1 := s.setTeam s.cur { t with wait := .idle }
  if code = 0 then
    let (va, len) := ((s.grantOf t).map (fun w => (w.va, w.regionLen))).getD (t.wait.object, 0)
    let s2 := match tabGet? s1.locks obj with
      | some r => s1.setLock obj { r with inFlight := none }
      | none => s1
    (s2.acquireLoad (s2.stampOf (lockLine obj grain va.toNat)).wts).completeWith (fun t =>
      let t1 : Team := { t with held := t.held ++ [⟨va, obj, scope, len, grain, false⟩] }
      t1.setS d st)
  else
    let kept : WaitRec := if code = 3 then
        { WaitRec.idle with kind := 10, scope := scope.code, object := t.wait.object, ticket := st.extractLsb' 32 32 }
      else .idle
    s1.completeWith (fun t => ({ t with wait := kept } : Team).setS d st)

/-- Send a request to the home and wait for its reply (R308). A waiter record the team still has at another lock goes
(R113). -/
def State.lockSend (s : State) (t : Team) (va : W64) (regionLen obj : Nat) (grain ltry keep : Bool) (scope : Scope)
    (timeout : Nat) : State :=
  let old := t.wait
  let kept := if keep ∧ (old.kind = 10) ∧ old.object.toNat = obj then some old.ticket else none
  let deadline := if timeout = 0 then 0 else t.heldSince.getD s.time + timeout * 1000
  let w : Waiter :=
    { team := t.uid, ticket := 0, deadline := deadline, passed := 0, since := s.time, probeAt := s.time + s.lkdTiming.1 * 1000, core := s.cur.1,
        slot := s.cur.2,
      scope := scope, va := va, regionLen := regionLen }
  let s1 := s.forgetLock t.uid old
  let rec_ : WaitRec :=
    { WaitRec.idle with
      kind := if ltry then ltryKind else 3, scope := scope.code, object := BitVec.ofNat 64 obj,
      deadline := BitVec.ofNat 64 deadline, p1 := t.key s.latch.start }
  let s2 := s1.waitWith { t with wait := .idle } rec_
  { s2 with
    lockReqs := s2.lockReqs ++ [⟨t.uid, obj, grain, ltry, kept, w⟩],
    agenda := .lockRequest s.cur.1 s.cur.2 :: s2.agenda }

/-- What a lock instruction that sends no request leaves of the wait record: that of an interrupted `llock` stays, and the rest goes
(R307, R337). -/
def WaitRec.unsent (w : WaitRec) : WaitRec := if w.kind = 3 then w else .idle

/-- A request that has been sent waits for its reply, or for the fault that ends it (R123, R308). -/
def State.lockAwait (s : State) (t : Team) (d : Nat) (scope : Scope) : State :=
  match t.wait.fault, t.wait.reply with
  | some f, _ => s.unitFault { t with wait := .idle } f
  | none, some st => s.lockDone t d scope st
  | none, none => s.setTeam s.cur t

/-- The checks of `llock` and `ltry` and their request (R308). An object that cannot be locked, or one that the supervisor asks for, which
holds no line lock (R398; DESIGN CHOICE, log 108), gives `NOTHOME`. -/
def State.lockAsk (s : State) (t : Team) (d : Nat) (va w : W64) (ltry : Bool) (scope : Scope) : State :=
  let rlen := w.toNat / 2 ^ 18 % 2 ^ 14
  let keep := w.toNat / 2 ^ 17 % 2 = 1
  if scope = .team then s.lockFault t 6 va
  else if 8192 < rlen ∨ regionBad va (rlen * 128) then s.lockFault t 5 va
  else
    s.scalarAccess t va 1 .lock (fun s p =>
      let obj := lockObject p
      let grain := p.grain == 512
      if 8 ≤ t.held.length then s.lockFault t 1 va
      else if t.held.any (fun e => e.obj == obj) then s.lockFault t 2 va
      else if lockable p = false ∨ s.cur.2 = 0 then
        s.completeWith (fun t => ({ t with wait := t.wait.unsent } : Team).setS d (statusWord 5 0 0 false grain false))
      else
        s.afterStores scope false allStores (fun s t =>
          s.lockSend t va (rlen * 128) obj grain ltry keep scope (w.toNat / 2 ^ 32)))

/-- `llock` and `ltry` (R308): the instruction that has sent its request only waits for the reply. -/
def State.lockOp (s : State) (d : Nat) (va : Team → W64) (word : Team → W64) (ltry : Bool) (scope : Scope) : Result :=
  .next (s.once false .any (fun t =>
    if t.wait.kind = (if ltry then ltryKind else 3) ∧ t.wait.p1 = t.key s.latch.start then s.lockAwait t d scope
    else s.lockAsk t d (va t) (word t) ltry scope))

/-- `llock` (R308). -/
def execLlock (d sb x : Nat) (scope : Scope) (s : State) : Result :=
  s.lockOp d (fun t => t.s sb) (fun t => t.s x) false scope
/-- `ltry`: no operand word (R307). -/
def execLtry (d sb : Nat) (scope : Scope) (s : State) : Result :=
  s.lockOp d (fun t => t.s sb) (fun _ => 0) true scope

/-- A byte of an access lies in the region bound to a lock (R309). An access without buffered bytes is one word or one block. -/
def HeldLock.binds (e : HeldLock) (p : PendStore) : Bool :=
  (if p.data.isEmpty then [p.pa, p.pa + (p.size - 1)] else p.data.map Prod.fst).any (fun a =>
    decide (e.va.toNat ≤ p.va + (a - p.pa)) && decide (p.va + (a - p.pa) < e.va.toNat + e.regionLen))

/-- The wider of two scopes (R309). -/
def Scope.wider (a b : Scope) : Scope := if a.code < b.code then b else a

/-- `lunlock` and `lunlock.reg` (R309, R124). -/
def State.unlockOp (s : State) (sb : Nat) (scope : Scope) (reg : Bool) : Result :=
  .next (s.once false .any (fun t =>
    let sa := t.s sb
    if scope = .team then s.lockFault t 6 sa
    else
      match t.held.find? (fun e => let r := e.range; decide (r.1 ≤ sa.toNat ∧ sa.toNat < r.1 + r.2)) with
      | none => s.lockFault t 3 sa
      | some e =>
        if reg ∧ e.regionLen = 0 then s.lockFault t 4 sa
        else
          s.afterStores (Scope.wider scope e.scope) false (fun p => !reg || e.binds p) (fun s t =>
            let drop (t : Team) : Team := { t with held := t.held.filter (fun x => x.obj != e.obj) }
            if s.fenced.contains (sliceDie (s.homeOf e.obj)) then
              if e.homeLost then s.completeWith drop
              else
                s.unitFault
                  { t with held := t.held.map (fun x => if x.obj = e.obj then { x with homeLost := true } else x) }
                  (faultOf 0x0C 1 (BitVec.ofNat 64 e.obj) (teamFaultMask t false))
            else (s.releaseLock s.cur.1 e.obj false).completeWith drop)))

/-- `lunlock` (R309). -/
def execLunlock (sb : Nat) (scope : Scope) (s : State) : Result := s.unlockOp sb scope false
/-- `lunlock.reg` (R309). -/
def execLunlockReg (sb : Nat) (scope : Scope) (s : State) : Result := s.unlockOp sb scope true

/-- The word of `lstat` for a lockable object (R116). In state TRANSIT its ABANDONED shows the last delivered grant (DESIGN CHOICE,
log 96). -/
def State.lockWord (s : State) (obj : Nat) (grain mine : Bool) : Nat :=
  let r := (tabGet? s.locks obj).getD (LockRec.fresh grain)
  let st := r.stateCode
  r.waiters.length * 2 ^ 48 + s.homeOf obj * 2 ^ 38 + bit mine * 2 ^ 37 + bit grain * 2 ^ 36 +
    bit (st == 4 || (r.lastAbandoned && st != 0)) * 2 ^ 35 + st * 2 ^ 32 + (if st = 0 then 0 else r.next.toNat)

/-- `lstat` (R310). -/
def execLstat (d a : Nat) (s : State) : Result :=
  .next (s.once false .any (fun t =>
    s.scalarAccess t (t.s a) 1 .lock (fun s p =>
      let obj := lockObject p
      let x := if lockable p then s.lockWord obj (p.grain == 512) (t.held.any (fun e => e.obj == obj)) else 7 * 2 ^ 32
      s.completeWith (fun t => t.setS d (BitVec.ofNat 64 x)))))

end Sys2Proof.Machine
end

