-- ==== Sys2Proof/Machine/Wait.lean ====
section
/-! DEFINITION. When what a team waits for has come (R34, R48, R53): its wait is met, or the line it is held on is free. -/

namespace Sys2Proof.Machine

/-! ### Tile waits (R444) -/

/-- The condition of a tile wait holds of the entry it names: a fault of the entry ends it too (R153, R315). A `twait`, which keeps no
first phase, ends with the change of R319. -/
def Team.entryMet (t : Team) (k : Core) (b : Block) (slot : Bool) (e : Nat) : Bool :=
  let x := k.tile e
  x.faulted ||
    (match t.wait.param / 2 ^ 6 % 4 with
     | 2 => x.state == 0 || x.state == 2
     | 3 => x.state != 1 && x.state != 3 && !k.tileReaders b slot x.localNo e
     | n => if t.wait.p1 = [] then t.wait.met || tileMet x slot t.wait else x.state == 2 * n)

/-- The tile wait of a team on core c is met. -/
def State.tileOver (s : State) (c : Nat) (t : Team) : Bool :=
  let p := t.wait.param
  if 2 ^ 16 ≤ p then
    let q := p / 2 ^ 16 - 1
    let x := (s.core (q / 64)).tile (q % 64)
    x.faulted || (x.state != 1 && x.state != 3)
  else
    match s.blockOf c t with
    | none => true
    | some b =>
      let slot := p / 2 ^ 5 % 2 == 1
      match b.entry? slot (p % 2 ^ 5) with
      | none => true
      | some e => t.entryMet (s.core c) b slot e

/-! ### The other waits -/

/-- The barrier wait of a team on core c is met: the phase a `bar` recorded has passed, or the team's MASK bit is clear (R335). -/
def State.barrierOver (s : State) (c : Nat) (t : Team) : Bool :=
  match (s.blockOf c t).bind (fun b => b.barrier t.wait.param) with
  | none => true
  | some x => if t.wait.recorded then x.phase != t.wait.object.setWidth 32 else !x.has t.tindex

/-- A copy or operation that an instruction of the team waits on has a fault to report (R153, R169). -/
def State.dueAt (s : State) (t : Team) (selO : MatOp → Bool) (selC : Copy → Bool) : Bool :=
  (s.reportDue t (fun _ o => selO o) selC).isSome

/-- The anvils that a matrix operation waits for are free on its core, or on all cores of its group (R146, R151). -/
def State.anvilsOver (s : State) (c : Nat) (t : Team) : Bool :=
  match s.blockOf c t with
  | none => true
  | some b =>
    let cs := if t.wait.param = 0 then [c] else (s.groupOf b).map Prod.fst
    cs.all (fun c => ((s.core c).takeAnvils (FormatBlock.ofWords t.wait.p1).shape).isSome && (s.core c).anvilWaiters.isEmpty)

/-- What the wait record of the team in place `p` waits for has come (R34, R48). -/
def State.waitMet (s : State) (p : Nat × Nat) (t : Team) : Bool :=
  let tok : BitVec 16 := BitVec.ofNat 16 t.wait.param
  match t.wait.kind with
  | 1 => s.tileOver p.1 t
  | 2 => s.barrierOver p.1 t
  | 3 | 12 => t.wait.reply.isSome || t.wait.fault.isSome
  | 4 => decide ((s.core p.1).copies.length < copyLimit)
  | 5 => tokenDone t.copyIssued t.copyDone tok || s.dueAt t (fun _ => false) (fun y => tokenCovers tok y.token)
  | 6 => decide ((t.issued - t.drained).toNat ≠ groupLimit)
  | 7 => tokenDone t.issued t.drained tok || s.dueAt t (fun o => o.group.any (tokenCovers tok)) (fun _ => false)
  | 8 => decide (t.wait.object.toNat ≤ (s.proc (s.procOf p t)).completed.toNat)
  | 9 => decide ((s.proc (s.procOf p t)).deferred.length < 65536)
  | 13 => s.anvilsOver p.1 t
  | 14 => !s.hasWork t.uid || s.dueAt t (fun _ => true) (fun y => !y.cancelled)
  | _ => true

/-- What holds a line is not of the line alone: an instruction that the team of a register stands within (R72), or an older access of
the team to the same device that a copy engine holds up (R96). -/
def State.placeHeld (s : State) (c uid line : Nat) : Bool :=
  match regionOf (line * 128) with
  | .window k off => s.regBusy k off (some uid)
  | .pod => (s.core c).stores.any (fun q => q.toDevice uid (line * 128) && s.lineOwned (q.pa / 128))
  | _ => false

/-- The line a team of core c is held on is free: no copy engine owns it (R85), every holder answers (R103), no store that the team
waits for stands before it (R100), the counters on its way have room (R102), and no epoch change is due (R82). -/
def State.lineFree (s : State) (c uid line : Nat) : Bool :=
  !s.epochDue && !s.lineOwned line && !s.rangeBusy (line * 128) 128 && (s.lineUnreachable c line).isNone &&
    !(s.core c).stores.any (fun q => q.pa / 128 == line && (q.stuck.isSome || (s.unreachable c q.pa).isSome)) &&
    !s.counterFull c (line * 128) && !s.placeHeld c uid line

/-- The team in place `p` is in a wait of R34 that is not met. -/
def State.stillWaits (s : State) (p : Nat × Nat) (t : Team) : Bool := t.waiting && !s.waitMet p t

end Sys2Proof.Machine
end

