-- ==== Sys2Proof/Machine/Schedule.lean ====
section
/-! DEFINITION. The issue choice (R47 to R51): which team issues next, the counts of cycles ready, the age boost and `yield`. -/

namespace Sys2Proof.Machine

/-- The issue resource that is the scalar unit (R51). -/
def scalarUnit : Nat := 4

/-- An operation of the team's block that was stopped waits for anvils to restart on, which comes before the block's teams issue
(R73, R155). -/
def State.restartDue (s : State) (c : Nat) (t : Team) : Bool := (s.core c).ops.any (fun o => o.blk == t.blk && o.stoppedOp)

/-- The team in place `p` is ready (R34, R48): it can issue, what it waits for has come, its line is free, and every operation of its block
that was stopped runs again. A kept ticket is no wait. -/
def State.isReady (s : State) (p : Nat × Nat) (t : Team) : Bool :=
  t.canIssue (s.blockOf p.1 t) && t.hold.all (s.lineFree p.1 t.uid) && !s.stillWaits p t && !s.restartDue p.1 t

/-- The team's next instruction executes once for the team (R20), by its word. A unit that cannot be fetched counts with
the team's datapath. -/
def State.nextOnce (s : State) (p : Nat × Nat) (t : Team) : Bool :=
  match s.fetchUnit p t with
  | .ok u _ => !wordIsVector u.word.w
  | _ => false

/-- The issue resource the team needs for its next unit (R49, R51). -/
def State.resourceOf (s : State) (p : Nat × Nat) (t : Team) : Nat :=
  if t.role = .vector then (if s.nextOnce p t then scalarUnit else t.datapath) else scalarUnit

/-- The rank of a priority class: lower goes first (R49). -/
def Prio.rank : Prio → Nat
  | .supervisor => 0 | .high => 1 | .normal => 2

/-- The criteria of R49 that boosts do not settle: the priority class, the cycles ready, and the slot. -/
def ranksByClass (a b : Nat × Team) : Bool :=
  if a.2.prio.rank ≠ b.2.prio.rank then decide (a.2.prio.rank < b.2.prio.rank)
  else if a.2.cyclesReady ≠ b.2.cyclesReady then decide (b.2.cyclesReady < a.2.cyclesReady)
  else decide (a.1 < b.1)

/-- Team a in slot i goes before team b in slot j (R49): the first criterion that separates them decides. -/
def ranksBefore (a b : Nat × Team) : Bool :=
  match a.2.boost, b.2.boost with
  | some x, some y => if x ≠ y then decide (x < y) else ranksByClass a b
  | some _, none => true
  | none, some _ => false
  | none, none => ranksByClass a b

/-- The first of some teams in the ranking of R49. -/
def firstRanked (ts : List (Nat × Team)) : Option Nat :=
  (ts.foldl (fun r e =>
    match r with
    | none => some e
    | some b => if ranksBefore e b then some e else some b) none).map Prod.fst

/-- The ready teams of a core, by slot. -/
def State.readyTeams (s : State) (c : Nat) : List (Nat × Team) :=
  (s.core c).teams.filter (fun e => s.isReady (c, e.1) e.2)

/-- The ready teams that need an issue resource of a core. -/
def State.onResource (s : State) (c res : Nat) : List (Nat × Team) :=
  (s.readyTeams c).filter (fun e => s.resourceOf (c, e.1) e.2 == res)

/-- The candidates of an issue resource of a core: the two instructions that the scalar unit issues in a cycle come from different
teams (R51). -/
def State.candidates (s : State) (c res : Nat) : List (Nat × Team) :=
  let ts := s.onResource c res
  let others := ts.filter (fun e => res != scalarUnit || (s.core c).half != some e.1)
  if others.isEmpty then ts else others

/-! ### The next turn -/

/-- Without a turn the core of the team that issued last goes on: with the first in the ranking of R49 for the resource of that team's
next unit, or, when none is ready there, of the first resource that has one. -/
def State.goOn (s : State) : State :=
  let c := s.cur.1
  if (s.core c).teams.length ≤ 1 then s
  else
    match (((s.team? s.cur).map (s.resourceOf s.cur)).toList ++ [0, 1, 2, 3, scalarUnit]).findSome? (fun r => firstRanked (s.candidates c r)) with
    | some slot => { s with cur := (c, slot) }
    | none => s

/-- The next turn decides who issues next, or is a step of a home or of a copy engine. A team that is no longer held back when its turn
to re-evaluate its wait comes is ranked with the others of its resource (R49). -/
def State.nextTurn (s : State) : State :=
  match s.turns with
  | [] => s.goOn
  | .recheck c slot :: rest =>
    match s.team? (c, slot) with
    | none => { s with turns := rest }
    | some t =>
      { s with
        turns := rest,
        cur := (c, if s.isReady (c, slot) t then (firstRanked (s.candidates c (s.resourceOf (c, slot) t))).getD slot else slot) }
  | .issue c res :: rest =>
    match firstRanked (s.candidates c res) with
    | some slot => { s with turns := rest, cur := (c, slot) }
    | none => { s with turns := rest }
  | .evict line :: rest => (({ s with turns := rest } : State).evictLine line).goOn
  | .boxLine _ copy box :: rest => (({ s with turns := rest } : State).finishLine copy box).goOn

/-- Another team is a candidate for the datapath of the team that issues: then one pass of its unit issues, and the ranking decides
anew (R49). Alone on its datapath, a team issues the passes of a unit one after the other. -/
def State.passLimit (s : State) : Option Nat :=
  if (s.core s.cur.1).teams.length ≤ 1 then none
  else
    match s.team? s.cur with
    | some t =>
      if t.role = .vector ∧ (s.candidates s.cur.1 t.datapath).any (fun e => e.1 != s.cur.2) then some 1 else none
    | none => none

/-! ### Cycles (R50, R51, R291) -/

/-- The issue resource whose cycles a `yield` of the team counts (R291). -/
def Team.yieldsOn (t : Team) : Nat := if t.role = .vector then t.datapath else scalarUnit

/-- The other ready teams of the issue resource of the team in slot `slot`: of its datapath, or of the scalar unit (R291). -/
def State.sharers (s : State) (c slot : Nat) (t : Team) : List Nat :=
  ((if t.role = .vector then (s.readyTeams c).filter (fun e => e.2.role == .vector && e.2.datapath == t.datapath)
    else s.onResource c scalarUnit).map Prod.fst).filter (fun x => x != slot)

/-- A `yield` of the team ends (R291): every team it waits for has issued, 64 cycles have passed, or no other team of the resource is
ready. -/
def State.yieldDue (s : State) (c slot : Nat) (t : Team) : Bool :=
  t.yielded && (t.yieldFor.isEmpty || decide (64 ≤ t.yieldCycles) || (s.sharers c slot t).isEmpty)

/-- The team becomes boosted (R50). -/
def State.boostDue (s : State) (c slot : Nat) (t : Team) : Bool :=
  s.isReady (c, slot) t && t.boost.isNone && decide (512 ≤ t.cyclesReady)

/-- The boosts and the ends of `yield` that are due on a core are the next events. -/
def State.dueTurns (s : State) (c : Nat) : State :=
  let ts := (s.core c).teams
  let es : List Event := ts.filterMap (fun e =>
    if s.boostDue c e.1 e.2 then some (.teamBoost c e.1) else if s.yieldDue c e.1 e.2 then some (.yieldEnd c e.1) else none)
  { s with agenda := es ++ s.agenda }

/-- A team of core c after n cycles of an issue resource in which the teams of some slots issued: an issue restarts the count of cycles
ready and ends a boost, and a ready team that waits for the resource counts on (R50, R291). -/
def State.teamCycles (s : State) (c r : Nat) (issuers : List Nat) (n : Nat) (e : Nat × Team) : Team :=
  if e.2.yielded then
    { e.2 with yieldFor := e.2.yieldFor.filter (fun x => !issuers.contains x),
               yieldCycles := e.2.yieldCycles + (if e.2.yieldsOn = r then n else 0) }
  else if issuers.contains e.1 then { e.2 with cyclesReady := 0, boost := none }
  else if s.isReady (c, e.1) e.2 then
    (if s.resourceOf (c, e.1) e.2 = r then { e.2 with cyclesReady := e.2.cyclesReady + n } else e.2)
  else { e.2 with cyclesReady := 0 }

/-- n cycles of an issue resource of a core pass, in which the teams of some slots issue. The resources of a core issue in parallel, and
each counts its own cycles (DESIGN CHOICE, log 81). -/
def State.cyclesPass (s : State) (c r : Nat) (issuers : List Nat) (n : Nat) : State :=
  let k := s.core c
  ({ s.setCore c { k with teams := k.teams.map (fun (e : Nat × Team) => (e.1, s.teamCycles c r issuers n e)) } with tick := s.tick + n }).dueTurns c

/-- The scalar unit has issued an instruction of the team in a place (R51). A cycle takes two, of different teams: it is over with the
second, or with the first when no other candidate is ready. -/
def State.scalarIssue (s : State) (p : Nat × Nat) : State :=
  let c := p.1
  let fresh (s : State) : State := s.setCore c { s.core c with half := none }
  let s1 := if (s.core c).half = some p.2 then (fresh s).cyclesPass c scalarUnit [p.2] 1 else s
  match (s1.core c).half with
  | some q => (fresh s1).cyclesPass c scalarUnit [q, p.2] 1
  | none =>
    if (s1.readyTeams c).any (fun e => e.1 != p.2 && s1.resourceOf (c, e.1) e.2 == scalarUnit) then
      (s1.setCore c { s1.core c with half := some p.2 }).modTeam p (fun t => { t with cyclesReady := 0, boost := none })
    else s1.cyclesPass c scalarUnit [p.2] 1

/-- The cycles for which a unit that a team issued occupies its datapath (R49): one for each pass it issued, or two for an FP64 pass, and
at least one issue slot (R20). `t0` is the team before, in the state s. -/
def State.unitCycles (s : State) (p : Nat × Nat) (t0 : Team) (t1 : Option Team) : Nat :=
  match s.fetchUnit p t0 with
  | .ok u _ => max 1 (t0.passesMade t1).length * (if wideFloat u.instr then 2 else 1)
  | _ => 1

/-- The cycles of the unit that the team in a place issued; `s0` is the state before it. A team that was not ready has issued none. -/
def State.issueCycles (s s0 : State) (p : Nat × Nat) : State :=
  match s0.team? p with
  | none => s
  | some t0 =>
    if s0.isReady p t0 = false then s
    else if (s.core p.1).teams.length ≤ 1 ∨ s0.resourceOf p t0 = scalarUnit then s.scalarIssue p
    else s.cyclesPass p.1 t0.datapath [p.2] (s0.unitCycles p t0 (s.team? p))

/-- After a unit of the team in place `p`: its cycles pass, then the next turn; `s0` is the state before it. -/
def State.afterIssue (s s0 : State) (p : Nat × Nat) : State := (s.issueCycles s0 p).nextTurn

/-! ### Steps of the issue hardware -/

/-- TEAM_BOOST (R50): a team that has been ready for 512 cycles without issuing becomes boosted, at the present moment. -/
def execTeamBoost (core slot : Nat) (s : State) : Result :=
  .next (match s.team? (core, slot) with
    | none => s
    | some t => if s.boostDue core slot t then s.setTeam (core, slot) { t with boost := some s.tick } else s)

/-- `yield` (R291): complete, and stopped while the other ready teams of its issue resource go on. -/
def execYield (s : State) : Result :=
  .next (s.once false .any (fun t =>
    s.complete { t with
      yielded := true, yieldFor := s.sharers s.cur.1 s.cur.2 t, yieldCycles := 0, cyclesReady := 0, boost := none }))

/-- YIELD_END (R291): a `yield` ends. -/
def execYieldEnd (core slot : Nat) (s : State) : Result :=
  .next (match s.team? (core, slot) with
    | none => s
    | some t =>
      if s.yieldDue core slot t then s.setTeam (core, slot) { t with yielded := false, yieldFor := [], yieldCycles := 0 } else s)

end Sys2Proof.Machine
end

