-- ==== Sys2Proof/Machine/Opcode.lean ====
section
/-! DEFINITION. The meanings of the encoded instructions for the events that run a unit of a team (VECTOR_PASS,
OPERATION_START, STEP, EXEC): the same meanings that `exec` gives their rows. An event is no encoded instruction. -/

namespace Sys2Proof.Machine

/-- What an encoded instruction does. -/
def execOpcode (i : Instr) (s : State) : Result :=
  match i with
  | .mov16 d a => execMov16 d a s
  | .iadd16 d a => execIadd16 d a s
  | .isub16 d a => execIsub16 d a s
  | .imul16 d a => execImul16 d a s
  | .and16 d a => execAnd16 d a s
  | .or16 d a => execOr16 d a s
  | .xor16 d a => execXor16 d a s
  | .shl16 d a => execShl16 d a s
  | .shr16 d a => execShr16 d a s
  | .sar16 d a => execSar16 d a s
  | .imin16 d a => execImin16 d a s
  | .imax16 d a => execImax16 d a s
  | .fadd16 d a => execFadd16 d a s
  | .fsub16 d a => execFsub16 d a s
  | .fmul16 d a => execFmul16 d a s
  | .fmax16 d a => execFmax16 d a s
  | .iaddI32 d a b nw => execIaddI32 d a b nw s
  | .isubI32 d a b nw => execIsubI32 d a b nw s
  | .imulI32 d a b nw => execImulI32 d a b nw s
  | .imadI32 d a b nw => execImadI32 d a b nw s
  | .imulhI32 d a b nw => execImulhI32 d a b nw s
  | .imulhN32 d a b nw => execImulhN32 d a b nw s
  | .iabsI32 d a nw => execIabsI32 d a nw s
  | .sel d a b nw => execSel d a b nw s
  | .idivI32 d a b nw => execIdivI32 d a b nw s
  | .idivN32 d a b nw => execIdivN32 d a b nw s
  | .iremI32 d a b nw => execIremI32 d a b nw s
  | .iremN32 d a b nw => execIremN32 d a b nw s
  | .iminI32 d a b nw => execIminI32 d a b nw s
  | .iminN32 d a b nw => execIminN32 d a b nw s
  | .imaxI32 d a b nw => execImaxI32 d a b nw s
  | .imaxN32 d a b nw => execImaxN32 d a b nw s
  | .andV d a b nw => execAndV d a b nw s
  | .orV d a b nw => execOrV d a b nw s
  | .xorV d a b nw => execXorV d a b nw s
  | .andn d a b nw => execAndn d a b nw s
  | .shlN32 d a b nw => execShlN32 d a b nw s
  | .shrN32 d a b nw => execShrN32 d a b nw s
  | .sarI32 d a b nw => execSarI32 d a b nw s
  | .rotN32 d a b nw => execRotN32 d a b nw s
  | .clz d a nw => execClz d a nw s
  | .popc d a nw => execPopc d a nw s
  | .brev d a nw => execBrev d a nw s
  | .bfx d a b nw => execBfx d a b nw s
  | .bfi d a b nw => execBfi d a b nw s
  | .movV d a nw => execMovV d a nw s
  | .iaddI64V d a b nw => execIaddI64V d a b nw s
  | .isubI64V d a b nw => execIsubI64V d a b nw s
  | .iaddI64S d a b => execIaddI64S d a b s
  | .isubI64S d a b => execIsubI64S d a b s
  | .imulI64 d a b => execImulI64 d a b s
  | .andS d a b => execAndS d a b s
  | .orS d a b => execOrS d a b s
  | .xorS d a b => execXorS d a b s
  | .shlN64 d a b => execShlN64 d a b s
  | .shrN64 d a b => execShrN64 d a b s
  | .sarI64 d a b => execSarI64 d a b s
  | .movS d a => execMovS d a s
  | .icmpEqI32 d a b => execIcmpEqI32 d a b s
  | .icmpLtI32 d a b => execIcmpLtI32 d a b s
  | .icmpLtN32 d a b => execIcmpLtN32 d a b s
  | .icmpEqI64 d a b => execIcmpEqI64 d a b s
  | .icmpLtI64 d a b => execIcmpLtI64 d a b s
  | .icmpLtN64 d a b => execIcmpLtN64 d a b s
  | .lidV d nw => execLidV d nw s
  | .lidS d => execLidS d s
  | .fpack d a b nw => execFpack d a b nw s
  | .funpack d a b nw => execFunpack d a b nw s
  | .fstat d => execFstat d s
  | .fmode d a => execFmode d a s
  | .iaddI32Imm d a imm nw => execIaddI32Imm d a imm nw s
  | .iaddI64Imm d a imm => execIaddI64Imm d a imm s
  | .moviV d imm nw => execMoviV d imm nw s
  | .moviS d imm => execMoviS d imm s
  | .lea d imm => execLea d imm s
  | .limm value => execLimm value s
  | .faddF32 d a b nw => execFaddF32 d a b nw s
  | .fsubF32 d a b nw => execFsubF32 d a b nw s
  | .fmulF32 d a b nw => execFmulF32 d a b nw s
  | .ffmaF32 d a b nw => execFfmaF32 d a b nw s
  | .fdivF32 d a b nw => execFdivF32 d a b nw s
  | .fsqrtF32 d a nw => execFsqrtF32 d a nw s
  | .fminF32 d a b nw => execFminF32 d a b nw s
  | .fmaxF32 d a b nw => execFmaxF32 d a b nw s
  | .frcp d a nw => execFrcp d a nw s
  | .frsq d a nw => execFrsq d a nw s
  | .fexp2 d a nw => execFexp2 d a nw s
  | .flog2 d a nw => execFlog2 d a nw s
  | .froundF32 d a nw => execFroundF32 d a nw s
  | .fclassF32 d a nw => execFclassF32 d a nw s
  | .fcmpEqF32 d a b => execFcmpEqF32 d a b s
  | .fcmpLtF32 d a b => execFcmpLtF32 d a b s
  | .faddF64 d a b nw => execFaddF64 d a b nw s
  | .fsubF64 d a b nw => execFsubF64 d a b nw s
  | .fmulF64 d a b nw => execFmulF64 d a b nw s
  | .ffmaF64 d a b nw => execFfmaF64 d a b nw s
  | .fdivF64 d a b nw => execFdivF64 d a b nw s
  | .fsqrtF64 d a nw => execFsqrtF64 d a nw s
  | .fminF64 d a b nw => execFminF64 d a b nw s
  | .fmaxF64 d a b nw => execFmaxF64 d a b nw s
  | .fcmpLeF32 d a b => execFcmpLeF32 d a b s
  | .fcmpEqF64 d a b => execFcmpEqF64 d a b s
  | .fcmpLtF64 d a b => execFcmpLtF64 d a b s
  | .fcmpLeF64 d a b => execFcmpLeF64 d a b s
  | .froundF64 d a nw => execFroundF64 d a nw s
  | .fclassF64 d a nw => execFclassF64 d a nw s
  | .ftoiI32F32 d a nw => execFtoiI32F32 d a nw s
  | .itofF32I32 d a nw => execItofF32I32 d a nw s
  | .fcvtF64F32 d a nw => execFcvtF64F32 d a nw s
  | .fcvtF32F64 d a nw => execFcvtF32F64 d a nw s
  | .fcvtBf16F32 d a nw => execFcvtBf16F32 d a nw s
  | .fcvtF32Bf16 d a nw => execFcvtF32Bf16 d a nw s
  | .fcvtF16F32 d a nw => execFcvtF16F32 d a nw s
  | .fcvtF32F16 d a nw => execFcvtF32F16 d a nw s
  | .fcvtNfF32 d a b nw => execFcvtNfF32 d a b nw s
  | .fcvtF32Nf d a b nw => execFcvtF32Nf d a b nw s
  | .mand d a b => execMand d a b s
  | .mor d a b => execMor d a b s
  | .mxor d a b => execMxor d a b s
  | .mnot d a => execMnot d a s
  | .mmov d a => execMmov d a s
  | .mpop d a => execMpop d a s
  | .mfirst d a => execMfirst d a s
  | .shfl d a b nw => execShfl d a b nw s
  | .bcast d a b nw => execBcast d a b nw s
  | .reduceAddI32 d a => execReduceAddI32 d a s
  | .reduceAddF32 d a => execReduceAddF32 d a s
  | .reduceMaxI32 d a => execReduceMaxI32 d a s
  | .reduceMaxF32 d a => execReduceMaxF32 d a s
  | .scanAddI32 d a nw => execScanAddI32 d a nw s
  | .scanAddF32 d a nw => execScanAddF32 d a nw s
  | .scanMaxI32 d a nw => execScanMaxI32 d a nw s
  | .scanMaxF32 d a nw => execScanMaxF32 d a nw s
  | .jmpr a => execJmpr a s
  | .ret => execRet s
  | .lbrk => execLbrk s
  | .yield => execYield s
  | .bra off => execBra off s
  | .bzM m off => execBzM m off s
  | .bnzM m off => execBnzM m off s
  | .ball m off => execBall m off s
  | .call off => execCall off s
  | .bzS r off => execBzS r off s
  | .bnzS r off => execBnzS r off s
  | .loop r off => execLoop r off s
  | .rep sb sa sd cnt => execRep sb sa sd cnt s
  | .ldV d size sb ix nw => execLdV d size sb ix nw s
  | .ldS d size sb ix => execLdS d size sb ix s
  | .stV d size sb ix => execStV d size sb ix s
  | .stS d size sb ix => execStS d size sb ix s
  | .ldp d size sb ix nw => execLdp d size sb ix nw s
  | .stp d size sb ix => execStp d size sb ix s
  | .ldOrdV d sb x ord scope => execLdOrdV d sb x ord scope s
  | .ldOrdS d sb x ord scope => execLdOrdS d sb x ord scope s
  | .stOrdV d sb x ord scope => execStOrdV d sb x ord scope s
  | .stOrdS d sb x ord scope => execStOrdS d sb x ord scope s
  | .atomAddI32 d sb x ord scope => execAtomAddI32 d sb x ord scope s
  | .atomAddI64 d sb x ord scope => execAtomAddI64 d sb x ord scope s
  | .atomExchI32 d sb x ord scope => execAtomExchI32 d sb x ord scope s
  | .atomExchI64 d sb x ord scope => execAtomExchI64 d sb x ord scope s
  | .atomMaxI32 d sb x ord scope => execAtomMaxI32 d sb x ord scope s
  | .atomMinI32 d sb x ord scope => execAtomMinI32 d sb x ord scope s
  | .redAddI32 d sb x ord scope => execRedAddI32 d sb x ord scope s
  | .casI32 d sb x ord scope => execCasI32 d sb x ord scope s
  | .casI64 d sb x ord scope => execCasI64 d sb x ord scope s
  | .fence kind scope => execFence kind scope s
  | .llock d sb x scope => execLlock d sb x scope s
  | .ltry d sb scope => execLtry d sb scope s
  | .lunlock sb scope => execLunlock sb scope s
  | .lunlockReg sb scope => execLunlockReg sb scope s
  | .qpass => execQpass s
  | .qidle => execQidle s
  | .qwake => execQwake s
  | .gpstart d => execGpstart d s
  | .gpwait d a => execGpwait d a s
  | .dfree d a b => execDfree d a b s
  | .lstat d a => execLstat d a s
  | .prefL1 a => execPrefL1 a s
  | .prefL2 a => execPrefL2 a s
  | .prefL2x a => execPrefL2x a s
  | .ldbN8 d a b nw => execLdbN8 d a b nw s
  | .ldbN16 d a b nw => execLdbN16 d a b nw s
  | .ldbN32 d a b nw => execLdbN32 d a b nw s
  | .ldbN64 d a b nw => execLdbN64 d a b nw s
  | .mma t a b c => execMma t a b c s
  | .mmag t a b c => execMmag t a b c s
  | .mdrain t dst sb => execMdrain t dst sb s
  | .mdrainAdd t dst sb => execMdrainAdd t dst sb s
  | .quant t dst sb sc => execQuant t dst sb sc s
  | .quantBmaj t dst sb sc => execQuantBmaj t dst sb sc s
  | .tcopyDense c a dst => execTcopyDense c a dst s
  | .tcopyAcc c a t => execTcopyAcc c a t s
  | .tstateAcc t d => execTstateAcc t d s
  | .tstateSt t d => execTstateSt t d s
  | .twaitAcc t want phase => execTwaitAcc t want phase s
  | .twaitSt t want phase => execTwaitSt t want phase s
  | .treadyAcc t => execTreadyAcc t s
  | .treadySt t => execTreadySt t s
  | .trelAcc t => execTrelAcc t s
  | .trelSt t => execTrelSt t s
  | .mzero t wide => execMzero t wide s
  | .tbind t d => execTbind t d s
  | .mcommit d => execMcommit d s
  | .mwait a => execMwait a s
  | .cwait a => execCwait a s
  | .cstatMap d a => execCstatMap d a s
  | .cstat d a => execCstat d a s
  | .ccancel a => execCcancel a s
  | .bar n gang expect => execBar n gang expect s
  | .arrive n gang expect => execArrive n gang expect s
  | .bwait n gang => execBwait n gang s
  | .trap n => execTrap n s
  | .brk n => execBrk n s
  | .halt => execHalt s
  | .nop => execNop s
  | .sigret d => execSigret d s
  | .eret => execEret s
  | .sysrd d r => execSysrd d r s
  | .syswr d r => execSyswr d r s
  | .syswrSet d r => execSyswrSet d r s
  | .syswrClr d r => execSyswrClr d r s
  | .park d => execPark d s
  | .resume d => execResume d s
  | .resumeStep d => execResumeStep d s
  | _ => .next s

end Sys2Proof.Machine
end

