-- ==== Sys2Proof/Machine/Debug.lean ====
section
/-! DEFINITION. The debug agent's commands (R413 to R420, R429), and the steps of the issue hardware that run a unit: a further
pass (R20), the start of an operation (R316) and a fetch fault (R183). -/

namespace Sys2Proof.Machine

/-! ### Results and targets (R413, R414) -/

/-- The command ends with a RESULT; BUSY stays as it is. -/
def State.debugResult (s : State) (r : Nat) : State :=
  s.setDbg 0x10 (BitVec.ofNat 64 ((s.dbgReg 0x10).toNat / 2 ^ 40 * 2 ^ 40 + at' r 32 + (s.dbgReg 0x10).toNat % 2))

/-- A STEP or EXEC ends with a RESULT and the fault it met. BUSY stays while blocks are stopping; that of a command that had stayed in
progress clears. -/
def State.debugOutcome (s : State) (r code sub : Nat) : State :=
  let busy := if s.debugRun.isSome then 0 else (s.dbgReg 0x10).toNat % 2
  ({ s with debugRun := none } : State).setDbg 0x10 (BitVec.ofNat 64 (at' code 56 + at' sub 40 + at' r 32 + busy))

/-- A STEP or EXEC stays in progress, with BUSY (R413): its unit is held by what is no architectural wait, and goes on when the command's
event comes again. -/
def State.debugStays (s : State) (r : DebugRun) : State :=
  ({ s with debugRun := some r } : State).setDbg 0x10 (s.dbgReg 0x10 ||| 1)

/-- The command in progress is not one of the team in a place. -/
def State.debugElse (s : State) (p : Nat × Nat) : Bool := s.debugRun.any (fun r => r.at_ != p)

/-- The block in a place of core c, if it belongs to the attached process. -/
def State.debugBlock (s : State) (c pl : Nat) : Option Block :=
  (tabGet? (s.core c).blocks pl).filter (fun b => s.attached b.pasid)

/-- The team in a slot of core c with its block, if it belongs to the attached process. -/
def State.debugTeam (s : State) (c slot : Nat) : Option (Team × Block) :=
  if slot = 0 then none
  else
    match s.team? (c, slot) with
    | none => none
    | some t => (s.blockOf c t).bind (fun b => if s.attached b.pasid then some (t, b) else none)

/-! ### STOP, RUN and GANGSTOP (R415, R420) -/

/-- STOP (R415). A block whose swap-out is in progress is saved stopped (R429). -/
def execStop (core place : Nat) (s : State) : Result :=
  .next (match s.debugBlock core place with
    | none => s.debugResult 4
    | some b => ({ (s.stopBlock core b.uid) with seq := s.seq + 1 }.recordStop 1 0 core 0 (s.seq + 1)).debugResult 0)

/-- The stopped blocks, each with its core. -/
def State.stoppedBlocks (s : State) : List (Nat × Block) :=
  s.cores.flatMap (fun k => (k.2.blocks.filter (fun e => e.2.stopped)).map (fun e => (k.1, e.2)))

/-- BLOCK_STOP_DONE (R155, R171, R415): once the k-steps of stopped blocks have ended, their boxes in flight end, their engines are frozen,
and BUSY clears, unless a STEP or EXEC is in progress. -/
def execBlockStopDone (s : State) : Result :=
  .next (
    let bs := s.stoppedBlocks
    if bs.any (fun m => (s.core m.1).ops.any (fun o => o.blk == m.2.uid && o.running && o.fault.isNone)) then s
    else
      let s1 : State := { bs.foldl (fun s m => s.freezeCopies m.1 m.2.uid) s with gangStop := false }
      if s.debugRun.isSome then s1 else s1.setDbg 0x10 (s.dbgReg 0x10 &&& ~~~1))

/-- The team after an EXEC: what was set aside is back, and it is halted. A wait that the buffer replaced is gone (R113, R337). -/
def Team.putBack (t t0 : Team) : Team :=
  { t with pc := t0.pc, done := t0.done, rep := t0.rep, pvalue := t0.pvalue, pwords := t0.pwords, halted := true, hold := t0.hold,
           heldSince := t0.heldSince, marked := t0.marked, markers := t0.markers, qsDue := t0.qsDue, stepArm := t0.stepArm,
           stepDue := t0.stepDue, yielded := t0.yielded, brkHalt := t.brkHalt || t0.brkHalt,
           wait := if t0.waiting && !t0.wait.recorded then t0.wait else t.wait }

/-- A STEP or EXEC that is still in progress on a team of a block ends: a RUN comes before it could. -/
def State.endDebugRun (s : State) (blk : Nat) : State :=
  match s.debugRun with
  | none => s
  | some r =>
    if (s.team? r.at_).any (fun t => t.blk == blk) then
      let s1 := match r.saved with
        | some t0 => s.modTeam r.at_ (fun t => t.putBack t0)
        | none => s
      ({ s1 with debugRun := none } : State).setDbg 0x10 (s.dbgReg 0x10 &&& ~~~1)
    else s

/-- RUN (R415): every halted team of the block runs again, and its anvils and engine resume. -/
def execRun (core place : Nat) (s : State) : Result :=
  .next (match s.debugBlock core place with
    | none => s.debugResult 4
    | some b =>
      let s := s.endDebugRun b.uid
      let k := s.core core
      let free (t : Team) : Team :=
        { t with halted := false, brkHalt := false, record := if t.brkHalt then .empty else t.record }
      (s.setCore core { k with
        blocks := tabSet k.blocks place { b with stopped := false },
        teams := k.teams.map (fun e => if e.1 ≠ 0 ∧ e.2.blk = b.uid ∧ e.2.halted then (e.1, free e.2) else e),
        copies := k.copies.map (fun y => if y.blk = b.uid then { y with frozen := false } else y) }).restartOps core b.uid |>.debugResult 0)

/-- The skid entry of slot s of core c: the register that holds it, and the bit where it begins (R413). -/
def skidAt (c slot : Nat) : Nat × Nat := (0x4000 + 0x40 * c + slot / 4 * 8, 16 * (slot % 4))

/-- The skid entries of the teams of a gang that were running at the trigger. How many units each issued after it is free
(log 1). -/
def State.recordSkid (s : State) (p : Nat × Nat) : State :=
  let (off, lo) := skidAt p.1 p.2
  (s.setDbg off (s.dbgReg off ||| BitVec.ofNat 64 (at' (2 ^ 15 + Config.freeNat s.tick % 256) lo))).draw

/-- GANGSTOP (R420, R429): the resident blocks of the attached process on the gang of a core stop. A command that no trigger came
before takes a SEQ of its own. While a gang stop is in progress, the skid table keeps the first trigger. -/
def execGangstop (core : Nat) (s : State) : Result :=
  .next (
    let cs := (List.range 8).map (fun i => gangOf core * 8 + i)
    let mine (c : Nat) : List Block := ((s.core c).blocks.map (·.2)).filter (fun b => s.attached b.pasid)
    let running := cs.flatMap (fun c =>
      ((s.core c).teams.filter (fun e =>
        e.1 != 0 && s.isReady (c, e.1) e.2 && (mine c).any (fun b => b.uid == e.2.blk))).map (fun e => (c, e.1)))
    let first := !s.gangStop || s.gangDue
    let cleared : State :=
      if first then { s with gangDue := false, dbg := s.dbg.filter (fun e => !decide (0x4000 ≤ e.1 ∧ e.1 < 0x8000)) } else s
    let s1 := cs.foldl (fun s c => (mine c).foldl (fun s b => s.stopBlock c b.uid) s) cleared
    let s2 := if first then running.foldl State.recordSkid s1 else s1
    if s.gangStop then s2
    else { s2 with seq := s.seq + 1, gangStop := true }.recordStop 4 0 core 0 (s.seq + 1) |>.debugResult 0)

/-! ### Running a unit of one team outside its turn -/

/-- Issue the next unit of the team in a place, and leave the choice of the next team as it was. -/
def State.issueAt (s : State) (p : Nat × Nat) (lim : Option Nat) : Result :=
  match ({ s with cur := p } : State).issueUnit execOpcode lim with
  | .next s1 => .next { s1.traceUnit s p with cur := s.cur, latch := s.latch }
  | r => r

/-- Issue a unit of the team in place `p`, or one pass of it, outside the choice of `cur`: the cycles it takes pass on its core, and its
boost ends (R50). -/
def State.issueTurn (s : State) (p : Nat × Nat) (lim : Option Nat) : Result :=
  match s.issueAt p lim with
  | .next s1 => .next (s1.issueCycles s p)
  | r => r

/-- The team waits, or is held: the outcome of a unit that could not complete. -/
def Team.stands (t : Team) : Bool := t.waiting || t.hold.isSome

/-- The team has entered an architectural wait (R34), or its `halt` waits for what runs only after RUN (DESIGN CHOICE, log 69). A held line,
a lock poll, whose reply always comes, and busy anvils are none. -/
def Team.waitsArch (t : Team) : Bool := t.waiting && t.hold.isNone && (t.wait.architectural || t.wait.kind == 14)

/-- Issue a whole unit with all its repeats (R417). -/
def State.issueWhole (s : State) (p : Nat × Nat) : Nat → Result
  | 0 => .next s
  | n + 1 =>
    match s.issueTurn p none with
    | .next s1 =>
      match s1.team? p with
      | some t =>
        if t.rep.remain = 0 ∨ t.parked ∨ t.brkHalt ∨ t.stands then .next s1 else s1.issueWhole p n
      | none => .next s1
    | r => r

/-! ### STEP (R417) -/

/-- A resident block of core c changes. -/
def State.mapBlock (s : State) (c blk : Nat) (f : Block → Block) : State :=
  let k := s.core c
  s.setCore c { k with blocks := k.blocks.map (fun e => if e.2.uid = blk then (e.1, f e.2) else e) }

/-- The team can be stepped: its block is stopped and it is not parked (R417, R429). -/
def Team.steppable (t : Team) (b : Block) : Bool := b.stopped && b.started && !t.parked

/-- The matrix operations that a stepped unit started run only after RUN (R417): `uid` is the first identity the unit could give. -/
def State.holdStarted (s : State) (uid : Nat) : State :=
  { s with cores := s.cores.map (fun k => (k.1, { k.2 with
      ops := k.2.ops.map (fun o => if uid ≤ o.id then { o with running := false, anvils := 0 } else o) })) }

/-- How a STEP ends, by the team after its unit: a fault, an architectural wait, or completion. A unit that is only held keeps the command in
progress. -/
def State.stepOutcome (s : State) (p : Nat × Nat) (t : Option Team) : State :=
  match t with
  | none => s.debugOutcome 0 0 0
  | some t =>
    if t.parked ∨ t.brkHalt then s.debugOutcome 2 t.record.code t.record.sub
    else if t.waitsArch then s.debugOutcome 1 0 0
    else if t.stands then s.debugStays ⟨p, 0, none⟩
    else s.debugOutcome 0 0 0

/-- STEP (R417): one unit of a halted team runs; its block stays stopped. While another command is in progress it has no effect. -/
def execStep (core slot : Nat) (s : State) : Result :=
  if s.debugElse (core, slot) ∨ s.debugRun.any (fun r => r.saved.isSome) then .next s
  else
    match s.debugTeam core slot with
    | none => .next (s.debugOutcome 4 0 0)
    | some (t, b) =>
      if t.steppable b = false then .next (s.debugOutcome 5 0 0)
      else
        let s1 := (s.setTeam (core, slot) { t with halted := false, brkHalt := false }).mapBlock core b.uid
          (fun b => { b with stopped := false })
        match s1.issueWhole (core, slot) 65 with
        | .next s2 => .next (((s2.holdStarted s.nextUid).stopBlock core b.uid).stepOutcome (core, slot) (s2.team? (core, slot)))
        | r => r

/-! ### EXEC (R418) -/

/-- Program-buffer word i. -/
def State.pbuf (s : State) (i : Nat) : Nat := (s.dbgReg (0x40 + 8 * i)).toNat % 2 ^ 32

/-- The words of a unit in the program buffer from word i on: a prefix is followed by a further word. None when the unit goes past
word 15. -/
def State.bufUnit (s : State) (i : Nat) (seen : Option Nat) : Nat → Option (List UnitWord)
  | 0 => none
  | n + 1 =>
    if 16 ≤ i then none
    else
      let w := s.pbuf i
      let m := majorOf w
      let more := (m == some 62 && seen.isNone) || (m == some 63 && seen != some 63)
      if more then (s.bufUnit (i + 1) m n).map (fun ws => ⟨[], 0, w⟩ :: ws) else some [⟨[], 0, w⟩]

/-- An instruction that EXEC does not run (R418). -/
def execRefuses (i : Instr) : Bool :=
  match i with
  | .bra .. | .bzM .. | .bnzM .. | .ball .. | .bzS .. | .bnzS .. | .call .. | .ret .. | .jmpr .. | .loop .. | .lbrk .. | .yield
  | .halt | .trap .. | .brk .. | .sigret .. | .eret => true
  | _ => false

/-- A 16-bit form with bits above it. -/
def wideNarrow (u : UnitWord) : Bool := (majorOf u.w).isNone && decide (2 ^ 16 ≤ u.w)

/-- How an EXEC goes on or ends: it may be held in the unit that begins at a word. -/
inductive ExecEnd where
  | more (s : State)
  | held (s : State) (word : Nat)
  | stop (s : State) (result code sub : Nat)
  | stuck (r : Result)

/-- The team's own fault while it runs the buffer: it stays halted and does not park. -/
def State.execFaulted (s : State) (p : Nat × Nat) : State :=
  let k := s.core p.1
  (s.setCore p.1 { k with replay := k.replay.filter (fun e => e.slot != p.2) }).modTeam p
    (fun t => { t with parked := false, halted := true })

/-- What a unit of the buffer leaves in the trace, as every instruction of its team does (R423, R427): `s0` is the state before it. -/
def State.traceExec (s s0 : State) (p : Nat × Nat) (u : IssueUnit) : State :=
  match s0.team? p with
  | none => s
  | some t0 =>
    if s0.traced p t0 = false then s
    else
      let t1 := s.team? p
      let s1 := s.traceIssue p t0 t1 u.instr (wordIsVector u.word.w && passedChecks t1)
      let s2 := s1.traceCountN p.1 3 ((s1.core p.1).misses - (s0.core p.1).misses) none
      (if t1.any Team.parked then s2.traceCount p.1 7 none else s2).traceChanged p t0

/-- One repeat after the other of a unit of the buffer. -/
def State.execRepeats (s : State) (p : Nat × Nat) (u : IssueUnit) : Nat → ExecEnd
  | 0 => .more s
  | n + 1 =>
    match s.runUnit execOpcode u with
    | .next s1 =>
      match s1.team? p with
      | none => .more s1
      | some t =>
        if t.parked ∨ t.brkHalt then .stop ((s1.traceExec s p u).execFaulted p) 2 t.record.code t.record.sub
        else if t.waitsArch then .stop s 1 0 0
        else if t.stands then .held (s1.traceExec s p u) 0
        else if t.rep.remain = 0 then .more (s1.traceExec s p u)
        else (s1.traceExec s p u).execRepeats p u n
    | r => .stuck r

/-- One unit of the buffer. A unit that would wait leaves the state before it. -/
def State.execUnit (s : State) (p : Nat × Nat) (ws : List UnitWord) : ExecEnd :=
  match s.team? p with
  | none => .stop s 0 0 0
  | some t =>
    let ill (sub w : Nat) : ExecEnd :=
      let f := faultOf 0x01 sub 0 (if sub = 1 then unknownMask t else teamFaultMask t (wordIsVector w))
      .stop ((s.parkAt p t 0 f).execFaulted p) 2 0x01 sub
    if ws.any wideNarrow then .stop s 3 0 0
    else
      match decodeAll ws with
      | .error (sub, w) => ill sub w
      | .ok is =>
        match assemble is with
        | .error (sub, w) => ill sub w
        | .ok u =>
          if execRefuses u.instr then .stop s 3 0 0
          else
            match ({ s with latch := { u.latch 0 none with stuffed := true } } : State).execRepeats p u 65 with
            | .stop s1 1 _ _ => .stop { s with tick := s1.tick } 1 0 0
            | r => r

/-- The words of the buffer from word i to word n. -/
def State.execWords (s : State) (p : Nat × Nat) (i n : Nat) : Nat → ExecEnd
  | 0 => .more s
  | k + 1 =>
    if n < i then .more s
    else
      match s.bufUnit i none 3 with
      | none => .stop s 3 0 0
      | some ws =>
        match s.execUnit p ws with
        | .more s1 => s1.execWords p (i + ws.length) n k
        | .held s1 _ => .held s1 i
        | r => r

/-- The team as it starts an EXEC: what R418 sets aside is zero, and so is its wait. The record of an interrupted `bar` or `llock` stands as it
does under a signal handler (R337). -/
def Team.setAside (t : Team) : Team :=
  { t with pc := 0, done := 0, rep := .idle, pvalue := 0, pwords := 0, halted := false, hold := none, heldSince := none, marked := none,
           markers := none, qsDue := false, stepArm := false, stepDue := false, cyclesReady := 0, boost := none,
           wait := if t.waiting && !t.wait.recorded then .idle else t.wait }

/-- The buffer word from which an EXEC of the team goes on, and the team as it was when the EXEC began. -/
def State.execFrom (s : State) (t : Team) : Nat × Team :=
  match s.debugRun with
  | some r => (r.word, r.saved.getD t)
  | none => (0, t)

/-- How an EXEC ends (R418), from the state and the team before it: the set-aside values come back. One that is held stays in progress with
its team halted. -/
def State.execEnds (s0 : State) (p : Nat × Nat) (t0 : Team) (e : ExecEnd) : Result :=
  let back (s : State) : State := { s with cur := s0.cur, latch := s0.latch }
  match e with
  | .more s => .next (((back s).modTeam p (fun t => t.putBack t0)).debugOutcome 0 0 0)
  | .stop s r code sub => .next (((back s).modTeam p (fun t => t.putBack t0)).debugOutcome r code sub)
  | .held s w => .next (((back s).modTeam p (fun t => { t with halted := true })).debugStays ⟨p, w, some t0⟩)
  | .stuck r => r

/-- EXEC (R418): buffer words 0 to NBUF run on a halted team. While another command is in progress it has no effect. -/
def execExec (core slot nbuf : Nat) (s : State) : Result :=
  let p := (core, slot)
  if s.debugElse p ∨ s.debugRun.any (fun r => r.saved.isNone) then .next s
  else
    match s.debugTeam core slot with
    | none => .next (s.debugOutcome 4 0 0)
    | some (t, b) =>
      if t.steppable b = false then .next (s.debugOutcome 5 0 0)
      else
        let f := s.execFrom t
        let t1 : Team := if s.debugRun.isSome then { t with halted := false } else { t.setAside with brkHalt := false }
        s.execEnds p f.2 ((({ s with cur := p } : State).setTeam p t1).execWords p f.1 (min 15 nbuf) 16)

/-! ### Steps of the issue hardware -/

/-- The ready team in a place, with what the checks of its next unit answer. -/
def State.nextUnit (s : State) (p : Nat × Nat) : Option (Team × UnitRes) :=
  match s.team? p with
  | none => none
  | some t => if s.isReady p t then some (t, s.fetchUnit p t) else none

/-- VECTOR_PASS (R20, R49): a vector datapath issues one pass of a vector instruction, of the team that ranks first among those ready on
it. -/
def execVectorPass (core slot : Nat) (s : State) : Result :=
  match s.nextUnit (core, slot) with
  | some (t, .ok u _) =>
    if t.role = .vector ∧ wordIsVector u.word.w ∧ firstRanked (s.candidates core t.datapath) = some slot then
      s.issueTurn (core, slot) (some 1)
    else .next s
  | _ => .next s

/-- The instruction starts an operation (R316). -/
def startsOperation (i : Instr) : Bool :=
  match i with
  | .mma .. | .mmag .. | .mdrain .. | .mdrainAdd .. | .quant .. | .quantBmaj .. | .tcopyDense .. | .tcopyAcc .. => true
  | _ => false

/-- OPERATION_START (R316): the waits of the team's `mma`, `mmag`, `mdrain`, `quant` or `tcopy` are met, and it starts its operation, if the
team ranks first among the candidates of its issue resource (R51). -/
def execOperationStart (core slot : Nat) (s : State) : Result :=
  match s.nextUnit (core, slot) with
  | some (t, .ok u _) =>
    if startsOperation u.instr ∧ firstRanked (s.candidates core (s.resourceOf (core, slot) t)) = some slot then
      s.issueTurn (core, slot) none
    else .next s
  | _ => .next s

/-- FETCH_FAULT (R183): the team's next unit fails its checks, and the team parks. -/
def execFetchFault (core slot : Nat) (s : State) : Result :=
  match s.nextUnit (core, slot) with
  | some (_, .fault _ _) | some (_, .bad _ _ _) => s.issueTurn (core, slot) none
  | _ => .next s

end Sys2Proof.Machine
end

