-- ==== Sys2Proof/Machine/Place.lean ====
section
/-! DEFINITION. The dispatcher (R40 to R47, R52 to R56, R395): what waits for a place, where it fits, placement, block
start, eligibility for swap-out, and pre-emption. -/

namespace Sys2Proof.Machine

/-! ### Room on a core (R40, R41) -/

/-- The numbers of a range that a list does not use. -/
def unused (lo n : Nat) (used : List Nat) : List Nat := (List.range' lo n).filter (fun x => !used.contains x)

/-- Free team slots. -/
def Core.freeSlots (k : Core) : List Nat := unused 1 31 (k.teams.map Prod.fst)
/-- Free block places. -/
def Core.freePlaces (k : Core) : List Nat := unused 0 8 (k.blocks.map Prod.fst)
/-- Free register-file granules: the supervisor's sixteen are never free. -/
def Core.freeGranules (k : Core) : List Nat := unused 16 launchGranules (k.teams.flatMap (fun e => e.2.rfList))
/-- Free scratchpad granules. -/
def Core.freeScratch (k : Core) : List Nat := unused 0 512 (k.blocks.flatMap (fun e => e.2.spList))
/-- Free accumulator entries. -/
def Core.freeAcc (k : Core) : List Nat := unused 0 32 (k.blocks.flatMap (fun e => e.2.accList))
/-- Free slot entries. -/
def Core.freeSt (k : Core) : List Nat := unused 32 32 (k.blocks.flatMap (fun e => e.2.stList))
/-- Free barrier slots. -/
def Core.freeBars (k : Core) : Nat := 16 - (k.blocks.map (fun e => e.2.barriers.length)).sum

/-- What a block needs (R40). -/
structure BlockNeed where
  teams : List TeamShape
  sp : Nat
  acc : Nat
  st : Nat
  bars : Nat

/-- The block fits the core (R41). -/
def Core.fits (k : Core) (n : BlockNeed) : Bool :=
  decide (n.teams.length ≤ k.freeSlots.length) && !k.freePlaces.isEmpty &&
    decide ((n.teams.map TeamShape.granules).sum ≤ k.freeGranules.length) && decide (n.sp ≤ k.freeScratch.length) &&
    decide (n.acc ≤ k.freeAcc.length) && decide (n.st ≤ k.freeSt.length) && decide (n.bars ≤ k.freeBars)

/-- What a block of a launch needs. -/
def Launch.need (l : Launch) : BlockNeed := ⟨l.shape, l.spKib, l.accs, l.sts, l.bars⟩

/-- The shape of a team. -/
def Team.shape (t : Team) : TeamShape := ⟨t.role, t.lanes, t.nreg, t.noRefs⟩

/-- What a saved block needs: its live teams and its block resources. -/
def Saved.need (x : Saved) : BlockNeed :=
  ⟨x.teams.map (fun e => e.2.shape), x.blk.spList.length, x.blk.accList.length, x.blk.stList.length, x.blk.barriers.length⟩

/-! ### Pending work (R44) -/

/-- A pending item: a group of saved blocks, or the next group of a launch, with what each rank needs. -/
structure Item where
  key : Nat × Nat
  prio : Prio
  gang : Nat
  needs : List (Nat × BlockNeed)

/-- The readmissions that are queued, in order, each with its whole group. -/
def State.readmitItems (s : State) : List Item :=
  let qs := sortByKey (fun x => (x.readmit).getD 0) (s.saved.filter (fun x => x.readmit.isSome))
  let firsts := qs.foldl (fun (r : List Saved) x => if r.any (fun y => y.blk.groupWith x.blk) then r else r ++ [x]) []
  firsts.map (fun x =>
    ⟨(0, x.blk.uid), x.blk.prio, x.blk.gang,
     (s.saved.filter (fun y => y.blk.groupWith x.blk)).map (fun y => (y.blk.rank, y.need))⟩)

/-- The first block of the next group of a launch in walk order (R42, R46). -/
def Launch.next? (l : Launch) : Option Nat :=
  match l.cancelled with
  | i :: t => some (t.foldl min i)
  | [] => if l.nextIx < l.total then some l.nextIx else none

/-- A launch's next group as an item. -/
def Launch.item (l : Launch) : Item := ⟨(1, l.id), l.prio, l.gang, (List.range l.gang).map (fun r => (r, l.need))⟩

/-- The launches of a class with work left, round robin in the order of their arrival (R44): those of an earlier round first, so a launch
that was passed over keeps its place. -/
def State.launchItems (s : State) (p : Prio) : List Item :=
  (sortByKey Launch.rounds (s.fe.launches.filter (fun l => l.prio == p && l.next?.isSome))).map Launch.item

/-- Every pending item in the order of R44. During a cut nothing is placed (R396, R397). -/
def State.items (s : State) : List Item :=
  if s.fe.paused then []
  else s.readmitItems ++ s.launchItems .high ++ s.launchItems .normal

/-! ### Where an item fits (R43) -/

/-- The load of a stack group. -/
def State.loadOf (s : State) (g : Nat) : Nat :=
  (s.cores.map (fun k => if stackGroupOf k.1 = g then k.2.blocks.length else 0)).sum

/-- The item fits at cores c0 to c0 + g − 1, none of them on a fenced die (R434). -/
def State.fitsAt (s : State) (i : Item) (c0 : Nat) : Bool :=
  !s.fenced.contains (dieOf c0) && i.needs.all (fun e => (s.core (c0 + e.1)).fits e.2)

/-- The place an item gets: the least-loaded stack group with a fitting place, then its lowest core (R43). -/
def State.placeFor (s : State) (i : Item) : Option Nat :=
  let spots := ((List.range (256 / max 1 i.gang)).map (fun j => j * max 1 i.gang)).filter (s.fitsAt i)
  let best := spots.foldl (fun (r : Option (Nat × Nat × Nat)) c =>
    let g := stackGroupOf c
    let l := s.loadOf g
    match r with
    | none => some (l, g, c)
    | some (l', g', c') => if l < l' ∨ (l = l' ∧ g < g') then some (l, g, c) else some (l', g', c')) none
  best.map (fun b => b.2.2)

/-! ### Placement -/

/-- The vector datapath with the fewest lanes assigned (R47). -/
def Core.datapathFor (k : Core) : Nat :=
  let lanes (d : Nat) : Nat :=
    ((k.teams.filter (fun e => e.2.role == .vector && e.2.datapath == d)).map (fun e => e.2.lanes)).sum
  (List.range 4).foldl (fun r d => if lanes d < lanes r then d else r) 0

/-- A team takes the lowest free slot and register granules of its core, and a datapath (R41, R47, log 7). -/
def Core.seatTeam (k : Core) (t : Team) : Core :=
  match k.freeSlots with
  | [] => k
  | slot :: _ =>
    let t1 : Team := { t with
      rfList := k.freeGranules.take t.shape.granules, datapath := if t.role = .vector then k.datapathFor else 0 }
    { k with teams := tabSet k.teams slot t1 }

/-- Tile entries of a block in its place. -/
def Core.setTiles (k : Core) (phys : List Nat) (pl : Nat) (xs : List TileEntry) : Core :=
  { k with tiles := (phys.zip xs).foldl (fun r e => tabSet r e.1 { e.2 with place := pl }) k.tiles }

/-- A block's lists on its core: the lowest free granules and entries (R41, log 7). -/
def Core.grant (k : Core) (b : Block) (n : BlockNeed) : Block :=
  { b with spList := k.freeScratch.take n.sp, accList := k.freeAcc.take n.acc, stList := k.freeSt.take n.st }

/-- A block enters a place of core c with its teams and tile entries, not yet started. -/
def State.seat (s : State) (c : Nat) (b : Block) (n : BlockNeed) (ts : List Team) (accs sts : List TileEntry) : State :=
  let k := s.core c
  match k.freePlaces with
  | [] => s
  | pl :: _ =>
    let b1 := k.grant { b with started := false, swapping := false, swapFor := none } n
    let k1 := ts.foldl (fun k t => k.seatTeam { t with place := pl }) k
    let k2 := { k1 with blocks := tabSet k1.blocks pl b1 }
    s.setCore c ((k2.setTiles b1.accList pl accs).setTiles b1.stList pl sts)

/-- An empty tile entry a block is granted (R58). -/
def TileEntry.granted (n : Nat) : TileEntry := { TileEntry.free with alloc := true, localNo := n }

/-- A barrier slot at block start (R333). -/
def Barrier.zero : Barrier := { phase := 0, expect := 0, arrived := 0, isOpen := false, gang := false, mask := 0 }

/-- A team of a launch as it starts (R369). -/
def Launch.team (l : Launch) (uid blk tindex : Nat) (x : TeamShape) : Team :=
  let t : Team := { Team.initial with
    uid := uid, blk := blk, role := x.role, lanes := x.lanes, nreg := x.nreg, prio := l.prio, tindex := tindex,
    noRefs := x.noRefs, pc := l.entry, m := [], vInit := some uid,
    sreg := l.args.zipIdx.map (fun e => (e.2 + 1, e.1)) }
  t.setM 0 t.allLanes

/-- Block ix of a launch (R27, R42). -/
def Launch.block (l : Launch) (uid ix : Nat) : Block :=
  { uid := uid, launch := l.id, pasid := l.pasid, ctx := l.ctx, launchNo := l.launchNo, x := ix % l.gx,
    y := ix / l.gx % l.gy, z := ix / (l.gx * l.gy), gx := l.gx, gy := l.gy, gz := l.gz, rank := ix % l.gang, gang := l.gang,
    teamCount := l.shape.length, prio := l.prio, spList := [], accList := [], stList := [], shape := l.shape,
    barriers := List.replicate l.bars Barrier.zero, started := false, order := none, stopped := false,
    swapping := false, swapFor := none, metAt := none, preempt := none, quietAt := 0, slotIx := none }

/-- One block of a launch is placed on a core: it and its teams take new identities. -/
def State.placeNew (s : State) (l : Launch) (ix c : Nat) : State :=
  let u := s.nextUid
  let ts := l.shape.zipIdx.map (fun e => l.team (u + 1 + e.2) u e.2 e.1)
  let s1 := { s with nextUid := u + 1 + ts.length }
  (s1.seat c (l.block u ix) l.need ts ((List.range l.accs).map TileEntry.granted) ((List.range l.sts).map TileEntry.granted)).modLaunch
    l.id (fun l => { l with live := l.live ++ [u] })

/-- A launch has had its turn (R44): the round of its class goes on to its own when it is the latest, and a launch that was passed over
catches up with it. -/
def State.served (s : State) (l : Launch) : State :=
  let r := max (l.rounds + 1) (if l.prio = .high then s.fe.rrHigh else s.fe.rrNormal)
  let s1 := s.modLaunch l.id (fun l => { l with rounds := r })
  if l.prio = .high then { s1 with fe := { s1.fe with rrHigh := r } } else { s1 with fe := { s1.fe with rrNormal := r } }

/-- The next group of a launch is placed from core c0 on. -/
def State.placeLaunch (s : State) (l : Launch) (ix c0 : Nat) : State :=
  let s1 := (List.range l.gang).foldl (fun s r => s.placeNew l (ix + r) (c0 + r)) s
  (s1.modLaunch l.id (fun l =>
    if l.cancelled.contains ix then { l with cancelled := l.cancelled.filter (fun x => x != ix) }
    else { l with nextIx := ix + l.gang })).served l

/-- A saved block is placed on a core: its state comes back from its slot, which it holds until it starts (R394), and its teams leave
the swapped-team list (R133). A poisoned line of an image of scratchpad or tile memory gives poisoned sectors (R432, R433; DESIGN CHOICE,
log 118). -/
def State.placeSaved (s : State) (x : Saved) (c : Nat) : State :=
  let b := { x.blk with order := x.readmit, slotIx := some x.slotIx }
  let s0 := { s with saved := s.saved.filter (fun y => y.blk.uid != b.uid) }
  let s1 := x.teams.foldl (fun s e => s.swapLeave b.ctx e.2) s0
  let s2 := s1.seat c b x.need (x.teams.map (·.2)) x.accs x.sts
  match s2.findBlock b.uid with
  | none => s
  | some p =>
    match tabGet? (s2.core c).blocks p.2 with
    | none => s
    | some b1 =>
      let k := s2.core c
      let s3 := s2.setCore c { k with ops := k.ops ++ x.ops, copies := k.copies ++ x.copies }
      let s4 := s3.loadBlock c b1 (s3.saveSlot b.ctx x.slotIx)
      let clean := s4.winPoison.filter (fun o =>
        !(b1.spList.any (fun g => decide (scratchGranule c g ≤ o * 32 ∧ o * 32 < scratchGranule c g + 1024)) ||
          b1.accList.any (fun e => decide (tileBase c e ≤ o * 32 ∧ o * 32 < tileBase c e + 0x4000))))
      let slot := s4.saveSlot b.ctx x.slotIx
      let sp := x.spPoison ++ s4.poisonedSectors (slot + 0x40000) (1024 * b1.spList.length)
      let acc := x.tilePoison ++ s4.poisonedSectors (slot + 0xC0000) (0x4000 * b1.accList.length)
      { s4 with winPoison := clean ++ putPoison 1024 (b1.spList.map (scratchGranule c)) sp ++
                             putPoison 0x4000 (b1.accList.map (tileBase c)) acc }

/-- The resident blocks that have not started. -/
def State.unstarted (s : State) : List Nat :=
  s.cores.flatMap (fun k => (k.2.blocks.filter (fun e => !e.2.started)).map (fun e => e.2.uid))

/-- The item's blocks enter their places from core c0 on. -/
def State.putItem (s : State) (i : Item) (c0 : Nat) : State :=
  if i.key.1 = 1 then
    match s.fe.launches.find? (fun l => l.id == i.key.2) with
    | some l => match l.next? with
      | some ix => s.placeLaunch l ix c0
      | none => s
    | none => s
  else
    match s.saved.find? (fun x => x.blk.uid == i.key.2) with
    | some x => (s.saved.filter (fun y => y.blk.groupWith x.blk)).foldl (fun s y => s.placeSaved y (c0 + y.blk.rank)) s
    | none => s

/-- An item is placed from core c0 on; its blocks come last in the order of decisions of R45. -/
def State.placeItem (s : State) (i : Item) (c0 : Nat) : State :=
  let old := s.fe.starting.filter s.unstarted.contains
  let s1 := s.putItem i c0
  { s1 with fe := { s1.fe with starting := old ++ s1.unstarted.filter (fun u => !old.contains u) } }

/-- A save slot has a page in the stacks of a fenced die (R434). -/
def State.slotLost (s : State) (ctx i : Nat) : Bool :=
  (List.range 1024).any (fun j =>
    let pa := s.saveSlot ctx i + 4096 * j
    match regionOf pa with
    | .hbm | .cxl _ => s.fenced.contains (sliceDie (s.homeOf pa))
    | _ => false)

/-- What readmission reads of a save slot beside the images of scratchpad and tile memory (R392, R393): offsets and sizes. -/
def Saved.readRanges (x : Saved) : List (Nat × Nat) :=
  let ts := x.teams.map (·.2)
  [(0, 256), (0x1000, 64 * (x.accs.length + x.sts.length)), (0x2000, 16 * x.blk.barriers.length), (0x3000, 128 * x.copies.length)] ++
    ts.flatMap (fun t => [(0x4000 + 0x1000 * t.tindex, 0x1000), (rfOffset ts t.tindex, t.imageSize)])

/-- A line of these is poisoned, so that the block cannot be read back (R432): it is destroyed like one whose slot lies in a lost stack
(DESIGN CHOICE, log 118). -/
def State.slotPoisoned (s : State) (x : Saved) : Bool :=
  let base := s.saveSlot x.blk.ctx x.slotIx
  !s.poison.isEmpty && x.readRanges.any (fun r => !(s.poisonedSectors (base + r.1) r.2).isEmpty)

/-- A saved block is destroyed with its teams (R434). -/
def State.destroySaved (s : State) (x : Saved) : State := x.teams.foldl (fun s e => s.killSaved 0 x e.2) s

/-- The saved blocks of an item that cannot be read back. -/
def State.lostSaved (s : State) (i : Item) : List Saved :=
  if i.key.1 = 1 then []
  else
    match s.saved.find? (fun x => x.blk.uid == i.key.2) with
    | some x => s.saved.filter (fun y => y.blk.groupWith x.blk && (s.slotLost y.blk.ctx y.slotIx || s.slotPoisoned y))
    | none => []

/-- PLACEMENT_DECISION (R44): the first pending item that fits somewhere is placed. A readmitted block whose slot is lost is destroyed
instead (R432, R434). -/
def execPlacementDecision (s : State) : Result :=
  .next (match s.items.find? (fun i => (s.placeFor i).isSome) with
    | none => s
    | some i =>
      match s.placeFor i with
      | some c0 =>
        match s.lostSaved i with
        | [] => s.placeItem i c0
        | xs => xs.foldl State.destroySaved s
      | none => s)

/-! ### Block start (R45) -/

/-- The stagger interval of a launch in ns, at the nominal clock. -/
def State.staggerOf (s : State) (launch : Nat) : Nat :=
  (((s.fe.launches.find? (fun l => l.id == launch)).map (fun l => l.stagger * 4 + 6)).getD 0) / 7

/-- One block starts: new teams pass a quiescent point, and all acquire at device scope (R98, R128, R130), traced teams give a CONTEXT (R423), a
parked team enters its new core's replay queue, unless it has parked there since it was placed (R401), and engines restart what was
frozen (R155, R171). -/
def State.startBlock (s : State) (c pl : Nat) (b : Block) : State :=
  let fresh := b.slotIx.isNone
  let k := s.core c
  let g := (s.proc b.ctx).gen
  let ts := k.teams.map (fun e =>
    if e.1 ≠ 0 ∧ e.2.blk = b.uid ∧ fresh then (e.1, { e.2 with qsGen := g }) else e)
  let back := k.teams.filter (fun e =>
    e.1 != 0 && e.2.blk == b.uid && e.2.parked && !fresh && !k.replay.any (fun r => r.slot == e.1))
  let k1 := { k with
    teams := ts, ltime := max k.ltime (max s.syncTime s.agentTime),
    replay := sortByKey (fun e => e.seq) (k.replay ++ back.map (fun e => ⟨e.2.record.seq, e.1, false⟩)),
    blocks := tabSet k.blocks pl { b with started := true, order := none, slotIx := none },
    copies := k.copies.map (fun y => if y.blk = b.uid ∧ b.stopped = false then { y with frozen := false } else y) }
  let s1 := (s.setCore c k1).restartOps c b.uid
  (k.teamsOf b.uid).foldl (fun s e => if s.traced (c, e.1) e.2 then s.traceContext (c, e.1) e.2 else s) s1

/-- When a placed block of core c can start (R45). -/
def State.startTime (s : State) (c : Nat) (b : Block) : Nat :=
  match tabGet? s.fe.dieLast (dieOf c) with
  | some x => max s.time (x + s.staggerOf b.launch)
  | none => s.time

/-- The block of a die that starts next (R45): the one with the earliest start, and of several the one decided first, as in
the worked example of chapter 02. -/
def State.nextStart (s : State) (d : Nat) : Option Nat :=
  let ts := s.fe.starting.filterMap (fun u => match s.blockByUid u, s.findBlock u with
    | some b, some p => if b.started = false ∧ dieOf p.1 = d then some (u, s.startTime p.1 b) else none
    | _, _ => none)
  (ts.foldl (fun r e => match r with | none => some e | some x => if e.2 < x.2 then some e else some x) none).map (·.1)

/-- The block's group is the next to start on its die. -/
def State.startsNext (s : State) (c : Nat) (b : Block) : Bool :=
  (s.nextStart (dieOf c)).all (fun u => (s.groupOf b).any (fun m => m.2.2.uid == u))

/-- BLOCK_START (R45): a placed group starts, no earlier than its die's last start and the stagger interval allow. -/
def execBlockStart (blk : Nat) (s : State) : Result :=
  .next (match s.blockByUid blk, s.findBlock blk with
    | some b, some p =>
      if b.started ∨ s.startsNext p.1 b = false then s
      else
        let t := s.startTime p.1 b
        let s1 := { s with time := t, fe := { s.fe with dieLast := tabSet s.fe.dieLast (dieOf p.1) t } }
        (s1.groupOf b).foldl (fun s m => s.startBlock m.1 m.2.1 m.2.2) s1
    | _, _ => s)

/-! ### Eligibility for swap-out (R52 to R54) -/

/-- The team in place `p` is in an architectural wait of R34 that is not met. -/
def State.archWait (s : State) (p : Nat × Nat) (t : Team) : Bool := decide (t.wait.kind ≤ 9) && s.stillWaits p t

/-- The team is parked, or in a lock or grace-period wait (R53). -/
def State.longWait (s : State) (p : Nat × Nat) (t : Team) : Bool :=
  t.parked || (s.archWait p t && (t.wait.kind == 3 || t.wait.kind == 8 || t.wait.kind == 9))

/-- An operation is in flight: a `quant` that left its fault to be reported is complete (R327). The spec does not say whether an operation,
drain or copy that has stopped on a fault is still in flight; the model counts it (DESIGN CHOICE, log 116). -/
def MatOp.inFlight (o : MatOp) : Bool := !(o.isQuant && o.fault.isSome)

/-- A resident block meets R53 but for the time: since when. -/
def State.quietSince (s : State) (c : Nat) (b : Block) : Option Nat :=
  let k := s.core c
  let ts := k.teamsOf b.uid
  if b.started && !b.stopped && !b.swapping && ts.all (fun e => e.2.parked || s.archWait (c, e.1) e.2) &&
      ts.any (fun e => s.longWait (c, e.1) e.2) &&
      !k.ops.any (fun o => o.blk == b.uid && o.inFlight) && !k.copies.any (fun y => y.blk == b.uid && !y.complete) then
    some ((ts.map (fun e => e.2.wait.since)).foldl max 0)
  else none

/-- A resident group meets R53 but for the time, and has save slots (R392). -/
def State.groupQuiet (s : State) (b : Block) : Bool :=
  s.hasSlots b && (s.groupOf b).all (fun m => (s.quietSince m.1 m.2.2).isSome)

/-- When a resident group becomes eligible (R52, R53): later than the threshold after its latest wait or park, and no earlier than its other
conditions have held: that no operation or copy is in flight, and that save slots are free. -/
def State.eligibleAt (s : State) (b : Block) : Option Nat :=
  let thr := s.ctxSwapThr b.ctx * 1000 + 1
  if s.hasSlots b = false then none
  else
    (s.groupOf b).foldl (fun r m =>
      match r, s.quietSince m.1 m.2.2 with
      | some x, some y => some (max x (max m.2.2.quietAt (y + thr)))
      | _, _ => none) (some 0)

/-- The groups that have come to meet these conditions in a step from `s0` note the time (R54). -/
def State.noteQuiet (s s0 : State) : State :=
  let now (b : Block) : Bool := s.groupQuiet b && !(s0.blockByUid b.uid).any s0.groupQuiet
  { s with cores := s.cores.map (fun k =>
      (k.1, { k.2 with blocks := k.2.blocks.map (fun e => (e.1, if now e.2 then { e.2 with quietAt := s.time } else e.2)) })) }

/-- SWAP_THRESHOLD_EXPIRY (R53): the waits of the block have lasted longer than its threshold. -/
def execSwapThresholdExpiry (blk : Nat) (s : State) : Result :=
  .next (match s.blockByUid blk, s.findBlock blk with
    | some b, some _ =>
      match s.eligibleAt b with
      | some t => { s with time := max s.time t }
      | none => s
    | _, _ => s)

/-- The state with a resident group's resources free. -/
def State.withoutGroup (s : State) (b : Block) : State :=
  (s.groupOf b).foldl (fun s m =>
    let k := s.core m.1
    (s.setCore m.1 { k with teams := k.teams.filter (fun e => e.1 == 0 || e.2.blk != m.2.2.uid) }).freeBlock m.1 m.2.1 m.2.2) s

/-- The resident groups, each by its first block, that are eligible now, with when they became so, earliest first. Of two that became so at
the same time the spec chooses none; the model takes the one on the lower core, and there in the lower place (DESIGN CHOICE, log 117). -/
def State.eligible (s : State) : List (Nat × Block) :=
  let bs := s.cores.flatMap (fun k => k.2.blocks.map (·.2))
  let firsts := bs.foldl (fun (r : List Block) b => if r.any (fun y => y.groupWith b) then r else r ++ [b]) []
  sortByKey Prod.fst (firsts.filterMap (fun b =>
    match s.eligibleAt b with
    | some t => if t ≤ s.time then some (t, b) else none
    | none => none))

/-- The group the dispatcher swaps out for an item (R54). -/
def State.victimFor (s : State) (i : Item) : Option Block :=
  (s.eligible.find? (fun e => decide (i.prio.rank ≤ e.2.prio.rank) && ((s.withoutGroup e.2).placeFor i).isSome)).map (·.2)

/-- A swap-out is in progress for an item. -/
def State.swapBusy (s : State) (i : Item) : Bool :=
  s.cores.any (fun k => k.2.blocks.any (fun e => e.2.swapFor == some i.key))

/-- A resident group begins its swap-out, for a queued item or by pre-emption, which ends every `yield` of its teams (R291). -/
def State.beginSwap (s : State) (b : Block) (reason : Option (Nat × Nat)) (why : Option Preempt) : State :=
  let s1 := (s.groupOf b).foldl (fun s m =>
    let k := s.core m.1
    s.setCore m.1 { k with teams := k.teams.map (fun e => if e.1 ≠ 0 ∧ e.2.blk = m.2.2.uid then (e.1, { e.2 with yielded := false }) else e) }) s
  s1.mapGroup b (fun x => { x with swapping := true, swapFor := reason, preempt := why, metAt := none })

/-- SWAP_OUT_BEGIN (R54): the first queued item that fits nowhere and has no swap-out in progress gets one, if the named
block is the one the dispatcher chooses for it. -/
def execSwapOutBegin (blk : Nat) (s : State) : Result :=
  .next (
    let waiting := s.items.filter (fun i => (s.placeFor i).isNone && !s.swapBusy i)
    match waiting.findSome? (fun i => (s.victimFor i).map (fun b => (i, b))) with
    | none => s
    | some (i, b) =>
      match s.blockByUid blk with
      | some x => if x.groupWith b then s.beginSwap b (some i.key) none else s
      | none => s)

/-! ### Pre-emption (R46, R395, R396) -/

/-- A placed group that has not started gives its place back (R46). -/
def State.cancelPlacement (s : State) (b : Block) : State :=
  let g := s.groupOf b
  match b.slotIx with
  | none =>
    let s1 := g.foldl (fun s m =>
      let k := s.core m.1
      ((s.setCore m.1 { k with teams := k.teams.filter (fun e => e.1 == 0 || e.2.blk != m.2.2.uid) }).freeBlock m.1 m.2.1 m.2.2).modLaunch
        b.launch (fun l => { l with live := l.live.filter (fun u => u != m.2.2.uid) })) s
    s1.modLaunch b.launch (fun l => { l with cancelled := l.cancelled ++ [b.linear - b.rank] })
  | some _ => g.foldl (fun s m => s.saveAway m (m.2.2.slotIx.getD 0) m.2.2.order) s

/-- Pre-empt a resident group: one that has not started is cancelled, one with free save slots begins its swap-out, the
others stay (R46, R392, R395). -/
def State.preempt (s : State) (why : Preempt) (b : Block) : State :=
  match s.blockByUid b.uid, s.findBlock b.uid with
  | some b, some _ =>
    if b.swapping then s
    else if b.started = false then s.cancelPlacement b
    else if s.hasSlots b then s.beginSwap b none (some why)
    else s
  | _, _ => s

/-- Pre-empt every resident group that a predicate selects. -/
def State.preemptAll (s : State) (why : Preempt) (sel : Block → Bool) : State :=
  ((s.cores.flatMap (fun k => k.2.blocks.map (·.2))).filter sel).foldl (fun s b => s.preempt why b) s

/-- Queue the blocks that were pre-empted for a reason and that a predicate selects for readmission: those that are saved, in their order of
saving, and those that are still being saved. -/
def State.readmitPreempted (s : State) (why : Preempt) (sel : Block → Bool) : State :=
  let leaving := s.cores.flatMap (fun k => (k.2.blocks.filter (fun e => e.2.swapping && e.2.preempt == some why && sel e.2)).map (·.2.uid))
  ((s.saved.filter (fun x => x.preempted == some why && sel x.blk)).map (·.blk.uid) ++ leaving).foldl (fun s u => s.queueReadmit u) s

/-- Work of a process fits nowhere: one of its launches' next groups, or one of its readmissions (R395). -/
def State.starved (s : State) (ctx : Nat) : Bool :=
  (s.launchItems .high ++ s.launchItems .normal).any (fun i =>
      (s.fe.launches.any (fun l => l.id == i.key.2 && l.ctx == ctx)) && (s.placeFor i).isNone) ||
    s.readmitItems.any (fun i => (s.saved.any (fun x => x.blk.uid == i.key.2 && x.blk.ctx == ctx)) && (s.placeFor i).isNone)

/-- RUN_LIST_TURN_END (R379, R395): the turn's time is over, and the next entry's turn begins. Its process's pre-empted blocks are
queued; if its work fits nowhere, the outgoing process's blocks are pre-empted. In recovery mode no list is read (R378). -/
def execRunListTurnEnd (s : State) : Result :=
  .next (
    if s.runCount = 0 ∨ s.fe.recovery then s
    else
      let out := s.turnProc
      let s1 := ({ s with time := max s.time (s.fe.turnAt + s.fe.turnLen) }.consume).beginTurn (s.fe.runEntry + 1)
      match s1.turnProc with
      | none => s1
      | some p =>
        let s2 := s1.readmitPreempted .turn (fun b => b.ctx == p)
        if s2.starved p ∧ out ≠ some p then s2.preemptAll .turn (fun b => some b.ctx == out && !(s2.groupOf b).any (fun m => m.2.2.stopped)) else s2)

end Sys2Proof.Machine
end

