-- ==== Sys2Proof/Machine/Fleet.lean ====
section
/-! DEFINITION. Shootdowns (R387, R388), checkpoints and the freeze (R396, R437), errors (R430), poison (R432), power (R438),
remote requests (R439), the firmware slot (R440), attestation (R441), reset and loss of power (R378, R440). -/

namespace Sys2Proof.Machine

/-! ### Shootdowns (R168, R387, R388) -/

/-- A 57-bit virtual page range overlaps another: bases and sizes as powers of two. -/
def rangesMeet (b1 l1 b2 l2 : Nat) : Bool := decide (b1 < b2 + 2 ^ l2) && decide (b2 < b1 + 2 ^ l1)

/-- A trace unit pauses at the page boundary when a shootdown covers the page it writes or the next (R425). -/
def Core.pauseTrace (k : Core) (x : Shootdown) : Core :=
  let u := k.trace
  let page (i : Nat) : Nat := u.bufBase + (u.wptr / 4096 * 4096 + 4096 * i) % u.size
  if u.on && u.pasid == x.pasid && !u.err &&
      (rangesMeet (page 0) 12 x.base x.log2 || rangesMeet (page 1) 12 x.base x.log2) then
    { k with trace := ({ u with pausing := true } : Trace).edge }
  else k

/-- A box of a copy has a destination in the range of a shootdown (R168): an element of a scatter, or a row of dense memory. -/
def Shootdown.hitsBox (x : Shootdown) (y : Copy) (z : Box) : Bool :=
  let l := Layout.of y.record
  let meets (lo n : Nat) : Bool := decide (x.base < lo + n) && decide (lo < x.base + 2 ^ x.log2)
  if l.scatter then
    (l.boxRows z.num).any (fun r => (List.range l.row).any (fun w => (l.elem r w).any (fun va => meets (va.toNat % 2 ^ 57) l.esize)))
  else
    match y.dense with
    | .addr va => (l.boxRows z.num).any (fun r => meets (va.toNat % 2 ^ 57 + r * l.pitch) l.pitch)
    | _ => false

/-- The boxes in flight whose destination lies in the range of a shootdown are aborted (R168, R171). -/
def State.abortBoxes (s : State) (x : Shootdown) : State :=
  s.cores.foldl (fun s k =>
    (k.2.blocks.filter (fun b => b.2.pasid == x.pasid)).foldl (fun s b => s.endBoxes k.1 b.2.uid x.hitsBox) s) s

/-- A shootdown begins: it stands in the list, destination boxes end, and trace units pause. -/
def State.beginShootdown (s : State) (x : Shootdown) : State :=
  let s1 := { s with shootdowns := s.shootdowns ++ [x] }.abortBoxes x
  { s1 with cores := s1.cores.map (fun k => (k.1, k.2.pauseTrace x)) }

/-- SHOOTDOWN_SUBMIT (R387): SHCMD with GO; dropped with LOST when sixteen are pending. -/
def execShootdownSubmit (val : BitVec 64) (s : State) : Result :=
  .next (
    if 16 ≤ s.pendingShootdowns then { s with xlt := tabSet s.xlt 0x28 (s.xltReg 0x28 ||| 0x80) }
    else
      let v := (s.xltReg 0x10).toNat
      let log2 := min 45 (v % 64) + 12
      let all := val.getLsbD 20
      let x : Shootdown :=
        { pasid := fld val.toNat 0 20, base := if all then 0 else fld v 12 45 * 4096, log2 := if all then 57 else log2,
          counted := true }
      let c := (s.xltReg 0x20).toNat
      { s with xlt := tabSet s.xlt 0x20 (BitVec.ofNat 64 ((c / 2 ^ 32 + 1) % 2 ^ 32 * 2 ^ 32 + c % 2 ^ 32)) }.beginShootdown x)

/-- ATS_INVALIDATION (R387): a shootdown of its range that the counts do not show. -/
def execAtsInvalidation (pasid : Nat) (va : BitVec 64) (log2 : Nat) (s : State) : Result :=
  .next (s.beginShootdown { pasid := pasid % 2 ^ 20, base := va.toNat % 2 ^ 57 / 4096 * 4096, log2 := 12 + min 45 log2, counted := false })

/-- The write is one of a trace unit. -/
def LateSrc.isTrace : LateSrc → Bool
  | .trace _ _ => true
  | .log | .aperture => false

/-- What R388 waits for: the engines' boxes of the address space have paused or ended, its drains are complete, and trace
units have paused, and no store still waits to be performed. A swap-out in progress completes first (R397). -/
def State.shootdownReady (s : State) (x : Shootdown) : Bool :=
  !s.late.any (fun w => w.src.isTrace) && s.cores.all (fun k =>
    k.2.stores.isEmpty && !k.2.trace.pausing && !k.2.blocks.any (fun e => e.2.swapping && e.2.pasid == x.pasid) &&
      k.2.copies.all (fun y =>
        match k.2.blockUid y.blk with
        | some b => b.pasid != x.pasid || y.boxes.all (fun z => z.paused)
        | none => true) &&
      k.2.ops.all (fun o =>
        match k.2.blockUid o.blk with
        | some b => b.pasid != x.pasid || decide (o.kind = .mma) || o.fault.isSome
        | none => true))

/-- A team of a shot-down address space that waits to start a drain or `quant` makes its translations afresh (R388; log 98): no other
first phase keeps as many words. -/
def Core.forgetDrains (k : Core) (pasid : Nat) : Core :=
  { k with teams := k.teams.map (fun e =>
      if ((tabGet? k.blocks e.2.place).map (·.pasid)) = some pasid ∧ 13 < e.2.wait.p1.length then
        (e.1, { e.2 with wait := { e.2.wait with p1 := [] } })
      else e) }

/-- SHOOTDOWN_COMPLETE (R385, R388): the oldest shootdown: covered translations go, COMPLETED advances, and paused boxes go on
unless another shootdown of the address space is pending. -/
def execShootdownComplete (s : State) : Result :=
  .next (match s.shootdowns with
    | [] => s
    | x :: rest =>
      let s1 := s.cores.foldl (fun s k => s.drainCore k.1 (fun _ => true)) s
      if s1.shootdownReady x = false then s1
      else
        let more := rest.any (fun y => y.pasid == x.pasid)
        let keep (e : TlbEntry) : Bool := e.pasid != x.pasid || !rangesMeet e.base e.log2 x.base x.log2
        let keepWalk (e : WalkEntry) : Bool := e.pasid != x.pasid || !rangesMeet e.base e.log2 x.base x.log2
        let c := (s1.xltReg 0x20).toNat
        { s1 with
          shootdowns := rest,
          gtlb := s1.gtlb.map (fun g => (g.1, g.2.filter keep)), walkCache := s1.walkCache.map (fun d => (d.1, d.2.filter keepWalk)),
          xlt := if x.counted then tabSet s1.xlt 0x20 (BitVec.ofNat 64 (c / 2 ^ 32 * 2 ^ 32 + (c + 1) % 2 ^ 32)) else s1.xlt,
          cores := s1.cores.map (fun k =>
            (k.1, { k.2.forgetDrains x.pasid with
              tlb := k.2.tlb.filter keep,
              copies := k.2.copies.map (fun y =>
                if ((k.2.blockUid y.blk).map (fun b => b.pasid == x.pasid && !more)).getD false then
                  { y with boxes := y.boxes.map (fun z => { z with paused := false }) }
                else y) })) })

/-! ### Checkpoints and the freeze (R396, R437) -/

/-- Step 4 of the cut (R396): the lock directory, the grace-period records and the state table of the front end stand in the reserved region
at MGT_CKPT[51:22]. The spec lays out none of them, so their words and their length are free (log 61). -/
def State.writeRegion (s : State) : State :=
  let words := (List.range (Config.freeNat s.tick % 2 ^ 19)).map (fun i => (Config.regionWord s.tick i).toNat)
  (s.storeWords (fld (s.mgtReg 0x1000).toNat 22 30 * 2 ^ 22) words).draw

/-- Step 5 (R396): the safe tier holds an image of HBM. What INCR leaves out is there from the checkpoint before. -/
def State.copyToTier (s : State) : State := { s with safeTier := s.mem.filter (fun c => decide (regionOf c.1 = .hbm)) }

/-- Steps 1 and 2 of the cut: the front end stops reading queues, and every resident block is pre-empted. -/
def State.beginCut (s : State) : State := { s with fe := { s.fe with paused := true } }.preemptAll .cut (fun _ => true)

/-- The cut is over: the front end goes on and the blocks that were pre-empted for it are queued for readmission. -/
def State.endCut (s : State) : State :=
  { s with fe := { s.fe with paused := false, regionDue := false } }.readmitPreempted .cut (fun _ => true)

/-- Step 4 of the cut of a freeze (R437): once steps 1 to 3 are over. -/
def State.finishCut (s : State) : State :=
  if s.fe.regionDue ∧ s.cutOpen = false then { s with fe := { s.fe with regionDue := false } }.writeRegion else s

/-- CHECKPOINT (R396): a write of MGT_CKPT with GO. -/
def execCheckpoint (val : BitVec 64) (s : State) : Result :=
  .next (
    if s.fe.ckpt then s
    else
      let r : W64 := BitVec.ofNat 64 (fld val.toNat 22 30 * 2 ^ 22 + fld val.toNat 1 1 * 2)
      { s with mgt := tabSet s.mgt 0x1000 r, fe := { s.fe with ckpt := true, ckptFail := false } }.beginCut)

/-- CHECKPOINT_DONE (R396): the flush ends the checkpoint with DONE, or a failure with FAIL, which leaves the image on the safe tier as it
was: one of the flush, or of a link or an error meanwhile (R442). A FREEZE written meanwhile keeps the cut, and takes effect now (R437). -/
def execCheckpointDone (ok : Bool) (s : State) : Result :=
  .next (
    let good := ok && !s.fe.ckptFail
    if s.fe.ckpt = false ∨ (good ∧ s.cutOpen) then s
    else
      let r := s.mgtReg 0x1000 ||| BitVec.ofNat 64 (if good then 2 ^ 63 else 2 ^ 62)
      let frozen := (s.mgtReg 0).getLsbD 0
      let s0 := if good then s.writeRegion.copyToTier else s
      let s1 : State := { s0 with mgt := tabSet s.mgt 0x1000 r, fe := { s.fe with ckpt := false, ckptFail := false, regionDue := frozen } }
      if frozen then s1 else s1.endCut)

/-- FREEZE (R437): during a checkpoint it takes effect when the checkpoint completes. -/
def execFreeze (s : State) : Result :=
  .next (
    let s1 := { s with mgt := tabSet s.mgt 0 1 }
    if s.fe.ckpt then s1 else ({ s1 with fe := { s1.fe with regionDue := true } } : State).beginCut)

/-- UNFREEZE (R437). -/
def execUnfreeze (s : State) : Result :=
  .next (
    let s1 := { s with mgt := tabSet s.mgt 0 0 }
    if s.fe.ckpt ∨ (s.mgtReg 0).getLsbD 0 = false then s1 else s1.endCut)

/-! ### Poison and errors (R430 to R433) -/

/-- UNPOISON (R432): the line is zeroed and stamped, its poison is cleared, and every cached copy goes. -/
def execUnpoison (val : BitVec 64) (s : State) : Result :=
  .next (
    let line := fld val.toNat 7 45
    match regionOf (line * 128) with
    | .hbm | .cxl _ =>
      let s1 := (s.poisonLine line).storeAgent (line * 128) (List.replicate 128 0)
      { s1 with
        poison := s1.poison.filter (fun x => x != line),
        restored := if s1.fenced.contains (sliceDie (s1.homeOf (line * 128))) then line :: s1.restored else s1.restored }
    | _ => s)

/-- A unit of a register file, scratchpad or tile memory is poisoned (R433): the register of a lane behind a window address,
or the sector. -/
def State.poisonUnit (s : State) (addr : Nat) : State :=
  match regionOf addr with
  | .window c off =>
    match winRange off, (s.core c).granuleOwner (off / 512) with
    | .regFile, some (slot, t, i) =>
      s.setTeam (c, slot) { t with vpoison := granuleReg t i (off % 512) :: t.vpoison }
    | _, _ => { s with winPoison := addr / 32 :: s.winPoison }
  | _ => s

/-- ERROR_DETECTED (R430): an error is detected and its retry begins. -/
def execErrorDetected (src unit addr : Nat) (ident : BitVec 64) (s : State) : Result :=
  .next (s.detect src unit addr ident 0)

/-- The action of R430 for a lasting error that is none of a die link or a CXL port, with its log record; a checkpoint in progress fails
(R442). -/
def State.lastingError (s : State) (src unit addr : Nat) (ident : W64) : State :=
  let s := s.failCkpt
  if src = 1 ∨ src = 2 then (s.logError src unit 2 1 addr ident).poisonLine (addr / 128)
  else if src = 3 ∨ src = 4 ∨ src = 5 then (s.logError src unit 2 1 addr ident).poisonUnit addr
  else if src = 8 then
    match execUalinkPortFailure (unit % 12) s with
    | .next s1 => s1
    | _ => s
  else
    let s1 := s.logError src unit 2 3 addr ident
    if unit % 2 = s.fe.active then (if s.fe.standby then s1.takeOver else s1) else { s1 with fe := { s1.fe with standby := false } }

/-- ERROR_RETRY (R430): the oldest error's retry succeeds, and it is logged as transient, or fails, and its action applies. -/
def execErrorRetry (ok : Bool) (s : State) : Result :=
  .next (match s.errs with
    | [] => s
    | e :: rest =>
      let w (i : Nat) : Nat := ((e[i]?).getD 0).toNat
      let ident := (e[3]?).getD 0
      let s1 := { s with errs := rest }
      if w 0 = 6 ∨ w 0 = 7 then s1.linkRetry ok (w 0) (w 1) (w 2) ident (w 4)
      else if ok then s1.logError (w 0) (w 1) 1 0 (w 2) ident
      else s1.lastingError (w 0) (w 1) (w 2) ident)

/-! ### Power (R438) -/

/-- CLOCK_STEP (R438): 25 MHz up or down between 1,000 and 1,750 MHz; no cycle is withheld before the clock rises. -/
def execClockStep (up : Bool) (s : State) : Result :=
  .next (
    if up then (if s.withheld = 0 ∧ s.clock + 25 ≤ 1750 then { s with clock := s.clock + 25 } else s)
    else if 1025 ≤ s.clock then { s with clock := s.clock - 25 } else s)

/-- WITHHOLD_STEP (R438): at 1,000 MHz, k rises by at most 1, to at most 12, or falls. -/
def execWithholdStep (k : Nat) (s : State) : Result :=
  .next (if s.clock = 1000 ∧ k ≤ 12 ∧ k ≤ s.withheld + 1 then { s with withheld := k } else s)

/-! ### Remote requests (R439) -/

/-- What an atomic of a pod-remote device leaves for an old value (R301, R303): none for a `cas` that fails. -/
def remoteResult (op : RemoteOp) (n : Nat) (x y old : Nat) : Option Nat :=
  let a := x % 2 ^ n
  match op with
  | .add => some ((old + a) % 2 ^ n)
  | .exch => some a
  | .max => some (if signed n old < signed n a then a else old)
  | .min => some (if signed n a < signed n old then a else old)
  | .cas => if old = a then some (y % 2 ^ n) else none

/-- REMOTE_REQUEST (R439): served against the context of its PASID, unless the device is in recovery mode (R378). A request that fails
its checks changes nothing here; its answer goes to the other device. A request for more than a line is none. -/
def execRemoteRequest (pasid : Nat) (va : BitVec 64) (req : RemoteReq) (s : State) : Result :=
  .next (match s.ctxOf pasid with
    | none => s
    | some i =>
      let a := unitAgent 0 pasid i none
      if s.fe.recovery then s
      else
        match req with
        | .read log2 => if 7 < log2 then s else (s.unitRead a va (2 ^ log2)).2
        | .write log2 val => if 7 < log2 then s else (s.unitWrite a va (2 ^ log2) (val.toNat % 2 ^ (8 * 2 ^ log2))).2
        | .atomic op wide x y =>
          let n := if wide then 8 else 4
          (s.unitUpdate a va n (remoteResult op (8 * n) x.toNat y.toNat)).2)

/-! ### Firmware, attestation, reset (R363, R378, R440, R441) -/

/-- MGT_SLOTWR reads busy: the verification and write of the slot are in progress (R435). -/
def State.slotBusy (s : State) : Bool := decide (fld (s.mgtReg 0x30).toNat 1 2 = 3)

/-- SLOT_WRITE (R440): the image whose verification a GO began is written to the slot, or rejected. The
spec does not lay the image out, so whether it verifies, and its digest, are free (log 9). -/
def execSlotWrite (val : BitVec 64) (s : State) : Result :=
  .next (
    if s.slotBusy = false then s
    else
      let ok := Config.freeBool s.tick
      let r : W64 := BitVec.ofNat 64 (fld val.toNat 12 40 * 4096 + (if ok then 1 else 2) * 2)
      { s with
        mgt := tabSet s.mgt 0x30 r, slotOk := s.slotOk || ok,
        slotDigest := if ok then Config.imageDigest s.tick else s.slotDigest }.draw)

/-- The words of measurement block i (R441): the digest of the image in the slot, those of the images on both complexes, the fuse state
but for the identity key, which nothing reads, and FENCED with RECOVERY. -/
def State.measure (s : State) (i : Nat) : List Nat :=
  if i = 1 then [s.slotDigest.toNat]
  else if i = 2 then [(tabGet 0 s.runDigest 0).toNat, (tabGet 0 s.runDigest 1).toNat]
  else if i = 3 then [s.fuses.keyDigest.toNat, s.fuses.minVersion.toNat]
  else [s.fencedWord, bit s.fe.recovery]

/-- SPDM_MEASUREMENT (R441): the block of an index is returned, signed with the identity key, with the certificate chain of that key; a request
of no such index returns all four (log 9). -/
def execSpdmMeasurement (idx : Nat) (s : State) : Result :=
  .next (
    let is := if 1 ≤ idx ∧ idx ≤ 4 then [idx] else [1, 2, 3, 4]
    { s with certOut := s.certs, spdmOut := is.map (fun i => ⟨i, s.measure i, Config.signature s.fuses.identity (i :: s.measure i) s.tick⟩) }.draw)

/-- SPDM_KEY_EXCHANGE (R363): the IDE keys of a port are set, to keys the exchange makes (log 9). -/
def execSpdmKeyExchange (port : Nat) (s : State) : Result :=
  .next { s with ide := tabSet s.ide port (Config.freeWord s.tick) }.draw

/-- POWER_LOSS (R440): nothing runs until a reset. While the slot register is busy the write may have begun, and then the slot fails at the
next reset; whether it had is free (log 4). -/
def execPowerLoss (s : State) : Result :=
  .next (
    { s with powered := false, slotOk := s.slotOk && !(s.slotBusy && Config.freeBool s.tick) }.draw)

/-- A byte keeps its value over a reset (log 2): host and expansion memory always, HBM while the power stays. -/
def keptOverReset (powered : Bool) (a : Nat) : Bool :=
  match regionOf a with
  | .host | .cxl _ => true
  | .hbm => powered
  | _ => false

/-- RESET (R378): everything is at its reset value; the firmware slot is verified, and the device starts normally or in recovery
mode. What stands in memory stays (log 2), and so do the image on the safe tier, the fuses and the certificates (R441), the pending events and the
count of free values.
Both complexes boot the image in the slot. -/
def execReset (s : State) : Result :=
  .next { State.reset with
    mem := s.mem.filter (fun c => keptOverReset s.powered c.1),
    poison := if s.powered then s.poison else [],
    slotOk := s.slotOk, slotDigest := s.slotDigest, runDigest := [(0, s.slotDigest), (1, s.slotDigest)], fuses := s.fuses, certs := s.certs,
    fe := { FrontEnd.reset with recovery := !s.slotOk },
    safeTier := s.safeTier, agenda := s.agenda, turns := s.turns, tick := s.tick }

/-! ### What follows every step -/

/-- What follows every step from `s0`: writes of units that waited for their place are made (R78, R85), a context that is no longer valid
has no grace-period record (R126, R391), groups that have come to be quiet note the time (R54), a freeze whose cut is over writes its region
(R437), and the trace units count the faults and parks of the step (R427). -/
def State.settle (s s0 : State) : State := ((s.flushLate.dropContexts.noteQuiet s0).finishCut).traceParks s0

end Sys2Proof.Machine
end

