-- ==== Sys2Proof/Machine/Registers.lean ====
section
/-! DEFINITION. REGISTER_WRITE (R12, R13): a write to a register of the management aperture updates its RW and W1C fields. A field
that starts something puts the row of that name before everything else that is to happen. -/

namespace Sys2Proof.Machine

/-- A step of another agent comes next. -/
def State.push (s : State) (e : Event) : State := { s with agenda := e :: s.agenda }

/-- A step of another agent comes next if a condition holds. -/
def State.pushIf (s : State) (c : Bool) (e : Event) : State := if c then s.push e else s

/-- The low n bits of a value from bit lo on stay at their place; every other bit is zero. -/
def keepBits (x lo n : Nat) : Nat := fld x lo n * 2 ^ lo

/-- A value limited to a range (R125, R413, R435). -/
def clamp (lo hi x : Nat) : Nat := max lo (min hi x)

/-- W1C: the bits written as 1 clear (R12). -/
def clearOnes (old x n : Nat) : Nat := old &&& (2 ^ n - 1 - x % 2 ^ n)

/-! ### The `MGT_` block (R396, R403, R408, R435) -/

/-- The state with a register of the `MGT_` block replaced. -/
def State.setMgt (s : State) (off x : Nat) : State := { s with mgt := tabSet s.mgt off (BitVec.ofNat 64 x) }

/-- A write to a team-state port (R408). A new selection ends what an earlier operation reported, and a busy port takes no further operation,
with its SIGNAL (R412; log 72). -/
def State.portWrite (s : State) (c off x : Nat) : State :=
  let p := s.port c
  let set (p : Port) : State := { s with ports := tabSet s.ports c p }
  if off = 0x00 then
    set { p with
      ctl := BitVec.ofNat 64 (if fld x 62 2 = 1 then x else keepBits x 62 2 + keepBits x 0 13),
      ended := false, status := if p.status = 1 then 1 else 0 }
  else if off = 0x08 then set { p with off := fld x 0 20 }
  else if off = 0x10 then s.push (.teamStateDataWrite c (BitVec.ofNat 64 x))
  else if off = 0x18 then set { p with stack := BitVec.ofNat 64 (keepBits x 7 50) }
  else if off = 0x20 then set { p with entry := BitVec.ofNat 64 (keepBits x 1 56) }
  else if off = 0x28 then
    let op := fld x 0 4
    let start := 1 ≤ op ∧ op ≤ 3
    if p.status = 1 then s
    else
      let s1 := set { p with signal := fld x 8 8, status := if start then 1 else p.status }
      if start then s1.push (if op = 1 then .frame c else if op = 2 then .kill c else .release c) else s1
  else s

/-- A write to the `MGT_` block. From GO until the slot is written or the image is rejected MGT_SLOTWR reads busy, and takes no further GO
(R435). -/
def State.mgtWrite (s : State) (off x : Nat) : State :=
  let old := (s.mgtReg off).toNat
  if 0x80000 ≤ off ∧ off < 0x84000 then s.portWrite ((off - 0x80000) / 0x40) (off % 0x40) x
  else if off = 0x0000 then
    if old % 2 = x % 2 then s else s.push (if x % 2 = 1 then .freeze else .unfreeze)
  else if off = 0x0008 then s.setMgt off (keepBits x 12 40 + clamp 6 16 (x % 32))
  else if off = 0x0018 then s.push (.unpoison (BitVec.ofNat 64 x))
  else if off = 0x0020 then s.setMgt off (clamp 1000 2600 (x % 2 ^ 12))
  else if off = 0x0030 then
    let busy := fld old 1 2 = 3
    (s.setMgt off (keepBits x 12 40 + (if x % 2 = 1 ∨ busy then 6 else keepBits old 1 2))).pushIf (x % 2 == 1 && !busy)
      (.slotWrite (BitVec.ofNat 64 x))
  else if off = 0x0038 then s.setMgt off (x % 2 ^ 10)
  else if off = 0x1000 then
    (s.setMgt off (keepBits old 62 2 + keepBits x 22 30 + keepBits x 1 1)).pushIf (x % 2 == 1) (.checkpoint (BitVec.ofNat 64 x))
  else if off = 0x2000 ∨ off = 0x2008 then s.setMgt off (keepBits x 12 40 + x % 32)
  else if off = 0x2010 then s.push (.doorbell (x % 256))
  else if 0x4000 ≤ off ∧ off < 0x4800 then s.setMgt off (x &&& 0x8FFF8FFF8FFF8FFF)
  else s

/-! ### The `LKD_`, `QSC_` and `XLT_` blocks (R125, R141, R387) -/

/-- A write to the `LKD_` block. -/
def State.lkdWrite (s : State) (off x : Nat) : State :=
  if off = 0 then { s with lkdTiming := (max 1 (fld x 32 16), max 1 (fld x 0 16)) }
  else if off = 8 then { s with lkdCounts := (clearOnes s.lkdCounts.1 (fld x 32 32) 32, clearOnes s.lkdCounts.2 (fld x 0 32) 32) }
  else s

/-- A write to the `QSC_` block. -/
def State.qscWrite (s : State) (off x : Nat) : State :=
  if off = 0 then ({ s with qscStall := max 1 (fld x 0 20), qscProc := fld x 20 12 } : State).pushIf (fld x 32 1 == 1) .qscResume
  else if off = 8 then { s with qscCounts := (clearOnes s.qscCounts.1 (fld x 32 32) 32, clearOnes s.qscCounts.2 (fld x 0 32) 32) }
  else s

/-- The state with a register of the `XLT_` block replaced. -/
def State.setXlt (s : State) (off x : Nat) : State := { s with xlt := tabSet s.xlt off (BitVec.ofNat 64 x) }

/-- Some process context is valid. -/
def State.anyContext (s : State) : Bool := (List.range 4096).any s.ctxValid

/-- A write to the `XLT_` block. -/
def State.xltWrite (s : State) (off x : Nat) : State :=
  let old := (s.xltReg off).toNat
  if off = 0x00 then
    let ibu := if s.anyContext then fld old 32 7 else min 64 (fld x 32 7)
    s.setXlt off (at' ibu 32 + at' (max 15 (fld x 16 16)) 16)
  else if off = 0x08 then s.setXlt off (keepBits x 12 40)
  else if off = 0x10 then s.setXlt off (keepBits x 12 45 + x % 64)
  else if off = 0x18 then (s.setXlt off (x % 2 ^ 21)).pushIf (fld x 21 1 == 1) (.shootdownSubmit (BitVec.ofNat 64 x))
  else if off = 0x28 then s.setXlt off (clearOnes old x 8)
  else s

/-! ### The `DBG_` and `TRC_` blocks (R413, R421) -/

/-- The command that DBG_CMD starts. -/
def debugCommand (x : Nat) : Option Event :=
  let core := fld x 0 8
  match fld x 24 4 with
  | 1 => some (.stop core (fld x 8 3))
  | 2 => some (.run core (fld x 8 3))
  | 3 => some (.step core (fld x 11 5))
  | 4 => some (.exec core (fld x 11 5) (fld x 20 4))
  | 5 => some (.gangstop core)
  | _ => none

/-- A write to the `DBG_` block. -/
def State.dbgWrite (s : State) (off x : Nat) : State :=
  let w (n : Nat) : W64 := BitVec.ofNat 64 n
  if off = 0x000 then s.setDbg off (w (x % 2 ^ 21))
  else if off = 0x008 then
    let s1 := s.setDbg off (w (keepBits x 20 4 + x % 2 ^ 16))
    match debugCommand x with
    | some e => s1.push e
    | none => s1
  else if 0x040 ≤ off ∧ off < 0x0C0 then s.setDbg off (w (x % 2 ^ 32))
  else if 0x100 ≤ off ∧ off < 0x180 then
    if off % 16 = 0 then s.setDbg off (w (keepBits x 3 49))
    else s.setDbg off (w (at' (clamp 3 12 (fld x 4 4)) 4 + x % 16))
  else if 0x8000 ≤ off ∧ off < 0x8400 ∧ off % 0x20 < 0x10 then
    let s1 := s.keepSlice (off - 0x8000)
    let g := (off - 0x8000) / 0x20
    let n := tabGet (0, 0) s1.slices g
    let m := if off % 0x20 = 0 then (clearOnes n.1 x 64, n.2) else (n.1, clearOnes n.2 x 64)
    { s1 with slices := tabSet s1.slices g m }
  else s

/-- A list of four counts with one replaced. -/
def setCycle (xs : List Nat) (i x : Nat) : List Nat :=
  ((xs ++ [0, 0, 0, 0]).take 4).set i x

/-- A write to a trace unit. -/
def State.trcWrite (s : State) (c off x : Nat) : State :=
  if off = 0x000 then s.push (.traceEnable c (BitVec.ofNat 64 x))
  else if off = 0x008 then s.modTrace c (fun u => { u with base := BitVec.ofNat 64 (keepBits x 12 45 + min 20 (x % 32)) })
  else if off = 0x018 then
    s.modTrace c (fun u => { u with lost := clearOnes u.lost (fld x 32 32) 32, skipped := clearOnes u.skipped (fld x 16 16) 16 })
  else if 0x100 ≤ off ∧ off < 0x200 then
    s.modTrace c (fun u =>
      let k := (off - 0x100) / 16
      let r := tabGet (0, 0) u.ranges k
      let y := BitVec.ofNat 64 (keepBits x 1 56)
      { u with ranges := tabSet u.ranges k (if off % 16 = 0 then (y, r.2) else (r.1, y)) })
  else if 0x200 ≤ off ∧ off < 0x420 then
    s.modTrace c (fun u =>
      let k := (off - 0x200) / 32
      { u with cycles := tabSet u.cycles k (setCycle (tabGet [] u.cycles k) (off % 32 / 8) x) })
  else if 0x500 ≤ off ∧ off < 0x580 then
    s.modTrace c (fun u =>
      let e := (off - 0x500) / 16
      let old := u.counter e
      { u with counters := tabSet u.counters e <|
          if off % 16 = 0 then { old with event := x % 256, ovf := old.ovf && fld x 8 1 == 0 } else { old with count := x % 2 ^ 48 } })
  else s

/-! ### The front-end registers (R365) -/

/-- A write to the front-end registers. -/
def State.feWrite (s : State) (off x : Nat) : State :=
  let w (n : Nat) : W64 := BitVec.ofNat 64 n
  let f := s.fe
  if off = 0x08 then (s.pushIf (fld x 1 1 == 1) .failover).pushIf (x % 2 == 1) .update
  else if off = 0x10 then { s with fe := { f with image := w (keepBits x 12 40) } }
  else if off = 0x18 then { s with fe := { f with qtab := w (keepBits x 12 40) } }
  else if off = 0x20 then ({ s with fe := { f with runlist := w (keepBits x 4 60) } } : State).beginTurn f.runEntry
  else if off = 0x38 then { s with fe := { f with drops := clearOnes f.drops (fld x 32 32) 32 } }
  else s

/-! ### The on-chip windows (R364) -/

/-- A write of n bytes through the management aperture to the window of core c, unchecked by R68 (R364): what R67 makes read-only or a
hole takes none, and neither does a place where a write of that size is misaligned. A busy range and a tile entry that is filling or
draining are waited for (R74, R85). -/
def State.windowWrite (s : State) (c off n x : Nat) : State :=
  if winRange off = .hole ∨ winReadOnly (winRange off) ∨ off % (if winRange off = .regFile then 4 else n) ≠ 0 then s
  else s.unitStore .aperture (windowBase c + off) (leBytes n x)

/-! ### The row -/

/-- A write of the 64-bit register at an offset of the management aperture. -/
def State.wordWrite (s : State) (off x : Nat) : State :=
  if off < 0x100000 then s.mgtWrite off x
  else if off < 0x200000 then s.lkdWrite (off - 0x100000) x
  else if off < 0x300000 then s.qscWrite (off - 0x200000) x
  else if off < 0x400000 then s.xltWrite (off - 0x300000) x
  else if off < 0x500000 then s.dbgWrite (off - 0x400000) x
  else if off < 0x600000 then s.trcWrite ((off - 0x500000) / 0x1000) (off % 0x1000) x
  else if 0x1000000 ≤ off ∧ off < 0x1001000 then s.feWrite (off - 0x1000000) x
  else s

/-- REGISTER_WRITE (R12, R364): 8 bytes or 4 are written at an offset of the management aperture: to a register, of which
a write of 4 changes half, or through the window of a core. RO and RSV bits keep their value, and a write to an offset that is not
listed is ignored. -/
def execRegisterWrite (off : Nat) (val : RegValue) (s : State) : Result :=
  .next (
    if windowsAt ≤ off ∧ off < 2 * windowsAt then
      let put := s.windowWrite ((off - windowsAt) / 0x1000000) (off % 0x1000000)
      match val with
      | .word x => put 8 x.toNat
      | .half x => put 4 x.toNat
    else
      match val with
      | .word x => if off % 8 = 0 then s.wordWrite off x.toNat else s
      | .half x => if off % 4 = 0 then s.wordWrite (off / 8 * 8) (s.mergedWord off (leBytes 4 x.toNat)) else s)

end Sys2Proof.Machine
end

