-- ==== Sys2Proof/Machine/Dispatch.lean ====
section
/-! DEFINITION. The dispatch: one arm per constructor of Instr, each one direct call of its meaning. -/

namespace Sys2Proof.Machine

/-- What one instruction, or one step of another agent, does. -/
def exec (i : Instr) (s : State) : Host.Outcome State Fault Refusal :=
  match i with
  | .mov16 d a => Sys2Proof.Machine.execMov16 d a s
  | .iadd16 d a => Sys2Proof.Machine.execIadd16 d a s
  | .isub16 d a => Sys2Proof.Machine.execIsub16 d a s
  | .imul16 d a => Sys2Proof.Machine.execImul16 d a s
  | .and16 d a => Sys2Proof.Machine.execAnd16 d a s
  | .or16 d a => Sys2Proof.Machine.execOr16 d a s
  | .xor16 d a => Sys2Proof.Machine.execXor16 d a s
  | .shl16 d a => Sys2Proof.Machine.execShl16 d a s
  | .shr16 d a => Sys2Proof.Machine.execShr16 d a s
  | .sar16 d a => Sys2Proof.Machine.execSar16 d a s
  | .imin16 d a => Sys2Proof.Machine.execImin16 d a s
  | .imax16 d a => Sys2Proof.Machine.execImax16 d a s
  | .fadd16 d a => Sys2Proof.Machine.execFadd16 d a s
  | .fsub16 d a => Sys2Proof.Machine.execFsub16 d a s
  | .fmul16 d a => Sys2Proof.Machine.execFmul16 d a s
  | .fmax16 d a => Sys2Proof.Machine.execFmax16 d a s
  | .iaddI32 d a b nw => Sys2Proof.Machine.execIaddI32 d a b nw s
  | .isubI32 d a b nw => Sys2Proof.Machine.execIsubI32 d a b nw s
  | .imulI32 d a b nw => Sys2Proof.Machine.execImulI32 d a b nw s
  | .imadI32 d a b nw => Sys2Proof.Machine.execImadI32 d a b nw s
  | .imulhI32 d a b nw => Sys2Proof.Machine.execImulhI32 d a b nw s
  | .imulhN32 d a b nw => Sys2Proof.Machine.execImulhN32 d a b nw s
  | .iabsI32 d a nw => Sys2Proof.Machine.execIabsI32 d a nw s
  | .sel d a b nw => Sys2Proof.Machine.execSel d a b nw s
  | .idivI32 d a b nw => Sys2Proof.Machine.execIdivI32 d a b nw s
  | .idivN32 d a b nw => Sys2Proof.Machine.execIdivN32 d a b nw s
  | .iremI32 d a b nw => Sys2Proof.Machine.execIremI32 d a b nw s
  | .iremN32 d a b nw => Sys2Proof.Machine.execIremN32 d a b nw s
  | .iminI32 d a b nw => Sys2Proof.Machine.execIminI32 d a b nw s
  | .iminN32 d a b nw => Sys2Proof.Machine.execIminN32 d a b nw s
  | .imaxI32 d a b nw => Sys2Proof.Machine.execImaxI32 d a b nw s
  | .imaxN32 d a b nw => Sys2Proof.Machine.execImaxN32 d a b nw s
  | .andV d a b nw => Sys2Proof.Machine.execAndV d a b nw s
  | .orV d a b nw => Sys2Proof.Machine.execOrV d a b nw s
  | .xorV d a b nw => Sys2Proof.Machine.execXorV d a b nw s
  | .andn d a b nw => Sys2Proof.Machine.execAndn d a b nw s
  | .shlN32 d a b nw => Sys2Proof.Machine.execShlN32 d a b nw s
  | .shrN32 d a b nw => Sys2Proof.Machine.execShrN32 d a b nw s
  | .sarI32 d a b nw => Sys2Proof.Machine.execSarI32 d a b nw s
  | .rotN32 d a b nw => Sys2Proof.Machine.execRotN32 d a b nw s
  | .clz d a nw => Sys2Proof.Machine.execClz d a nw s
  | .popc d a nw => Sys2Proof.Machine.execPopc d a nw s
  | .brev d a nw => Sys2Proof.Machine.execBrev d a nw s
  | .bfx d a b nw => Sys2Proof.Machine.execBfx d a b nw s
  | .bfi d a b nw => Sys2Proof.Machine.execBfi d a b nw s
  | .movV d a nw => Sys2Proof.Machine.execMovV d a nw s
  | .iaddI64V d a b nw => Sys2Proof.Machine.execIaddI64V d a b nw s
  | .isubI64V d a b nw => Sys2Proof.Machine.execIsubI64V d a b nw s
  | .iaddI64S d a b => Sys2Proof.Machine.execIaddI64S d a b s
  | .isubI64S d a b => Sys2Proof.Machine.execIsubI64S d a b s
  | .imulI64 d a b => Sys2Proof.Machine.execImulI64 d a b s
  | .andS d a b => Sys2Proof.Machine.execAndS d a b s
  | .orS d a b => Sys2Proof.Machine.execOrS d a b s
  | .xorS d a b => Sys2Proof.Machine.execXorS d a b s
  | .shlN64 d a b => Sys2Proof.Machine.execShlN64 d a b s
  | .shrN64 d a b => Sys2Proof.Machine.execShrN64 d a b s
  | .sarI64 d a b => Sys2Proof.Machine.execSarI64 d a b s
  | .movS d a => Sys2Proof.Machine.execMovS d a s
  | .icmpEqI32 d a b => Sys2Proof.Machine.execIcmpEqI32 d a b s
  | .icmpLtI32 d a b => Sys2Proof.Machine.execIcmpLtI32 d a b s
  | .icmpLtN32 d a b => Sys2Proof.Machine.execIcmpLtN32 d a b s
  | .icmpEqI64 d a b => Sys2Proof.Machine.execIcmpEqI64 d a b s
  | .icmpLtI64 d a b => Sys2Proof.Machine.execIcmpLtI64 d a b s
  | .icmpLtN64 d a b => Sys2Proof.Machine.execIcmpLtN64 d a b s
  | .lidV d nw => Sys2Proof.Machine.execLidV d nw s
  | .lidS d => Sys2Proof.Machine.execLidS d s
  | .fpack d a b nw => Sys2Proof.Machine.execFpack d a b nw s
  | .funpack d a b nw => Sys2Proof.Machine.execFunpack d a b nw s
  | .fstat d => Sys2Proof.Machine.execFstat d s
  | .fmode d a => Sys2Proof.Machine.execFmode d a s
  | .iaddI32Imm d a imm nw => Sys2Proof.Machine.execIaddI32Imm d a imm nw s
  | .iaddI64Imm d a imm => Sys2Proof.Machine.execIaddI64Imm d a imm s
  | .moviV d imm nw => Sys2Proof.Machine.execMoviV d imm nw s
  | .moviS d imm => Sys2Proof.Machine.execMoviS d imm s
  | .lea d imm => Sys2Proof.Machine.execLea d imm s
  | .limm value => Sys2Proof.Machine.execLimm value s
  | .faddF32 d a b nw => Sys2Proof.Machine.execFaddF32 d a b nw s
  | .fsubF32 d a b nw => Sys2Proof.Machine.execFsubF32 d a b nw s
  | .fmulF32 d a b nw => Sys2Proof.Machine.execFmulF32 d a b nw s
  | .ffmaF32 d a b nw => Sys2Proof.Machine.execFfmaF32 d a b nw s
  | .fdivF32 d a b nw => Sys2Proof.Machine.execFdivF32 d a b nw s
  | .fsqrtF32 d a nw => Sys2Proof.Machine.execFsqrtF32 d a nw s
  | .fminF32 d a b nw => Sys2Proof.Machine.execFminF32 d a b nw s
  | .fmaxF32 d a b nw => Sys2Proof.Machine.execFmaxF32 d a b nw s
  | .frcp d a nw => Sys2Proof.Machine.execFrcp d a nw s
  | .frsq d a nw => Sys2Proof.Machine.execFrsq d a nw s
  | .fexp2 d a nw => Sys2Proof.Machine.execFexp2 d a nw s
  | .flog2 d a nw => Sys2Proof.Machine.execFlog2 d a nw s
  | .froundF32 d a nw => Sys2Proof.Machine.execFroundF32 d a nw s
  | .fclassF32 d a nw => Sys2Proof.Machine.execFclassF32 d a nw s
  | .fcmpEqF32 d a b => Sys2Proof.Machine.execFcmpEqF32 d a b s
  | .fcmpLtF32 d a b => Sys2Proof.Machine.execFcmpLtF32 d a b s
  | .faddF64 d a b nw => Sys2Proof.Machine.execFaddF64 d a b nw s
  | .fsubF64 d a b nw => Sys2Proof.Machine.execFsubF64 d a b nw s
  | .fmulF64 d a b nw => Sys2Proof.Machine.execFmulF64 d a b nw s
  | .ffmaF64 d a b nw => Sys2Proof.Machine.execFfmaF64 d a b nw s
  | .fdivF64 d a b nw => Sys2Proof.Machine.execFdivF64 d a b nw s
  | .fsqrtF64 d a nw => Sys2Proof.Machine.execFsqrtF64 d a nw s
  | .fminF64 d a b nw => Sys2Proof.Machine.execFminF64 d a b nw s
  | .fmaxF64 d a b nw => Sys2Proof.Machine.execFmaxF64 d a b nw s
  | .fcmpLeF32 d a b => Sys2Proof.Machine.execFcmpLeF32 d a b s
  | .fcmpEqF64 d a b => Sys2Proof.Machine.execFcmpEqF64 d a b s
  | .fcmpLtF64 d a b => Sys2Proof.Machine.execFcmpLtF64 d a b s
  | .fcmpLeF64 d a b => Sys2Proof.Machine.execFcmpLeF64 d a b s
  | .froundF64 d a nw => Sys2Proof.Machine.execFroundF64 d a nw s
  | .fclassF64 d a nw => Sys2Proof.Machine.execFclassF64 d a nw s
  | .ftoiI32F32 d a nw => Sys2Proof.Machine.execFtoiI32F32 d a nw s
  | .itofF32I32 d a nw => Sys2Proof.Machine.execItofF32I32 d a nw s
  | .fcvtF64F32 d a nw => Sys2Proof.Machine.execFcvtF64F32 d a nw s
  | .fcvtF32F64 d a nw => Sys2Proof.Machine.execFcvtF32F64 d a nw s
  | .fcvtBf16F32 d a nw => Sys2Proof.Machine.execFcvtBf16F32 d a nw s
  | .fcvtF32Bf16 d a nw => Sys2Proof.Machine.execFcvtF32Bf16 d a nw s
  | .fcvtF16F32 d a nw => Sys2Proof.Machine.execFcvtF16F32 d a nw s
  | .fcvtF32F16 d a nw => Sys2Proof.Machine.execFcvtF32F16 d a nw s
  | .fcvtNfF32 d a b nw => Sys2Proof.Machine.execFcvtNfF32 d a b nw s
  | .fcvtF32Nf d a b nw => Sys2Proof.Machine.execFcvtF32Nf d a b nw s
  | .mand d a b => Sys2Proof.Machine.execMand d a b s
  | .mor d a b => Sys2Proof.Machine.execMor d a b s
  | .mxor d a b => Sys2Proof.Machine.execMxor d a b s
  | .mnot d a => Sys2Proof.Machine.execMnot d a s
  | .mmov d a => Sys2Proof.Machine.execMmov d a s
  | .mpop d a => Sys2Proof.Machine.execMpop d a s
  | .mfirst d a => Sys2Proof.Machine.execMfirst d a s
  | .shfl d a b nw => Sys2Proof.Machine.execShfl d a b nw s
  | .bcast d a b nw => Sys2Proof.Machine.execBcast d a b nw s
  | .reduceAddI32 d a => Sys2Proof.Machine.execReduceAddI32 d a s
  | .reduceAddF32 d a => Sys2Proof.Machine.execReduceAddF32 d a s
  | .reduceMaxI32 d a => Sys2Proof.Machine.execReduceMaxI32 d a s
  | .reduceMaxF32 d a => Sys2Proof.Machine.execReduceMaxF32 d a s
  | .scanAddI32 d a nw => Sys2Proof.Machine.execScanAddI32 d a nw s
  | .scanAddF32 d a nw => Sys2Proof.Machine.execScanAddF32 d a nw s
  | .scanMaxI32 d a nw => Sys2Proof.Machine.execScanMaxI32 d a nw s
  | .scanMaxF32 d a nw => Sys2Proof.Machine.execScanMaxF32 d a nw s
  | .jmpr a => Sys2Proof.Machine.execJmpr a s
  | .ret => Sys2Proof.Machine.execRet s
  | .lbrk => Sys2Proof.Machine.execLbrk s
  | .yield => Sys2Proof.Machine.execYield s
  | .bra off => Sys2Proof.Machine.execBra off s
  | .bzM m off => Sys2Proof.Machine.execBzM m off s
  | .bnzM m off => Sys2Proof.Machine.execBnzM m off s
  | .ball m off => Sys2Proof.Machine.execBall m off s
  | .call off => Sys2Proof.Machine.execCall off s
  | .bzS r off => Sys2Proof.Machine.execBzS r off s
  | .bnzS r off => Sys2Proof.Machine.execBnzS r off s
  | .loop r off => Sys2Proof.Machine.execLoop r off s
  | .rep sb sa sd cnt => Sys2Proof.Machine.execRep sb sa sd cnt s
  | .ldV d size sb ix nw => Sys2Proof.Machine.execLdV d size sb ix nw s
  | .ldS d size sb ix => Sys2Proof.Machine.execLdS d size sb ix s
  | .stV d size sb ix => Sys2Proof.Machine.execStV d size sb ix s
  | .stS d size sb ix => Sys2Proof.Machine.execStS d size sb ix s
  | .ldp d size sb ix nw => Sys2Proof.Machine.execLdp d size sb ix nw s
  | .stp d size sb ix => Sys2Proof.Machine.execStp d size sb ix s
  | .ldOrdV d sb x ord scope => Sys2Proof.Machine.execLdOrdV d sb x ord scope s
  | .ldOrdS d sb x ord scope => Sys2Proof.Machine.execLdOrdS d sb x ord scope s
  | .stOrdV d sb x ord scope => Sys2Proof.Machine.execStOrdV d sb x ord scope s
  | .stOrdS d sb x ord scope => Sys2Proof.Machine.execStOrdS d sb x ord scope s
  | .atomAddI32 d sb x ord scope => Sys2Proof.Machine.execAtomAddI32 d sb x ord scope s
  | .atomAddI64 d sb x ord scope => Sys2Proof.Machine.execAtomAddI64 d sb x ord scope s
  | .atomExchI32 d sb x ord scope => Sys2Proof.Machine.execAtomExchI32 d sb x ord scope s
  | .atomExchI64 d sb x ord scope => Sys2Proof.Machine.execAtomExchI64 d sb x ord scope s
  | .atomMaxI32 d sb x ord scope => Sys2Proof.Machine.execAtomMaxI32 d sb x ord scope s
  | .atomMinI32 d sb x ord scope => Sys2Proof.Machine.execAtomMinI32 d sb x ord scope s
  | .redAddI32 d sb x ord scope => Sys2Proof.Machine.execRedAddI32 d sb x ord scope s
  | .casI32 d sb x ord scope => Sys2Proof.Machine.execCasI32 d sb x ord scope s
  | .casI64 d sb x ord scope => Sys2Proof.Machine.execCasI64 d sb x ord scope s
  | .fence kind scope => Sys2Proof.Machine.execFence kind scope s
  | .llock d sb x scope => Sys2Proof.Machine.execLlock d sb x scope s
  | .ltry d sb scope => Sys2Proof.Machine.execLtry d sb scope s
  | .lunlock sb scope => Sys2Proof.Machine.execLunlock sb scope s
  | .lunlockReg sb scope => Sys2Proof.Machine.execLunlockReg sb scope s
  | .qpass => Sys2Proof.Machine.execQpass s
  | .qidle => Sys2Proof.Machine.execQidle s
  | .qwake => Sys2Proof.Machine.execQwake s
  | .gpstart d => Sys2Proof.Machine.execGpstart d s
  | .gpwait d a => Sys2Proof.Machine.execGpwait d a s
  | .dfree d a b => Sys2Proof.Machine.execDfree d a b s
  | .lstat d a => Sys2Proof.Machine.execLstat d a s
  | .prefL1 a => Sys2Proof.Machine.execPrefL1 a s
  | .prefL2 a => Sys2Proof.Machine.execPrefL2 a s
  | .prefL2x a => Sys2Proof.Machine.execPrefL2x a s
  | .ldbN8 d a b nw => Sys2Proof.Machine.execLdbN8 d a b nw s
  | .ldbN16 d a b nw => Sys2Proof.Machine.execLdbN16 d a b nw s
  | .ldbN32 d a b nw => Sys2Proof.Machine.execLdbN32 d a b nw s
  | .ldbN64 d a b nw => Sys2Proof.Machine.execLdbN64 d a b nw s
  | .mma t a b c => Sys2Proof.Machine.execMma t a b c s
  | .mmag t a b c => Sys2Proof.Machine.execMmag t a b c s
  | .mdrain t dst sb => Sys2Proof.Machine.execMdrain t dst sb s
  | .mdrainAdd t dst sb => Sys2Proof.Machine.execMdrainAdd t dst sb s
  | .quant t dst sb sc => Sys2Proof.Machine.execQuant t dst sb sc s
  | .quantBmaj t dst sb sc => Sys2Proof.Machine.execQuantBmaj t dst sb sc s
  | .tcopyDense c a dst => Sys2Proof.Machine.execTcopyDense c a dst s
  | .tcopyAcc c a t => Sys2Proof.Machine.execTcopyAcc c a t s
  | .tstateAcc t d => Sys2Proof.Machine.execTstateAcc t d s
  | .tstateSt t d => Sys2Proof.Machine.execTstateSt t d s
  | .twaitAcc t want phase => Sys2Proof.Machine.execTwaitAcc t want phase s
  | .twaitSt t want phase => Sys2Proof.Machine.execTwaitSt t want phase s
  | .treadyAcc t => Sys2Proof.Machine.execTreadyAcc t s
  | .treadySt t => Sys2Proof.Machine.execTreadySt t s
  | .trelAcc t => Sys2Proof.Machine.execTrelAcc t s
  | .trelSt t => Sys2Proof.Machine.execTrelSt t s
  | .mzero t wide => Sys2Proof.Machine.execMzero t wide s
  | .tbind t d => Sys2Proof.Machine.execTbind t d s
  | .mcommit d => Sys2Proof.Machine.execMcommit d s
  | .mwait a => Sys2Proof.Machine.execMwait a s
  | .cwait a => Sys2Proof.Machine.execCwait a s
  | .cstatMap d a => Sys2Proof.Machine.execCstatMap d a s
  | .cstat d a => Sys2Proof.Machine.execCstat d a s
  | .ccancel a => Sys2Proof.Machine.execCcancel a s
  | .bar n gang expect => Sys2Proof.Machine.execBar n gang expect s
  | .arrive n gang expect => Sys2Proof.Machine.execArrive n gang expect s
  | .bwait n gang => Sys2Proof.Machine.execBwait n gang s
  | .trap n => Sys2Proof.Machine.execTrap n s
  | .brk n => Sys2Proof.Machine.execBrk n s
  | .halt => Sys2Proof.Machine.execHalt s
  | .nop => Sys2Proof.Machine.execNop s
  | .sigret d => Sys2Proof.Machine.execSigret d s
  | .eret => Sys2Proof.Machine.execEret s
  | .sysrd d r => Sys2Proof.Machine.execSysrd d r s
  | .syswr d r => Sys2Proof.Machine.execSyswr d r s
  | .syswrSet d r => Sys2Proof.Machine.execSyswrSet d r s
  | .syswrClr d r => Sys2Proof.Machine.execSyswrClr d r s
  | .park d => Sys2Proof.Machine.execPark d s
  | .resume d => Sys2Proof.Machine.execResume d s
  | .resumeStep d => Sys2Proof.Machine.execResumeStep d s
  | .vectorPass core slot => Sys2Proof.Machine.execVectorPass core slot s
  | .teamBoost core slot => Sys2Proof.Machine.execTeamBoost core slot s
  | .yieldEnd core slot => Sys2Proof.Machine.execYieldEnd core slot s
  | .submissionWrite q val => Sys2Proof.Machine.execSubmissionWrite q val s
  | .launch q => Sys2Proof.Machine.execLaunch q s
  | .write q => Sys2Proof.Machine.execWrite q s
  | .wait q => Sys2Proof.Machine.execWait q s
  | .waitComplete q => Sys2Proof.Machine.execWaitComplete q s
  | .time q => Sys2Proof.Machine.execTime q s
  | .nopPacket q => Sys2Proof.Machine.execNopPacket q s
  | .queueEnable q => Sys2Proof.Machine.execQueueEnable q s
  | .queueResume q => Sys2Proof.Machine.execQueueResume q s
  | .update => Sys2Proof.Machine.execUpdate s
  | .standbyImport => Sys2Proof.Machine.execStandbyImport s
  | .updateTakeover => Sys2Proof.Machine.execUpdateTakeover s
  | .failover => Sys2Proof.Machine.execFailover s
  | .watchdogTakeover => Sys2Proof.Machine.execWatchdogTakeover s
  | .runListTurnEnd => Sys2Proof.Machine.execRunListTurnEnd s
  | .reset => Sys2Proof.Machine.execReset s
  | .placementDecision => Sys2Proof.Machine.execPlacementDecision s
  | .blockStart blk => Sys2Proof.Machine.execBlockStart blk s
  | .swapThresholdExpiry blk => Sys2Proof.Machine.execSwapThresholdExpiry blk s
  | .swapOutBegin blk => Sys2Proof.Machine.execSwapOutBegin blk s
  | .swapOutComplete blk => Sys2Proof.Machine.execSwapOutComplete blk s
  | .operationStart core slot => Sys2Proof.Machine.execOperationStart core slot s
  | .kstepComplete op => Sys2Proof.Machine.execKstepComplete op s
  | .drainComplete op => Sys2Proof.Machine.execDrainComplete op s
  | .quantComplete op => Sys2Proof.Machine.execQuantComplete op s
  | .boxIssue core => Sys2Proof.Machine.execBoxIssue core s
  | .boxPause copy box => Sys2Proof.Machine.execBoxPause copy box s
  | .boxComplete copy box => Sys2Proof.Machine.execBoxComplete copy box s
  | .boxFault copy box => Sys2Proof.Machine.execBoxFault copy box s
  | .boxAbort blk => Sys2Proof.Machine.execBoxAbort blk s
  | .lockRequest core slot => Sys2Proof.Machine.execLockRequest core slot s
  | .lockRelease obj => Sys2Proof.Machine.execLockRelease obj s
  | .grantDelivery obj => Sys2Proof.Machine.execGrantDelivery obj s
  | .grantWindowClose obj => Sys2Proof.Machine.execGrantWindowClose obj s
  | .lockDeadline obj team => Sys2Proof.Machine.execLockDeadline obj team s
  | .deadlockProbe obj team => Sys2Proof.Machine.execDeadlockProbe obj team s
  | .probeHop idx => Sys2Proof.Machine.execProbeHop idx s
  | .graceRecompute p => Sys2Proof.Machine.execGraceRecompute p s
  | .deferredMove p => Sys2Proof.Machine.execDeferredMove p s
  | .headPoll p => Sys2Proof.Machine.execHeadPoll p s
  | .graceStallReport p => Sys2Proof.Machine.execGraceStallReport p s
  | .qscResume => Sys2Proof.Machine.execQscResume s
  | .logicalTimeAdvance core n => Sys2Proof.Machine.execLogicalTimeAdvance core n s
  | .epochChange => Sys2Proof.Machine.execEpochChange s
  | .retentionWake core => Sys2Proof.Machine.execRetentionWake core s
  | .hostSnoop line => Sys2Proof.Machine.execHostSnoop line s
  | .fenceMarkerAck path core => Sys2Proof.Machine.execFenceMarkerAck path core s
  | .dieLinkFailure d1 d2 => Sys2Proof.Machine.execDieLinkFailure d1 d2 s
  | .cxlPortFailure port => Sys2Proof.Machine.execCxlPortFailure port s
  | .invalidationRetry ok => Sys2Proof.Machine.execInvalidationRetry ok s
  | .ualinkPortFailure port => Sys2Proof.Machine.execUalinkPortFailure port s
  | .remoteRequest pasid va req => Sys2Proof.Machine.execRemoteRequest pasid va req s
  | .eventEntry core => Sys2Proof.Machine.execEventEntry core s
  | .supervisorTimer core => Sys2Proof.Machine.execSupervisorTimer core s
  | .doorbell core => Sys2Proof.Machine.execDoorbell core s
  | .supresume core => Sys2Proof.Machine.execSupresume core s
  | .mailboxPost => Sys2Proof.Machine.execMailboxPost s
  | .teamStateDataWrite port val => Sys2Proof.Machine.execTeamStateDataWrite port val s
  | .teamStateDataRead port => Sys2Proof.Machine.execTeamStateDataRead port s
  | .frame port => Sys2Proof.Machine.execFrame port s
  | .kill port => Sys2Proof.Machine.execKill port s
  | .release port => Sys2Proof.Machine.execRelease port s
  | .stop core place => Sys2Proof.Machine.execStop core place s
  | .blockStopDone => Sys2Proof.Machine.execBlockStopDone s
  | .run core place => Sys2Proof.Machine.execRun core place s
  | .step core slot => Sys2Proof.Machine.execStep core slot s
  | .exec core slot nbuf => Sys2Proof.Machine.execExec core slot nbuf s
  | .gangstop core => Sys2Proof.Machine.execGangstop core s
  | .traceEnable core val => Sys2Proof.Machine.execTraceEnable core val s
  | .traceSync core => Sys2Proof.Machine.execTraceSync core s
  | .traceResume core => Sys2Proof.Machine.execTraceResume core s
  | .counterWrap core e => Sys2Proof.Machine.execCounterWrap core e s
  | .shootdownSubmit val => Sys2Proof.Machine.execShootdownSubmit val s
  | .atsInvalidation pasid va log2 => Sys2Proof.Machine.execAtsInvalidation pasid va log2 s
  | .shootdownComplete => Sys2Proof.Machine.execShootdownComplete s
  | .checkpoint val => Sys2Proof.Machine.execCheckpoint val s
  | .checkpointDone ok => Sys2Proof.Machine.execCheckpointDone ok s
  | .freeze => Sys2Proof.Machine.execFreeze s
  | .unfreeze => Sys2Proof.Machine.execUnfreeze s
  | .unpoison val => Sys2Proof.Machine.execUnpoison val s
  | .slotWrite val => Sys2Proof.Machine.execSlotWrite val s
  | .clockStep up => Sys2Proof.Machine.execClockStep up s
  | .withholdStep k => Sys2Proof.Machine.execWithholdStep k s
  | .errorDetected src unit addr ident => Sys2Proof.Machine.execErrorDetected src unit addr ident s
  | .errorRetry ok => Sys2Proof.Machine.execErrorRetry ok s
  | .spdmMeasurement idx => Sys2Proof.Machine.execSpdmMeasurement idx s
  | .spdmKeyExchange port => Sys2Proof.Machine.execSpdmKeyExchange port s
  | .registerWrite off val => Sys2Proof.Machine.execRegisterWrite off val s
  | .fetchFault core slot => Sys2Proof.Machine.execFetchFault core slot s
  | .storePerformed core idx => Sys2Proof.Machine.execStorePerformed core idx s
  | .hostCxlMemAccess addr req => Sys2Proof.Machine.execHostCxlMemAccess addr req s
  | .powerLoss => Sys2Proof.Machine.execPowerLoss s
  | .l1RetentionSleep core => Sys2Proof.Machine.execL1RetentionSleep core s

end Sys2Proof.Machine
end

