-- ==== Sys2Proof/Machine/Perform.lean ====
section
/-! DEFINITION. The steps of the other agents: the same meanings that `exec` gives their rows. -/

namespace Sys2Proof.Machine

/-- Perform one event of the agenda. -/
def performEvent (e : Event) (s : State) : Result :=
  match e with
  | .vectorPass core slot => execVectorPass core slot s
  | .teamBoost core slot => execTeamBoost core slot s
  | .yieldEnd core slot => execYieldEnd core slot s
  | .submissionWrite q val => execSubmissionWrite q val s
  | .launch q => execLaunch q s
  | .write q => execWrite q s
  | .wait q => execWait q s
  | .waitComplete q => execWaitComplete q s
  | .time q => execTime q s
  | .nopPacket q => execNopPacket q s
  | .queueEnable q => execQueueEnable q s
  | .queueResume q => execQueueResume q s
  | .update => execUpdate s
  | .standbyImport => execStandbyImport s
  | .updateTakeover => execUpdateTakeover s
  | .failover => execFailover s
  | .watchdogTakeover => execWatchdogTakeover s
  | .runListTurnEnd => execRunListTurnEnd s
  | .reset => execReset s
  | .placementDecision => execPlacementDecision s
  | .blockStart blk => execBlockStart blk s
  | .swapThresholdExpiry blk => execSwapThresholdExpiry blk s
  | .swapOutBegin blk => execSwapOutBegin blk s
  | .swapOutComplete blk => execSwapOutComplete blk s
  | .operationStart core slot => execOperationStart core slot s
  | .kstepComplete op => execKstepComplete op s
  | .drainComplete op => execDrainComplete op s
  | .quantComplete op => execQuantComplete op s
  | .boxIssue core => execBoxIssue core s
  | .boxPause copy box => execBoxPause copy box s
  | .boxComplete copy box => execBoxComplete copy box s
  | .boxFault copy box => execBoxFault copy box s
  | .boxAbort blk => execBoxAbort blk s
  | .lockRequest core slot => execLockRequest core slot s
  | .lockRelease obj => execLockRelease obj s
  | .grantDelivery obj => execGrantDelivery obj s
  | .grantWindowClose obj => execGrantWindowClose obj s
  | .lockDeadline obj team => execLockDeadline obj team s
  | .deadlockProbe obj team => execDeadlockProbe obj team s
  | .probeHop i => execProbeHop i s
  | .graceRecompute p => execGraceRecompute p s
  | .deferredMove p => execDeferredMove p s
  | .headPoll p => execHeadPoll p s
  | .graceStallReport p => execGraceStallReport p s
  | .qscResume => execQscResume s
  | .logicalTimeAdvance core n => execLogicalTimeAdvance core n s
  | .epochChange => execEpochChange s
  | .retentionWake core => execRetentionWake core s
  | .hostSnoop line => execHostSnoop line s
  | .fenceMarkerAck path core => execFenceMarkerAck path core s
  | .dieLinkFailure d1 d2 => execDieLinkFailure d1 d2 s
  | .cxlPortFailure port => execCxlPortFailure port s
  | .invalidationRetry ok => execInvalidationRetry ok s
  | .ualinkPortFailure port => execUalinkPortFailure port s
  | .remoteRequest pasid va req => execRemoteRequest pasid va req s
  | .eventEntry core => execEventEntry core s
  | .supervisorTimer core => execSupervisorTimer core s
  | .doorbell core => execDoorbell core s
  | .supresume core => execSupresume core s
  | .mailboxPost => execMailboxPost s
  | .teamStateDataWrite port val => execTeamStateDataWrite port val s
  | .teamStateDataRead port => execTeamStateDataRead port s
  | .frame port => execFrame port s
  | .kill port => execKill port s
  | .release port => execRelease port s
  | .stop core place => execStop core place s
  | .blockStopDone => execBlockStopDone s
  | .run core place => execRun core place s
  | .step core slot => execStep core slot s
  | .exec core slot nbuf => execExec core slot nbuf s
  | .gangstop core => execGangstop core s
  | .traceEnable core val => execTraceEnable core val s
  | .traceSync core => execTraceSync core s
  | .traceResume core => execTraceResume core s
  | .counterWrap core e => execCounterWrap core e s
  | .shootdownSubmit val => execShootdownSubmit val s
  | .atsInvalidation pasid va log2 => execAtsInvalidation pasid va log2 s
  | .shootdownComplete => execShootdownComplete s
  | .checkpoint val => execCheckpoint val s
  | .checkpointDone ok => execCheckpointDone ok s
  | .freeze => execFreeze s
  | .unfreeze => execUnfreeze s
  | .unpoison val => execUnpoison val s
  | .slotWrite val => execSlotWrite val s
  | .clockStep up => execClockStep up s
  | .withholdStep k => execWithholdStep k s
  | .errorDetected src unit addr ident => execErrorDetected src unit addr ident s
  | .errorRetry ok => execErrorRetry ok s
  | .spdmMeasurement idx => execSpdmMeasurement idx s
  | .spdmKeyExchange port => execSpdmKeyExchange port s
  | .registerWrite off val => execRegisterWrite off val s
  | .fetchFault core slot => execFetchFault core slot s
  | .storePerformed core i => execStorePerformed core i s
  | .hostCxlMemAccess addr req => execHostCxlMemAccess addr req s
  | .powerLoss => execPowerLoss s
  | .l1RetentionSleep core => execL1RetentionSleep core s

end Sys2Proof.Machine
end

