-- ==== Sys2Proof/Machine/Step.lean ====
section
/-! DEFINITION. One step of the machine: the first event of the agenda, or, when the agenda is empty, the next unit of
the team in `cur` (log 3); and the placement of one instruction where the next step fetches it. -/

namespace Sys2Proof.Machine

/-- The events that can end a loss of power: only a reset (R378, R440). -/
def wakes (e : Event) : Bool :=
  match e with
  | .reset => true
  | _ => false

/-- What follows every step from s. -/
def settled (s : State) (r : Result) : Result :=
  match r with
  | .next t => .next (t.settle s)
  | .fault f => .fault f
  | .refused x => .refused x

/-- What follows the unit of the team in `cur` of s: the trace, the cycles it took, and the next turn. -/
def issued (s : State) (r : Result) : Result :=
  match r with
  | .next t => .next ((t.traceUnit s s.cur).afterIssue s s.cur)
  | .fault f => .fault f
  | .refused x => .refused x

/-- One step. -/
def step (s : State) : Host.Outcome State Fault Refusal :=
  match s.agenda with
  | e :: rest => if s.powered ∨ wakes e then settled s (performEvent e { s with agenda := rest }) else .fault .noPower
  | [] => if s.powered then settled s (issued s (s.issueUnit exec s.passLimit)) else .fault .noPower

/-- The cached leaf of a page that holds the supervisor's program: present, read, write, execute, unprivileged too,
accessed and dirty; 1 GiB at physical address 0. -/
def State.loadLeaf : W64 := 0x01E0000000000303#64

/-- The physical address that `withFetchWord` loads for a PC. -/
def loadAddr (pc : W57) : Nat := pc.toNat % 2 ^ 30

/-- The state with one instruction where the next step fetches it: the supervisor of core 0 issues next, its page is
in the core's translation cache, and the bytes at its PC are those of the word, followed by zeros. This stands for the
load of a program from outside the machine. -/
def State.withFetchWord (s : State) (nbits w : Nat) : State :=
  let t := (s.team? (0, 0)).getD (Team.supervisor 0)
  let k := s.core 0
  let e : TlbEntry := ⟨s.ctxPasid 4095, t.pc.toNat / 2 ^ 30 * 2 ^ 30, 30, State.loadLeaf⟩
  let bytes := wordBytes 4 (w % 2 ^ nbits) ++ List.replicate 8 0
  let s1 := s.setCore 0 { k with tlb := e :: k.tlb }
  { s1.memWrite (loadAddr t.pc) bytes with agenda := [], turns := [], cur := (0, 0), powered := true }

end Sys2Proof.Machine
end

