-- ==== Sys2Proof/WellFormed.lean ====
section
/-! DEFINITION. Well-formed instructions: every operand lies in the range its field, or the unit it names, has (R18, R22, R211 to R219,
R221, R313, R331). Immediates that a `limm` widened are no longer what one word holds. -/

namespace Sys2Proof

/-- A number that n bits hold. -/
def narrowOk (x n : Nat) : Bool := decide (x < 2 ^ n)

/-- A signed value that n bits hold (R218). -/
def fitsS (n : Nat) (x : Int) : Bool := decide (-(2 ^ (n - 1) : Int) ≤ x ∧ x < 2 ^ (n - 1))

/-- A vector register that a field names: codes 124 to 127 are latches (R215). -/
def vregOk (k : Nat) : Bool := decide (k < 124)

/-- A vector source (R215). -/
def VSrc.ok : VSrc → Bool
  | .reg k => decide (k < 124)
  | .bp k => decide (k < 4)

/-- A vector source of an 8-byte access: an even register (R216). -/
def VSrc.pairSrc : VSrc → Bool
  | .reg k => decide (k < 124) && k % 2 == 0
  | .bp _ => false

/-- A scalar register (R22). -/
def sregOk (k : Nat) : Bool := decide (k < 64)

/-- A mask register, a barrier or a branch's scalar register: four bits (R213, R331). -/
def mregOk (k : Nat) : Bool := decide (k < 16)

/-- A vector register pair, named by its even register (R216). -/
def pairOk (k : Nat) : Bool := decide (k < 124) && k % 2 == 0

/-- A scalar register pair, named by its even register (R303). -/
def spairOk (k : Nat) : Bool := decide (k < 64) && k % 2 == 0

/-- With `nw` the destination field is zero (R217). -/
def nwOk (d : Nat) (nw : Bool) : Bool := !nw || d == 0

/-- The index of a vector access (R294). -/
def VIndex.ok : VIndex → Bool
  | .disp k => fitsS 7 k
  | .idx v => v.ok

/-- The index of a scalar access (R294). -/
def SIndex.ok : SIndex → Bool
  | .disp k => fitsS 7 k
  | .idx s => sregOk s

/-- A T-format operand: six bits (R213). -/
def TSrc.ok : TSrc → Bool
  | .slot k => decide (k < 64)
  | .reg s => sregOk s

/-- A local tile entry (R57). -/
def entryOk (t : Nat) : Bool := decide (t < 32)

/-- The instruction is well formed. -/
def wellFormed (i : Instr) : Bool :=
  match i with
  | .mov16 d a => narrowOk d 6 && narrowOk a 5
  | .iadd16 d a => narrowOk d 6 && narrowOk a 5
  | .isub16 d a => narrowOk d 6 && narrowOk a 5
  | .imul16 d a => narrowOk d 6 && narrowOk a 5
  | .and16 d a => narrowOk d 6 && narrowOk a 5
  | .or16 d a => narrowOk d 6 && narrowOk a 5
  | .xor16 d a => narrowOk d 6 && narrowOk a 5
  | .shl16 d a => narrowOk d 6 && narrowOk a 5
  | .shr16 d a => narrowOk d 6 && narrowOk a 5
  | .sar16 d a => narrowOk d 6 && narrowOk a 5
  | .imin16 d a => narrowOk d 6 && narrowOk a 5
  | .imax16 d a => narrowOk d 6 && narrowOk a 5
  | .fadd16 d a => narrowOk d 6 && narrowOk a 5
  | .fsub16 d a => narrowOk d 6 && narrowOk a 5
  | .fmul16 d a => narrowOk d 6 && narrowOk a 5
  | .fmax16 d a => narrowOk d 6 && narrowOk a 5
  | .iaddI32 d a b nw => vregOk d && a.ok && b.ok && nwOk d nw
  | .isubI32 d a b nw => vregOk d && a.ok && b.ok && nwOk d nw
  | .imulI32 d a b nw => vregOk d && a.ok && b.ok && nwOk d nw
  | .imadI32 d a b nw => vregOk d && a.ok && b.ok && nwOk d nw
  | .imulhI32 d a b nw => vregOk d && a.ok && b.ok && nwOk d nw
  | .imulhN32 d a b nw => vregOk d && a.ok && b.ok && nwOk d nw
  | .iabsI32 d a nw => vregOk d && a.ok && nwOk d nw
  | .sel d a b nw => vregOk d && a.ok && mregOk b && nwOk d nw
  | .idivI32 d a b nw => vregOk d && a.ok && b.ok && nwOk d nw
  | .idivN32 d a b nw => vregOk d && a.ok && b.ok && nwOk d nw
  | .iremI32 d a b nw => vregOk d && a.ok && b.ok && nwOk d nw
  | .iremN32 d a b nw => vregOk d && a.ok && b.ok && nwOk d nw
  | .iminI32 d a b nw => vregOk d && a.ok && b.ok && nwOk d nw
  | .iminN32 d a b nw => vregOk d && a.ok && b.ok && nwOk d nw
  | .imaxI32 d a b nw => vregOk d && a.ok && b.ok && nwOk d nw
  | .imaxN32 d a b nw => vregOk d && a.ok && b.ok && nwOk d nw
  | .andV d a b nw => vregOk d && a.ok && b.ok && nwOk d nw
  | .orV d a b nw => vregOk d && a.ok && b.ok && nwOk d nw
  | .xorV d a b nw => vregOk d && a.ok && b.ok && nwOk d nw
  | .andn d a b nw => vregOk d && a.ok && b.ok && nwOk d nw
  | .shlN32 d a b nw => vregOk d && a.ok && b.ok && nwOk d nw
  | .shrN32 d a b nw => vregOk d && a.ok && b.ok && nwOk d nw
  | .sarI32 d a b nw => vregOk d && a.ok && b.ok && nwOk d nw
  | .rotN32 d a b nw => vregOk d && a.ok && b.ok && nwOk d nw
  | .clz d a nw => vregOk d && a.ok && nwOk d nw
  | .popc d a nw => vregOk d && a.ok && nwOk d nw
  | .brev d a nw => vregOk d && a.ok && nwOk d nw
  | .bfx d a b nw => vregOk d && a.ok && b.ok && nwOk d nw
  | .bfi d a b nw => vregOk d && a.ok && b.ok && nwOk d nw
  | .movV d a nw => vregOk d && a.ok && nwOk d nw
  | .iaddI64V d a b nw => pairOk d && pairOk a && pairOk b && nwOk d nw
  | .isubI64V d a b nw => pairOk d && pairOk a && pairOk b && nwOk d nw
  | .iaddI64S d a b => sregOk d && sregOk a && sregOk b
  | .isubI64S d a b => sregOk d && sregOk a && sregOk b
  | .imulI64 d a b => sregOk d && sregOk a && sregOk b
  | .andS d a b => sregOk d && sregOk a && sregOk b
  | .orS d a b => sregOk d && sregOk a && sregOk b
  | .xorS d a b => sregOk d && sregOk a && sregOk b
  | .shlN64 d a b => sregOk d && sregOk a && sregOk b
  | .shrN64 d a b => sregOk d && sregOk a && sregOk b
  | .sarI64 d a b => sregOk d && sregOk a && sregOk b
  | .movS d a => sregOk d && sregOk a
  | .icmpEqI32 d a b => mregOk d && a.ok && b.ok
  | .icmpLtI32 d a b => mregOk d && a.ok && b.ok
  | .icmpLtN32 d a b => mregOk d && a.ok && b.ok
  | .icmpEqI64 d a b => sregOk d && sregOk a && sregOk b
  | .icmpLtI64 d a b => sregOk d && sregOk a && sregOk b
  | .icmpLtN64 d a b => sregOk d && sregOk a && sregOk b
  | .lidV d nw => vregOk d && nwOk d nw
  | .lidS d => sregOk d
  | .fpack d a b nw => vregOk d && a.ok && sregOk b && nwOk d nw
  | .funpack d a b nw => vregOk d && a.ok && sregOk b && nwOk d nw
  | .fstat d => sregOk d
  | .fmode d a => sregOk d && sregOk a
  | .iaddI32Imm d a imm nw => vregOk d && a.ok && fitsS 10 imm && nwOk d nw
  | .iaddI64Imm d a imm => sregOk d && sregOk a && fitsS 10 imm
  | .moviV d imm nw => vregOk d && fitsS 17 imm && nwOk d nw
  | .moviS d imm => sregOk d && fitsS 17 imm
  | .lea d imm => sregOk d && fitsS 17 imm
  | .limm value => narrowOk value 24
  | .faddF32 d a b nw => vregOk d && a.ok && b.ok && nwOk d nw
  | .fsubF32 d a b nw => vregOk d && a.ok && b.ok && nwOk d nw
  | .fmulF32 d a b nw => vregOk d && a.ok && b.ok && nwOk d nw
  | .ffmaF32 d a b nw => vregOk d && a.ok && b.ok && nwOk d nw
  | .fdivF32 d a b nw => vregOk d && a.ok && b.ok && nwOk d nw
  | .fsqrtF32 d a nw => vregOk d && a.ok && nwOk d nw
  | .fminF32 d a b nw => vregOk d && a.ok && b.ok && nwOk d nw
  | .fmaxF32 d a b nw => vregOk d && a.ok && b.ok && nwOk d nw
  | .frcp d a nw => vregOk d && a.ok && nwOk d nw
  | .frsq d a nw => vregOk d && a.ok && nwOk d nw
  | .fexp2 d a nw => vregOk d && a.ok && nwOk d nw
  | .flog2 d a nw => vregOk d && a.ok && nwOk d nw
  | .froundF32 d a nw => vregOk d && a.ok && nwOk d nw
  | .fclassF32 d a nw => vregOk d && a.ok && nwOk d nw
  | .fcmpEqF32 d a b => mregOk d && a.ok && b.ok
  | .fcmpLtF32 d a b => mregOk d && a.ok && b.ok
  | .faddF64 d a b nw => pairOk d && pairOk a && pairOk b && nwOk d nw
  | .fsubF64 d a b nw => pairOk d && pairOk a && pairOk b && nwOk d nw
  | .fmulF64 d a b nw => pairOk d && pairOk a && pairOk b && nwOk d nw
  | .ffmaF64 d a b nw => pairOk d && pairOk a && pairOk b && nwOk d nw
  | .fdivF64 d a b nw => pairOk d && pairOk a && pairOk b && nwOk d nw
  | .fsqrtF64 d a nw => pairOk d && pairOk a && nwOk d nw
  | .fminF64 d a b nw => pairOk d && pairOk a && pairOk b && nwOk d nw
  | .fmaxF64 d a b nw => pairOk d && pairOk a && pairOk b && nwOk d nw
  | .fcmpLeF32 d a b => mregOk d && a.ok && b.ok
  | .fcmpEqF64 d a b => mregOk d && pairOk a && pairOk b
  | .fcmpLtF64 d a b => mregOk d && pairOk a && pairOk b
  | .fcmpLeF64 d a b => mregOk d && pairOk a && pairOk b
  | .froundF64 d a nw => pairOk d && pairOk a && nwOk d nw
  | .fclassF64 d a nw => vregOk d && pairOk a && nwOk d nw
  | .ftoiI32F32 d a nw => vregOk d && a.ok && nwOk d nw
  | .itofF32I32 d a nw => vregOk d && a.ok && nwOk d nw
  | .fcvtF64F32 d a nw => pairOk d && a.ok && nwOk d nw
  | .fcvtF32F64 d a nw => vregOk d && pairOk a && nwOk d nw
  | .fcvtBf16F32 d a nw => vregOk d && a.ok && nwOk d nw
  | .fcvtF32Bf16 d a nw => vregOk d && a.ok && nwOk d nw
  | .fcvtF16F32 d a nw => vregOk d && a.ok && nwOk d nw
  | .fcvtF32F16 d a nw => vregOk d && a.ok && nwOk d nw
  | .fcvtNfF32 d a b nw => vregOk d && a.ok && sregOk b && nwOk d nw
  | .fcvtF32Nf d a b nw => vregOk d && a.ok && sregOk b && nwOk d nw
  | .mand d a b => mregOk d && mregOk a && mregOk b
  | .mor d a b => mregOk d && mregOk a && mregOk b
  | .mxor d a b => mregOk d && mregOk a && mregOk b
  | .mnot d a => mregOk d && mregOk a
  | .mmov d a => mregOk d && mregOk a
  | .mpop d a => sregOk d && mregOk a
  | .mfirst d a => sregOk d && mregOk a
  | .shfl d a b nw => vregOk d && vregOk a && b.ok && nwOk d nw && (nw || a != d)
  | .bcast d a b nw => vregOk d && vregOk a && sregOk b && nwOk d nw && (nw || a != d)
  | .reduceAddI32 d a => sregOk d && a.ok
  | .reduceAddF32 d a => sregOk d && a.ok
  | .reduceMaxI32 d a => sregOk d && a.ok
  | .reduceMaxF32 d a => sregOk d && a.ok
  | .scanAddI32 d a nw => vregOk d && a.ok && nwOk d nw
  | .scanAddF32 d a nw => vregOk d && a.ok && nwOk d nw
  | .scanMaxI32 d a nw => vregOk d && a.ok && nwOk d nw
  | .scanMaxF32 d a nw => vregOk d && a.ok && nwOk d nw
  | .jmpr a => sregOk a
  | .ret => true
  | .lbrk => true
  | .yield => true
  | .bra off => fitsS 17 off
  | .bzM m off => mregOk m && fitsS 17 off
  | .bnzM m off => mregOk m && fitsS 17 off
  | .ball m off => mregOk m && fitsS 17 off
  | .call off => fitsS 17 off
  | .bzS r off => mregOk r && fitsS 17 off
  | .bnzS r off => mregOk r && fitsS 17 off
  | .loop r off => sregOk r && fitsS 17 off
  | .rep sb sa sd cnt => narrowOk sb 4 && narrowOk sa 4 && narrowOk sd 4 && narrowOk cnt 6
  | .ldV d size sb ix nw => (if size = .b8 then pairOk d else vregOk d) && sregOk sb && ix.ok && nwOk d nw
  | .ldS d _ sb ix => sregOk d && sregOk sb && ix.ok
  | .stV d size sb ix => (if size = .b8 then d.pairSrc else d.ok) && sregOk sb && ix.ok
  | .stS d _ sb ix => sregOk d && sregOk sb && ix.ok
  | .ldp d _ sb ix nw => vregOk d && sregOk sb && ix.ok && nwOk d nw
  | .stp d _ sb ix => d.ok && sregOk sb && ix.ok
  | .ldOrdV d sb x ord _ => vregOk d && sregOk sb && x.ok && (ord == .rlx || ord == .acq)
  | .ldOrdS d sb x ord _ => sregOk d && sregOk sb && sregOk x && (ord == .rlx || ord == .acq)
  | .stOrdV d sb x ord _ => d.ok && sregOk sb && x.ok && (ord == .rlx || ord == .rel)
  | .stOrdS d sb x ord _ => sregOk d && sregOk sb && sregOk x && (ord == .rlx || ord == .rel)
  | .atomAddI32 d sb x _ _ => vregOk d && sregOk sb && x.ok
  | .atomAddI64 d sb x _ _ => sregOk d && sregOk sb && sregOk x
  | .atomExchI32 d sb x _ _ => vregOk d && sregOk sb && x.ok
  | .atomExchI64 d sb x _ _ => sregOk d && sregOk sb && sregOk x
  | .atomMaxI32 d sb x _ _ => vregOk d && sregOk sb && x.ok
  | .atomMinI32 d sb x _ _ => vregOk d && sregOk sb && x.ok
  | .redAddI32 d sb x _ _ => d.ok && sregOk sb && x.ok
  | .casI32 d sb x _ _ => pairOk d && sregOk sb && x.ok
  | .casI64 d sb x _ _ => spairOk d && sregOk sb && sregOk x
  | .fence _ _ => true
  | .llock d sb x _ => sregOk d && sregOk sb && sregOk x
  | .ltry d sb _ => sregOk d && sregOk sb
  | .lunlock sb _ => sregOk sb
  | .lunlockReg sb _ => sregOk sb
  | .qpass => true
  | .qidle => true
  | .qwake => true
  | .gpstart d => sregOk d
  | .gpwait d a => sregOk d && sregOk a
  | .dfree d a b => sregOk d && sregOk a && sregOk b
  | .lstat d a => sregOk d && sregOk a
  | .prefL1 a => sregOk a
  | .prefL2 a => sregOk a
  | .prefL2x a => sregOk a
  | .ldbN8 d a b nw => vregOk d && sregOk a && b.ok && nwOk d nw
  | .ldbN16 d a b nw => vregOk d && sregOk a && b.ok && nwOk d nw
  | .ldbN32 d a b nw => vregOk d && sregOk a && b.ok && nwOk d nw
  | .ldbN64 d a b nw => pairOk d && sregOk a && b.ok && nwOk d nw
  | .mma t a b c => entryOk t && a.ok && b.ok && sregOk c
  | .mmag t a b c => entryOk t && a.ok && b.ok && sregOk c
  | .mdrain t dst sb => entryOk t && dst.ok && sregOk sb
  | .mdrainAdd t dst sb => entryOk t && dst.ok && sregOk sb
  | .quant t dst sb sc => entryOk t && dst.ok && sregOk sb && sregOk sc
  | .quantBmaj t dst sb sc => entryOk t && dst.ok && sregOk sb && sregOk sc
  | .tcopyDense c a dst => sregOk c && sregOk a && dst.ok
  | .tcopyAcc c a t => sregOk c && sregOk a && entryOk t
  | .tstateAcc t d => entryOk t && sregOk d
  | .tstateSt t d => entryOk t && sregOk d
  | .twaitAcc t _ _ => entryOk t
  | .twaitSt t _ _ => entryOk t
  | .treadyAcc t => entryOk t
  | .treadySt t => entryOk t
  | .trelAcc t => entryOk t
  | .trelSt t => entryOk t
  | .mzero t _ => entryOk t
  | .tbind t d => entryOk t && sregOk d
  | .mcommit d => sregOk d
  | .mwait a => sregOk a
  | .cwait a => sregOk a
  | .cstatMap d a => sregOk d && sregOk a
  | .cstat d a => sregOk d && sregOk a
  | .ccancel a => sregOk a
  | .bar n _ expect => mregOk n && narrowOk expect 8
  | .arrive n _ expect => mregOk n && narrowOk expect 8
  | .bwait n _ => mregOk n
  | .trap n => narrowOk n 14
  | .brk n => narrowOk n 14
  | .halt => true
  | .nop => true
  | .sigret d => sregOk d
  | .eret => true
  | .sysrd d r => sregOk d && narrowOk r 14
  | .syswr d r => sregOk d && narrowOk r 14
  | .syswrSet d r => sregOk d && narrowOk r 14
  | .syswrClr d r => sregOk d && narrowOk r 14
  | .park d => sregOk d
  | .resume d => sregOk d
  | .resumeStep d => sregOk d
  | .vectorPass core slot => narrowOk core 8 && narrowOk slot 5
  | .teamBoost core slot => narrowOk core 8 && narrowOk slot 5
  | .yieldEnd core slot => narrowOk core 8 && narrowOk slot 5
  | .submissionWrite q _ => narrowOk q 12
  | .launch q => narrowOk q 12
  | .write q => narrowOk q 12
  | .wait q => narrowOk q 12
  | .waitComplete q => narrowOk q 12
  | .time q => narrowOk q 12
  | .nopPacket q => narrowOk q 12
  | .queueEnable q => narrowOk q 12
  | .queueResume q => narrowOk q 12
  | .update => true
  | .standbyImport => true
  | .updateTakeover => true
  | .failover => true
  | .watchdogTakeover => true
  | .runListTurnEnd => true
  | .reset => true
  | .placementDecision => true
  | .blockStart _ => true
  | .swapThresholdExpiry _ => true
  | .swapOutBegin _ => true
  | .swapOutComplete _ => true
  | .operationStart core slot => narrowOk core 8 && narrowOk slot 5
  | .kstepComplete _ => true
  | .drainComplete _ => true
  | .quantComplete _ => true
  | .boxIssue core => narrowOk core 8
  | .boxPause _ box => narrowOk box 6
  | .boxComplete _ box => narrowOk box 6
  | .boxFault _ box => narrowOk box 6
  | .boxAbort _ => true
  | .lockRequest core slot => narrowOk core 8 && narrowOk slot 5
  | .lockRelease _ => true
  | .grantDelivery _ => true
  | .grantWindowClose _ => true
  | .lockDeadline _ _ => true
  | .deadlockProbe _ _ => true
  | .probeHop _ => true
  | .graceRecompute p => narrowOk p 12
  | .deferredMove p => narrowOk p 12
  | .headPoll p => narrowOk p 12
  | .graceStallReport p => narrowOk p 12
  | .qscResume => true
  | .logicalTimeAdvance core _ => narrowOk core 8
  | .epochChange => true
  | .retentionWake core => narrowOk core 8
  | .hostSnoop _ => true
  | .fenceMarkerAck _ core => narrowOk core 8
  | .dieLinkFailure d1 d2 => narrowOk d1 2 && narrowOk d2 2
  | .cxlPortFailure port => narrowOk port 2
  | .invalidationRetry _ => true
  | .ualinkPortFailure port => decide (port < 12)
  | .remoteRequest pasid _ _ => narrowOk pasid 20
  | .eventEntry core => narrowOk core 8
  | .supervisorTimer core => narrowOk core 8
  | .doorbell core => narrowOk core 8
  | .supresume core => narrowOk core 8
  | .mailboxPost => true
  | .teamStateDataWrite port _ => narrowOk port 8
  | .teamStateDataRead port => narrowOk port 8
  | .frame port => narrowOk port 8
  | .kill port => narrowOk port 8
  | .release port => narrowOk port 8
  | .stop core place => narrowOk core 8 && narrowOk place 3
  | .blockStopDone => true
  | .run core place => narrowOk core 8 && narrowOk place 3
  | .step core slot => narrowOk core 8 && narrowOk slot 5
  | .exec core slot nbuf => narrowOk core 8 && narrowOk slot 5 && narrowOk nbuf 4
  | .gangstop core => narrowOk core 8
  | .traceEnable core _ => narrowOk core 8
  | .traceSync core => narrowOk core 8
  | .traceResume core => narrowOk core 8
  | .counterWrap core e => narrowOk core 8 && narrowOk e 3
  | .shootdownSubmit _ => true
  | .atsInvalidation pasid _ _ => narrowOk pasid 20
  | .shootdownComplete => true
  | .checkpoint _ => true
  | .checkpointDone _ => true
  | .freeze => true
  | .unfreeze => true
  | .unpoison _ => true
  | .slotWrite _ => true
  | .clockStep _ => true
  | .withholdStep k => decide (k ≤ 12)
  | .errorDetected src _ _ _ => decide (1 ≤ src ∧ src ≤ 9)
  | .errorRetry _ => true
  | .spdmMeasurement _ => true
  | .spdmKeyExchange port => narrowOk port 2
  | .registerWrite off _ => narrowOk off 33
  | .fetchFault core slot => narrowOk core 8 && narrowOk slot 5
  | .storePerformed core _ => narrowOk core 8
  | .hostCxlMemAccess _ _ => true
  | .powerLoss => true
  | .l1RetentionSleep core => narrowOk core 8

end Sys2Proof
end

