-- ==== Sys2Proof/Laws/PerInstr.lean ====
section
/-! SUPPORT. The encoder, one instruction at a time: the word of a well-formed instruction has the length that its lowest bit
gives (R210), so it fits the bytes it is stored in. -/

set_option Elab.async false

namespace Sys2Proof.Laws

/-- A word fits the length its lowest bit gives. -/
def FitsWord (w : Nat) : Prop := w < 2 ^ (8 * wordLen w)

theorem fitsWord_of_odd {w : Nat} (h : w % 2 = 1) (b : w < 2 ^ 32) : FitsWord w := by
  unfold FitsWord wordLen bits
  rw [if_neg (by omega)]
  exact b

theorem fitsWord_of_even {w : Nat} (h : w % 2 = 0) (b : w < 2 ^ 16) : FitsWord w := by
  unfold FitsWord wordLen bits
  rw [if_pos (by omega)]
  exact b

theorem VSrc.code_lt {x : VSrc} (h : x.ok = true) : x.code < 128 := by
  cases x <;> simp_all [VSrc.ok, VSrc.code] <;> omega

theorem VSrc.pairSrc_code_lt {x : VSrc} (h : x.pairSrc = true) : x.code < 128 := by
  cases x <;> simp_all [VSrc.pairSrc, VSrc.code]
  omega

theorem flag_lt (b : Bool) : flag b < 2 := by cases b <;> decide

theorem unsigned_lt (n : Nat) (x : Int) : unsigned n x < 2 ^ n := by
  unfold unsigned
  have h : (0 : Int) < 2 ^ n := by positivity
  have h1 := Int.emod_lt_of_pos x h
  have h2 := Int.emod_nonneg x (Int.ne_of_gt h)
  zify
  rw [Int.toNat_of_nonneg h2]
  exact h1

theorem VIndex.enc_lt {x : VIndex} (h : x.ok = true) : x.enc.2 < 128 := by
  cases x with
  | disp k => exact unsigned_lt 7 k
  | idx v => exact VSrc.code_lt h

theorem SIndex.enc_lt {x : SIndex} (h : x.ok = true) : x.enc.2 < 128 := by
  cases x with
  | disp k => exact unsigned_lt 7 k
  | idx s => simp_all [SIndex.ok, sregOk, SIndex.enc]; omega

theorem TSrc.enc_kind_lt (x : TSrc) : x.enc.1 < 2 := by cases x <;> simp [TSrc.enc]

theorem TSrc.enc_lt {x : TSrc} (h : x.ok = true) : x.enc.2 < 64 := by
  cases x <;> simp_all [TSrc.ok, TSrc.enc, sregOk]

theorem MemSize.code_lt (z : MemSize) : z.code < 4 := by cases z <;> decide
theorem Scope.code_lt (z : Scope) : z.code < 8 := by cases z <;> decide
theorem Order.code_lt (z : Order) : z.code < 4 := by cases z <;> decide
theorem FenceKind.code_lt (z : FenceKind) : z.code < 4 := by cases z <;> decide

theorem encR_fits {m f d a b : Nat} (nw : Bool) (hm : m < 64) (hf : f < 8) (hd : d < 128) (ha : a < 128) (hb : b < 128) :
    FitsWord (encR m f d a b nw) := by
  have := flag_lt nw
  unfold encR
  exact fitsWord_of_odd (by omega) (by omega)

theorem encI_fits {m d a : Nat} (x : Int) (nw : Bool) (hm : m < 64) (hd : d < 128) (ha : a < 128) :
    FitsWord (encI m d a x nw) := by
  have := flag_lt nw
  have := unsigned_lt 10 x
  unfold encI
  exact fitsWord_of_odd (by omega) (by omega)

theorem encU_fits {m d : Nat} (x : Int) (nw : Bool) (hm : m < 64) (hd : d < 128) : FitsWord (encU m d x nw) := by
  have := flag_lt nw
  have := unsigned_lt 17 x
  unfold encU
  exact fitsWord_of_odd (by omega) (by omega)

theorem encB_fits {f m : Nat} (x : Int) (hf : f < 8) (hm : m < 16) : FitsWord (encB f m x) := by
  have := unsigned_lt 17 x
  unfold encB
  exact fitsWord_of_odd (by omega) (by omega)

theorem encM_fits {m b sb d : Nat} (x nw : Bool) (z : MemSize) (hm : m < 64) (hb : b < 128) (hs : sb < 128) (hd : d < 128) :
    FitsWord (encM m x z b sb d nw) := by
  have := flag_lt nw
  have := flag_lt x
  have := MemSize.code_lt z
  unfold encM
  exact fitsWord_of_odd (by omega) (by omega)

theorem encO_fits {m sc o sb x d : Nat} (hm : m < 64) (hc : sc < 8) (ho : o < 4) (hs : sb < 64) (hx : x < 128) (hd : d < 128) :
    FitsWord (encO m sc o sb x d) := by
  unfold encO
  exact fitsWord_of_odd (by omega) (by omega)

theorem encT_fits {m c bk b ak a t : Nat} (hm : m < 64) (hc : c < 64) (hk : bk < 2) (hb : b < 64) (hj : ak < 2) (ha : a < 64)
    (ht : t < 32) : FitsWord (encT m c bk b ak a t) := by
  unfold encT
  exact fitsWord_of_odd (by omega) (by omega)

theorem encS_fits {m f i d : Nat} (hm : m < 64) (hf : f < 8) (hi : i < 16384) (hd : d < 128) : FitsWord (encS m f i d) := by
  unfold encS
  exact fitsWord_of_odd (by omega) (by omega)

theorem enc16_fits {o d a : Nat} (ho : o < 16) (hd : d < 64) (ha : a < 32) : FitsWord (enc16 o d a) := by
  unfold enc16
  exact fitsWord_of_even (by omega) (by omega)

theorem vreg_lt {k n : Nat} (h : vregOk k = true) (b : 124 ≤ n) : k < n := by unfold vregOk at h; simp at h; omega
theorem sreg_lt {k n : Nat} (h : sregOk k = true) (b : 64 ≤ n) : k < n := by unfold sregOk at h; simp at h; omega
theorem mreg_lt {k n : Nat} (h : mregOk k = true) (b : 16 ≤ n) : k < n := by unfold mregOk at h; simp at h; omega
theorem pair_lt {k n : Nat} (h : pairOk k = true) (b : 124 ≤ n) : k < n := by unfold pairOk at h; simp at h; omega
theorem spair_lt {k n : Nat} (h : spairOk k = true) (b : 64 ≤ n) : k < n := by unfold spairOk at h; simp at h; omega
theorem entry_lt {k n : Nat} (h : entryOk k = true) (b : 32 ≤ n) : k < n := by unfold entryOk at h; simp at h; omega
theorem narrow_le {k m n : Nat} (h : narrowOk k m = true) (b : 2 ^ m ≤ n) : k < n := by unfold narrowOk at h; simp at h; omega

/-- A listed system register number fits its field. -/
theorem sysListed_le {k n : Nat} (h : sysListed k = true) (b : 261 ≤ n) : k < n := by unfold sysListed at h; simp at h; omega

theorem ldDest_lt {d : Nat} {z : MemSize} (h : (if z = .b8 then pairOk d else vregOk d) = true) : d < 128 := by
  split at h
  · exact pair_lt h (by decide)
  · exact vreg_lt h (by decide)

theorem stData_lt {d : VSrc} {z : MemSize} (h : (if z = .b8 then d.pairSrc else d.ok) = true) : d.code < 128 := by
  split at h
  · exact VSrc.pairSrc_code_lt h
  · exact VSrc.code_lt h

theorem twaitImm_lt (p w : Bool) {t : Nat} (h : t < 32) : flag p * 64 + flag w * 32 + t < 16384 := by
  have := flag_lt p
  have := flag_lt w
  omega

theorem mzeroImm_lt (w : Bool) {t : Nat} (h : t < 32) : flag w * 32 + t < 16384 := by
  have := flag_lt w
  omega

theorem barImm_lt (g : Bool) {n x : Nat} (h : n < 16) (b : x < 256) : x * 64 + flag g * 16 + n < 16384 := by
  have := flag_lt g
  omega

theorem bwaitImm_lt (g : Bool) {n : Nat} (h : n < 16) : flag g * 16 + n < 16384 := by
  have := flag_lt g
  omega

theorem limm_fits {x : Nat} (h : narrowOk x 24 = true) : FitsWord (x * 2 ^ 8 + 0x7F) := by
  have := narrow_le h (Nat.le_refl _)
  exact fitsWord_of_odd (by omega) (by omega)

theorem rep_fits {sb sa sd n : Nat} (h0 : narrowOk sb 4 = true) (h1 : narrowOk sa 4 = true) (h2 : narrowOk sd 4 = true)
    (h3 : narrowOk n 6 = true) : FitsWord (sb * 2 ^ 24 + sa * 2 ^ 20 + sd * 2 ^ 16 + n * 2 ^ 7 + 0x7D) := by
  have := narrow_le h0 (Nat.le_refl _)
  have := narrow_le h1 (Nat.le_refl _)
  have := narrow_le h2 (Nat.le_refl _)
  have := narrow_le h3 (Nat.le_refl _)
  exact fitsWord_of_odd (by omega) (by omega)

theorem loop_fits (off : Int) {r : Nat} (h : sregOk r = true) : FitsWord (unsigned 17 off * 2 ^ 15 + r * 2 ^ 9 + 0x2B) := by
  have := sreg_lt h (Nat.le_refl _)
  have := unsigned_lt 17 off
  exact fitsWord_of_odd (by omega) (by omega)

theorem and2 {x y : Bool} (h : (x && y) = true) : x = true ∧ y = true := by simpa using h
theorem and3 {x y z : Bool} (h : (x && y && z) = true) : x = true ∧ y = true ∧ z = true := by simpa [and_assoc] using h
theorem and4 {x y z w : Bool} (h : (x && y && z && w) = true) : x = true ∧ y = true ∧ z = true ∧ w = true := by
  simpa [and_assoc] using h
theorem and5 {x y z w v : Bool} (h : (x && y && z && w && v) = true) :
    x = true ∧ y = true ∧ z = true ∧ w = true ∧ v = true := by simpa [and_assoc] using h

/-- The word of a well-formed instruction fits its length. -/
def Fits.Statement (i : Instr) : Prop := wellFormed i = true → ∀ w, encode i = some w → FitsWord w

theorem fits_of_none {i : Instr} (h : encode i = none) : Fits.Statement i := by
  intro _ w e
  rw [h] at e
  cases e

theorem fits_of_some {i : Instr} {w : Nat} (h : encode i = some w) (f : wellFormed i = true → FitsWord w) : Fits.Statement i := by
  intro k v e
  rw [h] at e
  cases e
  exact f k

theorem Fits.mov16 (d : Nat) (a : Nat) : Fits.Statement (.mov16 d a) :=
  fits_of_some rfl (fun h => let ⟨h0, h1⟩ := and2 h; enc16_fits (by decide) (narrow_le h0 (by decide)) (narrow_le h1 (by decide)))

theorem Fits.iadd16 (d : Nat) (a : Nat) : Fits.Statement (.iadd16 d a) :=
  fits_of_some rfl (fun h => let ⟨h0, h1⟩ := and2 h; enc16_fits (by decide) (narrow_le h0 (by decide)) (narrow_le h1 (by decide)))

theorem Fits.isub16 (d : Nat) (a : Nat) : Fits.Statement (.isub16 d a) :=
  fits_of_some rfl (fun h => let ⟨h0, h1⟩ := and2 h; enc16_fits (by decide) (narrow_le h0 (by decide)) (narrow_le h1 (by decide)))

theorem Fits.imul16 (d : Nat) (a : Nat) : Fits.Statement (.imul16 d a) :=
  fits_of_some rfl (fun h => let ⟨h0, h1⟩ := and2 h; enc16_fits (by decide) (narrow_le h0 (by decide)) (narrow_le h1 (by decide)))

theorem Fits.and16 (d : Nat) (a : Nat) : Fits.Statement (.and16 d a) :=
  fits_of_some rfl (fun h => let ⟨h0, h1⟩ := and2 h; enc16_fits (by decide) (narrow_le h0 (by decide)) (narrow_le h1 (by decide)))

theorem Fits.or16 (d : Nat) (a : Nat) : Fits.Statement (.or16 d a) :=
  fits_of_some rfl (fun h => let ⟨h0, h1⟩ := and2 h; enc16_fits (by decide) (narrow_le h0 (by decide)) (narrow_le h1 (by decide)))

theorem Fits.xor16 (d : Nat) (a : Nat) : Fits.Statement (.xor16 d a) :=
  fits_of_some rfl (fun h => let ⟨h0, h1⟩ := and2 h; enc16_fits (by decide) (narrow_le h0 (by decide)) (narrow_le h1 (by decide)))

theorem Fits.shl16 (d : Nat) (a : Nat) : Fits.Statement (.shl16 d a) :=
  fits_of_some rfl (fun h => let ⟨h0, h1⟩ := and2 h; enc16_fits (by decide) (narrow_le h0 (by decide)) (narrow_le h1 (by decide)))

theorem Fits.shr16 (d : Nat) (a : Nat) : Fits.Statement (.shr16 d a) :=
  fits_of_some rfl (fun h => let ⟨h0, h1⟩ := and2 h; enc16_fits (by decide) (narrow_le h0 (by decide)) (narrow_le h1 (by decide)))

theorem Fits.sar16 (d : Nat) (a : Nat) : Fits.Statement (.sar16 d a) :=
  fits_of_some rfl (fun h => let ⟨h0, h1⟩ := and2 h; enc16_fits (by decide) (narrow_le h0 (by decide)) (narrow_le h1 (by decide)))

theorem Fits.imin16 (d : Nat) (a : Nat) : Fits.Statement (.imin16 d a) :=
  fits_of_some rfl (fun h => let ⟨h0, h1⟩ := and2 h; enc16_fits (by decide) (narrow_le h0 (by decide)) (narrow_le h1 (by decide)))

theorem Fits.imax16 (d : Nat) (a : Nat) : Fits.Statement (.imax16 d a) :=
  fits_of_some rfl (fun h => let ⟨h0, h1⟩ := and2 h; enc16_fits (by decide) (narrow_le h0 (by decide)) (narrow_le h1 (by decide)))

theorem Fits.fadd16 (d : Nat) (a : Nat) : Fits.Statement (.fadd16 d a) :=
  fits_of_some rfl (fun h => let ⟨h0, h1⟩ := and2 h; enc16_fits (by decide) (narrow_le h0 (by decide)) (narrow_le h1 (by decide)))

theorem Fits.fsub16 (d : Nat) (a : Nat) : Fits.Statement (.fsub16 d a) :=
  fits_of_some rfl (fun h => let ⟨h0, h1⟩ := and2 h; enc16_fits (by decide) (narrow_le h0 (by decide)) (narrow_le h1 (by decide)))

theorem Fits.fmul16 (d : Nat) (a : Nat) : Fits.Statement (.fmul16 d a) :=
  fits_of_some rfl (fun h => let ⟨h0, h1⟩ := and2 h; enc16_fits (by decide) (narrow_le h0 (by decide)) (narrow_le h1 (by decide)))

theorem Fits.fmax16 (d : Nat) (a : Nat) : Fits.Statement (.fmax16 d a) :=
  fits_of_some rfl (fun h => let ⟨h0, h1⟩ := and2 h; enc16_fits (by decide) (narrow_le h0 (by decide)) (narrow_le h1 (by decide)))

theorem Fits.iaddI32 (d : Nat) (a : VSrc) (b : VSrc) (nw : Bool) : Fits.Statement (.iaddI32 d a b nw) :=
  fits_of_some rfl (fun h => let ⟨h0, h1, h2, _⟩ := and4 h; encR_fits _ (by decide) (by decide) (vreg_lt h0 (by decide)) (VSrc.code_lt h1) (VSrc.code_lt h2))

theorem Fits.isubI32 (d : Nat) (a : VSrc) (b : VSrc) (nw : Bool) : Fits.Statement (.isubI32 d a b nw) :=
  fits_of_some rfl (fun h => let ⟨h0, h1, h2, _⟩ := and4 h; encR_fits _ (by decide) (by decide) (vreg_lt h0 (by decide)) (VSrc.code_lt h1) (VSrc.code_lt h2))

theorem Fits.imulI32 (d : Nat) (a : VSrc) (b : VSrc) (nw : Bool) : Fits.Statement (.imulI32 d a b nw) :=
  fits_of_some rfl (fun h => let ⟨h0, h1, h2, _⟩ := and4 h; encR_fits _ (by decide) (by decide) (vreg_lt h0 (by decide)) (VSrc.code_lt h1) (VSrc.code_lt h2))

theorem Fits.imadI32 (d : Nat) (a : VSrc) (b : VSrc) (nw : Bool) : Fits.Statement (.imadI32 d a b nw) :=
  fits_of_some rfl (fun h => let ⟨h0, h1, h2, _⟩ := and4 h; encR_fits _ (by decide) (by decide) (vreg_lt h0 (by decide)) (VSrc.code_lt h1) (VSrc.code_lt h2))

theorem Fits.imulhI32 (d : Nat) (a : VSrc) (b : VSrc) (nw : Bool) : Fits.Statement (.imulhI32 d a b nw) :=
  fits_of_some rfl (fun h => let ⟨h0, h1, h2, _⟩ := and4 h; encR_fits _ (by decide) (by decide) (vreg_lt h0 (by decide)) (VSrc.code_lt h1) (VSrc.code_lt h2))

theorem Fits.imulhN32 (d : Nat) (a : VSrc) (b : VSrc) (nw : Bool) : Fits.Statement (.imulhN32 d a b nw) :=
  fits_of_some rfl (fun h => let ⟨h0, h1, h2, _⟩ := and4 h; encR_fits _ (by decide) (by decide) (vreg_lt h0 (by decide)) (VSrc.code_lt h1) (VSrc.code_lt h2))

theorem Fits.iabsI32 (d : Nat) (a : VSrc) (nw : Bool) : Fits.Statement (.iabsI32 d a nw) :=
  fits_of_some rfl (fun h => let ⟨h0, h1, _⟩ := and3 h; encR_fits _ (by decide) (by decide) (vreg_lt h0 (by decide)) (VSrc.code_lt h1) (by decide))

theorem Fits.sel (d : Nat) (a : VSrc) (b : Nat) (nw : Bool) : Fits.Statement (.sel d a b nw) :=
  fits_of_some rfl (fun h => let ⟨h0, h1, h2, _⟩ := and4 h; encR_fits _ (by decide) (by decide) (vreg_lt h0 (by decide)) (VSrc.code_lt h1) (mreg_lt h2 (by decide)))

theorem Fits.idivI32 (d : Nat) (a : VSrc) (b : VSrc) (nw : Bool) : Fits.Statement (.idivI32 d a b nw) :=
  fits_of_some rfl (fun h => let ⟨h0, h1, h2, _⟩ := and4 h; encR_fits _ (by decide) (by decide) (vreg_lt h0 (by decide)) (VSrc.code_lt h1) (VSrc.code_lt h2))

theorem Fits.idivN32 (d : Nat) (a : VSrc) (b : VSrc) (nw : Bool) : Fits.Statement (.idivN32 d a b nw) :=
  fits_of_some rfl (fun h => let ⟨h0, h1, h2, _⟩ := and4 h; encR_fits _ (by decide) (by decide) (vreg_lt h0 (by decide)) (VSrc.code_lt h1) (VSrc.code_lt h2))

theorem Fits.iremI32 (d : Nat) (a : VSrc) (b : VSrc) (nw : Bool) : Fits.Statement (.iremI32 d a b nw) :=
  fits_of_some rfl (fun h => let ⟨h0, h1, h2, _⟩ := and4 h; encR_fits _ (by decide) (by decide) (vreg_lt h0 (by decide)) (VSrc.code_lt h1) (VSrc.code_lt h2))

theorem Fits.iremN32 (d : Nat) (a : VSrc) (b : VSrc) (nw : Bool) : Fits.Statement (.iremN32 d a b nw) :=
  fits_of_some rfl (fun h => let ⟨h0, h1, h2, _⟩ := and4 h; encR_fits _ (by decide) (by decide) (vreg_lt h0 (by decide)) (VSrc.code_lt h1) (VSrc.code_lt h2))

theorem Fits.iminI32 (d : Nat) (a : VSrc) (b : VSrc) (nw : Bool) : Fits.Statement (.iminI32 d a b nw) :=
  fits_of_some rfl (fun h => let ⟨h0, h1, h2, _⟩ := and4 h; encR_fits _ (by decide) (by decide) (vreg_lt h0 (by decide)) (VSrc.code_lt h1) (VSrc.code_lt h2))

theorem Fits.iminN32 (d : Nat) (a : VSrc) (b : VSrc) (nw : Bool) : Fits.Statement (.iminN32 d a b nw) :=
  fits_of_some rfl (fun h => let ⟨h0, h1, h2, _⟩ := and4 h; encR_fits _ (by decide) (by decide) (vreg_lt h0 (by decide)) (VSrc.code_lt h1) (VSrc.code_lt h2))

theorem Fits.imaxI32 (d : Nat) (a : VSrc) (b : VSrc) (nw : Bool) : Fits.Statement (.imaxI32 d a b nw) :=
  fits_of_some rfl (fun h => let ⟨h0, h1, h2, _⟩ := and4 h; encR_fits _ (by decide) (by decide) (vreg_lt h0 (by decide)) (VSrc.code_lt h1) (VSrc.code_lt h2))

theorem Fits.imaxN32 (d : Nat) (a : VSrc) (b : VSrc) (nw : Bool) : Fits.Statement (.imaxN32 d a b nw) :=
  fits_of_some rfl (fun h => let ⟨h0, h1, h2, _⟩ := and4 h; encR_fits _ (by decide) (by decide) (vreg_lt h0 (by decide)) (VSrc.code_lt h1) (VSrc.code_lt h2))

theorem Fits.andV (d : Nat) (a : VSrc) (b : VSrc) (nw : Bool) : Fits.Statement (.andV d a b nw) :=
  fits_of_some rfl (fun h => let ⟨h0, h1, h2, _⟩ := and4 h; encR_fits _ (by decide) (by decide) (vreg_lt h0 (by decide)) (VSrc.code_lt h1) (VSrc.code_lt h2))

theorem Fits.orV (d : Nat) (a : VSrc) (b : VSrc) (nw : Bool) : Fits.Statement (.orV d a b nw) :=
  fits_of_some rfl (fun h => let ⟨h0, h1, h2, _⟩ := and4 h; encR_fits _ (by decide) (by decide) (vreg_lt h0 (by decide)) (VSrc.code_lt h1) (VSrc.code_lt h2))

theorem Fits.xorV (d : Nat) (a : VSrc) (b : VSrc) (nw : Bool) : Fits.Statement (.xorV d a b nw) :=
  fits_of_some rfl (fun h => let ⟨h0, h1, h2, _⟩ := and4 h; encR_fits _ (by decide) (by decide) (vreg_lt h0 (by decide)) (VSrc.code_lt h1) (VSrc.code_lt h2))

theorem Fits.andn (d : Nat) (a : VSrc) (b : VSrc) (nw : Bool) : Fits.Statement (.andn d a b nw) :=
  fits_of_some rfl (fun h => let ⟨h0, h1, h2, _⟩ := and4 h; encR_fits _ (by decide) (by decide) (vreg_lt h0 (by decide)) (VSrc.code_lt h1) (VSrc.code_lt h2))

theorem Fits.shlN32 (d : Nat) (a : VSrc) (b : VSrc) (nw : Bool) : Fits.Statement (.shlN32 d a b nw) :=
  fits_of_some rfl (fun h => let ⟨h0, h1, h2, _⟩ := and4 h; encR_fits _ (by decide) (by decide) (vreg_lt h0 (by decide)) (VSrc.code_lt h1) (VSrc.code_lt h2))

theorem Fits.shrN32 (d : Nat) (a : VSrc) (b : VSrc) (nw : Bool) : Fits.Statement (.shrN32 d a b nw) :=
  fits_of_some rfl (fun h => let ⟨h0, h1, h2, _⟩ := and4 h; encR_fits _ (by decide) (by decide) (vreg_lt h0 (by decide)) (VSrc.code_lt h1) (VSrc.code_lt h2))

theorem Fits.sarI32 (d : Nat) (a : VSrc) (b : VSrc) (nw : Bool) : Fits.Statement (.sarI32 d a b nw) :=
  fits_of_some rfl (fun h => let ⟨h0, h1, h2, _⟩ := and4 h; encR_fits _ (by decide) (by decide) (vreg_lt h0 (by decide)) (VSrc.code_lt h1) (VSrc.code_lt h2))

theorem Fits.rotN32 (d : Nat) (a : VSrc) (b : VSrc) (nw : Bool) : Fits.Statement (.rotN32 d a b nw) :=
  fits_of_some rfl (fun h => let ⟨h0, h1, h2, _⟩ := and4 h; encR_fits _ (by decide) (by decide) (vreg_lt h0 (by decide)) (VSrc.code_lt h1) (VSrc.code_lt h2))

theorem Fits.clz (d : Nat) (a : VSrc) (nw : Bool) : Fits.Statement (.clz d a nw) :=
  fits_of_some rfl (fun h => let ⟨h0, h1, _⟩ := and3 h; encR_fits _ (by decide) (by decide) (vreg_lt h0 (by decide)) (VSrc.code_lt h1) (by decide))

theorem Fits.popc (d : Nat) (a : VSrc) (nw : Bool) : Fits.Statement (.popc d a nw) :=
  fits_of_some rfl (fun h => let ⟨h0, h1, _⟩ := and3 h; encR_fits _ (by decide) (by decide) (vreg_lt h0 (by decide)) (VSrc.code_lt h1) (by decide))

theorem Fits.brev (d : Nat) (a : VSrc) (nw : Bool) : Fits.Statement (.brev d a nw) :=
  fits_of_some rfl (fun h => let ⟨h0, h1, _⟩ := and3 h; encR_fits _ (by decide) (by decide) (vreg_lt h0 (by decide)) (VSrc.code_lt h1) (by decide))

theorem Fits.bfx (d : Nat) (a : VSrc) (b : VSrc) (nw : Bool) : Fits.Statement (.bfx d a b nw) :=
  fits_of_some rfl (fun h => let ⟨h0, h1, h2, _⟩ := and4 h; encR_fits _ (by decide) (by decide) (vreg_lt h0 (by decide)) (VSrc.code_lt h1) (VSrc.code_lt h2))

theorem Fits.bfi (d : Nat) (a : VSrc) (b : VSrc) (nw : Bool) : Fits.Statement (.bfi d a b nw) :=
  fits_of_some rfl (fun h => let ⟨h0, h1, h2, _⟩ := and4 h; encR_fits _ (by decide) (by decide) (vreg_lt h0 (by decide)) (VSrc.code_lt h1) (VSrc.code_lt h2))

theorem Fits.movV (d : Nat) (a : VSrc) (nw : Bool) : Fits.Statement (.movV d a nw) :=
  fits_of_some rfl (fun h => let ⟨h0, h1, _⟩ := and3 h; encR_fits _ (by decide) (by decide) (vreg_lt h0 (by decide)) (VSrc.code_lt h1) (by decide))

theorem Fits.iaddI64V (d : Nat) (a : Nat) (b : Nat) (nw : Bool) : Fits.Statement (.iaddI64V d a b nw) :=
  fits_of_some rfl (fun h => let ⟨h0, h1, h2, _⟩ := and4 h; encR_fits _ (by decide) (by decide) (pair_lt h0 (by decide)) (pair_lt h1 (by decide)) (pair_lt h2 (by decide)))

theorem Fits.isubI64V (d : Nat) (a : Nat) (b : Nat) (nw : Bool) : Fits.Statement (.isubI64V d a b nw) :=
  fits_of_some rfl (fun h => let ⟨h0, h1, h2, _⟩ := and4 h; encR_fits _ (by decide) (by decide) (pair_lt h0 (by decide)) (pair_lt h1 (by decide)) (pair_lt h2 (by decide)))

theorem Fits.iaddI64S (d : Nat) (a : Nat) (b : Nat) : Fits.Statement (.iaddI64S d a b) :=
  fits_of_some rfl (fun h => let ⟨h0, h1, h2⟩ := and3 h; encR_fits _ (by decide) (by decide) (sreg_lt h0 (by decide)) (sreg_lt h1 (by decide)) (sreg_lt h2 (by decide)))

theorem Fits.isubI64S (d : Nat) (a : Nat) (b : Nat) : Fits.Statement (.isubI64S d a b) :=
  fits_of_some rfl (fun h => let ⟨h0, h1, h2⟩ := and3 h; encR_fits _ (by decide) (by decide) (sreg_lt h0 (by decide)) (sreg_lt h1 (by decide)) (sreg_lt h2 (by decide)))

theorem Fits.imulI64 (d : Nat) (a : Nat) (b : Nat) : Fits.Statement (.imulI64 d a b) :=
  fits_of_some rfl (fun h => let ⟨h0, h1, h2⟩ := and3 h; encR_fits _ (by decide) (by decide) (sreg_lt h0 (by decide)) (sreg_lt h1 (by decide)) (sreg_lt h2 (by decide)))

theorem Fits.andS (d : Nat) (a : Nat) (b : Nat) : Fits.Statement (.andS d a b) :=
  fits_of_some rfl (fun h => let ⟨h0, h1, h2⟩ := and3 h; encR_fits _ (by decide) (by decide) (sreg_lt h0 (by decide)) (sreg_lt h1 (by decide)) (sreg_lt h2 (by decide)))

theorem Fits.orS (d : Nat) (a : Nat) (b : Nat) : Fits.Statement (.orS d a b) :=
  fits_of_some rfl (fun h => let ⟨h0, h1, h2⟩ := and3 h; encR_fits _ (by decide) (by decide) (sreg_lt h0 (by decide)) (sreg_lt h1 (by decide)) (sreg_lt h2 (by decide)))

theorem Fits.xorS (d : Nat) (a : Nat) (b : Nat) : Fits.Statement (.xorS d a b) :=
  fits_of_some rfl (fun h => let ⟨h0, h1, h2⟩ := and3 h; encR_fits _ (by decide) (by decide) (sreg_lt h0 (by decide)) (sreg_lt h1 (by decide)) (sreg_lt h2 (by decide)))

theorem Fits.shlN64 (d : Nat) (a : Nat) (b : Nat) : Fits.Statement (.shlN64 d a b) :=
  fits_of_some rfl (fun h => let ⟨h0, h1, h2⟩ := and3 h; encR_fits _ (by decide) (by decide) (sreg_lt h0 (by decide)) (sreg_lt h1 (by decide)) (sreg_lt h2 (by decide)))

theorem Fits.shrN64 (d : Nat) (a : Nat) (b : Nat) : Fits.Statement (.shrN64 d a b) :=
  fits_of_some rfl (fun h => let ⟨h0, h1, h2⟩ := and3 h; encR_fits _ (by decide) (by decide) (sreg_lt h0 (by decide)) (sreg_lt h1 (by decide)) (sreg_lt h2 (by decide)))

theorem Fits.sarI64 (d : Nat) (a : Nat) (b : Nat) : Fits.Statement (.sarI64 d a b) :=
  fits_of_some rfl (fun h => let ⟨h0, h1, h2⟩ := and3 h; encR_fits _ (by decide) (by decide) (sreg_lt h0 (by decide)) (sreg_lt h1 (by decide)) (sreg_lt h2 (by decide)))

theorem Fits.movS (d : Nat) (a : Nat) : Fits.Statement (.movS d a) :=
  fits_of_some rfl (fun h => let ⟨h0, h1⟩ := and2 h; encR_fits _ (by decide) (by decide) (sreg_lt h0 (by decide)) (sreg_lt h1 (by decide)) (by decide))

theorem Fits.icmpEqI32 (d : Nat) (a : VSrc) (b : VSrc) : Fits.Statement (.icmpEqI32 d a b) :=
  fits_of_some rfl (fun h => let ⟨h0, h1, h2⟩ := and3 h; encR_fits _ (by decide) (by decide) (mreg_lt h0 (by decide)) (VSrc.code_lt h1) (VSrc.code_lt h2))

theorem Fits.icmpLtI32 (d : Nat) (a : VSrc) (b : VSrc) : Fits.Statement (.icmpLtI32 d a b) :=
  fits_of_some rfl (fun h => let ⟨h0, h1, h2⟩ := and3 h; encR_fits _ (by decide) (by decide) (mreg_lt h0 (by decide)) (VSrc.code_lt h1) (VSrc.code_lt h2))

theorem Fits.icmpLtN32 (d : Nat) (a : VSrc) (b : VSrc) : Fits.Statement (.icmpLtN32 d a b) :=
  fits_of_some rfl (fun h => let ⟨h0, h1, h2⟩ := and3 h; encR_fits _ (by decide) (by decide) (mreg_lt h0 (by decide)) (VSrc.code_lt h1) (VSrc.code_lt h2))

theorem Fits.icmpEqI64 (d : Nat) (a : Nat) (b : Nat) : Fits.Statement (.icmpEqI64 d a b) :=
  fits_of_some rfl (fun h => let ⟨h0, h1, h2⟩ := and3 h; encR_fits _ (by decide) (by decide) (sreg_lt h0 (by decide)) (sreg_lt h1 (by decide)) (sreg_lt h2 (by decide)))

theorem Fits.icmpLtI64 (d : Nat) (a : Nat) (b : Nat) : Fits.Statement (.icmpLtI64 d a b) :=
  fits_of_some rfl (fun h => let ⟨h0, h1, h2⟩ := and3 h; encR_fits _ (by decide) (by decide) (sreg_lt h0 (by decide)) (sreg_lt h1 (by decide)) (sreg_lt h2 (by decide)))

theorem Fits.icmpLtN64 (d : Nat) (a : Nat) (b : Nat) : Fits.Statement (.icmpLtN64 d a b) :=
  fits_of_some rfl (fun h => let ⟨h0, h1, h2⟩ := and3 h; encR_fits _ (by decide) (by decide) (sreg_lt h0 (by decide)) (sreg_lt h1 (by decide)) (sreg_lt h2 (by decide)))

theorem Fits.lidV (d : Nat) (nw : Bool) : Fits.Statement (.lidV d nw) :=
  fits_of_some rfl (fun h => let ⟨h0, _⟩ := and2 h; encR_fits _ (by decide) (by decide) (vreg_lt h0 (by decide)) (by decide) (by decide))

theorem Fits.lidS (d : Nat) : Fits.Statement (.lidS d) :=
  fits_of_some rfl (fun h0 => encR_fits _ (by decide) (by decide) (sreg_lt h0 (by decide)) (by decide) (by decide))

theorem Fits.fpack (d : Nat) (a : VSrc) (b : Nat) (nw : Bool) : Fits.Statement (.fpack d a b nw) :=
  fits_of_some rfl (fun h => let ⟨h0, h1, h2, _⟩ := and4 h; encR_fits _ (by decide) (by decide) (vreg_lt h0 (by decide)) (VSrc.code_lt h1) (sreg_lt h2 (by decide)))

theorem Fits.funpack (d : Nat) (a : VSrc) (b : Nat) (nw : Bool) : Fits.Statement (.funpack d a b nw) :=
  fits_of_some rfl (fun h => let ⟨h0, h1, h2, _⟩ := and4 h; encR_fits _ (by decide) (by decide) (vreg_lt h0 (by decide)) (VSrc.code_lt h1) (sreg_lt h2 (by decide)))

theorem Fits.fstat (d : Nat) : Fits.Statement (.fstat d) :=
  fits_of_some rfl (fun h0 => encR_fits _ (by decide) (by decide) (sreg_lt h0 (by decide)) (by decide) (by decide))

theorem Fits.fmode (d : Nat) (a : Nat) : Fits.Statement (.fmode d a) :=
  fits_of_some rfl (fun h => let ⟨h0, h1⟩ := and2 h; encR_fits _ (by decide) (by decide) (sreg_lt h0 (by decide)) (sreg_lt h1 (by decide)) (by decide))

theorem Fits.iaddI32Imm (d : Nat) (a : VSrc) (imm : Int) (nw : Bool) : Fits.Statement (.iaddI32Imm d a imm nw) :=
  fits_of_some rfl (fun h => let ⟨h0, h1, _, _⟩ := and4 h; encI_fits _ _ (by decide) (vreg_lt h0 (by decide)) (VSrc.code_lt h1))

theorem Fits.iaddI64Imm (d : Nat) (a : Nat) (imm : Int) : Fits.Statement (.iaddI64Imm d a imm) :=
  fits_of_some rfl (fun h => let ⟨h0, h1, _⟩ := and3 h; encI_fits _ _ (by decide) (sreg_lt h0 (by decide)) (sreg_lt h1 (by decide)))

theorem Fits.moviV (d : Nat) (imm : Int) (nw : Bool) : Fits.Statement (.moviV d imm nw) :=
  fits_of_some rfl (fun h => let ⟨h0, _, _⟩ := and3 h; encU_fits _ _ (by decide) (vreg_lt h0 (by decide)))

theorem Fits.moviS (d : Nat) (imm : Int) : Fits.Statement (.moviS d imm) :=
  fits_of_some rfl (fun h => let ⟨h0, _⟩ := and2 h; encU_fits _ _ (by decide) (sreg_lt h0 (by decide)))

theorem Fits.lea (d : Nat) (imm : Int) : Fits.Statement (.lea d imm) :=
  fits_of_some rfl (fun h => let ⟨h0, _⟩ := and2 h; encU_fits _ _ (by decide) (sreg_lt h0 (by decide)))

theorem Fits.limm (value : Nat) : Fits.Statement (.limm value) :=
  fits_of_some rfl (fun h0 => limm_fits h0)

theorem Fits.faddF32 (d : Nat) (a : VSrc) (b : VSrc) (nw : Bool) : Fits.Statement (.faddF32 d a b nw) :=
  fits_of_some rfl (fun h => let ⟨h0, h1, h2, _⟩ := and4 h; encR_fits _ (by decide) (by decide) (vreg_lt h0 (by decide)) (VSrc.code_lt h1) (VSrc.code_lt h2))

theorem Fits.fsubF32 (d : Nat) (a : VSrc) (b : VSrc) (nw : Bool) : Fits.Statement (.fsubF32 d a b nw) :=
  fits_of_some rfl (fun h => let ⟨h0, h1, h2, _⟩ := and4 h; encR_fits _ (by decide) (by decide) (vreg_lt h0 (by decide)) (VSrc.code_lt h1) (VSrc.code_lt h2))

theorem Fits.fmulF32 (d : Nat) (a : VSrc) (b : VSrc) (nw : Bool) : Fits.Statement (.fmulF32 d a b nw) :=
  fits_of_some rfl (fun h => let ⟨h0, h1, h2, _⟩ := and4 h; encR_fits _ (by decide) (by decide) (vreg_lt h0 (by decide)) (VSrc.code_lt h1) (VSrc.code_lt h2))

theorem Fits.ffmaF32 (d : Nat) (a : VSrc) (b : VSrc) (nw : Bool) : Fits.Statement (.ffmaF32 d a b nw) :=
  fits_of_some rfl (fun h => let ⟨h0, h1, h2, _⟩ := and4 h; encR_fits _ (by decide) (by decide) (vreg_lt h0 (by decide)) (VSrc.code_lt h1) (VSrc.code_lt h2))

theorem Fits.fdivF32 (d : Nat) (a : VSrc) (b : VSrc) (nw : Bool) : Fits.Statement (.fdivF32 d a b nw) :=
  fits_of_some rfl (fun h => let ⟨h0, h1, h2, _⟩ := and4 h; encR_fits _ (by decide) (by decide) (vreg_lt h0 (by decide)) (VSrc.code_lt h1) (VSrc.code_lt h2))

theorem Fits.fsqrtF32 (d : Nat) (a : VSrc) (nw : Bool) : Fits.Statement (.fsqrtF32 d a nw) :=
  fits_of_some rfl (fun h => let ⟨h0, h1, _⟩ := and3 h; encR_fits _ (by decide) (by decide) (vreg_lt h0 (by decide)) (VSrc.code_lt h1) (by decide))

theorem Fits.fminF32 (d : Nat) (a : VSrc) (b : VSrc) (nw : Bool) : Fits.Statement (.fminF32 d a b nw) :=
  fits_of_some rfl (fun h => let ⟨h0, h1, h2, _⟩ := and4 h; encR_fits _ (by decide) (by decide) (vreg_lt h0 (by decide)) (VSrc.code_lt h1) (VSrc.code_lt h2))

theorem Fits.fmaxF32 (d : Nat) (a : VSrc) (b : VSrc) (nw : Bool) : Fits.Statement (.fmaxF32 d a b nw) :=
  fits_of_some rfl (fun h => let ⟨h0, h1, h2, _⟩ := and4 h; encR_fits _ (by decide) (by decide) (vreg_lt h0 (by decide)) (VSrc.code_lt h1) (VSrc.code_lt h2))

theorem Fits.frcp (d : Nat) (a : VSrc) (nw : Bool) : Fits.Statement (.frcp d a nw) :=
  fits_of_some rfl (fun h => let ⟨h0, h1, _⟩ := and3 h; encR_fits _ (by decide) (by decide) (vreg_lt h0 (by decide)) (VSrc.code_lt h1) (by decide))

theorem Fits.frsq (d : Nat) (a : VSrc) (nw : Bool) : Fits.Statement (.frsq d a nw) :=
  fits_of_some rfl (fun h => let ⟨h0, h1, _⟩ := and3 h; encR_fits _ (by decide) (by decide) (vreg_lt h0 (by decide)) (VSrc.code_lt h1) (by decide))

theorem Fits.fexp2 (d : Nat) (a : VSrc) (nw : Bool) : Fits.Statement (.fexp2 d a nw) :=
  fits_of_some rfl (fun h => let ⟨h0, h1, _⟩ := and3 h; encR_fits _ (by decide) (by decide) (vreg_lt h0 (by decide)) (VSrc.code_lt h1) (by decide))

theorem Fits.flog2 (d : Nat) (a : VSrc) (nw : Bool) : Fits.Statement (.flog2 d a nw) :=
  fits_of_some rfl (fun h => let ⟨h0, h1, _⟩ := and3 h; encR_fits _ (by decide) (by decide) (vreg_lt h0 (by decide)) (VSrc.code_lt h1) (by decide))

theorem Fits.froundF32 (d : Nat) (a : VSrc) (nw : Bool) : Fits.Statement (.froundF32 d a nw) :=
  fits_of_some rfl (fun h => let ⟨h0, h1, _⟩ := and3 h; encR_fits _ (by decide) (by decide) (vreg_lt h0 (by decide)) (VSrc.code_lt h1) (by decide))

theorem Fits.fclassF32 (d : Nat) (a : VSrc) (nw : Bool) : Fits.Statement (.fclassF32 d a nw) :=
  fits_of_some rfl (fun h => let ⟨h0, h1, _⟩ := and3 h; encR_fits _ (by decide) (by decide) (vreg_lt h0 (by decide)) (VSrc.code_lt h1) (by decide))

theorem Fits.fcmpEqF32 (d : Nat) (a : VSrc) (b : VSrc) : Fits.Statement (.fcmpEqF32 d a b) :=
  fits_of_some rfl (fun h => let ⟨h0, h1, h2⟩ := and3 h; encR_fits _ (by decide) (by decide) (mreg_lt h0 (by decide)) (VSrc.code_lt h1) (VSrc.code_lt h2))

theorem Fits.fcmpLtF32 (d : Nat) (a : VSrc) (b : VSrc) : Fits.Statement (.fcmpLtF32 d a b) :=
  fits_of_some rfl (fun h => let ⟨h0, h1, h2⟩ := and3 h; encR_fits _ (by decide) (by decide) (mreg_lt h0 (by decide)) (VSrc.code_lt h1) (VSrc.code_lt h2))

theorem Fits.faddF64 (d : Nat) (a : Nat) (b : Nat) (nw : Bool) : Fits.Statement (.faddF64 d a b nw) :=
  fits_of_some rfl (fun h => let ⟨h0, h1, h2, _⟩ := and4 h; encR_fits _ (by decide) (by decide) (pair_lt h0 (by decide)) (pair_lt h1 (by decide)) (pair_lt h2 (by decide)))

theorem Fits.fsubF64 (d : Nat) (a : Nat) (b : Nat) (nw : Bool) : Fits.Statement (.fsubF64 d a b nw) :=
  fits_of_some rfl (fun h => let ⟨h0, h1, h2, _⟩ := and4 h; encR_fits _ (by decide) (by decide) (pair_lt h0 (by decide)) (pair_lt h1 (by decide)) (pair_lt h2 (by decide)))

theorem Fits.fmulF64 (d : Nat) (a : Nat) (b : Nat) (nw : Bool) : Fits.Statement (.fmulF64 d a b nw) :=
  fits_of_some rfl (fun h => let ⟨h0, h1, h2, _⟩ := and4 h; encR_fits _ (by decide) (by decide) (pair_lt h0 (by decide)) (pair_lt h1 (by decide)) (pair_lt h2 (by decide)))

theorem Fits.ffmaF64 (d : Nat) (a : Nat) (b : Nat) (nw : Bool) : Fits.Statement (.ffmaF64 d a b nw) :=
  fits_of_some rfl (fun h => let ⟨h0, h1, h2, _⟩ := and4 h; encR_fits _ (by decide) (by decide) (pair_lt h0 (by decide)) (pair_lt h1 (by decide)) (pair_lt h2 (by decide)))

theorem Fits.fdivF64 (d : Nat) (a : Nat) (b : Nat) (nw : Bool) : Fits.Statement (.fdivF64 d a b nw) :=
  fits_of_some rfl (fun h => let ⟨h0, h1, h2, _⟩ := and4 h; encR_fits _ (by decide) (by decide) (pair_lt h0 (by decide)) (pair_lt h1 (by decide)) (pair_lt h2 (by decide)))

theorem Fits.fsqrtF64 (d : Nat) (a : Nat) (nw : Bool) : Fits.Statement (.fsqrtF64 d a nw) :=
  fits_of_some rfl (fun h => let ⟨h0, h1, _⟩ := and3 h; encR_fits _ (by decide) (by decide) (pair_lt h0 (by decide)) (pair_lt h1 (by decide)) (by decide))

theorem Fits.fminF64 (d : Nat) (a : Nat) (b : Nat) (nw : Bool) : Fits.Statement (.fminF64 d a b nw) :=
  fits_of_some rfl (fun h => let ⟨h0, h1, h2, _⟩ := and4 h; encR_fits _ (by decide) (by decide) (pair_lt h0 (by decide)) (pair_lt h1 (by decide)) (pair_lt h2 (by decide)))

theorem Fits.fmaxF64 (d : Nat) (a : Nat) (b : Nat) (nw : Bool) : Fits.Statement (.fmaxF64 d a b nw) :=
  fits_of_some rfl (fun h => let ⟨h0, h1, h2, _⟩ := and4 h; encR_fits _ (by decide) (by decide) (pair_lt h0 (by decide)) (pair_lt h1 (by decide)) (pair_lt h2 (by decide)))

theorem Fits.fcmpLeF32 (d : Nat) (a : VSrc) (b : VSrc) : Fits.Statement (.fcmpLeF32 d a b) :=
  fits_of_some rfl (fun h => let ⟨h0, h1, h2⟩ := and3 h; encR_fits _ (by decide) (by decide) (mreg_lt h0 (by decide)) (VSrc.code_lt h1) (VSrc.code_lt h2))

theorem Fits.fcmpEqF64 (d : Nat) (a : Nat) (b : Nat) : Fits.Statement (.fcmpEqF64 d a b) :=
  fits_of_some rfl (fun h => let ⟨h0, h1, h2⟩ := and3 h; encR_fits _ (by decide) (by decide) (mreg_lt h0 (by decide)) (pair_lt h1 (by decide)) (pair_lt h2 (by decide)))

theorem Fits.fcmpLtF64 (d : Nat) (a : Nat) (b : Nat) : Fits.Statement (.fcmpLtF64 d a b) :=
  fits_of_some rfl (fun h => let ⟨h0, h1, h2⟩ := and3 h; encR_fits _ (by decide) (by decide) (mreg_lt h0 (by decide)) (pair_lt h1 (by decide)) (pair_lt h2 (by decide)))

theorem Fits.fcmpLeF64 (d : Nat) (a : Nat) (b : Nat) : Fits.Statement (.fcmpLeF64 d a b) :=
  fits_of_some rfl (fun h => let ⟨h0, h1, h2⟩ := and3 h; encR_fits _ (by decide) (by decide) (mreg_lt h0 (by decide)) (pair_lt h1 (by decide)) (pair_lt h2 (by decide)))

theorem Fits.froundF64 (d : Nat) (a : Nat) (nw : Bool) : Fits.Statement (.froundF64 d a nw) :=
  fits_of_some rfl (fun h => let ⟨h0, h1, _⟩ := and3 h; encR_fits _ (by decide) (by decide) (pair_lt h0 (by decide)) (pair_lt h1 (by decide)) (by decide))

theorem Fits.fclassF64 (d : Nat) (a : Nat) (nw : Bool) : Fits.Statement (.fclassF64 d a nw) :=
  fits_of_some rfl (fun h => let ⟨h0, h1, _⟩ := and3 h; encR_fits _ (by decide) (by decide) (vreg_lt h0 (by decide)) (pair_lt h1 (by decide)) (by decide))

theorem Fits.ftoiI32F32 (d : Nat) (a : VSrc) (nw : Bool) : Fits.Statement (.ftoiI32F32 d a nw) :=
  fits_of_some rfl (fun h => let ⟨h0, h1, _⟩ := and3 h; encR_fits _ (by decide) (by decide) (vreg_lt h0 (by decide)) (VSrc.code_lt h1) (by decide))

theorem Fits.itofF32I32 (d : Nat) (a : VSrc) (nw : Bool) : Fits.Statement (.itofF32I32 d a nw) :=
  fits_of_some rfl (fun h => let ⟨h0, h1, _⟩ := and3 h; encR_fits _ (by decide) (by decide) (vreg_lt h0 (by decide)) (VSrc.code_lt h1) (by decide))

theorem Fits.fcvtF64F32 (d : Nat) (a : VSrc) (nw : Bool) : Fits.Statement (.fcvtF64F32 d a nw) :=
  fits_of_some rfl (fun h => let ⟨h0, h1, _⟩ := and3 h; encR_fits _ (by decide) (by decide) (pair_lt h0 (by decide)) (VSrc.code_lt h1) (by decide))

theorem Fits.fcvtF32F64 (d : Nat) (a : Nat) (nw : Bool) : Fits.Statement (.fcvtF32F64 d a nw) :=
  fits_of_some rfl (fun h => let ⟨h0, h1, _⟩ := and3 h; encR_fits _ (by decide) (by decide) (vreg_lt h0 (by decide)) (pair_lt h1 (by decide)) (by decide))

theorem Fits.fcvtBf16F32 (d : Nat) (a : VSrc) (nw : Bool) : Fits.Statement (.fcvtBf16F32 d a nw) :=
  fits_of_some rfl (fun h => let ⟨h0, h1, _⟩ := and3 h; encR_fits _ (by decide) (by decide) (vreg_lt h0 (by decide)) (VSrc.code_lt h1) (by decide))

theorem Fits.fcvtF32Bf16 (d : Nat) (a : VSrc) (nw : Bool) : Fits.Statement (.fcvtF32Bf16 d a nw) :=
  fits_of_some rfl (fun h => let ⟨h0, h1, _⟩ := and3 h; encR_fits _ (by decide) (by decide) (vreg_lt h0 (by decide)) (VSrc.code_lt h1) (by decide))

theorem Fits.fcvtF16F32 (d : Nat) (a : VSrc) (nw : Bool) : Fits.Statement (.fcvtF16F32 d a nw) :=
  fits_of_some rfl (fun h => let ⟨h0, h1, _⟩ := and3 h; encR_fits _ (by decide) (by decide) (vreg_lt h0 (by decide)) (VSrc.code_lt h1) (by decide))

theorem Fits.fcvtF32F16 (d : Nat) (a : VSrc) (nw : Bool) : Fits.Statement (.fcvtF32F16 d a nw) :=
  fits_of_some rfl (fun h => let ⟨h0, h1, _⟩ := and3 h; encR_fits _ (by decide) (by decide) (vreg_lt h0 (by decide)) (VSrc.code_lt h1) (by decide))

theorem Fits.fcvtNfF32 (d : Nat) (a : VSrc) (b : Nat) (nw : Bool) : Fits.Statement (.fcvtNfF32 d a b nw) :=
  fits_of_some rfl (fun h => let ⟨h0, h1, h2, _⟩ := and4 h; encR_fits _ (by decide) (by decide) (vreg_lt h0 (by decide)) (VSrc.code_lt h1) (sreg_lt h2 (by decide)))

theorem Fits.fcvtF32Nf (d : Nat) (a : VSrc) (b : Nat) (nw : Bool) : Fits.Statement (.fcvtF32Nf d a b nw) :=
  fits_of_some rfl (fun h => let ⟨h0, h1, h2, _⟩ := and4 h; encR_fits _ (by decide) (by decide) (vreg_lt h0 (by decide)) (VSrc.code_lt h1) (sreg_lt h2 (by decide)))

theorem Fits.mand (d : Nat) (a : Nat) (b : Nat) : Fits.Statement (.mand d a b) :=
  fits_of_some rfl (fun h => let ⟨h0, h1, h2⟩ := and3 h; encR_fits _ (by decide) (by decide) (mreg_lt h0 (by decide)) (mreg_lt h1 (by decide)) (mreg_lt h2 (by decide)))

theorem Fits.mor (d : Nat) (a : Nat) (b : Nat) : Fits.Statement (.mor d a b) :=
  fits_of_some rfl (fun h => let ⟨h0, h1, h2⟩ := and3 h; encR_fits _ (by decide) (by decide) (mreg_lt h0 (by decide)) (mreg_lt h1 (by decide)) (mreg_lt h2 (by decide)))

theorem Fits.mxor (d : Nat) (a : Nat) (b : Nat) : Fits.Statement (.mxor d a b) :=
  fits_of_some rfl (fun h => let ⟨h0, h1, h2⟩ := and3 h; encR_fits _ (by decide) (by decide) (mreg_lt h0 (by decide)) (mreg_lt h1 (by decide)) (mreg_lt h2 (by decide)))

theorem Fits.mnot (d : Nat) (a : Nat) : Fits.Statement (.mnot d a) :=
  fits_of_some rfl (fun h => let ⟨h0, h1⟩ := and2 h; encR_fits _ (by decide) (by decide) (mreg_lt h0 (by decide)) (mreg_lt h1 (by decide)) (by decide))

theorem Fits.mmov (d : Nat) (a : Nat) : Fits.Statement (.mmov d a) :=
  fits_of_some rfl (fun h => let ⟨h0, h1⟩ := and2 h; encR_fits _ (by decide) (by decide) (mreg_lt h0 (by decide)) (mreg_lt h1 (by decide)) (by decide))

theorem Fits.mpop (d : Nat) (a : Nat) : Fits.Statement (.mpop d a) :=
  fits_of_some rfl (fun h => let ⟨h0, h1⟩ := and2 h; encR_fits _ (by decide) (by decide) (sreg_lt h0 (by decide)) (mreg_lt h1 (by decide)) (by decide))

theorem Fits.mfirst (d : Nat) (a : Nat) : Fits.Statement (.mfirst d a) :=
  fits_of_some rfl (fun h => let ⟨h0, h1⟩ := and2 h; encR_fits _ (by decide) (by decide) (sreg_lt h0 (by decide)) (mreg_lt h1 (by decide)) (by decide))

theorem Fits.shfl (d : Nat) (a : Nat) (b : VSrc) (nw : Bool) : Fits.Statement (.shfl d a b nw) :=
  fits_of_some rfl (fun h => let ⟨h0, h1, h2, _, _⟩ := and5 h; encR_fits _ (by decide) (by decide) (vreg_lt h0 (by decide)) (vreg_lt h1 (by decide)) (VSrc.code_lt h2))

theorem Fits.bcast (d : Nat) (a : Nat) (b : Nat) (nw : Bool) : Fits.Statement (.bcast d a b nw) :=
  fits_of_some rfl (fun h => let ⟨h0, h1, h2, _, _⟩ := and5 h; encR_fits _ (by decide) (by decide) (vreg_lt h0 (by decide)) (vreg_lt h1 (by decide)) (sreg_lt h2 (by decide)))

theorem Fits.reduceAddI32 (d : Nat) (a : VSrc) : Fits.Statement (.reduceAddI32 d a) :=
  fits_of_some rfl (fun h => let ⟨h0, h1⟩ := and2 h; encR_fits _ (by decide) (by decide) (sreg_lt h0 (by decide)) (VSrc.code_lt h1) (by decide))

theorem Fits.reduceAddF32 (d : Nat) (a : VSrc) : Fits.Statement (.reduceAddF32 d a) :=
  fits_of_some rfl (fun h => let ⟨h0, h1⟩ := and2 h; encR_fits _ (by decide) (by decide) (sreg_lt h0 (by decide)) (VSrc.code_lt h1) (by decide))

theorem Fits.reduceMaxI32 (d : Nat) (a : VSrc) : Fits.Statement (.reduceMaxI32 d a) :=
  fits_of_some rfl (fun h => let ⟨h0, h1⟩ := and2 h; encR_fits _ (by decide) (by decide) (sreg_lt h0 (by decide)) (VSrc.code_lt h1) (by decide))

theorem Fits.reduceMaxF32 (d : Nat) (a : VSrc) : Fits.Statement (.reduceMaxF32 d a) :=
  fits_of_some rfl (fun h => let ⟨h0, h1⟩ := and2 h; encR_fits _ (by decide) (by decide) (sreg_lt h0 (by decide)) (VSrc.code_lt h1) (by decide))

theorem Fits.scanAddI32 (d : Nat) (a : VSrc) (nw : Bool) : Fits.Statement (.scanAddI32 d a nw) :=
  fits_of_some rfl (fun h => let ⟨h0, h1, _⟩ := and3 h; encR_fits _ (by decide) (by decide) (vreg_lt h0 (by decide)) (VSrc.code_lt h1) (by decide))

theorem Fits.scanAddF32 (d : Nat) (a : VSrc) (nw : Bool) : Fits.Statement (.scanAddF32 d a nw) :=
  fits_of_some rfl (fun h => let ⟨h0, h1, _⟩ := and3 h; encR_fits _ (by decide) (by decide) (vreg_lt h0 (by decide)) (VSrc.code_lt h1) (by decide))

theorem Fits.scanMaxI32 (d : Nat) (a : VSrc) (nw : Bool) : Fits.Statement (.scanMaxI32 d a nw) :=
  fits_of_some rfl (fun h => let ⟨h0, h1, _⟩ := and3 h; encR_fits _ (by decide) (by decide) (vreg_lt h0 (by decide)) (VSrc.code_lt h1) (by decide))

theorem Fits.scanMaxF32 (d : Nat) (a : VSrc) (nw : Bool) : Fits.Statement (.scanMaxF32 d a nw) :=
  fits_of_some rfl (fun h => let ⟨h0, h1, _⟩ := and3 h; encR_fits _ (by decide) (by decide) (vreg_lt h0 (by decide)) (VSrc.code_lt h1) (by decide))

theorem Fits.jmpr (a : Nat) : Fits.Statement (.jmpr a) :=
  fits_of_some rfl (fun h0 => encR_fits _ (by decide) (by decide) (by decide) (sreg_lt h0 (by decide)) (by decide))

theorem Fits.ret : Fits.Statement (.ret) :=
  fits_of_some rfl (fun _ => encR_fits _ (by decide) (by decide) (by decide) (by decide) (by decide))

theorem Fits.lbrk : Fits.Statement (.lbrk) :=
  fits_of_some rfl (fun _ => encR_fits _ (by decide) (by decide) (by decide) (by decide) (by decide))

theorem Fits.yield : Fits.Statement (.yield) :=
  fits_of_some rfl (fun _ => encR_fits _ (by decide) (by decide) (by decide) (by decide) (by decide))

theorem Fits.bra (off : Int) : Fits.Statement (.bra off) :=
  fits_of_some rfl (fun _ => encB_fits _ (by decide) (by decide))

theorem Fits.bzM (m : Nat) (off : Int) : Fits.Statement (.bzM m off) :=
  fits_of_some rfl (fun h => let ⟨h0, _⟩ := and2 h; encB_fits _ (by decide) (mreg_lt h0 (by decide)))

theorem Fits.bnzM (m : Nat) (off : Int) : Fits.Statement (.bnzM m off) :=
  fits_of_some rfl (fun h => let ⟨h0, _⟩ := and2 h; encB_fits _ (by decide) (mreg_lt h0 (by decide)))

theorem Fits.ball (m : Nat) (off : Int) : Fits.Statement (.ball m off) :=
  fits_of_some rfl (fun h => let ⟨h0, _⟩ := and2 h; encB_fits _ (by decide) (mreg_lt h0 (by decide)))

theorem Fits.call (off : Int) : Fits.Statement (.call off) :=
  fits_of_some rfl (fun _ => encB_fits _ (by decide) (by decide))

theorem Fits.bzS (r : Nat) (off : Int) : Fits.Statement (.bzS r off) :=
  fits_of_some rfl (fun h => let ⟨h0, _⟩ := and2 h; encB_fits _ (by decide) (mreg_lt h0 (by decide)))

theorem Fits.bnzS (r : Nat) (off : Int) : Fits.Statement (.bnzS r off) :=
  fits_of_some rfl (fun h => let ⟨h0, _⟩ := and2 h; encB_fits _ (by decide) (mreg_lt h0 (by decide)))

theorem Fits.loop (r : Nat) (off : Int) : Fits.Statement (.loop r off) :=
  fits_of_some rfl (fun h => let ⟨h0, _⟩ := and2 h; loop_fits off h0)

theorem Fits.rep (sb : Nat) (sa : Nat) (sd : Nat) (cnt : Nat) : Fits.Statement (.rep sb sa sd cnt) :=
  fits_of_some rfl (fun h => let ⟨h0, h1, h2, h3⟩ := and4 h; rep_fits h0 h1 h2 h3)

theorem Fits.ldV (d : Nat) (size : MemSize) (sb : Nat) (ix : VIndex) (nw : Bool) : Fits.Statement (.ldV d size sb ix nw) :=
  fits_of_some rfl (fun h => let ⟨h0, h1, h2, _⟩ := and4 h; encM_fits _ _ _ (by decide) (VIndex.enc_lt h2) (sreg_lt h1 (by decide)) (ldDest_lt h0))

theorem Fits.ldS (d : Nat) (size : MemSize) (sb : Nat) (ix : SIndex) : Fits.Statement (.ldS d size sb ix) :=
  fits_of_some rfl (fun h => let ⟨h0, h1, h2⟩ := and3 h; encM_fits _ _ _ (by decide) (SIndex.enc_lt h2) (sreg_lt h1 (by decide)) (sreg_lt h0 (by decide)))

theorem Fits.stV (d : VSrc) (size : MemSize) (sb : Nat) (ix : VIndex) : Fits.Statement (.stV d size sb ix) :=
  fits_of_some rfl (fun h => let ⟨h0, h1, h2⟩ := and3 h; encM_fits _ _ _ (by decide) (VIndex.enc_lt h2) (sreg_lt h1 (by decide)) (stData_lt h0))

theorem Fits.stS (d : Nat) (size : MemSize) (sb : Nat) (ix : SIndex) : Fits.Statement (.stS d size sb ix) :=
  fits_of_some rfl (fun h => let ⟨h0, h1, h2⟩ := and3 h; encM_fits _ _ _ (by decide) (SIndex.enc_lt h2) (sreg_lt h1 (by decide)) (sreg_lt h0 (by decide)))

theorem Fits.ldp (d : Nat) (size : MemSize) (sb : Nat) (ix : VIndex) (nw : Bool) : Fits.Statement (.ldp d size sb ix nw) :=
  fits_of_some rfl (fun h => let ⟨h0, h1, h2, _⟩ := and4 h; encM_fits _ _ _ (by decide) (VIndex.enc_lt h2) (sreg_lt h1 (by decide)) (vreg_lt h0 (by decide)))

theorem Fits.stp (d : VSrc) (size : MemSize) (sb : Nat) (ix : VIndex) : Fits.Statement (.stp d size sb ix) :=
  fits_of_some rfl (fun h => let ⟨h0, h1, h2⟩ := and3 h; encM_fits _ _ _ (by decide) (VIndex.enc_lt h2) (sreg_lt h1 (by decide)) (VSrc.code_lt h0))

theorem Fits.ldOrdV (d : Nat) (sb : Nat) (x : VSrc) (ord : Order) (scope : Scope) : Fits.Statement (.ldOrdV d sb x ord scope) :=
  fits_of_some rfl (fun h => let ⟨h0, h1, h2, _⟩ := and4 h; encO_fits (by decide) (Scope.code_lt _) (Order.code_lt _) (sreg_lt h1 (by decide)) (VSrc.code_lt h2) (vreg_lt h0 (by decide)))

theorem Fits.ldOrdS (d : Nat) (sb : Nat) (x : Nat) (ord : Order) (scope : Scope) : Fits.Statement (.ldOrdS d sb x ord scope) :=
  fits_of_some rfl (fun h => let ⟨h0, h1, h2, _⟩ := and4 h; encO_fits (by decide) (Scope.code_lt _) (Order.code_lt _) (sreg_lt h1 (by decide)) (sreg_lt h2 (by decide)) (sreg_lt h0 (by decide)))

theorem Fits.stOrdV (d : VSrc) (sb : Nat) (x : VSrc) (ord : Order) (scope : Scope) : Fits.Statement (.stOrdV d sb x ord scope) :=
  fits_of_some rfl (fun h => let ⟨h0, h1, h2, _⟩ := and4 h; encO_fits (by decide) (Scope.code_lt _) (Order.code_lt _) (sreg_lt h1 (by decide)) (VSrc.code_lt h2) (VSrc.code_lt h0))

theorem Fits.stOrdS (d : Nat) (sb : Nat) (x : Nat) (ord : Order) (scope : Scope) : Fits.Statement (.stOrdS d sb x ord scope) :=
  fits_of_some rfl (fun h => let ⟨h0, h1, h2, _⟩ := and4 h; encO_fits (by decide) (Scope.code_lt _) (Order.code_lt _) (sreg_lt h1 (by decide)) (sreg_lt h2 (by decide)) (sreg_lt h0 (by decide)))

theorem Fits.atomAddI32 (d : Nat) (sb : Nat) (x : VSrc) (ord : Order) (scope : Scope) : Fits.Statement (.atomAddI32 d sb x ord scope) :=
  fits_of_some rfl (fun h => let ⟨h0, h1, h2⟩ := and3 h; encO_fits (by decide) (Scope.code_lt _) (Order.code_lt _) (sreg_lt h1 (by decide)) (VSrc.code_lt h2) (vreg_lt h0 (by decide)))

theorem Fits.atomAddI64 (d : Nat) (sb : Nat) (x : Nat) (ord : Order) (scope : Scope) : Fits.Statement (.atomAddI64 d sb x ord scope) :=
  fits_of_some rfl (fun h => let ⟨h0, h1, h2⟩ := and3 h; encO_fits (by decide) (Scope.code_lt _) (Order.code_lt _) (sreg_lt h1 (by decide)) (sreg_lt h2 (by decide)) (sreg_lt h0 (by decide)))

theorem Fits.atomExchI32 (d : Nat) (sb : Nat) (x : VSrc) (ord : Order) (scope : Scope) : Fits.Statement (.atomExchI32 d sb x ord scope) :=
  fits_of_some rfl (fun h => let ⟨h0, h1, h2⟩ := and3 h; encO_fits (by decide) (Scope.code_lt _) (Order.code_lt _) (sreg_lt h1 (by decide)) (VSrc.code_lt h2) (vreg_lt h0 (by decide)))

theorem Fits.atomExchI64 (d : Nat) (sb : Nat) (x : Nat) (ord : Order) (scope : Scope) : Fits.Statement (.atomExchI64 d sb x ord scope) :=
  fits_of_some rfl (fun h => let ⟨h0, h1, h2⟩ := and3 h; encO_fits (by decide) (Scope.code_lt _) (Order.code_lt _) (sreg_lt h1 (by decide)) (sreg_lt h2 (by decide)) (sreg_lt h0 (by decide)))

theorem Fits.atomMaxI32 (d : Nat) (sb : Nat) (x : VSrc) (ord : Order) (scope : Scope) : Fits.Statement (.atomMaxI32 d sb x ord scope) :=
  fits_of_some rfl (fun h => let ⟨h0, h1, h2⟩ := and3 h; encO_fits (by decide) (Scope.code_lt _) (Order.code_lt _) (sreg_lt h1 (by decide)) (VSrc.code_lt h2) (vreg_lt h0 (by decide)))

theorem Fits.atomMinI32 (d : Nat) (sb : Nat) (x : VSrc) (ord : Order) (scope : Scope) : Fits.Statement (.atomMinI32 d sb x ord scope) :=
  fits_of_some rfl (fun h => let ⟨h0, h1, h2⟩ := and3 h; encO_fits (by decide) (Scope.code_lt _) (Order.code_lt _) (sreg_lt h1 (by decide)) (VSrc.code_lt h2) (vreg_lt h0 (by decide)))

theorem Fits.redAddI32 (d : VSrc) (sb : Nat) (x : VSrc) (ord : Order) (scope : Scope) : Fits.Statement (.redAddI32 d sb x ord scope) :=
  fits_of_some rfl (fun h => let ⟨h0, h1, h2⟩ := and3 h; encO_fits (by decide) (Scope.code_lt _) (Order.code_lt _) (sreg_lt h1 (by decide)) (VSrc.code_lt h2) (VSrc.code_lt h0))

theorem Fits.casI32 (d : Nat) (sb : Nat) (x : VSrc) (ord : Order) (scope : Scope) : Fits.Statement (.casI32 d sb x ord scope) :=
  fits_of_some rfl (fun h => let ⟨h0, h1, h2⟩ := and3 h; encO_fits (by decide) (Scope.code_lt _) (Order.code_lt _) (sreg_lt h1 (by decide)) (VSrc.code_lt h2) (pair_lt h0 (by decide)))

theorem Fits.casI64 (d : Nat) (sb : Nat) (x : Nat) (ord : Order) (scope : Scope) : Fits.Statement (.casI64 d sb x ord scope) :=
  fits_of_some rfl (fun h => let ⟨h0, h1, h2⟩ := and3 h; encO_fits (by decide) (Scope.code_lt _) (Order.code_lt _) (sreg_lt h1 (by decide)) (sreg_lt h2 (by decide)) (spair_lt h0 (by decide)))

theorem Fits.fence (kind : FenceKind) (scope : Scope) : Fits.Statement (.fence kind scope) :=
  fits_of_some rfl (fun _ => encO_fits (by decide) (Scope.code_lt _) (FenceKind.code_lt _) (by decide) (by decide) (by decide))

theorem Fits.llock (d : Nat) (sb : Nat) (x : Nat) (scope : Scope) : Fits.Statement (.llock d sb x scope) :=
  fits_of_some rfl (fun h => let ⟨h0, h1, h2⟩ := and3 h; encO_fits (by decide) (Scope.code_lt _) (by decide) (sreg_lt h1 (by decide)) (sreg_lt h2 (by decide)) (sreg_lt h0 (by decide)))

theorem Fits.ltry (d : Nat) (sb : Nat) (scope : Scope) : Fits.Statement (.ltry d sb scope) :=
  fits_of_some rfl (fun h => let ⟨h0, h1⟩ := and2 h; encO_fits (by decide) (Scope.code_lt _) (by decide) (sreg_lt h1 (by decide)) (by decide) (sreg_lt h0 (by decide)))

theorem Fits.lunlock (sb : Nat) (scope : Scope) : Fits.Statement (.lunlock sb scope) :=
  fits_of_some rfl (fun h0 => encO_fits (by decide) (Scope.code_lt _) (by decide) (sreg_lt h0 (by decide)) (by decide) (by decide))

theorem Fits.lunlockReg (sb : Nat) (scope : Scope) : Fits.Statement (.lunlockReg sb scope) :=
  fits_of_some rfl (fun h0 => encO_fits (by decide) (Scope.code_lt _) (by decide) (sreg_lt h0 (by decide)) (by decide) (by decide))

theorem Fits.qpass : Fits.Statement (.qpass) :=
  fits_of_some rfl (fun _ => encR_fits _ (by decide) (by decide) (by decide) (by decide) (by decide))

theorem Fits.qidle : Fits.Statement (.qidle) :=
  fits_of_some rfl (fun _ => encR_fits _ (by decide) (by decide) (by decide) (by decide) (by decide))

theorem Fits.qwake : Fits.Statement (.qwake) :=
  fits_of_some rfl (fun _ => encR_fits _ (by decide) (by decide) (by decide) (by decide) (by decide))

theorem Fits.gpstart (d : Nat) : Fits.Statement (.gpstart d) :=
  fits_of_some rfl (fun h0 => encR_fits _ (by decide) (by decide) (sreg_lt h0 (by decide)) (by decide) (by decide))

theorem Fits.gpwait (d : Nat) (a : Nat) : Fits.Statement (.gpwait d a) :=
  fits_of_some rfl (fun h => let ⟨h0, h1⟩ := and2 h; encR_fits _ (by decide) (by decide) (sreg_lt h0 (by decide)) (sreg_lt h1 (by decide)) (by decide))

theorem Fits.dfree (d : Nat) (a : Nat) (b : Nat) : Fits.Statement (.dfree d a b) :=
  fits_of_some rfl (fun h => let ⟨h0, h1, h2⟩ := and3 h; encR_fits _ (by decide) (by decide) (sreg_lt h0 (by decide)) (sreg_lt h1 (by decide)) (sreg_lt h2 (by decide)))

theorem Fits.lstat (d : Nat) (a : Nat) : Fits.Statement (.lstat d a) :=
  fits_of_some rfl (fun h => let ⟨h0, h1⟩ := and2 h; encR_fits _ (by decide) (by decide) (sreg_lt h0 (by decide)) (sreg_lt h1 (by decide)) (by decide))

theorem Fits.prefL1 (a : Nat) : Fits.Statement (.prefL1 a) :=
  fits_of_some rfl (fun h0 => encR_fits _ (by decide) (by decide) (by decide) (sreg_lt h0 (by decide)) (by decide))

theorem Fits.prefL2 (a : Nat) : Fits.Statement (.prefL2 a) :=
  fits_of_some rfl (fun h0 => encR_fits _ (by decide) (by decide) (by decide) (sreg_lt h0 (by decide)) (by decide))

theorem Fits.prefL2x (a : Nat) : Fits.Statement (.prefL2x a) :=
  fits_of_some rfl (fun h0 => encR_fits _ (by decide) (by decide) (by decide) (sreg_lt h0 (by decide)) (by decide))

theorem Fits.ldbN8 (d : Nat) (a : Nat) (b : VSrc) (nw : Bool) : Fits.Statement (.ldbN8 d a b nw) :=
  fits_of_some rfl (fun h => let ⟨h0, h1, h2, _⟩ := and4 h; encR_fits _ (by decide) (by decide) (vreg_lt h0 (by decide)) (sreg_lt h1 (by decide)) (VSrc.code_lt h2))

theorem Fits.ldbN16 (d : Nat) (a : Nat) (b : VSrc) (nw : Bool) : Fits.Statement (.ldbN16 d a b nw) :=
  fits_of_some rfl (fun h => let ⟨h0, h1, h2, _⟩ := and4 h; encR_fits _ (by decide) (by decide) (vreg_lt h0 (by decide)) (sreg_lt h1 (by decide)) (VSrc.code_lt h2))

theorem Fits.ldbN32 (d : Nat) (a : Nat) (b : VSrc) (nw : Bool) : Fits.Statement (.ldbN32 d a b nw) :=
  fits_of_some rfl (fun h => let ⟨h0, h1, h2, _⟩ := and4 h; encR_fits _ (by decide) (by decide) (vreg_lt h0 (by decide)) (sreg_lt h1 (by decide)) (VSrc.code_lt h2))

theorem Fits.ldbN64 (d : Nat) (a : Nat) (b : VSrc) (nw : Bool) : Fits.Statement (.ldbN64 d a b nw) :=
  fits_of_some rfl (fun h => let ⟨h0, h1, h2, _⟩ := and4 h; encR_fits _ (by decide) (by decide) (pair_lt h0 (by decide)) (sreg_lt h1 (by decide)) (VSrc.code_lt h2))

theorem Fits.mma (t : Nat) (a : TSrc) (b : TSrc) (c : Nat) : Fits.Statement (.mma t a b c) :=
  fits_of_some rfl (fun h => let ⟨h0, h1, h2, h3⟩ := and4 h; encT_fits (by decide) (sreg_lt h3 (by decide)) (TSrc.enc_kind_lt _) (TSrc.enc_lt h2) (TSrc.enc_kind_lt _) (TSrc.enc_lt h1) (entry_lt h0 (by decide)))

theorem Fits.mmag (t : Nat) (a : TSrc) (b : TSrc) (c : Nat) : Fits.Statement (.mmag t a b c) :=
  fits_of_some rfl (fun h => let ⟨h0, h1, h2, h3⟩ := and4 h; encT_fits (by decide) (sreg_lt h3 (by decide)) (TSrc.enc_kind_lt _) (TSrc.enc_lt h2) (TSrc.enc_kind_lt _) (TSrc.enc_lt h1) (entry_lt h0 (by decide)))

theorem Fits.mdrain (t : Nat) (dst : TSrc) (sb : Nat) : Fits.Statement (.mdrain t dst sb) :=
  fits_of_some rfl (fun h => let ⟨h0, h1, h2⟩ := and3 h; encT_fits (by decide) (by decide) (by decide) (sreg_lt h2 (by decide)) (TSrc.enc_kind_lt _) (TSrc.enc_lt h1) (entry_lt h0 (by decide)))

theorem Fits.mdrainAdd (t : Nat) (dst : TSrc) (sb : Nat) : Fits.Statement (.mdrainAdd t dst sb) :=
  fits_of_some rfl (fun h => let ⟨h0, h1, h2⟩ := and3 h; encT_fits (by decide) (by decide) (by decide) (sreg_lt h2 (by decide)) (TSrc.enc_kind_lt _) (TSrc.enc_lt h1) (entry_lt h0 (by decide)))

theorem Fits.quant (t : Nat) (dst : TSrc) (sb : Nat) (sc : Nat) : Fits.Statement (.quant t dst sb sc) :=
  fits_of_some rfl (fun h => let ⟨h0, h1, h2, h3⟩ := and4 h; encT_fits (by decide) (sreg_lt h3 (by decide)) (by decide) (sreg_lt h2 (by decide)) (TSrc.enc_kind_lt _) (TSrc.enc_lt h1) (entry_lt h0 (by decide)))

theorem Fits.quantBmaj (t : Nat) (dst : TSrc) (sb : Nat) (sc : Nat) : Fits.Statement (.quantBmaj t dst sb sc) :=
  fits_of_some rfl (fun h => let ⟨h0, h1, h2, h3⟩ := and4 h; encT_fits (by decide) (sreg_lt h3 (by decide)) (by decide) (sreg_lt h2 (by decide)) (TSrc.enc_kind_lt _) (TSrc.enc_lt h1) (entry_lt h0 (by decide)))

theorem Fits.tcopyDense (c : Nat) (a : Nat) (dst : TSrc) : Fits.Statement (.tcopyDense c a dst) :=
  fits_of_some rfl (fun h => let ⟨h0, h1, h2⟩ := and3 h; encT_fits (by decide) (sreg_lt h0 (by decide)) (TSrc.enc_kind_lt _) (TSrc.enc_lt h2) (by decide) (sreg_lt h1 (by decide)) (by decide))

theorem Fits.tcopyAcc (c : Nat) (a : Nat) (t : Nat) : Fits.Statement (.tcopyAcc c a t) :=
  fits_of_some rfl (fun h => let ⟨h0, h1, h2⟩ := and3 h; encT_fits (by decide) (sreg_lt h0 (by decide)) (by decide) (by decide) (by decide) (sreg_lt h1 (by decide)) (entry_lt h2 (by decide)))

theorem Fits.tstateAcc (t : Nat) (d : Nat) : Fits.Statement (.tstateAcc t d) :=
  fits_of_some rfl (fun h => let ⟨h0, h1⟩ := and2 h; encS_fits (by decide) (by decide) (entry_lt h0 (by decide)) (sreg_lt h1 (by decide)))

theorem Fits.tstateSt (t : Nat) (d : Nat) : Fits.Statement (.tstateSt t d) :=
  fits_of_some rfl (fun h => let ⟨h0, h1⟩ := and2 h; encS_fits (by decide) (by decide) (entry_lt h0 (by decide)) (sreg_lt h1 (by decide)))

theorem Fits.twaitAcc (t : Nat) (want : Bool) (phase : Bool) : Fits.Statement (.twaitAcc t want phase) :=
  fits_of_some rfl (fun h0 => encS_fits (by decide) (by decide) (twaitImm_lt _ _ (entry_lt h0 (by decide))) (by decide))

theorem Fits.twaitSt (t : Nat) (want : Bool) (phase : Bool) : Fits.Statement (.twaitSt t want phase) :=
  fits_of_some rfl (fun h0 => encS_fits (by decide) (by decide) (twaitImm_lt _ _ (entry_lt h0 (by decide))) (by decide))

theorem Fits.treadyAcc (t : Nat) : Fits.Statement (.treadyAcc t) :=
  fits_of_some rfl (fun h0 => encS_fits (by decide) (by decide) (entry_lt h0 (by decide)) (by decide))

theorem Fits.treadySt (t : Nat) : Fits.Statement (.treadySt t) :=
  fits_of_some rfl (fun h0 => encS_fits (by decide) (by decide) (entry_lt h0 (by decide)) (by decide))

theorem Fits.trelAcc (t : Nat) : Fits.Statement (.trelAcc t) :=
  fits_of_some rfl (fun h0 => encS_fits (by decide) (by decide) (entry_lt h0 (by decide)) (by decide))

theorem Fits.trelSt (t : Nat) : Fits.Statement (.trelSt t) :=
  fits_of_some rfl (fun h0 => encS_fits (by decide) (by decide) (entry_lt h0 (by decide)) (by decide))

theorem Fits.mzero (t : Nat) (wide : Bool) : Fits.Statement (.mzero t wide) :=
  fits_of_some rfl (fun h0 => encS_fits (by decide) (by decide) (mzeroImm_lt _ (entry_lt h0 (by decide))) (by decide))

theorem Fits.tbind (t : Nat) (d : Nat) : Fits.Statement (.tbind t d) :=
  fits_of_some rfl (fun h => let ⟨h0, h1⟩ := and2 h; encS_fits (by decide) (by decide) (entry_lt h0 (by decide)) (sreg_lt h1 (by decide)))

theorem Fits.mcommit (d : Nat) : Fits.Statement (.mcommit d) :=
  fits_of_some rfl (fun h0 => encR_fits _ (by decide) (by decide) (sreg_lt h0 (by decide)) (by decide) (by decide))

theorem Fits.mwait (a : Nat) : Fits.Statement (.mwait a) :=
  fits_of_some rfl (fun h0 => encR_fits _ (by decide) (by decide) (by decide) (sreg_lt h0 (by decide)) (by decide))

theorem Fits.cwait (a : Nat) : Fits.Statement (.cwait a) :=
  fits_of_some rfl (fun h0 => encR_fits _ (by decide) (by decide) (by decide) (sreg_lt h0 (by decide)) (by decide))

theorem Fits.cstatMap (d : Nat) (a : Nat) : Fits.Statement (.cstatMap d a) :=
  fits_of_some rfl (fun h => let ⟨h0, h1⟩ := and2 h; encR_fits _ (by decide) (by decide) (sreg_lt h0 (by decide)) (sreg_lt h1 (by decide)) (by decide))

theorem Fits.cstat (d : Nat) (a : Nat) : Fits.Statement (.cstat d a) :=
  fits_of_some rfl (fun h => let ⟨h0, h1⟩ := and2 h; encR_fits _ (by decide) (by decide) (sreg_lt h0 (by decide)) (sreg_lt h1 (by decide)) (by decide))

theorem Fits.ccancel (a : Nat) : Fits.Statement (.ccancel a) :=
  fits_of_some rfl (fun h0 => encR_fits _ (by decide) (by decide) (by decide) (sreg_lt h0 (by decide)) (by decide))

theorem Fits.bar (n : Nat) (gang : Bool) (expect : Nat) : Fits.Statement (.bar n gang expect) :=
  fits_of_some rfl (fun h => let ⟨h0, h1⟩ := and2 h; encS_fits (by decide) (by decide) (barImm_lt _ (mreg_lt h0 (by decide)) (narrow_le h1 (by decide))) (by decide))

theorem Fits.arrive (n : Nat) (gang : Bool) (expect : Nat) : Fits.Statement (.arrive n gang expect) :=
  fits_of_some rfl (fun h => let ⟨h0, h1⟩ := and2 h; encS_fits (by decide) (by decide) (barImm_lt _ (mreg_lt h0 (by decide)) (narrow_le h1 (by decide))) (by decide))

theorem Fits.bwait (n : Nat) (gang : Bool) : Fits.Statement (.bwait n gang) :=
  fits_of_some rfl (fun h0 => encS_fits (by decide) (by decide) (bwaitImm_lt _ (mreg_lt h0 (by decide))) (by decide))

theorem Fits.trap (n : Nat) : Fits.Statement (.trap n) :=
  fits_of_some rfl (fun h0 => encS_fits (by decide) (by decide) (narrow_le h0 (by decide)) (by decide))

theorem Fits.brk (n : Nat) : Fits.Statement (.brk n) :=
  fits_of_some rfl (fun h0 => encS_fits (by decide) (by decide) (narrow_le h0 (by decide)) (by decide))

theorem Fits.halt : Fits.Statement (.halt) :=
  fits_of_some rfl (fun _ => encS_fits (by decide) (by decide) (by decide) (by decide))

theorem Fits.nop : Fits.Statement (.nop) :=
  fits_of_some rfl (fun _ => encS_fits (by decide) (by decide) (by decide) (by decide))

theorem Fits.sigret (d : Nat) : Fits.Statement (.sigret d) :=
  fits_of_some rfl (fun h0 => encS_fits (by decide) (by decide) (by decide) (sreg_lt h0 (by decide)))

theorem Fits.eret : Fits.Statement (.eret) :=
  fits_of_some rfl (fun _ => encS_fits (by decide) (by decide) (by decide) (by decide))

theorem Fits.sysrd (d : Nat) (r : Nat) : Fits.Statement (.sysrd d r) :=
  fits_of_some rfl (fun h => let ⟨h0, h1⟩ := and2 h; encS_fits (by decide) (by decide) (narrow_le h1 (by decide)) (sreg_lt h0 (by decide)))

theorem Fits.syswr (d : Nat) (r : Nat) : Fits.Statement (.syswr d r) :=
  fits_of_some rfl (fun h => let ⟨h0, h1⟩ := and2 h; encS_fits (by decide) (by decide) (narrow_le h1 (by decide)) (sreg_lt h0 (by decide)))

theorem Fits.syswrSet (d : Nat) (r : Nat) : Fits.Statement (.syswrSet d r) :=
  fits_of_some rfl (fun h => let ⟨h0, h1⟩ := and2 h; encS_fits (by decide) (by decide) (narrow_le h1 (by decide)) (sreg_lt h0 (by decide)))

theorem Fits.syswrClr (d : Nat) (r : Nat) : Fits.Statement (.syswrClr d r) :=
  fits_of_some rfl (fun h => let ⟨h0, h1⟩ := and2 h; encS_fits (by decide) (by decide) (narrow_le h1 (by decide)) (sreg_lt h0 (by decide)))

theorem Fits.park (d : Nat) : Fits.Statement (.park d) :=
  fits_of_some rfl (fun h0 => encS_fits (by decide) (by decide) (by decide) (sreg_lt h0 (by decide)))

theorem Fits.resume (d : Nat) : Fits.Statement (.resume d) :=
  fits_of_some rfl (fun h0 => encS_fits (by decide) (by decide) (by decide) (sreg_lt h0 (by decide)))

theorem Fits.resumeStep (d : Nat) : Fits.Statement (.resumeStep d) :=
  fits_of_some rfl (fun h0 => encS_fits (by decide) (by decide) (by decide) (sreg_lt h0 (by decide)))

theorem Fits.vectorPass (core : Nat) (slot : Nat) : Fits.Statement (.vectorPass core slot) :=
  fits_of_none rfl

theorem Fits.teamBoost (core : Nat) (slot : Nat) : Fits.Statement (.teamBoost core slot) :=
  fits_of_none rfl

theorem Fits.yieldEnd (core : Nat) (slot : Nat) : Fits.Statement (.yieldEnd core slot) :=
  fits_of_none rfl

theorem Fits.submissionWrite (q : Nat) (val : BitVec 64) : Fits.Statement (.submissionWrite q val) :=
  fits_of_none rfl

theorem Fits.launch (q : Nat) : Fits.Statement (.launch q) :=
  fits_of_none rfl

theorem Fits.write (q : Nat) : Fits.Statement (.write q) :=
  fits_of_none rfl

theorem Fits.wait (q : Nat) : Fits.Statement (.wait q) :=
  fits_of_none rfl

theorem Fits.waitComplete (q : Nat) : Fits.Statement (.waitComplete q) :=
  fits_of_none rfl

theorem Fits.time (q : Nat) : Fits.Statement (.time q) :=
  fits_of_none rfl

theorem Fits.nopPacket (q : Nat) : Fits.Statement (.nopPacket q) :=
  fits_of_none rfl

theorem Fits.queueEnable (q : Nat) : Fits.Statement (.queueEnable q) :=
  fits_of_none rfl

theorem Fits.queueResume (q : Nat) : Fits.Statement (.queueResume q) :=
  fits_of_none rfl

theorem Fits.update : Fits.Statement (.update) :=
  fits_of_none rfl

theorem Fits.standbyImport : Fits.Statement (.standbyImport) :=
  fits_of_none rfl

theorem Fits.updateTakeover : Fits.Statement (.updateTakeover) :=
  fits_of_none rfl

theorem Fits.failover : Fits.Statement (.failover) :=
  fits_of_none rfl

theorem Fits.watchdogTakeover : Fits.Statement (.watchdogTakeover) :=
  fits_of_none rfl

theorem Fits.runListTurnEnd : Fits.Statement (.runListTurnEnd) :=
  fits_of_none rfl

theorem Fits.reset : Fits.Statement (.reset) :=
  fits_of_none rfl

theorem Fits.placementDecision : Fits.Statement (.placementDecision) :=
  fits_of_none rfl

theorem Fits.blockStart (blk : Nat) : Fits.Statement (.blockStart blk) :=
  fits_of_none rfl

theorem Fits.swapThresholdExpiry (blk : Nat) : Fits.Statement (.swapThresholdExpiry blk) :=
  fits_of_none rfl

theorem Fits.swapOutBegin (blk : Nat) : Fits.Statement (.swapOutBegin blk) :=
  fits_of_none rfl

theorem Fits.swapOutComplete (blk : Nat) : Fits.Statement (.swapOutComplete blk) :=
  fits_of_none rfl

theorem Fits.operationStart (core : Nat) (slot : Nat) : Fits.Statement (.operationStart core slot) :=
  fits_of_none rfl

theorem Fits.kstepComplete (op : Nat) : Fits.Statement (.kstepComplete op) :=
  fits_of_none rfl

theorem Fits.drainComplete (op : Nat) : Fits.Statement (.drainComplete op) :=
  fits_of_none rfl

theorem Fits.quantComplete (op : Nat) : Fits.Statement (.quantComplete op) :=
  fits_of_none rfl

theorem Fits.boxIssue (core : Nat) : Fits.Statement (.boxIssue core) :=
  fits_of_none rfl

theorem Fits.boxPause (copy : Nat) (box : Nat) : Fits.Statement (.boxPause copy box) :=
  fits_of_none rfl

theorem Fits.boxComplete (copy : Nat) (box : Nat) : Fits.Statement (.boxComplete copy box) :=
  fits_of_none rfl

theorem Fits.boxFault (copy : Nat) (box : Nat) : Fits.Statement (.boxFault copy box) :=
  fits_of_none rfl

theorem Fits.boxAbort (blk : Nat) : Fits.Statement (.boxAbort blk) :=
  fits_of_none rfl

theorem Fits.lockRequest (core : Nat) (slot : Nat) : Fits.Statement (.lockRequest core slot) :=
  fits_of_none rfl

theorem Fits.lockRelease (obj : Nat) : Fits.Statement (.lockRelease obj) :=
  fits_of_none rfl

theorem Fits.grantDelivery (obj : Nat) : Fits.Statement (.grantDelivery obj) :=
  fits_of_none rfl

theorem Fits.grantWindowClose (obj : Nat) : Fits.Statement (.grantWindowClose obj) :=
  fits_of_none rfl

theorem Fits.lockDeadline (obj : Nat) (team : Nat) : Fits.Statement (.lockDeadline obj team) :=
  fits_of_none rfl

theorem Fits.deadlockProbe (obj : Nat) (team : Nat) : Fits.Statement (.deadlockProbe obj team) :=
  fits_of_none rfl

theorem Fits.probeHop (i : Nat) : Fits.Statement (.probeHop i) :=
  fits_of_none rfl

theorem Fits.graceRecompute (p : Nat) : Fits.Statement (.graceRecompute p) :=
  fits_of_none rfl

theorem Fits.deferredMove (p : Nat) : Fits.Statement (.deferredMove p) :=
  fits_of_none rfl

theorem Fits.headPoll (p : Nat) : Fits.Statement (.headPoll p) :=
  fits_of_none rfl

theorem Fits.graceStallReport (p : Nat) : Fits.Statement (.graceStallReport p) :=
  fits_of_none rfl

theorem Fits.qscResume : Fits.Statement (.qscResume) :=
  fits_of_none rfl

theorem Fits.logicalTimeAdvance (core : Nat) (n : Nat) : Fits.Statement (.logicalTimeAdvance core n) :=
  fits_of_none rfl

theorem Fits.epochChange : Fits.Statement (.epochChange) :=
  fits_of_none rfl

theorem Fits.retentionWake (core : Nat) : Fits.Statement (.retentionWake core) :=
  fits_of_none rfl

theorem Fits.hostSnoop (line : Nat) : Fits.Statement (.hostSnoop line) :=
  fits_of_none rfl

theorem Fits.fenceMarkerAck (path : Nat) (core : Nat) : Fits.Statement (.fenceMarkerAck path core) :=
  fits_of_none rfl

theorem Fits.dieLinkFailure (d1 : Nat) (d2 : Nat) : Fits.Statement (.dieLinkFailure d1 d2) :=
  fits_of_none rfl

theorem Fits.cxlPortFailure (port : Nat) : Fits.Statement (.cxlPortFailure port) :=
  fits_of_none rfl

theorem Fits.invalidationRetry (ok : Bool) : Fits.Statement (.invalidationRetry ok) :=
  fits_of_none rfl

theorem Fits.ualinkPortFailure (port : Nat) : Fits.Statement (.ualinkPortFailure port) :=
  fits_of_none rfl

theorem Fits.remoteRequest (pasid : Nat) (va : BitVec 64) (req : RemoteReq) : Fits.Statement (.remoteRequest pasid va req) :=
  fits_of_none rfl

theorem Fits.eventEntry (core : Nat) : Fits.Statement (.eventEntry core) :=
  fits_of_none rfl

theorem Fits.supervisorTimer (core : Nat) : Fits.Statement (.supervisorTimer core) :=
  fits_of_none rfl

theorem Fits.doorbell (core : Nat) : Fits.Statement (.doorbell core) :=
  fits_of_none rfl

theorem Fits.supresume (core : Nat) : Fits.Statement (.supresume core) :=
  fits_of_none rfl

theorem Fits.mailboxPost : Fits.Statement (.mailboxPost) :=
  fits_of_none rfl

theorem Fits.teamStateDataWrite (port : Nat) (val : BitVec 64) : Fits.Statement (.teamStateDataWrite port val) :=
  fits_of_none rfl

theorem Fits.teamStateDataRead (port : Nat) : Fits.Statement (.teamStateDataRead port) :=
  fits_of_none rfl

theorem Fits.frame (port : Nat) : Fits.Statement (.frame port) :=
  fits_of_none rfl

theorem Fits.kill (port : Nat) : Fits.Statement (.kill port) :=
  fits_of_none rfl

theorem Fits.release (port : Nat) : Fits.Statement (.release port) :=
  fits_of_none rfl

theorem Fits.stop (core : Nat) (place : Nat) : Fits.Statement (.stop core place) :=
  fits_of_none rfl

theorem Fits.blockStopDone : Fits.Statement (.blockStopDone) :=
  fits_of_none rfl

theorem Fits.run (core : Nat) (place : Nat) : Fits.Statement (.run core place) :=
  fits_of_none rfl

theorem Fits.step (core : Nat) (slot : Nat) : Fits.Statement (.step core slot) :=
  fits_of_none rfl

theorem Fits.exec (core : Nat) (slot : Nat) (nbuf : Nat) : Fits.Statement (.exec core slot nbuf) :=
  fits_of_none rfl

theorem Fits.gangstop (core : Nat) : Fits.Statement (.gangstop core) :=
  fits_of_none rfl

theorem Fits.traceEnable (core : Nat) (val : BitVec 64) : Fits.Statement (.traceEnable core val) :=
  fits_of_none rfl

theorem Fits.traceSync (core : Nat) : Fits.Statement (.traceSync core) :=
  fits_of_none rfl

theorem Fits.traceResume (core : Nat) : Fits.Statement (.traceResume core) :=
  fits_of_none rfl

theorem Fits.counterWrap (core : Nat) (e : Nat) : Fits.Statement (.counterWrap core e) :=
  fits_of_none rfl

theorem Fits.shootdownSubmit (val : BitVec 64) : Fits.Statement (.shootdownSubmit val) :=
  fits_of_none rfl

theorem Fits.atsInvalidation (pasid : Nat) (va : BitVec 64) (log2 : Nat) : Fits.Statement (.atsInvalidation pasid va log2) :=
  fits_of_none rfl

theorem Fits.shootdownComplete : Fits.Statement (.shootdownComplete) :=
  fits_of_none rfl

theorem Fits.checkpoint (val : BitVec 64) : Fits.Statement (.checkpoint val) :=
  fits_of_none rfl

theorem Fits.checkpointDone (ok : Bool) : Fits.Statement (.checkpointDone ok) :=
  fits_of_none rfl

theorem Fits.freeze : Fits.Statement (.freeze) :=
  fits_of_none rfl

theorem Fits.unfreeze : Fits.Statement (.unfreeze) :=
  fits_of_none rfl

theorem Fits.unpoison (val : BitVec 64) : Fits.Statement (.unpoison val) :=
  fits_of_none rfl

theorem Fits.slotWrite (val : BitVec 64) : Fits.Statement (.slotWrite val) :=
  fits_of_none rfl

theorem Fits.clockStep (up : Bool) : Fits.Statement (.clockStep up) :=
  fits_of_none rfl

theorem Fits.withholdStep (k : Nat) : Fits.Statement (.withholdStep k) :=
  fits_of_none rfl

theorem Fits.errorDetected (src : Nat) (unit : Nat) (addr : Nat) (ident : BitVec 64) : Fits.Statement (.errorDetected src unit addr ident) :=
  fits_of_none rfl

theorem Fits.errorRetry (ok : Bool) : Fits.Statement (.errorRetry ok) :=
  fits_of_none rfl

theorem Fits.spdmMeasurement (idx : Nat) : Fits.Statement (.spdmMeasurement idx) :=
  fits_of_none rfl

theorem Fits.spdmKeyExchange (port : Nat) : Fits.Statement (.spdmKeyExchange port) :=
  fits_of_none rfl

theorem Fits.registerWrite (off : Nat) (val : RegValue) : Fits.Statement (.registerWrite off val) :=
  fits_of_none rfl

theorem Fits.fetchFault (core : Nat) (slot : Nat) : Fits.Statement (.fetchFault core slot) :=
  fits_of_none rfl

theorem Fits.storePerformed (core : Nat) (i : Nat) : Fits.Statement (.storePerformed core i) :=
  fits_of_none rfl

theorem Fits.hostCxlMemAccess (addr : Nat) (req : HostReq) : Fits.Statement (.hostCxlMemAccess addr req) :=
  fits_of_none rfl

theorem Fits.powerLoss : Fits.Statement (.powerLoss) :=
  fits_of_none rfl

theorem Fits.l1RetentionSleep (core : Nat) : Fits.Statement (.l1RetentionSleep core) :=
  fits_of_none rfl

end Sys2Proof.Laws
end

