-- ==== Sys2Proof/Safety.lean ====
section
/-! DEFINITION. What a safe run is, in the terms the statements use: a run that never stops, the form of memory that every step
keeps, when a team can run an instruction to its end, and the state such an instruction leaves. -/

namespace Sys2Proof

open Machine

/-- The machine's memory has its canonical form (log 5). -/
def MemoryInv (s : State) : Prop := Memory.wf s.mem = true

/-- The step from a state completes: it answers a next state. -/
def Completes (s : State) : Prop := ∃ t, step s = .next t

/-- A run of any length from a state never stops with a fault or a refusal. -/
def SafeRun (s : State) : Prop := ∀ n, ∃ t, Host.Core.run core n s = .next t

/-! ### When an instruction runs to its end -/

/-- Team t issues an instruction that executes once (R20): it stands in the issuing place, its role may issue the instruction
(R24), and no signal return marked it done by lane 0 (R190). -/
def OnceReady (s : State) (t : Team) (need : RoleNeed) : Prop :=
  s.team? s.cur = some t ∧ need.ok t.role = true ∧ t.markedOnce = false

/-- Team t issues a vector instruction with a destination whose lanes read some vector registers: it stands in the issuing place
with the vector role, every register named is below its register count (R25), no register read is poisoned (R433), and all
passes run (R20). -/
def VecReady (s : State) (t : Team) (dst : VDst) (reads : List Nat) : Prop :=
  s.team? s.cur = some t ∧ t.role = .vector ∧ (∀ r ∈ dst.regs ++ reads, r < t.nreg) ∧
    (∀ e ∈ t.vpoison, e.1 ∉ reads) ∧ s.latch.passLimit = none

/-! ### What an instruction leaves -/

/-- After a vector instruction none of whose lanes faults: each active lane has its result and its flags, and the unit is
complete. -/
def vecDone (s : State) (t : Team) (dst : VDst) (f : Nat → LaneOut) : State :=
  s.complete (t.commit dst ((lanesOf t.active t.lanes).map (fun l => (l, f l))))

/-- A vector instruction with 32-bit results and no exceptions. -/
def vecDone32 (s : State) (t : Team) (d : Nat) (nw : Bool) (f : Nat → W32) : State :=
  vecDone s t (.v d nw) (fun l => ⟨(f l).zeroExtend 64, 0⟩)

/-- A vector instruction with 64-bit results and no exceptions. -/
def vecDone64 (s : State) (t : Team) (d : Nat) (nw : Bool) (f : Nat → W64) : State :=
  vecDone s t (.w d nw) (fun l => ⟨f l, 0⟩)

/-- A vector comparison without exceptions: each active lane writes its own bit of mask d. -/
def vecDoneMask (s : State) (t : Team) (d : Nat) (f : Nat → Bool) : State :=
  vecDone s t (.m d) (fun l => ⟨if f l then 1 else 0, 0⟩)

/-- After an instruction that writes one scalar register. -/
def scalarDone (s : State) (t : Team) (d : Nat) (x : W64) : State := s.complete (t.setS d x)

/-- What a floating-point lane leaves: its bits and the exceptions it raises (R203). -/
def fpOut (r : FRes) : LaneOut := ⟨BitVec.ofNat 64 r.bits, r.flags⟩

/-- No active lane raises an exception that the mode word traps (R182). -/
def NoTrap (t : Team) (r : Nat → FRes) : Prop := ∀ l ∈ lanesOf t.active t.lanes, (r l).flags &&& t.traps = 0

/-! ### What an instruction that acts on registers leaves alone -/

/-- What an instruction that acts on its team's registers alone writes: the lanes of a vector destination, one scalar
register, one mask register, or nothing but the PC and the loop stack. -/
inductive Dest where
  | lanes (d : VDst)
  | scalar (d : Nat)
  | mask (d : Nat)
  | flow
  deriving DecidableEq, Repr

/-- The destination of the instructions that act on their team's registers alone (Chapters 13 to 15), and whether they may
raise floating-point exceptions. -/
def destOf (i : Instr) : Option (Dest × Bool) :=
  let v (d : Nat) (nw : Bool) : Option (Dest × Bool) := some (.lanes (.v d nw), false)
  let fv (d : Nat) (nw : Bool) : Option (Dest × Bool) := some (.lanes (.v d nw), true)
  let fw (d : Nat) (nw : Bool) : Option (Dest × Bool) := some (.lanes (.w d nw), true)
  match i with
  | .mov16 d _ | .iadd16 d _ | .isub16 d _ | .imul16 d _ | .and16 d _ | .or16 d _ | .xor16 d _ | .shl16 d _
  | .shr16 d _ | .sar16 d _ | .imin16 d _ | .imax16 d _ => v d false
  | .fadd16 d _ | .fsub16 d _ | .fmul16 d _ | .fmax16 d _ => fv d false
  | .iaddI32 d _ _ nw | .isubI32 d _ _ nw | .imulI32 d _ _ nw | .imadI32 d _ _ nw | .imulhI32 d _ _ nw
  | .imulhN32 d _ _ nw | .iabsI32 d _ nw | .sel d _ _ nw | .idivI32 d _ _ nw | .idivN32 d _ _ nw | .iremI32 d _ _ nw
  | .iremN32 d _ _ nw | .iminI32 d _ _ nw | .iminN32 d _ _ nw | .imaxI32 d _ _ nw | .imaxN32 d _ _ nw | .andV d _ _ nw
  | .orV d _ _ nw | .xorV d _ _ nw | .andn d _ _ nw | .shlN32 d _ _ nw | .shrN32 d _ _ nw | .sarI32 d _ _ nw
  | .rotN32 d _ _ nw | .clz d _ nw | .popc d _ nw | .brev d _ nw | .bfx d _ _ nw | .bfi d _ _ nw | .movV d _ nw
  | .lidV d nw | .iaddI32Imm d _ _ nw | .moviV d _ nw | .shfl d _ _ nw | .bcast d _ _ nw | .scanAddI32 d _ nw
  | .scanMaxI32 d _ nw => v d nw
  | .iaddI64V d _ _ nw | .isubI64V d _ _ nw => some (.lanes (.w d nw), false)
  | .iaddI64S d _ _ | .isubI64S d _ _ | .imulI64 d _ _ | .andS d _ _ | .orS d _ _ | .xorS d _ _ | .shlN64 d _ _
  | .shrN64 d _ _ | .sarI64 d _ _ | .movS d _ | .lidS d | .iaddI64Imm d _ _ | .moviS d _ | .lea d _ | .mpop d _
  | .mfirst d _ | .reduceAddI32 d _ | .reduceMaxI32 d _ => some (.scalar d, false)
  | .reduceAddF32 d _ | .reduceMaxF32 d _ => some (.scalar d, true)
  | .icmpEqI32 d _ _ | .icmpLtI32 d _ _ | .icmpLtN32 d _ _ | .icmpEqI64 d _ _ | .icmpLtI64 d _ _
  | .icmpLtN64 d _ _ => some (.lanes (.m d), false)
  | .fcmpEqF32 d _ _ | .fcmpLtF32 d _ _ | .fcmpLeF32 d _ _ | .fcmpEqF64 d _ _ | .fcmpLtF64 d _ _
  | .fcmpLeF64 d _ _ => some (.lanes (.m d), true)
  | .fpack d _ _ nw | .funpack d _ _ nw | .faddF32 d _ _ nw | .fsubF32 d _ _ nw | .fmulF32 d _ _ nw | .ffmaF32 d _ _ nw
  | .fdivF32 d _ _ nw | .fsqrtF32 d _ nw | .fminF32 d _ _ nw | .fmaxF32 d _ _ nw | .frcp d _ nw | .frsq d _ nw
  | .fexp2 d _ nw | .flog2 d _ nw | .froundF32 d _ nw | .fclassF32 d _ nw | .fclassF64 d _ nw | .ftoiI32F32 d _ nw
  | .itofF32I32 d _ nw | .fcvtF32F64 d _ nw | .fcvtBf16F32 d _ nw | .fcvtF32Bf16 d _ nw | .fcvtF16F32 d _ nw
  | .fcvtF32F16 d _ nw | .fcvtNfF32 d _ _ nw | .fcvtF32Nf d _ _ nw | .scanAddF32 d _ nw | .scanMaxF32 d _ nw => fv d nw
  | .faddF64 d _ _ nw | .fsubF64 d _ _ nw | .fmulF64 d _ _ nw | .ffmaF64 d _ _ nw | .fdivF64 d _ _ nw | .fsqrtF64 d _ nw
  | .fminF64 d _ _ nw | .fmaxF64 d _ _ nw | .froundF64 d _ nw | .fcvtF64F32 d _ nw => fw d nw
  | .mand d _ _ | .mor d _ _ | .mxor d _ _ | .mnot d _ | .mmov d _ => some (.mask d, false)
  | .call _ => some (.scalar 63, false)
  | .jmpr _ | .ret | .lbrk | .yield | .bra _ | .bzM _ _ | .bnzM _ _ | .ball _ _ | .bzS _ _ | .bnzS _ _ | .loop _ _
  | .nop => some (.flow, false)
  | _ => none

/-- Nothing outside the issuing team changes but what parking it changes (R175, R401, R405): SEQ, the replay queue of its
core and, for a supervisor, the mailbox. -/
def OnlyTeam (s s' : State) : Prop :=
  s'.mem = s.mem ∧ (∀ p, p ≠ s.cur → s'.team? p = s.team? p) ∧
  (∀ c, { s'.core c with teams := (s.core c).teams, replay := (s.core c).replay } = s.core c ∧ (c ≠ s.cur.1 → s'.core c = s.core c)) ∧
  { s' with cores := s.cores, seq := s.seq, mailOut := s.mailOut } = s

/-- The registers of a team that an instruction with a destination leaves alone. -/
def TeamKeeps (t t' : Team) (d : Dest) (flags : Bool) : Prop :=
  (∀ k, d ≠ .scalar k → t'.s k = t.s k) ∧
  (∀ k, d ≠ .mask k → d ≠ .lanes (.m k) → t'.mreg k = t.mreg k) ∧
  (∀ k l, d = .lanes (.m k) → l < t.lanes → t.active.getLsbD l = false → (t'.mreg k).getLsbD l = (t.mreg k).getLsbD l) ∧
  (∀ r l, (∀ x, d = .lanes x → r ∈ x.regs → t.active.getLsbD l = false ∨ t.lanes ≤ l) → t'.vreg r l = t.vreg r l) ∧
  (∀ l, (∀ x, d = .lanes x → t.active.getLsbD l = false ∨ t.lanes ≤ l) → t'.latches l = t.latches l) ∧
  (flags = false → t'.sticky = t.sticky) ∧
  t'.fpmode = t.fpmode ∧ t'.issued = t.issued ∧ t'.drained = t.drained ∧ t'.copyIssued = t.copyIssued ∧
  t'.copyDone = t.copyDone ∧ t'.held = t.held ∧ t'.qsGen = t.qsGen ∧ t'.extQuiet = t.extQuiet ∧ t'.sigstk = t.sigstk ∧
  t'.halted = t.halted ∧ t'.obs = t.obs ∧ t'.lost = t.lost ∧ t'.role = t.role ∧ t'.lanes = t.lanes ∧ t'.nreg = t.nreg ∧
  (t'.parked = false → t'.record = t.record)

/-! ### Memory instructions that run to their end -/

/-- The wait of a release for the team's earlier stores is over (R100): the state and the team it goes on with. -/
def Released (s : State) (t : Team) (rel : Bool) (scope : Scope) (s' : State) (t' : Team) : Prop :=
  if rel then s.storesComplete scope allStores = .done s' ∧ s'.team? s'.cur = some t' else s' = s ∧ t' = t

/-- The lanes of a memory instruction one after another, each answering the state after it and the write stamp it saw, when
none of them faults or is held; each that completes is marked done (R30). -/
def lanesRun (lane : State → Team → Nat → MemRes) : List Nat → State → Nat → Option (State × Nat)
  | [], s, w => some (s, w)
  | l :: ls, s, w =>
    match s.team? s.cur with
    | none => none
    | some t =>
      match lane s t l with
      | .ok s1 w1 => lanesRun lane ls (s1.modTeam s1.cur (fun t => t.markDone l)) (max w w1)
      | _ => none

/-- The lanes of one pass run, and then no later lane joins their accesses (R305). -/
def passRun (lane : State → Team → Nat → MemRes) (uid : Nat) (r : Option (State × Nat)) (ls : List Nat) : Option (State × Nat) :=
  r.bind (fun x => (lanesRun lane ls x.1 x.2).map (fun y => (y.1.endPass y.1.cur.1 uid, y.2)))

/-- All lanes of a vector memory instruction ran, pass by pass (R20), and none is left active. -/
def LanesDone (lane : State → Team → Nat → MemRes) (s : State) (t : Team) (s' : State) (w : Nat) : Prop :=
  (List.range t.words).foldl (fun r j => passRun lane t.uid r ((lanesOf t.active t.lanes).filter (fun l => l / 32 == j))) (some (s, 0)) =
      some (s', w) ∧
    ∃ t', s'.team? s'.cur = some t' ∧ lanesOf t'.active t'.lanes = []

/-- After the lanes `ls` of a vector memory instruction: the team saw their stamps, or, for an acquire of any lane, the core's
logical time takes them (R91, R95, R300); then the unit is complete. -/
def memDone (s : State) (acq : Bool) (ls : List Nat) (w : Nat) : State :=
  (if acq then (if ls = [] then s else s.acquireLoad w) else s.sawStamp w).completeWith id

/-- After a scalar load or atomic that writes a register (R95, R296). -/
def loadDone (s : State) (acq : Bool) (w d x : Nat) : State :=
  (if acq then s.acquireLoad w else s.sawStamp w).completeWith (fun t => t.setS d (BitVec.ofNat 64 x))

/-! ### Tile instructions that run to their end -/

/-- An instruction that names some physical entries, each on a core, has no fault to report there (R153, R316): none of its team's
operations with a part on one of them, and none of its copies that is not cancelled, has an unreported fault, and none of the
entries is marked. -/
def EntriesClearAt (s : State) (t : Team) (es : List (Nat × Nat)) : Prop :=
  let onOne (c : Nat) (k : Core) (o : MatOp) : Bool := !o.isQuant && (o.phys k).any (fun e => es.contains (c, e))
  let issues : List Nat := s.cores.flatMap (fun d => (d.2.ops.filter (onOne d.1 d.2)).map (·.issue))
  s.reportDue t (fun _ o => !o.isQuant && issues.contains o.issue)
    (fun y => !y.cancelled && (y.entry? (s.core s.cur.1)).any (fun e => es.contains (s.cur.1, e))) = none ∧
  ∀ e ∈ es, ((s.core e.1).tile e.2).faulted = false

/-- The same of entries of the issuing core. -/
def EntriesClear (s : State) (t : Team) (es : List Nat) : Prop := EntriesClearAt s t (es.map (fun e => (s.cur.1, e)))

/-- Team t of block b names local entry n, which the block holds as physical entry e, and nothing is to report there (R315). -/
def TileNamed (s : State) (t : Team) (need : RoleNeed) (b : Block) (slot : Bool) (n e : Nat) : Prop :=
  OnceReady s t need ∧ s.blockOf s.cur.1 t = some b ∧ b.entry? slot n = some e ∧ EntriesClear s t [e]

/-! ### Packets that pass their checks -/

/-- The entry of queue q lies in memory that the front end can write (R366): there is memory there, on a link that carries, and its line
is not poisoned. -/
def QueueEntryThere (s : State) (q : Nat) : Prop :=
  (match regionOf (s.queueAddr q 2) with
   | .hbm | .cxl _ => True
   | .host => s.fenced.contains 120 = false
   | _ => False) ∧ s.cxlHole (s.queueAddr q 2) = false ∧ s.poisoned (s.queueAddr q 2 / 128) = false

/-- The front end reads a well-formed packet of a type at the HEAD of queue q (R367, R371): the queue is served and its entry can be
written, both lines of the slot can be read once the captured writes are consumed, the slot is valid, its trailer has the type and no reserved
bit, and no
packet in flight holds it back. -/
def PacketRead (s : State) (q type : Nat) (s1 : State) (raw : Nat) : Prop :=
  s.queueRuns q = true ∧ s.queueHeld q = false ∧ (∃ p, s.consume.slotPlace q = (.ok p, s1) ∧ raw = s1.agentRead p 256) ∧
  (let tr := fld raw 2016 32
   fld tr 24 8 = s1.slotValid q (s.queueHead q) ∧ tr % 256 = type ∧ fld tr 16 8 = 0 ∧
   (fld tr 12 4 = 0 ∨ fld tr 12 4 = 3 ∨ fld tr 12 4 = 4 ∨ fld tr 12 4 = 5) ∧
   (fld tr 8 4 = 0 ∨ fld tr 8 4 = 1 ∧ ∀ x ∈ s1.fe.inFlight, x.queue ≠ q))

end Sys2Proof
end

