-- ==== Sys2Proof/Certificates/Slice0/Obligations.lean ====
section
/-! DEFINITION. The statements for the provers. -/

open Sys2Proof Sys2Proof.Machine

/-- R248: every integer arithmetic value, in vector and scalar form, with and without an immediate. -/
def Obligations.IntegerArithmetic : Prop :=
  (∀ s t d a b nw, VecReady s t (.v d nw) (vregsOf a ++ vregsOf b) →
    let r (f : W32 → W32 → W32) : Result := .next (vecDone32 s t d nw (fun l => f (t.src a l) (t.src b l)))
    exec (.iaddI32 d a b nw) s = r (fun x y => BitVec.ofNat 32 (x.toNat + y.toNat)) ∧
    exec (.isubI32 d a b nw) s = r (fun x y => BitVec.ofInt 32 (x.toInt - y.toInt)) ∧
    exec (.imulI32 d a b nw) s = r (fun x y => BitVec.ofNat 32 (x.toNat * y.toNat)) ∧
    exec (.imulhI32 d a b nw) s = r (fun x y => BitVec.ofInt 32 (x.toInt * y.toInt / 2 ^ 32)) ∧
    exec (.imulhN32 d a b nw) s = r (fun x y => BitVec.ofNat 32 (x.toNat * y.toNat / 2 ^ 32)) ∧
    exec (.iminI32 d a b nw) s = r (fun x y => if x.toInt ≤ y.toInt then x else y) ∧
    exec (.imaxI32 d a b nw) s = r (fun x y => if x.toInt ≤ y.toInt then y else x) ∧
    exec (.iminN32 d a b nw) s = r (fun x y => if x.toNat ≤ y.toNat then x else y) ∧
    exec (.imaxN32 d a b nw) s = r (fun x y => if x.toNat ≤ y.toNat then y else x)) ∧
  (∀ s t d a b nw, VecReady s t (.v d nw) (d :: (vregsOf a ++ vregsOf b)) →
    exec (.imadI32 d a b nw) s =
      .next (vecDone32 s t d nw (fun l =>
        BitVec.ofNat 32 ((t.vreg d l).toNat + (t.src a l).toNat * (t.src b l).toNat)))) ∧
  (∀ s t d a imm nw, VecReady s t (.v d nw) (vregsOf a) →
    exec (.iabsI32 d a nw) s = .next (vecDone32 s t d nw (fun l => BitVec.ofInt 32 |(t.src a l).toInt|)) ∧
    exec (.iaddI32Imm d a imm nw) s = .next (vecDone32 s t d nw (fun l => BitVec.ofInt 32 ((t.src a l).toInt + imm)))) ∧
  (∀ s t d a b nw, VecReady s t (.w d nw) [a, a + 1, b, b + 1] →
    exec (.iaddI64V d a b nw) s =
      .next (vecDone64 s t d nw (fun l => BitVec.ofNat 64 ((t.pair a l).toNat + (t.pair b l).toNat))) ∧
    exec (.isubI64V d a b nw) s =
      .next (vecDone64 s t d nw (fun l => BitVec.ofInt 64 ((t.pair a l).toInt - (t.pair b l).toInt)))) ∧
  (∀ s t d a b imm, OnceReady s t .any →
    exec (.iaddI64S d a b) s = .next (scalarDone s t d (BitVec.ofNat 64 ((t.s a).toNat + (t.s b).toNat))) ∧
    exec (.isubI64S d a b) s = .next (scalarDone s t d (BitVec.ofInt 64 ((t.s a).toInt - (t.s b).toInt))) ∧
    exec (.imulI64 d a b) s = .next (scalarDone s t d (BitVec.ofNat 64 ((t.s a).toNat * (t.s b).toNat))) ∧
    exec (.iaddI64Imm d a imm) s = .next (scalarDone s t d (BitVec.ofInt 64 ((t.s a).toInt + imm))))

/-- R249: a division none of whose active lanes divides by zero gives the quotient rounded toward zero, or the remainder with the
sign of the dividend. -/
def Obligations.IntegerDivision : Prop :=
  ∀ s t d a b nw, VecReady s t (.v d nw) (vregsOf a ++ vregsOf b) →
    (∀ l ∈ lanesOf t.active t.lanes, t.src b l ≠ 0) →
    let r (f : W32 → W32 → W32) : Result := .next (vecDone32 s t d nw (fun l => f (t.src a l) (t.src b l)))
    exec (.idivI32 d a b nw) s = r (fun x y => BitVec.ofInt 32 (x.toInt.tdiv y.toInt)) ∧
    exec (.idivN32 d a b nw) s = r (fun x y => BitVec.ofNat 32 (x.toNat / y.toNat)) ∧
    exec (.iremI32 d a b nw) s = r (fun x y => BitVec.ofInt 32 (x.toInt - y.toInt * x.toInt.tdiv y.toInt)) ∧
    exec (.iremN32 d a b nw) s = r (fun x y => BitVec.ofNat 32 (x.toNat % y.toNat))

/-- R249, R32, R176: the active lanes that divide by zero fault together with `F.DIVZ`, address 0, once every other active lane has
its result. R182, R176: lanes that raise an exception the mode word traps fault with `F.FPE` and change nothing; the others
complete. Stated for `fadd.f32`. -/
def Obligations.LaneFaults : Prop :=
  (∀ s t d a b nw, VecReady s t (.v d nw) (vregsOf a ++ vregsOf b) →
     (∃ l ∈ lanesOf t.active t.lanes, t.src b l = 0) →
     let ls := lanesOf t.active t.lanes
     let bad := ls.filter (fun l => t.src b l == 0)
     let good := ls.filter (fun l => t.src b l != 0)
     let r (sub : Nat) (f : W32 → W32 → W32) : Result :=
       .next (s.unitFault
         (t.commit (.v d nw) (good.map (fun l => (l, (⟨(f (t.src a l) (t.src b l)).zeroExtend 64, 0⟩ : LaneOut)))))
         (faultOf 0x10 sub 0 (maskOf bad)))
     exec (.idivI32 d a b nw) s = r 1 (fun x y => BitVec.ofInt 32 (x.toInt.tdiv y.toInt)) ∧
     exec (.idivN32 d a b nw) s = r 1 (fun x y => BitVec.ofNat 32 (x.toNat / y.toNat)) ∧
     exec (.iremI32 d a b nw) s = r 2 (fun x y => BitVec.ofInt 32 (x.toInt - y.toInt * x.toInt.tdiv y.toInt)) ∧
     exec (.iremN32 d a b nw) s = r 2 (fun x y => BitVec.ofNat 32 (x.toNat % y.toNat))) ∧
  (∀ s t d a b nw, VecReady s t (.v d nw) (vregsOf a ++ vregsOf b) →
     let r (l : Nat) : FRes := f32.add t.rm (t.rflush .c32) (t.f32src a l) (t.f32src b l)
     let ls := lanesOf t.active t.lanes
     let bad := ls.filter (fun l => (r l).flags &&& t.traps != 0)
     let good := ls.filter (fun l => (r l).flags &&& t.traps == 0)
     ∀ l0 rest, bad = l0 :: rest →
       exec (.faddF32 d a b nw) s =
         .next (s.unitFault (t.commit (.v d nw) (good.map (fun l => (l, fpOut (r l)))))
           (faultOf 0x11 (r l0).flags.toNat 0 (maskOf (bad.filter (fun l => (r l).flags.toNat == (r l0).flags.toNat))))))

/-- R250: the bitwise and shift values. The count is the whole of the second operand, except for `rot`. R251: `clz`, `popc` and
`brev`. The count of leading zeros k is the one with x div 2^(31 - k) = 1; `popc` counts the 1 bits; bit i of the source is bit
31 - i of the result of `brev`. -/
def Obligations.BitOperations : Prop :=
  ((∀ s t d a b nw, VecReady s t (.v d nw) (vregsOf a ++ vregsOf b) →
     let r (f : W32 → W32 → W32) : Result := .next (vecDone32 s t d nw (fun l => f (t.src a l) (t.src b l)))
     exec (.andV d a b nw) s = r (fun x y => x &&& y) ∧
     exec (.orV d a b nw) s = r (fun x y => x ||| y) ∧
     exec (.xorV d a b nw) s = r (fun x y => x ^^^ y) ∧
     exec (.andn d a b nw) s = r (fun x y => x &&& ~~~y) ∧
     exec (.shlN32 d a b nw) s = r (fun x y => if 32 ≤ y.toNat then 0 else BitVec.ofNat 32 (x.toNat * 2 ^ y.toNat)) ∧
     exec (.shrN32 d a b nw) s = r (fun x y => if 32 ≤ y.toNat then 0 else BitVec.ofNat 32 (x.toNat / 2 ^ y.toNat)) ∧
     exec (.sarI32 d a b nw) s =
       r (fun x y => if 32 ≤ y.toNat then (if x.msb then BitVec.allOnes 32 else 0) else BitVec.ofInt 32 (x.toInt / 2 ^ y.toNat)) ∧
     exec (.rotN32 d a b nw) s = r (fun x y => x.rotateLeft (y.toNat % 32))) ∧
   (∀ s t d a b, OnceReady s t .any →
     let r (f : W64 → W64 → W64) : Result := .next (scalarDone s t d (f (t.s a) (t.s b)))
     exec (.andS d a b) s = r (fun x y => x &&& y) ∧
     exec (.orS d a b) s = r (fun x y => x ||| y) ∧
     exec (.xorS d a b) s = r (fun x y => x ^^^ y) ∧
     exec (.shlN64 d a b) s = r (fun x y => if 64 ≤ y.toNat then 0 else BitVec.ofNat 64 (x.toNat * 2 ^ y.toNat)) ∧
     exec (.shrN64 d a b) s = r (fun x y => if 64 ≤ y.toNat then 0 else BitVec.ofNat 64 (x.toNat / 2 ^ y.toNat)) ∧
     exec (.sarI64 d a b) s =
       r (fun x y => if 64 ≤ y.toNat then (if x.msb then BitVec.allOnes 64 else 0) else BitVec.ofInt 64 (x.toInt / 2 ^ y.toNat)))) ∧
  (∀ s t d a nw, VecReady s t (.v d nw) (vregsOf a) →
     (∃ f : W32 → W32, exec (.clz d a nw) s = .next (vecDone32 s t d nw (fun l => f (t.src a l))) ∧
       f 0 = 32 ∧ ∀ x, x ≠ 0 → (f x).toNat < 32 ∧ x.toNat / 2 ^ (31 - (f x).toNat) = 1) ∧
     (∃ f : W32 → W32, exec (.popc d a nw) s = .next (vecDone32 s t d nw (fun l => f (t.src a l))) ∧
       ∀ x, (f x).toNat = ((List.range 32).filter (fun i => x.getLsbD i)).length) ∧
     (∃ f : W32 → W32, exec (.brev d a nw) s = .next (vecDone32 s t d nw (fun l => f (t.src a l))) ∧
       ∀ x i, i < 32 → (f x).getLsbD (31 - i) = x.getLsbD i))

/-- R252, R254, R255, R257, R258: bit fields, select, moves, constants, addresses and identifiers. -/
def Obligations.FieldsAndMoves : Prop :=
  (∀ s t d a b nw, VecReady s t (.v d nw) (vregsOf a ++ vregsOf b) →
    exec (.bfx d a b nw) s = .next (vecDone32 s t d nw (fun l =>
      let x := t.src a l
      let k := fieldWidth (t.src b l)
      let f := x.toNat / 2 ^ fieldPos (t.src b l) % 2 ^ k
      if (t.src b l).getLsbD 16 ∧ 0 < k then BitVec.ofInt 32 (Int.bmod f (2 ^ k)) else BitVec.ofNat 32 f))) ∧
  (∀ s t d a b nw, VecReady s t (.v d nw) (d :: (vregsOf a ++ vregsOf b)) →
    ∃ f : Nat → W32, exec (.bfi d a b nw) s = .next (vecDone32 s t d nw f) ∧
      ∀ l i, i < 32 → (f l).getLsbD i =
        (let p := fieldPos (t.src b l)
         if p ≤ i ∧ i < p + fieldWidth (t.src b l) then (t.src a l).getLsbD (i - p) else (t.vreg d l).getLsbD i)) ∧
  (∀ s t d a b nw, VecReady s t (.v d nw) (d :: vregsOf a) →
    exec (.sel d a b nw) s =
      .next (vecDone32 s t d nw (fun l => if (t.mreg b).getLsbD l then t.src a l else t.vreg d l))) ∧
  (∀ s t d a nw, VecReady s t (.v d nw) (vregsOf a) →
    exec (.movV d a nw) s = .next (vecDone32 s t d nw (fun l => t.src a l))) ∧
  (∀ s t d imm nw, VecReady s t (.v d nw) [] →
    exec (.moviV d imm nw) s = .next (vecDone32 s t d nw (fun _ => BitVec.ofInt 32 imm)) ∧
    exec (.lidV d nw) s = .next (vecDone32 s t d nw (fun l => BitVec.ofNat 32 l))) ∧
  (∀ s t d a imm, OnceReady s t .any →
    exec (.movS d a) s = .next (scalarDone s t d (t.s a)) ∧
    exec (.moviS d imm) s = .next (scalarDone s t d (BitVec.ofInt 64 imm)) ∧
    exec (.lea d imm) s = .next (scalarDone s t d (wide s.latch.word + BitVec.ofInt 64 (2 * imm))) ∧
    exec (.lidS d) s = .next (scalarDone s t d (identWord t (s.blockOf s.cur.1 t))))

/-- R253: a comparison writes the bit of each active lane of a mask, or 1 or 0 to a scalar. R263, R267: a floating-point comparison
writes the bit of each active lane of a mask; `eq` is quiet, `lt` and `le` raise invalid for a quiet NaN too. -/
def Obligations.Comparisons : Prop :=
  ((∀ s t d a b, VecReady s t (.m d) (vregsOf a ++ vregsOf b) →
     let r (f : W32 → W32 → Bool) : Result := .next (vecDoneMask s t d (fun l => f (t.src a l) (t.src b l)))
     exec (.icmpEqI32 d a b) s = r (fun x y => decide (x.toNat = y.toNat)) ∧
     exec (.icmpLtI32 d a b) s = r (fun x y => decide (x.toInt < y.toInt)) ∧
     exec (.icmpLtN32 d a b) s = r (fun x y => decide (x.toNat < y.toNat))) ∧
   (∀ s t d a b, OnceReady s t .any →
     let r (f : W64 → W64 → Prop) [∀ x y, Decidable (f x y)] : Result :=
       .next (scalarDone s t d (if f (t.s a) (t.s b) then 1 else 0))
     exec (.icmpEqI64 d a b) s = r (fun x y => x.toNat = y.toNat) ∧
     exec (.icmpLtI64 d a b) s = r (fun x y => x.toInt < y.toInt) ∧
     exec (.icmpLtN64 d a b) s = r (fun x y => x.toNat < y.toNat))) ∧
  ((∀ s t d a b, VecReady s t (.m d) (vregsOf a ++ vregsOf b) →
     let x (l : Nat) : FVal := t.f32src a l
     let y (l : Nat) : FVal := t.f32src b l
     let r (i : Instr) (f : Nat → FRes) : Prop := NoTrap t f → exec i s = .next (vecDone s t (.m d) (fun l => fpOut (f l)))
     r (.fcmpEqF32 d a b) (fun l => cmpRes false FVal.eqv (x l) (y l)) ∧
     r (.fcmpLtF32 d a b) (fun l => cmpRes true FVal.lt (x l) (y l)) ∧
     r (.fcmpLeF32 d a b) (fun l => cmpRes true (fun u v => u.lt v || u.eqv v) (x l) (y l))) ∧
   (∀ s t d a b, VecReady s t (.m d) [a, a + 1, b, b + 1] →
     let x (l : Nat) : FVal := t.f64pair a l
     let y (l : Nat) : FVal := t.f64pair b l
     let r (i : Instr) (f : Nat → FRes) : Prop := NoTrap t f → exec i s = .next (vecDone s t (.m d) (fun l => fpOut (f l)))
     r (.fcmpEqF64 d a b) (fun l => cmpRes false FVal.eqv (x l) (y l)) ∧
     r (.fcmpLtF64 d a b) (fun l => cmpRes true FVal.lt (x l) (y l)) ∧
     r (.fcmpLeF64 d a b) (fun l => cmpRes true (fun u v => u.lt v || u.eqv v) (x l) (y l))))

/-- R212: a 16-bit form of an integer value acts as its 32-bit value with the destination as first source; `mov` reads its source
alone. -/
def Obligations.NarrowForms : Prop :=
  (∀ s t d a, VecReady s t (.v d false) [a] → exec (.mov16 d a) s = .next (vecDone32 s t d false (fun l => t.vreg a l))) ∧
  ∀ s t d a, VecReady s t (.v d false) [d, a] →
    let r (f : W32 → W32 → W32) : Result := .next (vecDone32 s t d false (fun l => f (t.vreg d l) (t.vreg a l)))
    exec (.iadd16 d a) s = r (fun x y => BitVec.ofNat 32 (x.toNat + y.toNat)) ∧
    exec (.isub16 d a) s = r (fun x y => BitVec.ofInt 32 (x.toInt - y.toInt)) ∧
    exec (.imul16 d a) s = r (fun x y => BitVec.ofNat 32 (x.toNat * y.toNat)) ∧
    exec (.and16 d a) s = r (fun x y => x &&& y) ∧
    exec (.or16 d a) s = r (fun x y => x ||| y) ∧
    exec (.xor16 d a) s = r (fun x y => x ^^^ y) ∧
    exec (.shl16 d a) s = r (fun x y => if 32 ≤ y.toNat then 0 else BitVec.ofNat 32 (x.toNat * 2 ^ y.toNat)) ∧
    exec (.shr16 d a) s = r (fun x y => if 32 ≤ y.toNat then 0 else BitVec.ofNat 32 (x.toNat / 2 ^ y.toNat)) ∧
    exec (.sar16 d a) s =
      r (fun x y => if 32 ≤ y.toNat then (if x.msb then BitVec.allOnes 32 else 0) else BitVec.ofInt 32 (x.toInt / 2 ^ y.toNat)) ∧
    exec (.imin16 d a) s = r (fun x y => if x.toInt ≤ y.toInt then x else y) ∧
    exec (.imax16 d a) s = r (fun x y => if x.toInt ≤ y.toInt then y else x)

/-- R261 to R271 for FP32: each active lane has the result of its value, rounded once, and its flags; none is trapped. Two clauses
are the model's reading: the sign of a difference of two zeros in `fsub` (log 100, DEDUCED), and that `fexp2` and `flog2` are
rounded from 240 fraction bits (log 11, DEDUCED). R261 to R270 for FP64: each active lane has the result of its value, rounded
once, and its flags; none is trapped. The sign of a difference of two zeros is log 100 again. -/
def Obligations.FpArithmetic : Prop :=
  ((∀ s t d a b nw, VecReady s t (.v d nw) (vregsOf a ++ vregsOf b) →
     let x (l : Nat) : FVal := t.f32src a l
     let y (l : Nat) : FVal := t.f32src b l
     let r (i : Instr) (f : Nat → FRes) : Prop := NoTrap t f → exec i s = .next (vecDone s t (.v d nw) (fun l => fpOut (f l)))
     r (.faddF32 d a b nw) (fun l => f32.add t.rm (t.rflush .c32) (x l) (y l)) ∧
     r (.fsubF32 d a b nw) (fun l => f32.sub t.rm (t.rflush .c32) (x l) (y l)) ∧
     r (.fmulF32 d a b nw) (fun l => f32.mul t.rm (t.rflush .c32) (x l) (y l)) ∧
     r (.fdivF32 d a b nw) (fun l => f32.div t.rm (t.rflush .c32) (x l) (y l)) ∧
     r (.fminF32 d a b nw) (fun l => f32.minmax false (t.rflush .c32) (x l) (y l)) ∧
     r (.fmaxF32 d a b nw) (fun l => f32.minmax true (t.rflush .c32) (x l) (y l))) ∧
   (∀ s t d a b nw, VecReady s t (.v d nw) (d :: (vregsOf a ++ vregsOf b)) →
     NoTrap t (fun l => f32.fma t.rm (t.rflush .c32) (t.f32reg d l) (t.f32src a l) (t.f32src b l)) →
     exec (.ffmaF32 d a b nw) s = .next (vecDone s t (.v d nw) (fun l =>
       fpOut (f32.fma t.rm (t.rflush .c32) (t.f32reg d l) (t.f32src a l) (t.f32src b l))))) ∧
   (∀ s t d a nw, VecReady s t (.v d nw) (vregsOf a) →
     let x (l : Nat) : FVal := t.f32src a l
     let r (i : Instr) (f : Nat → FRes) : Prop := NoTrap t f → exec i s = .next (vecDone s t (.v d nw) (fun l => fpOut (f l)))
     r (.fsqrtF32 d a nw) (fun l => f32.sqrt t.rm (t.rflush .c32) (x l)) ∧
     r (.frcp d a nw) (fun l => frcpVal (t.rflush .c32) (x l)) ∧
     r (.frsq d a nw) (fun l => frsqVal (t.rflush .c32) (x l)) ∧
     r (.fexp2 d a nw) (fun l => fexp2Val (t.rflush .c32) (x l)) ∧
     r (.flog2 d a nw) (fun l => flog2Val (t.rflush .c32) (x l)) ∧
     r (.froundF32 d a nw) (fun l => f32.fround t.rm (x l))) ∧
   (∀ s t d a, VecReady s t (.v d false) [d, a] →
     let x (l : Nat) : FVal := t.f32reg d l
     let y (l : Nat) : FVal := t.f32reg a l
     let r (i : Instr) (f : Nat → FRes) : Prop := NoTrap t f → exec i s = .next (vecDone s t (.v d false) (fun l => fpOut (f l)))
     r (.fadd16 d a) (fun l => f32.add t.rm (t.rflush .c32) (x l) (y l)) ∧
     r (.fsub16 d a) (fun l => f32.sub t.rm (t.rflush .c32) (x l) (y l)) ∧
     r (.fmul16 d a) (fun l => f32.mul t.rm (t.rflush .c32) (x l) (y l)) ∧
     r (.fmax16 d a) (fun l => f32.minmax true (t.rflush .c32) (x l) (y l)))) ∧
  ((∀ s t d a b nw, VecReady s t (.w d nw) [a, a + 1, b, b + 1] →
     let x (l : Nat) : FVal := t.f64pair a l
     let y (l : Nat) : FVal := t.f64pair b l
     let r (i : Instr) (f : Nat → FRes) : Prop := NoTrap t f → exec i s = .next (vecDone s t (.w d nw) (fun l => fpOut (f l)))
     r (.faddF64 d a b nw) (fun l => f64.add t.rm (t.rflush .c64) (x l) (y l)) ∧
     r (.fsubF64 d a b nw) (fun l => f64.sub t.rm (t.rflush .c64) (x l) (y l)) ∧
     r (.fmulF64 d a b nw) (fun l => f64.mul t.rm (t.rflush .c64) (x l) (y l)) ∧
     r (.fdivF64 d a b nw) (fun l => f64.div t.rm (t.rflush .c64) (x l) (y l)) ∧
     r (.fminF64 d a b nw) (fun l => f64.minmax false (t.rflush .c64) (x l) (y l)) ∧
     r (.fmaxF64 d a b nw) (fun l => f64.minmax true (t.rflush .c64) (x l) (y l))) ∧
   (∀ s t d a b nw, VecReady s t (.w d nw) [d, d + 1, a, a + 1, b, b + 1] →
     NoTrap t (fun l => f64.fma t.rm (t.rflush .c64) (t.f64pair d l) (t.f64pair a l) (t.f64pair b l)) →
     exec (.ffmaF64 d a b nw) s = .next (vecDone s t (.w d nw) (fun l =>
       fpOut (f64.fma t.rm (t.rflush .c64) (t.f64pair d l) (t.f64pair a l) (t.f64pair b l))))) ∧
   (∀ s t d a nw, VecReady s t (.w d nw) [a, a + 1] →
     let x (l : Nat) : FVal := t.f64pair a l
     let r (i : Instr) (f : Nat → FRes) : Prop := NoTrap t f → exec i s = .next (vecDone s t (.w d nw) (fun l => fpOut (f l)))
     r (.fsqrtF64 d a nw) (fun l => f64.sqrt t.rm (t.rflush .c64) (x l)) ∧
     r (.froundF64 d a nw) (fun l => f64.fround t.rm (x l))))

/-- R271: conversions between integers and the formats of fixed width. R272, R273: conversions to and from a narrow format named by
a valid format word, and the packing of one element. -/
def Obligations.FpConversions : Prop :=
  ((∀ s t d a nw, VecReady s t (.v d nw) (vregsOf a) →
     let x (l : Nat) : FVal := t.f32src a l
     let h (l : Nat) : Nat := (t.src a l).toNat % 2 ^ 16
     let r (i : Instr) (f : Nat → FRes) : Prop := NoTrap t f → exec i s = .next (vecDone s t (.v d nw) (fun l => fpOut (f l)))
     r (.ftoiI32F32 d a nw) (fun l =>
       let y := toInt t.rm (-(2 ^ 31)) (2 ^ 31 - 1) (x l)
       ⟨(y.1 % 2 ^ 32).toNat, y.2⟩) ∧
     r (.itofF32I32 d a nw) (fun l => f32.round t.rm false (t.src a l).msb (t.src a l).toInt.natAbs 0 false) ∧
     r (.fcvtBf16F32 d a nw) (fun l => bf16.ofVal t.rm (t.rflush .c16) (x l)) ∧
     r (.fcvtF32Bf16 d a nw) (fun l => f32.ofVal t.rm (t.rflush .c32) (bf16.decIn (t.iflush .c16) (h l))) ∧
     r (.fcvtF16F32 d a nw) (fun l => f16.ofVal t.rm (t.rflush .c16) (x l)) ∧
     r (.fcvtF32F16 d a nw) (fun l => f32.ofVal t.rm (t.rflush .c32) (f16.decIn (t.iflush .c16) (h l)))) ∧
   (∀ s t d a nw, VecReady s t (.w d nw) (vregsOf a) → NoTrap t (fun l => f64.ofVal t.rm (t.rflush .c64) (t.f32src a l)) →
     exec (.fcvtF64F32 d a nw) s = .next (vecDone s t (.w d nw) (fun l =>
       fpOut (f64.ofVal t.rm (t.rflush .c64) (t.f32src a l))))) ∧
   (∀ s t d a nw, VecReady s t (.v d nw) [a, a + 1] → NoTrap t (fun l => f32.ofVal t.rm (t.rflush .c32) (t.f64pair a l)) →
     exec (.fcvtF32F64 d a nw) s = .next (vecDone s t (.v d nw) (fun l =>
       fpOut (f32.ofVal t.rm (t.rflush .c32) (t.f64pair a l)))))) ∧
  (∀ s t d a b nw, nfValid ((t.s b).truncate 32) = true →
     let f := NFmt.of ((t.s b).truncate 32)
     let i := (t.s b).toNat / 2 ^ 32 % 256
     (VecReady s t (.v d nw) (vregsOf a) →
       let r (j : Instr) (g : Nat → FRes) : Prop := NoTrap t g → exec j s = .next (vecDone s t (.v d nw) (fun l => fpOut (g l)))
       r (.fcvtNfF32 d a b nw) (fun l => f.narrow t.rm (t.rflush .narrow) (t.f32src a l)) ∧
       r (.fcvtF32Nf d a b nw) (fun l => f32.ofVal t.rm (t.rflush .c32) (f.decIn (t.iflush .narrow) ((t.src a l).toNat % 2 ^ f.w))) ∧
       (i < 32 / f.w → r (.funpack d a b nw) (fun l =>
         f32.ofVal t.rm (t.rflush .c32) (f.decIn (t.iflush .narrow) ((t.src a l).toNat / 2 ^ (f.w * i) % 2 ^ f.w))))) ∧
     (VecReady s t (.v d nw) (d :: vregsOf a) → i < 32 / f.w →
       NoTrap t (fun l => f.narrow t.rm (t.rflush .narrow) (t.f32src a l)) →
       exec (.fpack d a b nw) s = .next (vecDone s t (.v d nw) (fun l =>
         let r := f.narrow t.rm (t.rflush .narrow) (t.f32src a l)
         fpOut ⟨packInto f.w i r.bits (t.vreg d l).toNat, r.flags⟩))))

/-- R268: `fclass` writes a word with exactly one bit set, the one that the class of the source gives: with exponent field e,
significand field m and sign n, bit 0 or 7 for an infinity, 8 or 9 for a signalling or quiet NaN, 3 or 4 for a zero, 2 or 5 for
a subnormal, 1 or 6 for a normal value. It raises nothing and reads no mode word. -/
def Obligations.Fclass : Prop :=
  let k (eb mb x : Nat) : Nat :=
    let n := x / 2 ^ (eb + mb) % 2 = 1
    let e := x / 2 ^ mb % 2 ^ eb
    let m := x % 2 ^ mb
    if e = 2 ^ eb - 1 then (if m = 0 then (if n then 0 else 7) else if m / 2 ^ (mb - 1) = 1 then 9 else 8)
    else if e = 0 then (if m = 0 then (if n then 3 else 4) else if n then 2 else 5)
    else if n then 1 else 6
  (∀ s t d a nw, VecReady s t (.v d nw) (vregsOf a) →
    exec (.fclassF32 d a nw) s = .next (vecDone32 s t d nw (fun l => BitVec.ofNat 32 (2 ^ k 8 23 (t.src a l).toNat)))) ∧
  (∀ s t d a nw, VecReady s t (.v d nw) [a, a + 1] →
    exec (.fclassF64 d a nw) s = .next (vecDone32 s t d nw (fun l => BitVec.ofNat 32 (2 ^ k 11 52 (t.pair a l).toNat))))

/-- R275 and R274: `fmode` exchanges the mode word, whose reserved bits are cleared; `fstat` reads and clears the sticky flags. -/
def Obligations.FpStatus : Prop :=
  ∀ s t d a, OnceReady s t .any →
    exec (.fstat d) s = .next (s.complete { t.setS d (t.sticky.setWidth 64) with sticky := 0 }) ∧
    exec (.fmode d a) s =
      .next (s.complete { t.setS d (t.fpmode.setWidth 64) with fpmode := (t.s a).setWidth 32 &&& 0x001F0FF3 })

/-- R280: the mask instructions. -/
def Obligations.MaskResults : Prop :=
  ∀ s t d a b, OnceReady s t .vector →
    exec (.mand d a b) s = .next (s.complete (t.setM d (t.mreg a &&& t.mreg b))) ∧
    exec (.mor d a b) s = .next (s.complete (t.setM d (t.mreg a ||| t.mreg b))) ∧
    exec (.mxor d a b) s = .next (s.complete (t.setM d (t.mreg a ^^^ t.mreg b))) ∧
    exec (.mnot d a) s = .next (s.complete (t.setM d (~~~(t.mreg a)))) ∧
    exec (.mmov d a) s = .next (s.complete (t.setM d (t.mreg a))) ∧
    exec (.mpop d a) s =
      .next (scalarDone s t d (BitVec.ofNat 64 ((List.range t.lanes).filter (fun l => (t.mreg a).getLsbD l)).length)) ∧
    ∃ x, exec (.mfirst d a) s = .next (scalarDone s t d x) ∧
      ((∀ l < t.lanes, (t.mreg a).getLsbD l = false) → x = BitVec.allOnes 64) ∧
      ∀ l < t.lanes, (t.mreg a).getLsbD l = true → (∀ k < l, (t.mreg a).getLsbD k = false) → x = BitVec.ofNat 64 l

/-- R281: `shfl` and `bcast` read the source as it was when the instruction began; a lane the team does not have gives 0. -/
def Obligations.CrossLane : Prop :=
  (∀ s t d a b nw, VecReady s t (.v d nw) (vregsOf b ++ [a]) →
    exec (.shfl d a b nw) s =
      .next (vecDone32 s t d nw (fun l => if t.lanes ≤ (t.src b l).toNat then 0 else t.vreg a (t.src b l).toNat))) ∧
  (∀ s t d a b nw, VecReady s t (.v d nw) [a] →
    let k := (t.s b).toNat % 2 ^ 32
    exec (.bcast d a b nw) s = .next (vecDone32 s t d nw (fun _ => if t.lanes ≤ k then 0 else t.vreg a k)))

/-- R283: `reduce` folds the active lanes in ascending order into a scalar and clears its record. The integer results are the sum
modulo 2^32 and the greatest value, sign-extended; a floating-point fold that raises nothing trapped is zero-extended. R283:
`scan` leaves the running fold in each active lane, with the latch shift, and clears its record. -/
def Obligations.Folds : Prop :=
  (∀ s t d a, VecReady s t (.m 0) (vregsOf a) → t.pwords = 0 →
     let ls := lanesOf t.active t.lanes
     let fold (c : Combine) : FoldSt := ls.foldl (c.lane t a) ⟨0, false, 0, []⟩
     let t1 : Team := { t with pvalue := 0, pwords := 0 }
     let fp (c : Combine) : Result :=
       let x : W32 := if (fold c).pres then (fold c).p else c.empty
       .next (scalarDone s { t1 with sticky := t.sticky ||| (fold c).flags } d (x.zeroExtend 64))
     exec (.reduceAddI32 d a) s =
       .next (scalarDone s t1 d ((BitVec.ofNat 32 (ls.map (fun l => (t.src a l).toNat)).sum).signExtend 64)) ∧
     exec (.reduceMaxI32 d a) s =
       .next (scalarDone s t1 d ((ls.foldl (fun r l => if r.toInt ≤ (t.src a l).toInt then t.src a l else r) 0x80000000#32).signExtend 64)) ∧
     (t.traps = 0 → exec (.reduceAddF32 d a) s = fp combAddF ∧ exec (.reduceMaxF32 d a) s = fp combMaxF)) ∧
  (∀ s t d a nw, VecReady s t (.v d nw) (vregsOf a) → t.pwords = 0 →
     let r (c : Combine) : Result :=
       let st := (lanesOf t.active t.lanes).foldl (c.lane t a) ⟨0, false, 0, []⟩
       let t1 := t.commit (.v d nw) (st.outs.reverse.map (fun e => (e.1, ⟨e.2.zeroExtend 64, 0⟩)))
       .next (s.complete { t1 with sticky := t.sticky ||| st.flags, pvalue := 0, pwords := 0 })
     exec (.scanAddI32 d a nw) s = r combAddI ∧ exec (.scanMaxI32 d a nw) s = r combMaxI ∧
     (t.traps = 0 → exec (.scanAddF32 d a nw) s = r combAddF ∧ exec (.scanMaxF32 d a nw) s = r combMaxF))

/-- R285, R288: a branch whose condition holds goes to its own address plus twice the offset, leaving the loops it leaves; one whose
condition fails completes in sequence. R287: `call` writes the address of the next word to `s63` and transfers; `ret` and `jmpr`
transfer to the address in a register; none of them changes the loop stack. -/
def Obligations.Transfers : Prop :=
  (∀ s t m r off, s.team? s.cur = some t → t.markedOnce = false →
     let tgt := wide s.latch.word + BitVec.ofInt 64 (2 * off)
     canonical tgt = true →
     let goes : Result := .next (s.transfer t (tgt.setWidth 57) (branchPops s.latch.start (tgt.setWidth 57) t.loops))
     let stays : Result := .next (s.complete t)
     exec (.bra off) s = goes ∧
     exec (.bzS r off) s = (if t.s r = 0 then goes else stays) ∧
     exec (.bnzS r off) s = (if t.s r = 0 then stays else goes) ∧
     (t.role = .vector →
       exec (.bzM m off) s = (if t.mreg m = 0 then goes else stays) ∧
       exec (.bnzM m off) s = (if t.mreg m = 0 then stays else goes) ∧
       exec (.ball m off) s = (if t.mreg 0 &&& ~~~(t.mreg m) = 0 then goes else stays))) ∧
  (∀ s t a off, OnceReady s t .any →
     (let tgt := wide s.latch.word + BitVec.ofInt 64 (2 * off)
      canonical tgt = true →
       exec (.call off) s = .next (s.transfer (t.setS 63 (wide s.latch.word + 4)) (tgt.setWidth 57) t.loops)) ∧
     (canonical (t.s 63) = true → (t.s 63).getLsbD 0 = false →
       exec .ret s = .next (s.transfer t ((t.s 63).setWidth 57) t.loops)) ∧
     (canonical (t.s a) = true → (t.s a).getLsbD 0 = false →
       exec (.jmpr a) s = .next (s.transfer t ((t.s a).setWidth 57) t.loops)))

/-- R286: a transfer to a target that is not canonical faults the team with `F.PROT` NONCANON, and an odd target of `ret` or `jmpr`
with `F.ALIGN`, at the transferring instruction. -/
def Obligations.TransferFaults : Prop :=
  ∀ s t a off, OnceReady s t .any →
    (let tgt := wide s.latch.word + BitVec.ofInt 64 (2 * off)
     canonical tgt = false →
      exec (.bra off) s = .next (s.onceFault t 0x09 1 tgt) ∧ exec (.call off) s = .next (s.onceFault t 0x09 1 tgt)) ∧
    (canonical (t.s 63) = false → exec .ret s = .next (s.onceFault t 0x09 1 (t.s 63))) ∧
    (canonical (t.s a) = false → exec (.jmpr a) s = .next (s.onceFault t 0x09 1 (t.s a))) ∧
    (canonical (t.s 63) = true → (t.s 63).getLsbD 0 = true → exec .ret s = .next (s.onceFault t 0x0A 0 (t.s 63))) ∧
    (canonical (t.s a) = true → (t.s a).getLsbD 0 = true → exec (.jmpr a) s = .next (s.onceFault t 0x0A 0 (t.s a)))

/-- R288, R291: `loop` skips its body, pushes an entry, or faults; `lbrk` leaves the innermost loop; `yield` completes and stops the
team. That the end of the pushed entry is computed in 57 bits, also where it is no canonical address, is the model's reading
(log 19, DEDUCED). -/
def Obligations.LoopInstructions : Prop :=
  ∀ s t r off, OnceReady s t .any →
    let e := wide s.latch.word + BitVec.ofInt 64 (2 * off)
    let n : W32 := (t.s r).setWidth 32
    let start := s.latch.word + 4
    (2 * off ≤ 4 → exec (.loop r off) s = .next (s.onceFault t 0x06 2 0)) ∧
    (4 < 2 * off → n = 0 → canonical e = true → exec (.loop r off) s = .next (s.transfer t (e.setWidth 57) t.loops)) ∧
    (4 < 2 * off → n ≠ 0 → t.loops.length = 4 → exec (.loop r off) s = .next (s.onceFault t 0x06 1 0)) ∧
    (4 < 2 * off → n ≠ 0 → t.loops.length < 4 →
      exec (.loop r off) s = .next (s.transfer t start (⟨start, e.setWidth 57, n⟩ :: t.loops))) ∧
    (∀ top rest, t.loops = top :: rest → exec .lbrk s = .next (s.transfer t top.stop rest)) ∧
    (t.loops = [] → exec .lbrk s = .next (s.transfer t start [])) ∧
    exec .yield s = .next (s.complete { t with
      yielded := true, yieldFor := s.sharers s.cur.1 s.cur.2 t, yieldCycles := 0, cyclesReady := 0, boost := none })

/-- R288: the loop-end step. The body of a loop with count n is left for its end at the n-th pass and not before: every earlier pass
returns to its start with the count one lower. -/
def Obligations.LoopRunsCountTimes : Prop :=
  ∀ (e : LoopEntry) (rest : List LoopEntry) (a : W57), e.start.toNat ≤ a.toNat → a.toNat < e.stop.toNat →
    let pass (ls : List LoopEntry) : List LoopEntry := (loopEnd a e.stop ls).2
    (∀ k, k + 1 < e.count.toNat → loopEnd a e.stop (pass^[k] (e :: rest)) = (e.start, { e with count := e.count - BitVec.ofNat 32 (k + 1) } :: rest)) ∧
    (0 < e.count.toNat → loopEnd a e.stop (pass^[e.count.toNat - 1] (e :: rest)) = loopEnd a e.stop rest)

/-- R30, R180, R288: a unit that is complete clears the done mask. A `rep` unit with repeats left counts one and stays; otherwise
control goes on at the next unit with the loop-end step. Nothing else of the state changes, but that a step `sigret` armed is
due at the next unit. R219 to R222: `limm` supplies its literal and nothing else; `rep` whose checks pass starts a unit of cnt +
1 repeats, or goes on with the unit in progress. -/
def Obligations.CompletionAndPrefixes : Prop :=
  (∀ (s : State) (t : Team), s.latch.stuffed = false →
     let t1 : Team := { t with done := 0, marked := none, heldSince := none, wait := t.wait.kept }
     let r := loopEnd s.latch.start s.latch.next t.loops
     s.complete t =
       if s.latch.rep = true ∧ 1 < t.rep.remain then s.setTeam s.cur { t1 with rep := { t.rep with remain := t.rep.remain - 1 } }
       else s.setTeam s.cur { t1 with rep := .idle, pc := r.1, loops := r.2, stepDue := t.stepArm }) ∧
  ((∀ s v, exec (.limm v) s = .next { s with latch := { s.latch with limm := some v } }) ∧
   (∀ s t i sb sa sd cnt, s.team? s.cur = some t → s.latch.instr = some i →
     (t.rep.remain = 0 → repCheck t i ⟨cnt + 1, cnt + 1, sd, sa, sb⟩ = none →
       exec (.rep sb sa sd cnt) s = .next (s.setTeam s.cur { t with rep := ⟨cnt + 1, cnt + 1, sd, sa, sb⟩ })) ∧
     (t.rep.remain ≠ 0 → repCheck t i t.rep = none → exec (.rep sb sa sd cnt) s = .next (s.setTeam s.cur t))))

/-- R210 to R218: decoding the word of a well-formed instruction gives that instruction back. -/
def Obligations.DecodeEncode : Prop :=
  ∀ i w, Sys2Proof.wellFormed i = true → Sys2Proof.encode i = some w → Sys2Proof.decodeWord w = .ok i

/-- Words written out from the encodings of Chapters 11 to 19 decode to the instructions they stand for; a word that is unassigned
or whose reserved field is not zero is refused (R218). -/
def Obligations.DecodeWords : Prop :=
  decodeWord 0x60010023 = .ok (.mnot 0 2) ∧ decodeWord 0x0000000D = .ok (.lidV 0 false) ∧
  decodeWord 0x2000050D = .ok (.lidS 5) ∧ decodeWord 0x00040113 = .ok (.moviV 1 8 false) ∧
  decodeWord 0x00022D29 = .ok (.bzS 5 4) ∧ decodeWord 0x0804 = .ok (.isub16 0 1) ∧
  decodeWord 0xFFFD8229 = .ok (.bnzM 0 (-5)) ∧ decodeWord 0xA0000077 = .ok .halt ∧
  decodeWord 0xC0000077 = .ok .nop ∧ decodeWord 0x80008077 = .ok (.brk 1) ∧
  decodeWord 0x00080077 = .ok (.bar 0 true 0) ∧ decodeWord 0x00008077 = .ok (.bar 1 false 0) ∧
  decodeWord 0x00400023 = .ok (.mand 0 0 1) ∧ decodeWord 0xE0000023 = .error .unassigned ∧ decodeWord 0x0000007B = .error .unassigned ∧
  decodeWord 0x00000829 = .error .rsvField

/-- The next step of a team whose next word decodes to an instruction runs that instruction, on the state in which the unit is
latched; a wait that is over ends first. Then the trace unit, the cycles, the issue choice and what follows every step come
(R126, R242, logs 1, 3). A word that decodes to no instruction parks the team with `F.ILL` instead (R218, R242), or completes
without effect where the fault that a signal return marked done is the one it reports (R33, R190; the reading of log 13). A step
that was armed is reported before the unit (R175). A unit with prefixes: a `limm` runs before the instruction that its literal
widens (R220), and a `rep` before the instruction with its fields stepped to the present repeat (R221, R222). -/
def Obligations.StepRunsUnit : Prop :=
  (∀ (s : State) (t0 : Team), s.agenda = [] → s.powered = true → s.fe.recovery = false →
     s.team? s.cur = some t0 → t0.canIssue (s.blockOf s.cur.1 t0) = true →
     let sw := s.settleWait s.cur t0
     let t : Team := { (sw.team? s.cur).getD t0 with hold := none }
     let after (s' : State) : Result := .next (((s'.traceUnit s s.cur).afterIssue s s.cur).settle s)
     (t.stepDue = true → step s = after (sw.takeFault s.cur t t.pc (faultOf 0x2A 0 0 (sw.stepMask t)))) ∧
     (t.stepDue = false → ∀ s1 x,
       let s0 : State := sw.setTeam s.cur t
       s0.fetchWords (s0.agentOf s.cur t) 3 t.pc none = .ok [x] s1 →
       s1.team? s1.cur = some t → s1.cur = s.cur → x.pa.any (s1.inPool s.cur.1 t.uid) = false →
       (∀ i s2, decodeWord x.w = .ok i → isPrefix i = false → t.rep.remain = 0 →
         exec i { s1 with latch := ⟨t.pc, x.addr, if (majorOf x.w).isNone then 2 else 4, none, false, s.passLimit, false, x.w⟩ } = .next s2 →
         step s = after s2) ∧
       (∀ e, decodeWord x.w = .error e →
         let f := faultOf 0x01 e.code 0 (if e.code = 1 then unknownMask t else teamFaultMask t (wordIsVector x.w))
         (t.excused f = false → step s = after (s1.takeFault s1.cur t t.pc f)) ∧
         (t.excused f = true → step s = after (({ s1 with latch := badLatch t.pc [x] } : State).complete t))))) ∧
  (∀ (s : State) (t0 : Team), s.agenda = [] → s.powered = true → s.fe.recovery = false →
     s.team? s.cur = some t0 → t0.canIssue (s.blockOf s.cur.1 t0) = true →
     let sw := s.settleWait s.cur t0
     let t : Team := { (sw.team? s.cur).getD t0 with hold := none }
     t.stepDue = false → ∀ s1 u, (sw.setTeam s.cur t).fetchUnit s.cur t = .ok u s1 →
     let s2 : State := { s1 with latch := u.latch t.pc s.passLimit }
     let after (s' : State) : Result := .next (((s'.traceUnit s s.cur).afterIssue s s.cur).settle s)
     (∀ v i s3 t3 s4, u.limm = some v → u.rep = none → widened v u.instr = some i → exec (.limm v) s2 = .next s3 →
       s3.team? s3.cur = some t3 → t3.rep.remain = 0 → exec i s3 = .next s4 → step s = after s4) ∧
     (∀ r s3 t3 s4, u.limm = none → u.rep = some r → exec r s2 = .next s3 → s3.team? s3.cur = some t3 →
       t3.parked = false → t3.rep.remain ≠ 0 → s3.repFault t3 t3.rep = none →
       let j := t3.rep.total - t3.rep.remain
       exec (stepped u.instr (j * t3.rep.sd) (j * t3.rep.sa) (j * t3.rep.sb)) s3 = .next s4 → step s = after s4) ∧
     (∀ v r i s3 s4 t4 s5, u.limm = some v → u.rep = some r → widened v u.instr = some i → exec (.limm v) s2 = .next s3 →
       exec r s3 = .next s4 → s4.team? s4.cur = some t4 → t4.parked = false → t4.rep.remain ≠ 0 → s4.repFault t4 t4.rep = none →
       let j := t4.rep.total - t4.rep.remain
       exec (stepped i (j * t4.rep.sd) (j * t4.rep.sa) (j * t4.rep.sb)) s4 = .next s5 → step s = after s5))

/-- The first event of the agenda is what the next step performs, and what it performs is the meaning of that event's row of the
opcode table. -/
def Obligations.StepRunsEvent : Prop :=
  (∀ (s : State) e rest, s.agenda = e :: rest → s.powered = true → step s = settled s (performEvent e { s with agenda := rest })) ∧
  (∀ s : State, s.powered = false → (∀ rest, s.agenda = .reset :: rest → step s = settled s (exec .reset { s with agenda := rest })) ∧
    (s.agenda = [] → step s = .fault .noPower)) ∧
  (∀ c slot s, performEvent (.vectorPass c slot) s = exec (.vectorPass c slot) s) ∧
  (∀ c slot s, performEvent (.teamBoost c slot) s = exec (.teamBoost c slot) s) ∧
  (∀ c slot s, performEvent (.yieldEnd c slot) s = exec (.yieldEnd c slot) s) ∧
  (∀ q val s, performEvent (.submissionWrite q val) s = exec (.submissionWrite q val) s) ∧
  (∀ q s, performEvent (.launch q) s = exec (.launch q) s) ∧
  (∀ q s, performEvent (.write q) s = exec (.write q) s) ∧
  (∀ q s, performEvent (.wait q) s = exec (.wait q) s) ∧
  (∀ q s, performEvent (.waitComplete q) s = exec (.waitComplete q) s) ∧
  (∀ q s, performEvent (.time q) s = exec (.time q) s) ∧
  (∀ q s, performEvent (.nopPacket q) s = exec (.nopPacket q) s) ∧
  (∀ q s, performEvent (.queueEnable q) s = exec (.queueEnable q) s) ∧
  (∀ q s, performEvent (.queueResume q) s = exec (.queueResume q) s) ∧
  (∀ s, performEvent .update s = exec .update s) ∧
  (∀ s, performEvent .standbyImport s = exec .standbyImport s) ∧
  (∀ s, performEvent .updateTakeover s = exec .updateTakeover s) ∧
  (∀ s, performEvent .failover s = exec .failover s) ∧
  (∀ s, performEvent .watchdogTakeover s = exec .watchdogTakeover s) ∧
  (∀ s, performEvent .runListTurnEnd s = exec .runListTurnEnd s) ∧
  (∀ s, performEvent .reset s = exec .reset s) ∧
  (∀ s, performEvent .placementDecision s = exec .placementDecision s) ∧
  (∀ blk s, performEvent (.blockStart blk) s = exec (.blockStart blk) s) ∧
  (∀ blk s, performEvent (.swapThresholdExpiry blk) s = exec (.swapThresholdExpiry blk) s) ∧
  (∀ blk s, performEvent (.swapOutBegin blk) s = exec (.swapOutBegin blk) s) ∧
  (∀ blk s, performEvent (.swapOutComplete blk) s = exec (.swapOutComplete blk) s) ∧
  (∀ c slot s, performEvent (.operationStart c slot) s = exec (.operationStart c slot) s) ∧
  (∀ op s, performEvent (.kstepComplete op) s = exec (.kstepComplete op) s) ∧
  (∀ op s, performEvent (.drainComplete op) s = exec (.drainComplete op) s) ∧
  (∀ op s, performEvent (.quantComplete op) s = exec (.quantComplete op) s) ∧
  (∀ c s, performEvent (.boxIssue c) s = exec (.boxIssue c) s) ∧
  (∀ copy box s, performEvent (.boxPause copy box) s = exec (.boxPause copy box) s) ∧
  (∀ copy box s, performEvent (.boxComplete copy box) s = exec (.boxComplete copy box) s) ∧
  (∀ copy box s, performEvent (.boxFault copy box) s = exec (.boxFault copy box) s) ∧
  (∀ blk s, performEvent (.boxAbort blk) s = exec (.boxAbort blk) s) ∧
  (∀ c slot s, performEvent (.lockRequest c slot) s = exec (.lockRequest c slot) s) ∧
  (∀ obj s, performEvent (.lockRelease obj) s = exec (.lockRelease obj) s) ∧
  (∀ obj s, performEvent (.grantDelivery obj) s = exec (.grantDelivery obj) s) ∧
  (∀ obj s, performEvent (.grantWindowClose obj) s = exec (.grantWindowClose obj) s) ∧
  (∀ obj team s, performEvent (.lockDeadline obj team) s = exec (.lockDeadline obj team) s) ∧
  (∀ obj team s, performEvent (.deadlockProbe obj team) s = exec (.deadlockProbe obj team) s) ∧
  (∀ i s, performEvent (.probeHop i) s = exec (.probeHop i) s) ∧
  (∀ p s, performEvent (.graceRecompute p) s = exec (.graceRecompute p) s) ∧
  (∀ p s, performEvent (.deferredMove p) s = exec (.deferredMove p) s) ∧
  (∀ p s, performEvent (.headPoll p) s = exec (.headPoll p) s) ∧
  (∀ p s, performEvent (.graceStallReport p) s = exec (.graceStallReport p) s) ∧
  (∀ s, performEvent .qscResume s = exec .qscResume s) ∧
  (∀ c n s, performEvent (.logicalTimeAdvance c n) s = exec (.logicalTimeAdvance c n) s) ∧
  (∀ s, performEvent .epochChange s = exec .epochChange s) ∧
  (∀ c s, performEvent (.retentionWake c) s = exec (.retentionWake c) s) ∧
  (∀ line s, performEvent (.hostSnoop line) s = exec (.hostSnoop line) s) ∧
  (∀ path c s, performEvent (.fenceMarkerAck path c) s = exec (.fenceMarkerAck path c) s) ∧
  (∀ d1 d2 s, performEvent (.dieLinkFailure d1 d2) s = exec (.dieLinkFailure d1 d2) s) ∧
  (∀ port s, performEvent (.cxlPortFailure port) s = exec (.cxlPortFailure port) s) ∧
  (∀ ok s, performEvent (.invalidationRetry ok) s = exec (.invalidationRetry ok) s) ∧
  (∀ port s, performEvent (.ualinkPortFailure port) s = exec (.ualinkPortFailure port) s) ∧
  (∀ pasid va req s, performEvent (.remoteRequest pasid va req) s = exec (.remoteRequest pasid va req) s) ∧
  (∀ c s, performEvent (.eventEntry c) s = exec (.eventEntry c) s) ∧
  (∀ c s, performEvent (.supervisorTimer c) s = exec (.supervisorTimer c) s) ∧
  (∀ c s, performEvent (.doorbell c) s = exec (.doorbell c) s) ∧
  (∀ c s, performEvent (.supresume c) s = exec (.supresume c) s) ∧
  (∀ s, performEvent .mailboxPost s = exec .mailboxPost s) ∧
  (∀ port val s, performEvent (.teamStateDataWrite port val) s = exec (.teamStateDataWrite port val) s) ∧
  (∀ port s, performEvent (.teamStateDataRead port) s = exec (.teamStateDataRead port) s) ∧
  (∀ port s, performEvent (.frame port) s = exec (.frame port) s) ∧
  (∀ port s, performEvent (.kill port) s = exec (.kill port) s) ∧
  (∀ port s, performEvent (.release port) s = exec (.release port) s) ∧
  (∀ c place s, performEvent (.stop c place) s = exec (.stop c place) s) ∧
  (∀ s, performEvent .blockStopDone s = exec .blockStopDone s) ∧
  (∀ c place s, performEvent (.run c place) s = exec (.run c place) s) ∧
  (∀ c slot s, performEvent (.step c slot) s = exec (.step c slot) s) ∧
  (∀ c slot nbuf s, performEvent (.exec c slot nbuf) s = exec (.exec c slot nbuf) s) ∧
  (∀ c s, performEvent (.gangstop c) s = exec (.gangstop c) s) ∧
  (∀ c val s, performEvent (.traceEnable c val) s = exec (.traceEnable c val) s) ∧
  (∀ c s, performEvent (.traceSync c) s = exec (.traceSync c) s) ∧
  (∀ c s, performEvent (.traceResume c) s = exec (.traceResume c) s) ∧
  (∀ c e s, performEvent (.counterWrap c e) s = exec (.counterWrap c e) s) ∧
  (∀ val s, performEvent (.shootdownSubmit val) s = exec (.shootdownSubmit val) s) ∧
  (∀ pasid va log2 s, performEvent (.atsInvalidation pasid va log2) s = exec (.atsInvalidation pasid va log2) s) ∧
  (∀ s, performEvent .shootdownComplete s = exec .shootdownComplete s) ∧
  (∀ val s, performEvent (.checkpoint val) s = exec (.checkpoint val) s) ∧
  (∀ ok s, performEvent (.checkpointDone ok) s = exec (.checkpointDone ok) s) ∧
  (∀ s, performEvent .freeze s = exec .freeze s) ∧
  (∀ s, performEvent .unfreeze s = exec .unfreeze s) ∧
  (∀ val s, performEvent (.unpoison val) s = exec (.unpoison val) s) ∧
  (∀ val s, performEvent (.slotWrite val) s = exec (.slotWrite val) s) ∧
  (∀ up s, performEvent (.clockStep up) s = exec (.clockStep up) s) ∧
  (∀ k s, performEvent (.withholdStep k) s = exec (.withholdStep k) s) ∧
  (∀ src unit addr ident s, performEvent (.errorDetected src unit addr ident) s = exec (.errorDetected src unit addr ident) s) ∧
  (∀ ok s, performEvent (.errorRetry ok) s = exec (.errorRetry ok) s) ∧
  (∀ idx s, performEvent (.spdmMeasurement idx) s = exec (.spdmMeasurement idx) s) ∧
  (∀ port s, performEvent (.spdmKeyExchange port) s = exec (.spdmKeyExchange port) s) ∧
  (∀ off val s, performEvent (.registerWrite off val) s = exec (.registerWrite off val) s) ∧
  (∀ c slot s, performEvent (.fetchFault c slot) s = exec (.fetchFault c slot) s) ∧
  (∀ c i s, performEvent (.storePerformed c i) s = exec (.storePerformed c i) s) ∧
  (∀ addr req s, performEvent (.hostCxlMemAccess addr req) s = exec (.hostCxlMemAccess addr req) s) ∧
  (∀ s, performEvent .powerLoss s = exec .powerLoss s) ∧
  (∀ c s, performEvent (.l1RetentionSleep c) s = exec (.l1RetentionSleep c) s)

/-- Every step keeps the canonical form of memory (log 5): addresses strictly rise and no entry is what an unlisted address reads
as. -/
def Obligations.StepKeepsMemory : Prop := ∀ s s', MemoryInv s → step s = .next s' → MemoryInv s'

/-- The machine after reset (R26, R369, R378, R398, with the values of log 2): on every core the supervisor team stands in slot 0,
with 32 lanes, all of them in `m0`, and no other team; every event is off; memory lists nothing and has its canonical form. -/
def Obligations.ResetState : Prop :=
  MemoryInv State.reset ∧ (∀ a, memGet State.reset.mem a = 0) ∧ State.reset.powered = true ∧ State.reset.agenda = [] ∧
  ∀ c, ∃ t, State.reset.team? (c, 0) = some t ∧ (∀ slot, slot ≠ 0 → State.reset.team? (c, slot) = none) ∧
    t.role = .vector ∧ t.lanes = 32 ∧ t.nreg = 64 ∧ t.pc = 0 ∧ t.done = 0 ∧ t.mreg 0 = lanesBelow 32 ∧ (∀ k, t.s k = 0) ∧
    t.loops = [] ∧ t.rep.remain = 0 ∧ t.fpmode = 0 ∧ t.sticky = 0 ∧ t.parked = false ∧ t.halted = false ∧ t.held = [] ∧
    (State.reset.core c).even = false ∧ (State.reset.core c).replay = [] ∧ (State.reset.core c).ltime = 0 ∧
    (State.reset.core c).stores = []

/-- What the lanes of a vector instruction write (R19, R31, R216, R217): a lane with a result has it in its register, or in its
pair, or as its bit of the mask, and its latches move up, `bp0` taking bits [31:0]; `.nw` writes the latches alone. -/
def Obligations.LaneResults : Prop :=
  ∀ (t : Team) (ls : List Nat) (f : Nat → LaneOut) (d l : Nat) (nw : Bool), ls.Nodup → l ∈ ls →
    let done (dst : VDst) : Team := t.commit dst (ls.map (fun l => (l, f l)))
    let lo : W32 := (f l).val.setWidth 32
    let moved : Latches := ⟨lo, t.latch 0 l, t.latch 1 l, t.latch 2 l⟩
    (done (.v d nw)).vreg d l = (if nw then t.vreg d l else lo) ∧ (done (.v d nw)).latches l = moved ∧
    (done (.w d nw)).vreg d l = (if nw then t.vreg d l else lo) ∧
    (done (.w d nw)).vreg (d + 1) l = (if nw then t.vreg (d + 1) l else (f l).val.extractLsb' 32 32) ∧
    (done (.w d nw)).latches l = moved ∧
    (l < t.lanes → l < 1024 → ((done (.m d)).mreg d).getLsbD l = (f l).val.getLsbD 0) ∧ (done (.m d)).latches l = t.latches l ∧
    (∀ dst, (l < 1024 → (done dst).done.getLsbD l = true))

/-- The frame of every instruction that acts on its team's registers alone, whether it completes or parks its team: no byte of
memory, no other team and nothing else of the machine changes, but what parking changes; of the team, only the destination, the
flags where the instruction may raise some, the PC, the loop stack and the state of its issue (R19, R31, R175). -/
def Obligations.RegisterFrame : Prop :=
  ∀ i d flags (s s' : State) t, destOf i = some (d, flags) → s.team? s.cur = some t → exec i s = .next s' →
    OnlyTeam s s' ∧ ∃ t', s'.team? s.cur = some t' ∧ TeamKeeps t t' d flags

/-- R294 to R296, R300, R301, R303: a scalar load, store or atomic whose access passes its checks. The address is that of R294; the
load writes what it read, the store gives its bytes to the place of the access, and the atomic writes the old value and leaves
the new one. A release first waits for the team's stores. -/
def Obligations.ScalarAccess : Prop :=
  (∀ s t d sb ix z p s1, OnceReady s t .any →
    let n := match z with | .b1 => 1 | .b2 => 2 | .b4 => 4 | .b8 => 8
    let va := t.s sb + (match ix with | .disp k => BitVec.ofInt 64 (k * n) | .idx x => t.s x)
    (s.access (s.agentOf s.cur t) va n n .load = (.ok p, s1) →
      let (v, w, s2) := s1.doLoad s1.cur.1 t.uid p n
      exec (.ldS d z sb ix) s = .next (loadDone s2 false w d v)) ∧
    (s.access (s.agentOf s.cur t) va n n .store = (.ok p, s1) →
      exec (.stS d z sb ix) s =
        .next ((s1.doStore s1.cur.1 t.uid p (leBytes n (t.s d).toNat) none).completeWith id))) ∧
  (∀ s t d sb x ord sc p s1, OnceReady s t .any →
    s.access (s.agentOf s.cur t) (t.s sb + t.s x) 8 8 .load = (.ok p, s1) →
    let (v, w, s2) := s1.doLoad s1.cur.1 t.uid p 8
    exec (.ldOrdS d sb x ord sc) s = .next (loadDone s2 (ord == .acq || ord == .acqrel) w d v)) ∧
  (∀ s t d sb x ord sc s0 t0 p s1, OnceReady s t .any → Released s t (ord == .rel || ord == .acqrel) sc s0 t0 →
    let va := t0.s sb + t0.s x
    (s0.access (s0.agentOf s0.cur t0) va 8 8 .store = (.ok p, s1) →
      exec (.stOrdS d sb x ord sc) s =
        .next ((s1.doStore s1.cur.1 t0.uid p (leBytes 8 (t0.s d).toNat)
          (if ord = .rel ∨ ord = .acqrel then some sc else none)).completeWith id)) ∧
    (s0.access (s0.agentOf s0.cur t0) va 8 8 .atomic = (.ok p, s1) →
      let r (f : Nat → Option Nat) : Result :=
        let (v, w, s2) := s1.doAtomic s1.cur.1 t0.uid p 8 f
        .next (loadDone (s2.endPass s1.cur.1 t0.uid) (ord == .acq || ord == .acqrel) w d v)
      exec (.atomAddI64 d sb x ord sc) s = r (fun old => some ((old + (t0.s d).toNat) % 2 ^ 64)) ∧
      exec (.atomExchI64 d sb x ord sc) s = r (fun _ => some (t0.s d).toNat) ∧
      exec (.casI64 d sb x ord sc) s = r (fun old => if old = (t0.s d).toNat then some (t0.s (d + 1)).toNat else none)))

/-- R293 to R298, R300 to R303: a vector load, store, broadcast load or atomic none of whose lanes faults or is held performs its
lanes in ascending order, each at its own address, and completes. -/
def Obligations.VectorAccess : Prop :=
  (∀ s t d sb ix z nw s' w,
    let n := match z with | .b1 => 1 | .b2 => 2 | .b4 => 4 | .b8 => 8
    let regs := vindexRegs ix
    let dst : VDst := if n = 8 then .w d nw else .v d nw
    let va (t : Team) (l : Nat) : W64 :=
      t.s sb + (match ix with | .disp k => BitVec.ofInt 64 (k * n + l * n) | .idx v => (t.src v l).signExtend 64)
    VecReady s t dst regs →
    LanesDone (fun s t l => s.laneAccess t regs l (va t l) n .load (fun s p =>
      let (v, w, s1) := s.doLoad s.cur.1 t.uid p n
      .ok (s1.putLane dst l v) w)) s t s' w →
    exec (.ldV d z sb ix nw) s = .next (memDone s' false [] w)) ∧
  (∀ s t d sb ix z s' w,
    let n := match z with | .b1 => 1 | .b2 => 2 | .b4 => 4 | .b8 => 8
    let regs := dataRegs d n ++ vindexRegs ix
    let va (t : Team) (l : Nat) : W64 :=
      t.s sb + (match ix with | .disp k => BitVec.ofInt 64 (k * n + l * n) | .idx v => (t.src v l).signExtend 64)
    VecReady s t (.m 0) regs →
    LanesDone (fun s t l => s.laneAccess t regs l (va t l) n .store (fun s p =>
      .ok (s.doStore s.cur.1 t.uid p (leBytes n (t.storeData d n l)) none) 0)) s t s' w →
    exec (.stV d z sb ix) s = .next (memDone s' false [] w)) ∧
  (∀ s t d a b nw s' w,
    let lane (dst : VDst) (n : Nat) : State → Team → Nat → MemRes := fun s t l =>
      s.laneAccess t (vregsOf b) l (t.s a + (t.src b l).signExtend 64) n .ldb (fun s p =>
        let (v, w, s1) := s.doLdb s.cur.1 t.uid p n
        .ok (s1.putLane dst l v) w)
    (VecReady s t (.v d nw) (vregsOf b) →
      (LanesDone (lane (.v d nw) 1) s t s' w → exec (.ldbN8 d a b nw) s = .next (memDone s' false [] w).draw) ∧
      (LanesDone (lane (.v d nw) 2) s t s' w → exec (.ldbN16 d a b nw) s = .next (memDone s' false [] w).draw) ∧
      (LanesDone (lane (.v d nw) 4) s t s' w → exec (.ldbN32 d a b nw) s = .next (memDone s' false [] w).draw)) ∧
    (VecReady s t (.w d nw) (vregsOf b) →
      LanesDone (lane (.w d nw) 8) s t s' w → exec (.ldbN64 d a b nw) s = .next (memDone s' false [] w).draw)) ∧
  (∀ s t d sb x ord sc s0 t0 s' w,
    let acq := ord == .acq || ord == .acqrel
    let rel := ord == .rel || ord == .acqrel
    let va (t : Team) (l : Nat) : W64 := t.s sb + (t.src x l).signExtend 64
    let upd (dst : Option VDst) (regs : List Nat) (f : Team → Nat → Nat → Option Nat) : State → Team → Nat → MemRes := fun s t l =>
      s.laneAccess t regs l (va t l) 4 .atomic (fun s p =>
        let (old, w, s1) := s.doAtomic s.cur.1 t.uid p 4 (f t l)
        match dst with
        | some d => .ok (s1.putLane d l old) w
        | none => .ok s1 w)
    (VecReady s t (.v d false) (vregsOf x) →
      LanesDone (fun s t l => s.laneAccess t (vregsOf x) l (va t l) 4 .load (fun s p =>
        let (v, w, s1) := s.doLoad s.cur.1 t.uid p 4
        .ok (s1.putLane (.v d false) l v) w)) s t s' w →
      exec (.ldOrdV d sb x ord sc) s = .next (memDone s' acq (lanesOf t.active t.lanes) w)) ∧
    (VecReady s t (.v d false) (d :: vregsOf x) → Released s t rel sc s0 t0 → s0.latch = s.latch →
      let done (f : Team → Nat → Nat → Option Nat) : Prop := LanesDone (upd (some (.v d false)) (d :: vregsOf x) f) s0 t0 s' w
      let r : Result := .next (memDone s' acq (lanesOf t0.active t0.lanes) w)
      (done (fun t l old => some ((old + (t.vreg d l).toNat) % 2 ^ 32)) → exec (.atomAddI32 d sb x ord sc) s = r) ∧
      (done (fun t l _ => some (t.vreg d l).toNat) → exec (.atomExchI32 d sb x ord sc) s = r) ∧
      (done (fun t l old => some (maxI (BitVec.ofNat 32 old) (t.vreg d l)).toNat) → exec (.atomMaxI32 d sb x ord sc) s = r) ∧
      (done (fun t l old => some (minI (BitVec.ofNat 32 old) (t.vreg d l)).toNat) → exec (.atomMinI32 d sb x ord sc) s = r)) ∧
    (VecReady s t (.v d false) (d :: (d + 1) :: vregsOf x) → Released s t rel sc s0 t0 → s0.latch = s.latch →
      LanesDone (upd (some (.v d false)) (d :: (d + 1) :: vregsOf x)
        (fun t l old => if old = (t.vreg d l).toNat then some (t.vreg (d + 1) l).toNat else none)) s0 t0 s' w →
      exec (.casI32 d sb x ord sc) s = .next (memDone s' acq (lanesOf t0.active t0.lanes) w))) ∧
  (∀ s t (d : VSrc) sb x ord sc s0 t0 s' w,
    let acq := ord == .acq || ord == .acqrel
    let rel := ord == .rel || ord == .acqrel
    let va (t : Team) (l : Nat) : W64 := t.s sb + (t.src x l).signExtend 64
    Released s t rel sc s0 t0 → s0.latch = s.latch →
    (VecReady s t (.m 0) (dataRegs d 4 ++ vregsOf x) →
      LanesDone (fun s t l => s.laneAccess t (dataRegs d 4 ++ vregsOf x) l (va t l) 4 .store (fun s p =>
        .ok (s.doStore s.cur.1 t.uid p (leBytes 4 (t.storeData d 4 l)) (if rel then some sc else none)) 0)) s0 t0 s' w →
      exec (.stOrdV d sb x ord sc) s = .next (memDone s' false [] w)) ∧
    (VecReady s t (.m 0) (vregsOf d ++ vregsOf x) →
      (acq = true → LanesDone (fun s t l => s.laneAccess t (vregsOf d ++ vregsOf x) l (va t l) 4 .atomic (fun s p =>
        let (_, w, s1) := s.doAtomic s.cur.1 t.uid p 4 (fun old => some ((old + (t.src d l).toNat) % 2 ^ 32))
        .ok s1 w)) s0 t0 s' w →
        exec (.redAddI32 d sb x ord sc) s = .next (memDone s' true (lanesOf t0.active t0.lanes) w)) ∧
      (acq = false → LanesDone (fun s t l => s.laneAccess t (vregsOf d ++ vregsOf x) l (va t l) 4 .red (fun s p =>
        .ok (s.doRed s.cur.1 t.uid p (t.src d l).toNat) 0)) s0 t0 s' w →
        exec (.redAddI32 d sb x ord sc) s = .next (memDone s' false [] w))))

/-- R297: `ldp` and `stp` read and write the bits of each lane's block: P elements of w bits from bit index * P * w above the base,
where P is 32 div w. -/
def Obligations.PackedAccess : Prop :=
  ∀ s t sb ix z s' w,
    let wd : Nat := match z with | .b1 => 3 | .b2 => 5 | .b4 => 6 | .b8 => 7
    let bits : Nat := 32 / wd * wd
    let first (t : Team) (l : Nat) : Int := (match ix with | .disp k => k + (l : Int) | .idx v => ((t.src v l).toNat : Int)) * bits
    let sh (t : Team) (l : Nat) : Nat := (first t l % 8).toNat
    let span (t : Team) (l : Nat) : W64 × Nat × Nat :=
      (t.s sb + BitVec.ofInt 64 (first t l / 8), sh t l, (sh t l + bits + 7) / 8)
    (∀ d nw, VecReady s t (.v d nw) (vindexRegs ix) →
      LanesDone (fun s t l => s.lanePack t (vindexRegs ix) l (span t l) .ldp (fun s ps =>
        let (v, st, s1) := s.loadEach s.cur.1 t.uid ps
        .ok (s1.putLane (.v d nw) l (v / 2 ^ sh t l % 2 ^ bits)) st)) s t s' w →
      exec (.ldp d z sb ix nw) s = .next (memDone s' false [] w)) ∧
    (∀ d, VecReady s t (.m 0) (vregsOf d ++ vindexRegs ix) →
      LanesDone (fun s t l => s.lanePack t (vregsOf d ++ vindexRegs ix) l (span t l) .stp (fun s ps =>
        .ok ((s.storeBits s.cur.1 t.uid ((t.src d l).toNat % 2 ^ bits * 2 ^ sh t l) ((2 ^ bits - 1) * 2 ^ sh t l) ps).podLines
          s.cur.1 t.uid ps) 0)) s t s' w →
      exec (.stp d z sb ix) s = .next (memDone s' false [] w))

/-- R299: a prefetch whose address does not pass the checks only completes; one that passes moves its line, and neither writes a
register or a byte. R306: a fence with a release waits for the team's stores, every fence for its reds (R302), and one with an
acquire advances logical time. -/
def Obligations.PrefetchAndFence : Prop :=
  (∀ s t a, OnceReady s t .any →
    (∀ p s1, s.access (s.agentOf s.cur t) (t.s a) 1 1 .pref = (.ok p, s1) → p.cached = false) →
    exec (.prefL1 a) s = .next (s.complete t) ∧ exec (.prefL2 a) s = .next (s.complete t) ∧
    exec (.prefL2x a) s = .next (s.complete t)) ∧
  (∀ s t a p s1, OnceReady s t .any → s.access (s.agentOf s.cur t) (t.s a) 1 1 .pref = (.ok p, s1) → p.cached = true →
    let line := p.pa / 128
    exec (.prefL1 a) s =
      .next ((if (s1.l1Hit s1.cur.1 line).isSome then s1 else (s1.l1Fill s1.cur.1 line).1).completeWith id) ∧
    ((s1.l1Fill s1.cur.1 line).1).mem = s1.mem ∧
    exec (.prefL2 a) s = .next ((s1.share (dieOf s1.cur.1) line).completeWith id) ∧
    (dieOf s1.cur.1 = sliceDie (s1.homeOf (line * 128)) → s1.share (dieOf s1.cur.1) line = s1) ∧
    (s1.lineUnreachable s1.cur.1 line = none →
      exec (.prefL2x a) s = .next (((s1.invalidateLine s1.cur.1 line).share (dieOf s1.cur.1) line).completeWith id)) ∧
    (s1.lineUnreachable s1.cur.1 line ≠ none → exec (.prefL2x a) s = .next (s1.completeWith id))) ∧
  (∀ s t kind sc s0 t0, OnceReady s t .any → Released s t true (if kind = .acq then .team else sc) s0 t0 →
    exec (.fence kind sc) s = .next ((if kind = .rel then s0 else s0.acquire).completeWith id))

/-- R81, R89, R94, R99, R100: a cached load of bytes within a line answers them as its team sees them, once the stores of other
teams of its core to that line are performed, and changes no byte itself. A cached store within a sector stands in its core's
queue: its team sees the new bytes from then on, and no other team of any core does; performing it writes exactly its bytes, or
the sum of a `red` (R302). -/
def Obligations.CoreSeesItsStores : Prop :=
  (∀ (s : State) c uid (p : Phys) n, p.cached = true → p.pa % 128 + n ≤ 128 →
    let line := p.pa / 128
    let s0 := if (s.core c).stores.any (fun q => q.pa / 128 == line && q.homeFirst uid) then s.drainLine c line else s
    (s.doLoad c uid p n).1 = leRead (s0.coreByte c uid) p.pa n ∧ (s.doLoad c uid p n).2.2.mem = s0.mem) ∧
  (∀ (s : State) c uid (p : Phys) bs tag, p.cached = true → p.pa % 32 + bs.length ≤ 32 →
    let s' := s.doStore c uid p bs tag
    s'.mem = s.mem ∧ (∀ i b, bs[i]? = some b → s'.coreByte c uid (p.pa + i) = b) ∧
    (∀ a, a < p.pa ∨ p.pa + bs.length ≤ a → s'.coreByte c uid a = s.coreByte c uid a) ∧
    (∀ c' u a, c' ≠ c ∨ u ≠ uid → s'.coreByte c' u a = s.coreByte c' u a)) ∧
  (∀ (s : State) c i p, (s.core c).stores[i]? = some p → p.stuck = none →
    (∀ q ∈ (s.core c).stores.take i, p.after q = false) → s.lineOwned (p.pa / 128) = false → s.epochDue = false →
    s.poisoned (p.pa / 128) = false → s.unreachable c p.pa = none → regionOf p.pa ≠ .pod →
    let s' := s.performStore c i
    exec (.storePerformed c i) s = .next s' ∧ (s'.core c).stores = (s.core c).stores.eraseIdx i ∧
    (p.red = none → (∀ a, a ∉ p.data.map (·.1) → memGet s'.mem a = memGet s.mem a) ∧
      ((p.data.map (·.1)).Nodup → ∀ x ∈ p.data, memGet s'.mem x.1 = x.2)) ∧
    (∀ x, p.red = some x → leRead (memGet s'.mem) p.pa 4 = (leRead (memGet s.mem) p.pa 4 + x) % 2 ^ 32 ∧
      ∀ a, a < p.pa ∨ p.pa + 4 ≤ a → memGet s'.mem a = memGet s.mem a))

/-- R60, R295, R175: what an access that fails its checks does to a scalar load, store or atomic: the team faults once, at the
instruction. The first checks are those of the address itself: not canonical, then the supervisor's half without privilege; the
alignment check stands behind the region's. What an access writes to memory while it is checked (R386): nothing but the accessed
and dirty bits of the leaf it walks to, and of that of the second page it reaches into; every byte outside these reads as
before, and no team changes. -/
def Obligations.AccessFaultsAndFrame : Prop :=
  ((∀ (s : State) a va n m k, s.epochDue = false → canonical va = false → s.access a va n m k = (.fault ⟨0x09, 1, va⟩, s)) ∧
   (∀ (s : State) a va n m k, s.epochDue = false → canonical va = true → a.priv = false → va.getLsbD 56 = true →
     s.access a va n m k = (.fault ⟨0x09, 2, va⟩, s)) ∧
   (∀ (s : State) a va (p : Phys) n m k, regionOf p.pa = .hbm → va.toNat % m ≠ 0 →
     s.physCheck a va p n m k = .fault ⟨0x0A, 0, va⟩) ∧
   (∀ (s : State) t f s1 t1 d sb x ord sc, OnceReady s t .any → s1.team? s1.cur = some t1 →
     let parks : Result := .next (s1.onceFault t1 f.code f.sub f.addr)
     (∀ ix z, s.access (s.agentOf s.cur t) (t.saddr sb ix (sizeBytes z)) (sizeBytes z) (sizeBytes z) .load = (.fault f, s1) →
       exec (.ldS d z sb ix) s = parks) ∧
     (∀ ix z, s.access (s.agentOf s.cur t) (t.saddr sb ix (sizeBytes z)) (sizeBytes z) (sizeBytes z) .store = (.fault f, s1) →
       exec (.stS d z sb ix) s = parks) ∧
     (s.access (s.agentOf s.cur t) (t.s sb + t.s x) 8 8 .load = (.fault f, s1) → exec (.ldOrdS d sb x ord sc) s = parks) ∧
     (ord = .rlx ∨ ord = .acq →
       s.access (s.agentOf s.cur t) (t.s sb + t.s x) 8 8 .atomic = (.fault f, s1) →
       exec (.atomAddI64 d sb x ord sc) s = parks ∧ exec (.atomExchI64 d sb x ord sc) s = parks ∧
       exec (.casI64 d sb x ord sc) s = parks))) ∧
  (∀ (s : State) (a : Agent) va n m k,
     let s' := (s.access a va n m k).2
     let s1 := (s.locate a n k va).2
     (∀ p, s'.team? p = s.team? p) ∧
     ∃ ls : List Nat, ls.length ≤ (if (pageCross va n).isSome then 2 else 1) ∧
       (∀ x ∈ ls, (∃ h, s.walkFor a (va.toNat % 2 ^ 57) k.need = .ok h ∧ x = h.at_) ∨
         ∃ v h, pageCross va n = some v ∧ s1.walkFor a (v.toNat % 2 ^ 57) k.need = .ok h ∧ x = h.at_) ∧
       ∀ b, (∀ x ∈ ls, b < x ∨ x + 8 ≤ b) → memGet s'.mem b = memGet s.mem b)

/-- R307, R308, R112: `llock` and `ltry`. The request goes to the home once the team's stores are complete, in place of any older
one of the team, and the team waits with the object in its wait record; what cannot be locked, and what the supervisor asks for
(log 108), completes with `NOTHOME` at once. The instruction that has sent its request only waits for the reply: with it, it
completes with the status word, and with code `OK` the lock joins the held-lock set. R113: the faults of the lock instructions,
with code `F.LOCK`, at the address the instruction names, where no request has been sent. -/
def Obligations.LockInstructions : Prop :=
  (∀ (s : State) t d sb x sc (ltry : Bool), OnceReady s t .any →
     let kind := if ltry then 12 else 3
     let run : Result := exec (if ltry then .ltry d sb sc else .llock d sb x sc) s
     (¬(t.wait.kind = kind ∧ t.wait.p1 = t.key s.latch.start) → sc ≠ .team → ∀ p s1,
       let va := t.s sb
       let w := if ltry then 0 else (t.s x).toNat
       let rlen := w / 2 ^ 18 % 2 ^ 14
       let obj := lockObject p
       let grain := p.grain == 512
       rlen ≤ 8192 → regionBad va (rlen * 128) = false → s.access (s.agentOf s.cur t) va 1 1 .lock = (.ok p, s1) →
       t.held.length < 8 → (∀ e ∈ t.held, e.obj ≠ obj) →
       (lockable p = false ∨ s.cur.2 = 0 → run = .next (s1.completeWith (fun t =>
         ({ t with wait := t.wait.unsent } : Team).setS d (statusWord 5 0 0 false grain false)))) ∧
       (lockable p = true → s.cur.2 ≠ 0 → ∀ s2 t2, s1.storesComplete sc allStores = .done s2 → s2.team? s2.cur = some t2 →
         let sf := s2.forgetLock t2.uid t2.wait
         ∃ s3, run = .next s3 ∧ s3.agenda = .lockRequest s2.cur.1 s2.cur.2 :: sf.agenda ∧ s3.mem = sf.mem ∧ s3.locks = sf.locks ∧
           (∃ q ∈ s3.lockReqs, q.team = t2.uid ∧ q.obj = obj ∧ q.grain = grain ∧ q.ltry = ltry ∧
             q.waiter.deadline = (if w / 2 ^ 32 = 0 then 0 else t2.heldSince.getD s2.time + w / 2 ^ 32 * 1000)) ∧
           ∃ t3, s3.team? s2.cur = some t3 ∧ t3.wait.kind = kind ∧ t3.wait.object = BitVec.ofNat 64 obj ∧ t3.held = t2.held)) ∧
     (t.wait.kind = kind → t.wait.p1 = t.key s.latch.start →
       (∀ f, t.wait.fault = some f → run = .next (s.unitFault { t with wait := .idle } f)) ∧
       (t.wait.fault = none → t.wait.reply = none → run = .next (s.setTeam s.cur t)) ∧
       (t.wait.fault = none → ∀ st, t.wait.reply = some st →
         let s2 := s.setTeam s.cur { t with wait := .idle }
         let obj := t.wait.object.toNat
         let grain := st.getLsbD 9
         (st.toNat % 256 = 0 → ∀ r w, tabGet? s.locks obj = some r → r.inFlight = some w → w.team = t.uid →
           let s3 := s2.setLock obj { r with inFlight := none }
           run = .next ((s3.acquireLoad (s3.stampOf (lockLine obj grain w.va.toNat)).wts).completeWith (fun t =>
             ({ t with held := t.held ++ [⟨w.va, obj, sc, w.regionLen, grain, false⟩] } : Team).setS d st))) ∧
         (st.toNat % 256 ≠ 0 → st.toNat % 256 ≠ 3 → run = .next (s2.completeWith (fun t => ({ t with wait := .idle } : Team).setS d st))) ∧
         (st.toNat % 256 = 3 → run = .next (s2.completeWith (fun u => ({ u with wait := { WaitRec.idle with
           kind := 10, scope := sc.code, object := t.wait.object, ticket := st.extractLsb' 32 32 } } : Team).setS d st)))))) ∧
  (∀ (s : State) t d sb x sc, OnceReady s t .any →
     let va := t.s sb
     let rlen := (t.s x).toNat / 2 ^ 18 % 2 ^ 14
     let covers (e : HeldLock) : Prop := e.range.1 ≤ va.toNat ∧ va.toNat < e.range.1 + e.range.2
     (exec (.lunlock sb .team) s = .next (s.onceFault t 0x20 6 va) ∧ exec (.lunlockReg sb .team) s = .next (s.onceFault t 0x20 6 va)) ∧
     (sc ≠ .team → (∀ e ∈ t.held, ¬covers e) →
       exec (.lunlock sb sc) s = .next (s.onceFault t 0x20 3 va) ∧ exec (.lunlockReg sb sc) s = .next (s.onceFault t 0x20 3 va)) ∧
     (sc ≠ .team → ∀ e, t.held.find? (fun e => decide (e.range.1 ≤ va.toNat ∧ va.toNat < e.range.1 + e.range.2)) = some e →
       e.regionLen = 0 → exec (.lunlockReg sb sc) s = .next (s.onceFault t 0x20 4 va)) ∧
     (t.wait.ofLock = false →
       exec (.llock d sb x .team) s = .next (s.onceFault t 0x20 6 va) ∧ exec (.ltry d sb .team) s = .next (s.onceFault t 0x20 6 va) ∧
       (sc ≠ .team → 8192 < rlen ∨ regionBad va (rlen * 128) = true → exec (.llock d sb x sc) s = .next (s.onceFault t 0x20 5 va)) ∧
       (sc ≠ .team → ∀ p s1, s.access (s.agentOf s.cur t) va 1 1 .lock = (.ok p, s1) →
         let faults (sub : Nat) : Prop :=
           (rlen ≤ 8192 → regionBad va (rlen * 128) = false → exec (.llock d sb x sc) s = .next (s1.onceFault t 0x20 sub va)) ∧
           exec (.ltry d sb sc) s = .next (s1.onceFault t 0x20 sub va)
         (8 ≤ t.held.length → faults 1) ∧
         (t.held.length < 8 → (∃ e ∈ t.held, e.obj = lockObject p) → faults 2))))

/-- R309, R310, R117: `lunlock` and `lunlock.reg` wait for the team's stores, those to the region for the latter, at the wider of
the two scopes, give the lock back at its home and drop it from the held-lock set; `lstat` reads the lock's word. -/
def Obligations.UnlockAndStatus : Prop :=
  (∀ (s : State) t sb sc e s0 t0, OnceReady s t .any → sc ≠ .team →
    t.held.find? (fun e => decide (e.range.1 ≤ (t.s sb).toNat ∧ (t.s sb).toNat < e.range.1 + e.range.2)) = some e →
    let scope := if sc.code < e.scope.code then e.scope else sc
    let freed : Result := .next ((s0.releaseLock s0.cur.1 e.obj false).completeWith
      (fun t => { t with held := t.held.filter (fun x => x.obj != e.obj) }))
    s0.team? s0.cur = some t0 → s0.fenced.contains (sliceDie (s0.homeOf e.obj)) = false →
    (s.storesComplete scope (fun _ => true) = .done s0 → exec (.lunlock sb sc) s = freed) ∧
    (e.regionLen ≠ 0 →
      s.storesComplete scope e.binds = .done s0 →
      exec (.lunlockReg sb sc) s = freed)) ∧
  (∀ (s : State) c obj, (∀ r, tabGet? s.locks obj = some r → ∃ s1 : State,
    s.releaseLock c obj false = s1.passOn obj { r with holder := none, inFlight := none } false ∧ s1.mem = s.mem ∧ s1.locks = s.locks)) ∧
  (∀ (s : State) t d a p s1, OnceReady s t .any → s.access (s.agentOf s.cur t) (t.s a) 1 1 .lock = (.ok p, s1) →
    ∃ x, exec (.lstat d a) s = .next (s1.completeWith (fun t => t.setS d (BitVec.ofNat 64 x))) ∧
      (lockable p = false → x = 7 * 2 ^ 32) ∧
      (lockable p = true → ∀ r, tabGet? s1.locks (lockObject p) = some r →
        x / 2 ^ 32 % 8 = r.stateCode ∧ x % 2 ^ 32 = (if r.stateCode = 0 then 0 else r.next.toNat) ∧
        x / 2 ^ 36 % 2 = (if p.grain = 512 then 1 else 0) ∧
        x / 2 ^ 37 % 2 = (if ∃ e ∈ t.held, e.obj = lockObject p then 1 else 0)))

/-- R110 to R112, R117: the home's answer to a request: a free lock is granted with ticket 0 and the next ticket becomes 1; `ltry`
on a lock that is held answers `BUSY` and changes no lock; `llock` on one takes the next ticket and the last place of the queue. -/
def Obligations.LockRequestHandled : Prop :=
  ∀ (s : State) c slot t q, s.team? (c, slot) = some t → s.lockReqs.find? (fun q => q.team == t.uid) = some q →
    let s0 : State := { s with lockReqs := s.lockReqs.filter (fun x => x.team != t.uid) }
    let run : Result := exec (.lockRequest c slot) s
    s0.poisoned (lockLine q.obj q.grain q.waiter.va.toNat) = false →
    (tabGet? s.locks q.obj = none → s0.sliceRecords (s0.homeOf q.obj) < 4096 → ∃ s', run = .next s' ∧
      tabGet? s'.locks q.obj = some { LockRec.fresh q.grain with
        next := if q.ltry then 0 else 1, holder := some q.waiter.team, inFlight := some { q.waiter with ticket := 0 } }) ∧
    (∀ r, tabGet? s.locks q.obj = some r → r.holder.isSome ∨ r.transit.isSome →
      (q.ltry = true → run = .next (s0.lockReply q.team q.obj (statusWord 1 0 0 false r.grain false))) ∧
      (q.ltry = false → q.kept = none → s0.sliceWaiters (s0.homeOf q.obj) < 16384 →
        (r.transit = none ∨ r.windowEnd ≠ none) → ∃ s', run = .next s' ∧
          tabGet? s'.locks q.obj = some { r with next := r.next + 1, queue := r.queue ++ [{ q.waiter with ticket := r.next }] }))

/-- R117 to R119: where a lock goes when it is given back: to nobody, to the first waiter, or into transit to a waiter that is
absent, with a window. That a recall takes every line of the grain is log 95, and that a grant in transit shows the last
abandonment is log 96. R121 to R123: a waiter whose deadline passes is answered `TIMEOUT` and its record goes; a probe starts at
a waiter's lock and goes from holder to the lock that holder waits on, until it is back at its origin: if no waiter it met ranks
before the wait it comes from, that wait ends with `F.DEADLOCK`, with the pairs of the cycle as log 22 reads them. -/
def Obligations.LockHandOff : Prop :=
  ((∀ (s : State) obj r, r.queue = [] → tabGet? (s.passOn obj r false).locks obj = none) ∧
   (∀ (s : State) obj r w rest, r.queue = w :: rest → s.absent w.team = false →
     tabGet? (s.passOn obj r false).locks obj =
       some { r with holder := some w.team, transit := none, windowEnd := none, queue := rest, inFlight := some w,
                     abandoned := false, lastAbandoned := false }) ∧
   (∀ (s : State) obj r w rest, r.queue = w :: rest → s.absent w.team = true →
     tabGet? (s.passOn obj r false).locks obj =
       some { r with holder := none, transit := some w, windowEnd := some (s.time + s.lkdTiming.2 * 1000), queue := rest,
                     inFlight := none, abandoned := false }) ∧
   (∀ (s : State) obj r u, tabGet? s.locks obj = some r → r.holder = some u → s.holdsOrWaits u obj = false →
     exec (.lockRelease obj) s = .next (s.passOn obj { r with holder := none, inFlight := none } r.inFlight.isNone)) ∧
   (∀ (s : State) obj r w p, tabGet? s.locks obj = some r → r.transit = some w → s.absent w.team = false → s.recallHeld obj r.grain = false →
     r.abandoned = false →
     let s1 := (s.setLock obj { r with transit := none, windowEnd := none, holder := some w.team, inFlight := some w,
                                       abandoned := false, lastAbandoned := false }).recallLock obj r.grain
     s1.findTeam w.team = some p →
     exec (.grantDelivery obj) s =
       .next ((s1.l1Fill p.1 (lockLine obj r.grain w.va.toNat)).1.lockReply w.team obj (grantStatus w r.grain false))) ∧
   (∀ (s : State) obj r w e, tabGet? s.locks obj = some r → r.transit = some w → r.windowEnd = some e →
     let s1 : State := { s with time := max s.time e }
     (s.absent w.team = false → exec (.grantWindowClose obj) s = .next s1) ∧
     (s.absent w.team = true → r.queue = [] → exec (.grantWindowClose obj) s = .next (s1.setLock obj { r with windowEnd := none })) ∧
     (∀ n rest, s.absent w.team = true → r.queue = n :: rest → w.passed = 0 →
       exec (.grantWindowClose obj) s =
         .next (s1.passOn obj { r with transit := none, queue := n :: { w with passed := 1 } :: rest } r.abandoned)) ∧
     (∀ n rest, s.absent w.team = true → r.queue = n :: rest → 1 ≤ w.passed →
       exec (.grantWindowClose obj) s = .next ((s1.lockReply w.team obj (statusWord 4 w.ticket 2 false r.grain false)).passOn obj
         { r with transit := none } r.abandoned)))) ∧
  ((∀ (s : State) obj team r w, tabGet? s.locks obj = some r → r.waiters.find? (fun w => w.team == team) = some w → w.deadline ≠ 0 →
     exec (.lockDeadline obj team) s =
       .next ((({ s with time := max s.time w.deadline } : State).dropWaiter obj team).lockReply team obj
         (statusWord 2 w.ticket w.passed false r.grain false))) ∧
   (∀ (s : State) obj team w, s.waitsOn team = some (obj, w) →
     (∀ p ∈ s.probes, ¬(p.origin = team ∧ p.obj = obj ∧ p.since = w.since)) →
     exec (.deadlockProbe obj team) s =
       .next (({ s with time := max s.time w.probeAt,
                        probes := s.probes ++ [⟨team, obj, w.since, w.core, w.slot, obj, 0, [(obj, team)], true⟩] } : State).restartProbe obj team)) ∧
   (∀ (s : State) i p r h o w, s.probes[i]? = some p → tabGet? s.locks p.at_ = some r → r.transit = none → r.holder = some h →
     let gone : State := { s with probes := s.probes.eraseIdx i }
     (s.waitsOn h = none → exec (.probeHop i) s = .next gone) ∧
     (s.waitsOn h = some (o, w) → h ≠ p.origin → p.hops < 15 →
       exec (.probeHop i) s =
         (let p1 : Probe := { p with at_ := o, hops := p.hops + 1, path := p.path ++ [(o, h)], first := p.first && !rankLt (w.rank o) p.rank }
          .next { s with probes := s.probes.set i p1 })) ∧
     (s.waitsOn h = some (o, w) → h = p.origin →
       (p.first = true → w.rank o = p.rank → exec (.probeHop i) s =
         .next ((gone.dropWaiter o p.origin).parkWaiter p.origin { faultOf 0x21 0 0 1 with cycle := s.cycleOf p })) ∧
       (p.first = false ∨ w.rank o ≠ p.rank → exec (.probeHop i) s = .next gone))))

/-- R128 to R131, R135 to R137: the grace-period instructions. Each with a release first waits for the team's stores. `qpass` and
`qwake` take the process's generation, `qidle` leaves the tracked teams, `gpstart` opens a generation and answers it, `gpwait`
answers 1 for a generation that is not open, 0 for one that is complete, and waits otherwise, and `dfree` queues its object. A
wait passes its quiescent point as it begins, and not again while it stands; that of `qpass` is in flight while it waits for its
stores (R142). That the acquire takes the latest time of the device is log 25, and that `qidle` leaves the bit of a team without
references clear is log 91. -/
def Obligations.GraceInstructions : Prop :=
  (∀ s t s0 t0 d a b, OnceReady s t .any → Released s t true .dev s0 t0 →
    let c := s0.procOf s0.cur t0
    let p := s0.proc c
    exec .qidle s = .next (s0.completeWith (fun t => { t with extQuiet := t.extQuiet || !t.noRefs })) ∧
    exec (.gpstart d) s =
      .next (({ s0 with procs := tabSet s0.procs c { p with gen := p.gen + 1 } } : State).completeWith (fun t => t.setS d (p.gen + 1))) ∧
    (p.deferred.length < 65536 → exec (.dfree d a b) s =
      .next (({ s0 with procs := tabSet s0.procs c { p with deferred := p.deferred ++
        [⟨t0.s d, (t0.s a).setWidth 32, (t0.s a).extractLsb' 32 32, t0.s b, s0.time⟩] } } : State).completeWith id)) ∧
    (65536 ≤ p.deferred.length → exec (.dfree d a b) s =
      .next (s0.waitWith (if t0.wait.kind = 9 then t0 else { t0 with qsGen := p.gen })
        { WaitRec.idle with kind := 9, p1 := [wide s0.latch.start] }))) ∧
  (∀ s t s0 t0, OnceReady s t .any → Released (s.setTeam s.cur { t with qsDue := true }) t true .dev s0 t0 →
    exec .qpass s = .next (s0.acquireAll.completeWith (fun u => { u with qsGen := (s0.proc (s0.procOf s0.cur t0)).gen, qsDue := false }))) ∧
  (∀ s t d a, OnceReady s t .any →
    let p := s.proc (s.procOf s.cur t)
    let g := t.s a
    let t1 : Team := if t.wait.kind = 8 ∧ t.wait.p1 = [wide s.latch.start] then t else { t with qsGen := p.gen }
    exec .qwake s = .next (s.acquireAll.completeWith (fun t => { t with extQuiet := false, qsGen := p.gen })) ∧
    (p.gen.toNat < g.toNat → exec (.gpwait d a) s = .next (s.completeWith (fun t => t.setS d 1))) ∧
    (g.toNat ≤ p.gen.toNat → g.toNat ≤ p.completed.toNat →
      exec (.gpwait d a) s = .next ((s.setTeam s.cur t1).acquireAll.completeWith (fun t => t.setS d 0))) ∧
    (g.toNat ≤ p.gen.toNat → p.completed.toNat < g.toNat →
      exec (.gpwait d a) s = .next (s.waitWith t1 { WaitRec.idle with kind := 8, object := g, p1 := [wide s.latch.start] })))

/-- R132: what GRACE_RECOMPUTE makes the completed generation: it never falls, and otherwise it is the greatest that exceeds neither
the open generation nor the generation of a tracked team, resident or swapped. R138 to R141: the other steps of the grace-period
unit. The head entry moves to the ring once its ticket is complete and the ring has room, HEAD is read where it has none, a read
or write that faults stops the unit, and a stall is reported. That a faulting read stops it is the choice of log 92, and which
generation a `dfree` waits for that of log 93. -/
def Obligations.GraceUnit : Prop :=
  (∀ (s : State) c,
     let p := s.proc c
     let low (n : Nat) : Prop := n ≤ p.gen.toNat ∧ (∀ e ∈ s.trackedTeams c, n ≤ e.1.qsGen.toNat) ∧ (∀ e ∈ p.pairs, n ≤ e.1.toNat)
     ∃ s' n, exec (.graceRecompute c) s = .next s' ∧ low n ∧ (∀ m, low m → m ≤ n) ∧
       (s'.proc c).completed.toNat = max p.completed.toNat n ∧ (s'.proc c).gen = p.gen ∧ s'.mem = s.mem) ∧
  ((∀ (s : State) c e rest, (s.proc c).deferred = e :: rest → (s.proc c).stopped = false →
     let p := s.proc c
     let (base, k) := s.freeRing c
     let va : W64 := wide (BitVec.ofNat 57 base)
     let a := s.graceAgent c
     (p.completed.toNat < e.ticket.toNat → exec (.deferredMove c) s = .next s ∧ exec (.headPoll c) s = .next s) ∧
     (e.ticket.toNat ≤ p.completed.toNat →
       (∀ f s1, s.unitRead a va 8 = (.error f, s1) → f.held = false → ∀ i ∈ [Instr.deferredMove c, Instr.headPoll c],
         ∃ s', exec i s = .next s' ∧ (s'.proc c).stopped = true ∧ s'.mailOut.length = s1.mailOut.length + 1) ∧
       (∀ tail s1, s.unitRead a va 8 = (.ok tail, s1) →
         let used := (tail + 2 ^ 64 - p.headSeen) % 2 ^ 64
         (2 ^ k ≤ used → exec (.deferredMove c) s = .next s1 ∧
           (∀ h s2, s1.unitRead a (va + 8) 8 = (.ok h, s2) →
             exec (.headPoll c) s = .next (s2.setProc c { s2.proc c with headSeen := h }))) ∧
         (used < 2 ^ k → exec (.headPoll c) s = .next s1 ∧
           ∀ s2 s3, s1.unitWords a (va + BitVec.ofNat 64 (0x40 + tail % 2 ^ k * 32))
             [e.addr.toNat, e.tag.toNat * 2 ^ 32 + e.len.toNat, e.ticket.toNat, p.completed.toNat] = (.ok (), s2) →
           s2.unitWrite a va 8 ((tail + 1) % 2 ^ 64) = (.ok (), s3) →
           exec (.deferredMove c) s = .next
             ((s3.setProc c { s3.proc c with deferred := rest }).queueSaved (fun b t => b.ctx == c && t.wait.kind == 9)))))) ∧
   (∀ (s : State) c, (s.proc c).deferred = [] ∨ (s.proc c).stopped = true →
     exec (.deferredMove c) s = .next s ∧ exec (.headPoll c) s = .next s) ∧
   (∀ s : State, ∃ s', exec .qscResume s = .next s' ∧ (s'.proc s.qscProc).stopped = false ∧
     (∀ i, i ≠ s.qscProc → s'.proc i = s.proc i) ∧ s'.cores = s.cores ∧ s'.mem = s.mem) ∧
   (∀ (s : State) c core k slot t, (core, k) ∈ s.cores → (slot, t) ∈ k.teams → slot ≠ 0 →
     (tabGet? k.blocks t.place).map (·.ctx) = some c → waitsFor (s.proc c) ((s.proc c).completed.toNat + 1) t = true →
     s.completedNow c ≤ (s.proc c).completed.toNat →
     ∃ s', exec (.graceStallReport c) s = .next s' ∧ s'.seq = s.seq + 1 ∧ s.time ≤ s'.time ∧ (s'.proc c).stallAt = s'.time ∧
       s'.qscCounts = (satAdd1 s.qscCounts.1, s.qscCounts.2) ∧ s'.mem = s.mem))

/-- R335, R337: the barrier instructions on a barrier that passes the checks of R334. A team whose bit is set waits. Otherwise
`arrive` arrives and completes, `bar` arrives and waits for the phase to pass unless its arrival ended it, a waiting `bar`
completes once the phase has passed and waits on until then, and `bwait` completes without arriving. Each that completes a wait
acquires. What tells the re-execution of a waiting instruction from a new execution is the reading of log 13. -/
def Obligations.BarrierInstructions : Prop :=
  ∀ s t b x n gang e, OnceReady s t .any → s.blockOf s.cur.1 t = some b → b.barrier n = some x →
    let g := gang && decide (1 < b.gang)
    let scope : Scope := if g then .gang else .blk
    let waits (s : State) (t : Team) (p1 : List W64) : Result :=
      .next (s.waitWith t { WaitRec.idle with kind := 2, scope := scope.code, param := n, p1 := p1 })
    let recorded (s : State) (t : Team) (p : W32) (p1 : List W64) : Result :=
      .next (s.waitWith t { WaitRec.idle with kind := 2, scope := scope.code, param := n, object := p.setWidth 64, p1 := p1 })
    let acquired (s : State) : State := if g then s.acquireAll else s.acquire
    let waiting (p1 : List W64) : Prop := t.wait.kind = 2 ∧ t.wait.param = n ∧ t.wait.p1 = p1
    let here := t.key s.latch.start
    (s.otherScope b n g = false ∨ waiting (here ++ [0]) →
      (x.has t.tindex = true → exec (.bwait n gang) s = waits s t (here ++ [0])) ∧
      (x.has t.tindex = false → exec (.bwait n gang) s = .next ((acquired s).completeWith Team.barDone))) ∧
    (s.otherScope b n g = false → (x.isOpen = true → x.expect = e) → e ≤ b.teamCount * (if g then b.gang else 1) → ¬waiting here →
      (x.has t.tindex = true → exec (.arrive n gang e) s = waits s t [] ∧ exec (.bar n gang e) s = waits s t []) ∧
      (x.has t.tindex = false → ∀ s0 t0, s.storesComplete scope allStores = .done s0 → s0.team? s0.cur = some t0 →
        let p := (s0.arriveAt t0 b n g e x).1
        let s1 := (s0.arriveAt t0 b n g e x).2
        exec (.arrive n gang e) s = .next (s1.completeWith Team.barDone) ∧
        ∀ t1 b1 y, s1.team? s1.cur = some t1 → s1.blockOf s1.cur.1 t1 = some b1 → b1.barrier n = some y →
          (y.phase ≠ p → exec (.bar n gang e) s =
            .next ((acquired (s1.forgetLock t1.uid t1.wait)).completeWith (fun t => { t with wait := .idle }))) ∧
          (y.phase = p → exec (.bar n gang e) s = recorded s1 t1 p (t1.key s1.latch.start)))) ∧
    (waiting here →
      let p : W32 := t.wait.object.setWidth 32
      (x.phase ≠ p → exec (.bar n gang e) s = .next ((acquired s).completeWith (fun t => { t with wait := .idle }))) ∧
      (x.phase = p → exec (.bar n gang e) s = recorded s t p here))

/-- R333, R335, R336: an arrival counts one in its barrier, sets the team's bit and opens the phase with its scope and count; a
phase whose count is not 0 ends as soon as that many have arrived, and its end advances PHASE and clears the rest. R334: the
checks of the barrier instructions, in their order: the number, the count, and a phase that is open with another scope or count;
for a gang scope, in any block of the group. The fault is `F.REG` with the barrier's number. -/
def Obligations.Barriers : Prop :=
  ((∀ (s : State) b n x, 0 < x.expect → (s.phaseDone b n x = true ↔ x.isOpen = true ∧ x.expect ≤ x.arrived)) ∧
   (∀ (s : State) b n x, (s.blockByUid b.uid).bind (fun b => b.barrier n) = some x →
     (s.phaseDone b n x = false → s.evalBarrier b n = s) ∧
     (s.phaseDone b n x = true → x.gang = false → ∀ c pl b', (tabGet? (s.core c).blocks pl) = some b' → b'.uid = b.uid →
       b'.groupWith b = true → ∃ b'', tabGet? ((s.evalBarrier b n).core c).blocks pl = some b'' ∧
         b''.barrier n = (b'.barrier n).map (fun y => { y with phase := y.phase + 1, mask := 0, arrived := 0, isOpen := false }) ∧
         ∀ m, m ≠ n → b''.barrier m = b'.barrier m))) ∧
  (∀ s t b n gang e, OnceReady s t .any → s.blockOf s.cur.1 t = some b → t.wait.kind ≠ 2 →
     let g := gang && decide (1 < b.gang)
     let parks (sub : Nat) : Result := .next (s.onceFault t 0x03 sub (BitVec.ofNat 64 n))
     (b.barrier n = none → exec (.bar n gang e) s = parks 0x10 ∧ exec (.arrive n gang e) s = parks 0x10 ∧
       exec (.bwait n gang) s = parks 0x10) ∧
     (∀ x, b.barrier n = some x →
       (b.teamCount * (if g then b.gang else 1) < e → exec (.bar n gang e) s = parks 0x11 ∧ exec (.arrive n gang e) s = parks 0x11) ∧
       (e ≤ b.teamCount * (if g then b.gang else 1) → s.otherScope b n g = true ∨ x.isOpen = true ∧ x.expect ≠ e →
         exec (.bar n gang e) s = parks 0x12 ∧ exec (.arrive n gang e) s = parks 0x12) ∧
       (s.otherScope b n g = true → exec (.bwait n gang) s = parks 0x12)) ∧
     (∀ m y, m ∈ s.groupTeams b → g = true ∨ m.1.uid = b.uid → m.1.barrier n = some y → y.isOpen = true → y.gang ≠ g →
       s.otherScope b n g = true))

/-- R339, R340: reads and writes of every system register. A read gives the register's value, those of the clock never falling; a
write, a set and a clear leave reserved bits and read-only registers as they are. -/
def Obligations.SystemRegisters : Prop :=
  (∀ s t d, OnceReady s t .any →
    let k := s.core s.cur.1
    let reads (r : Nat) (x : W64) : Prop := exec (.sysrd d r) s = .next (scalarDone s t d x)
    reads 0 (t.fpmode.setWidth 64) ∧ reads 1 (t.sticky.setWidth 64) ∧
    reads 2 (BitVec.ofNat 64 (s.cur.1 / 32 * 2 ^ 20 + s.cur.1 / 8 * 2 ^ 15 + s.cur.1 / 64 * 2 ^ 13 + s.cur.2 * 2 ^ 8 + s.cur.1)) ∧
    (∀ b, s.blockOf s.cur.1 t = some b → reads 3 (BitVec.ofNat 64 (b.pasid * 2 ^ 16 + b.launchNo)) ∧
      reads 4 (BitVec.ofNat 64 (b.gang * 2 ^ 48 + b.gz * 2 ^ 32 + b.gy * 2 ^ 16 + b.gx))) ∧
    (∃ x, s.time ≤ x ∧ exec (.sysrd d 5) s = .next (scalarDone { s with time := x, tick := s.tick + 1 } t d (BitVec.ofNat 64 x))) ∧
    reads 6 (t.sigstk.setWidth 64) ∧
    (s.cur.2 = 0 → reads 0x100 k.evec ∧ reads 0x101 k.epc ∧ reads 0x102 (BitVec.ofNat 64 k.ecause) ∧
      reads 0x103 (if k.even then 1 else 0) ∧ reads 0x104 (BitVec.ofNat 64 k.replay.length))) ∧
  (∀ s t d, OnceReady s t .any →
    let k := s.core s.cur.1
    let x := t.s d
    let all (r : Nat) (f : W64 → State) (old : W64) : Prop :=
      exec (.syswr d r) s = .next (f x) ∧ exec (.syswrSet d r) s = .next (f (old ||| x)) ∧
      exec (.syswrClr d r) s = .next (f (old &&& ~~~x))
    all 0 (fun x => s.complete { t with fpmode := x.setWidth 32 &&& 0x001F0FF3 }) (t.fpmode.setWidth 64) ∧
    all 1 (fun x => s.complete { t with sticky := x.setWidth 5 }) (t.sticky.setWidth 64) ∧
    all 6 (fun x => s.complete { t with sigstk := x.setWidth 57 }) (t.sigstk.setWidth 64) ∧
    (∀ r, r = 2 ∨ r = 3 ∨ r = 4 ∨ r = 5 → all r (fun _ => s.complete t) 0) ∧
    (s.cur.2 = 0 →
      all 0x100 (fun x => (s.setCore s.cur.1 { k with evec := x }).complete t) k.evec ∧
      all 0x101 (fun x => (s.setCore s.cur.1 { k with epc := x }).complete t) k.epc ∧
      all 0x102 (fun _ => s.complete t) 0 ∧
      all 0x103 (fun x => (s.setCore s.cur.1 { k with even := x.getLsbD 0 }).complete t) (if k.even then 1 else 0) ∧
      all 0x104 (fun _ => s.complete t) 0)) ∧
  (∀ s t d r, OnceReady s t .any → s.cur.2 ≠ 0 → r ∈ [0x100, 0x101, 0x102, 0x103, 0x104] →
    let parks : Result := .next (s.onceFault t 0x02 0 0)
    exec (.sysrd d r) s = parks ∧ exec (.syswr d r) s = parks ∧ exec (.syswrSet d r) s = parks ∧ exec (.syswrClr d r) s = parks) ∧
  (∀ s t d r, OnceReady s t .any → r ∉ [0, 1, 2, 3, 4, 5, 6, 0x100, 0x101, 0x102, 0x103, 0x104] →
    let f := faultOf 0x01 1 0 (unknownMask t)
    let parks : Result := .next (if t.excused f then s.complete t else s.unitFault t f)
    exec (.sysrd d r) s = parks ∧ exec (.syswr d r) s = parks ∧ exec (.syswrSet d r) s = parks ∧ exec (.syswrClr d r) s = parks)

/-- R338, R414: `trap` completes with a release at system scope and parks its team with `F.SYS` and its number at the next unit;
`brk` does the same with `F.BRK`, and under an attached agent halts its team there instead. R345: `nop` only completes. R344,
R399: `halt` of a team that holds no lock and has nothing in flight or to report ends the team; of a supervisor it sets EVEN,
completes and stops the team. With a lock held it is `F.LOCK`; with work in flight the team waits. -/
def Obligations.TrapBreakHalt : Prop :=
  ((∀ s t, OnceReady s t .any → exec .nop s = .next (s.complete t)) ∧
   ∀ s t n s0 t0, OnceReady s t .any → s0.latch.stuffed = false → s.latch.stuffed = false →
     let at_ (s : State) (t : Team) : W57 := (loopEnd s.latch.start s.latch.next t.loops).1
     let parked (code : Nat) (s0 : State) (t0 : Team) (s' : State) : Prop :=
       s'.seq = s0.seq + 1 ∧ s'.mem = s0.mem ∧ ∃ t', s'.team? s0.cur = some t' ∧ t'.parked = true ∧ t'.pc = at_ s0 t0 ∧ t'.done = 0 ∧
         t'.rep.remain = 0 ∧ (∀ k, t'.s k = t0.s k) ∧ t'.record.code = code ∧ t'.record.sub = 0 ∧
         t'.record.addr = BitVec.ofNat 64 n ∧ t'.record.mask = 1 ∧ t'.record.pc = at_ s0 t0 ∧ t'.record.seq = s0.seq + 1 ∧
         (s0.cur.2 ≠ 0 → (s'.core s0.cur.1).replay = (s0.core s0.cur.1).replay ++ [⟨s0.seq + 1, s0.cur.2, false⟩])
     (s.storesComplete .sys allStores = .done s0 → s0.team? s0.cur = some t0 → ∃ s', exec (.trap n) s = .next s' ∧ parked 0x30 s0 t0 s') ∧
     (s.cur.2 = 0 ∨ s.attached (pasidOf (s.blockOf s.cur.1 t)) = false → ∃ s', exec (.brk n) s = .next s' ∧ parked 0x29 s t s') ∧
     (s.cur.2 ≠ 0 → s.attached (pasidOf (s.blockOf s.cur.1 t)) = true → ∃ s' t', exec (.brk n) s = .next s' ∧ s'.team? s.cur = some t' ∧
       t'.halted = true ∧ t'.parked = t.parked ∧ t'.pc = at_ s t)) ∧
  ((∀ s t, OnceReady s t .any → s.cur.2 = 0 → t.parked = false → s.latch.stuffed = false → s.latch.rep = false →
     let k := s.core s.cur.1
     let r := loopEnd s.latch.start s.latch.next t.loops
     exec .halt s = .next ((s.setCore s.cur.1 { k with even := true }).setTeam s.cur
       { t with done := 0, marked := none, heldSince := none, wait := t.wait.kept, rep := .idle, pc := r.1, loops := r.2,
                stepDue := t.stepArm, halted := true })) ∧
   (∀ s t, OnceReady s t .any → s.cur.2 ≠ 0 → t.held ≠ [] → exec .halt s = .next (s.onceFault t 0x20 7 0)) ∧
   (∀ s t, OnceReady s t .any → s.cur.2 ≠ 0 → t.held = [] → s.reportDue t (fun _ _ => true) (fun y => !y.cancelled) = none →
     (s.hasWork t.uid = true → ∃ s' t', exec .halt s = .next s' ∧ s'.team? s.cur = some t' ∧ t'.wait.kind ≠ 0 ∧ t'.pc = t.pc) ∧
     (s.hasWork t.uid = false → ∀ s0 t0, s.storesComplete .pod allStores = .done s0 → s0.team? s0.cur = some t0 →
       exec .halt s = .next (s0.endTeam s0.cur t0))))

/-- R188: `sigret` restores the team from a well-formed frame and is an acquire; a frame that is not aligned or is malformed faults
with `F.PROT` FRAME. -/
def Obligations.SignalReturn : Prop :=
  (∀ s t d, OnceReady s t .any →
    let f := t.s d
    (f.toNat % 128 ≠ 0 → exec (.sigret d) s = .next (s.onceFault t 0x09 0x000A f)) ∧
    (f.toNat % 128 = 0 → ∀ ws s1, s.loadWords (s.agentOf s.cur t) f t.frameWords = .ok ws s1 →
      let w (i : Nat) : Nat := (ws[i]?).getD 0
      (frameBad w = true → exec (.sigret d) s = .next (s1.onceFault t 0x09 0x000A f)) ∧
      (frameBad w = false → ∀ t1, s1.acquire.team? s1.acquire.cur = some t1 →
        exec (.sigret d) s = .next (s1.acquire.afterUnit ({ t1 with wait := t1.wait.kept }.ofFrame w))))) ∧
  (∀ (t : Team) w,
    let u := t.ofFrame w
    u.pc = BitVec.ofNat 57 (w 1) ∧ u.sticky = BitVec.ofNat 5 (w 5) ∧ u.pvalue = BitVec.ofNat 64 (w 20) ∧
    u.sigstk = BitVec.ofNat 57 (w 22) ∧ u.loops.length = w 7 % 8 ∧ (∀ k, 0 < k → k < 64 → u.s k = BitVec.ofNat 64 (w (24 + k))) ∧
    u.s 0 = 0 ∧ (∀ r l, u.vreg r l = t.vreg r l) ∧ (∀ k, k ≠ 0 → u.mreg k = t.mreg k) ∧ u.held = t.held ∧ u.parked = t.parked)

/-- R341: entry to a supervisor's event. EPC takes the PC, ECAUSE the cause, EVEN goes to 0 and the team continues at EVEC; the team
must have EVEN 1, not be parked, and stand between instructions. R341, R286: `eret` in the supervisor's slot transfers to EPC
with EVEN 1; an EPC that is not canonical, or odd, faults at the `eret`, and EVEN is not changed. -/
def Obligations.SupervisorEvents : Prop :=
  (∀ (s : State) c t cause k, s.team? (c, 0) = some t → (s.core c).nextEvent s.time = some (cause, k) →
     (k.even = true → s.fe.recovery = false → t.parked = false → t.done = 0 → t.rep.remain = 0 → t.pwords = 0 → ∃ s' t', exec (.eventEntry c) s = .next s' ∧
       (s'.core c).epc = wide t.pc ∧ (s'.core c).ecause = cause ∧ (s'.core c).even = false ∧ (s'.core c).evec = k.evec ∧
       s'.team? (c, 0) = some t' ∧ t'.pc = k.evec.setWidth 57 ∧ t'.halted = false ∧ (∀ r, t'.s r = t.s r) ∧ t'.loops = t.loops ∧
       s'.mem = s.mem ∧ (∀ p, p ≠ (c, 0) → s'.team? p = s.team? p)) ∧
     (k.even = false → exec (.eventEntry c) s = .next s)) ∧
  (∀ s t, OnceReady s t .any → s.cur.2 = 0 →
     let k := s.core s.cur.1
     (canonical k.epc = true → k.epc.getLsbD 0 = false →
       exec .eret s = .next ((s.setCore s.cur.1 { k with even := true }).transfer t (k.epc.setWidth 57) t.loops)) ∧
     (canonical k.epc = false → exec .eret s = .next (s.onceFault t 0x09 1 k.epc)) ∧
     (canonical k.epc = true → k.epc.getLsbD 0 = true → exec .eret s = .next (s.onceFault t 0x0A 0 k.epc)))

/-- R342, R343, R401: `park` and `resume` by a handle of KIND 0. `park` parks a running team with a record of code 0 and changes no
other team; `resume` and `resume.step` clear a parked team's record, take its entry from the replay queue and let it run from
its saved PC, the second with its step armed; a team parked by `trap` acquires at system scope (R338), which takes the latest
time of the cores and of the other agents (logs 25, 87). What the resumed team keeps of lanes marked done is log 13. A handle
that is not one faults. -/
def Obligations.ParkAndResume : Prop :=
  (∀ s t d u, OnceReady s t .any → s.cur.2 = 0 → (t.s d).toNat < 32 → (t.s d).toNat ≠ 0 →
    let p := (s.cur.1, (t.s d).toNat)
    s.team? p = some u →
    (u.parked = false → u.halted = false → ({ u with yielded := false } : Team).canIssue (s.blockOf s.cur.1 u) = true → ∃ (s1 : State) (u' : Team), exec (.park d) s = .next (s1.completeWith id) ∧
      s1.team? p = some u' ∧ u'.parked = true ∧ u'.pc = u.pc ∧ u'.record.code = 0 ∧ u'.record.seq = s.seq + 1 ∧ s1.seq = s.seq + 1 ∧
      (∀ r, u'.s r = u.s r) ∧ s1.team? s.cur = some t ∧ s1.mem = s.mem ∧
      (s1.core s.cur.1).replay = (s.core s.cur.1).replay ++ [⟨s.seq + 1, p.2, false⟩]) ∧
    (exec (.resume d) s = .next ((s.resumeUid u.uid false).completeWith id) ∧
      exec (.resumeStep d) s = .next ((s.resumeUid u.uid true).completeWith id))) ∧
  (∀ (s : State) uid step t p, s.findTeam uid = some p → s.team? p = some t → t.parked = true →
    let t1 : Team :=
      { t with parked := false, record := .empty, stepArm := step, marked := t.markRecord, trapped := false, obs := if t.trapped then 0 else t.obs }
    let s1 := (s.setTeam p t1).restartReported uid
    s1.findTeam uid = some p →
    let k := s1.core p.1
    (s.setTeam p t1).team? p = some t1 ∧
    s.resumeUid uid step = s1.setCore p.1 { k with
      replay := k.replay.filter (fun e => e.slot != p.2), ltime := if t.trapped then max k.ltime (max s1.syncTime s1.agentTime) else k.ltime }) ∧
  (∀ s t d, OnceReady s t .any → s.cur.2 = 0 → 2 ≤ (t.s d).toNat / 2 ^ 62 ∨ (t.s d).toNat / 2 ^ 62 = 0 ∧ (t.s d).toNat % 32 = 0 →
    let parks : Result := .next (s.onceFault t 0x09 0x000B (t.s d))
    exec (.park d) s = parks ∧ exec (.resume d) s = parks ∧ exec (.resumeStep d) s = parks)

/-- R239, R24, R175: a privileged instruction outside the supervisor's slot is `F.PRIV`, and an instruction of another role is
`F.ROLE`, at the instruction, with nothing of it done. -/
def Obligations.PrivilegeAndRole : Prop :=
  (∀ s t d, s.team? s.cur = some t → t.markedOnce = false → s.cur.2 ≠ 0 →
    let parks : Result := .next (s.unitFault t (faultOf 0x02 0 0 1))
    exec .eret s = parks ∧ exec (.park d) s = parks ∧ exec (.resume d) s = parks ∧ exec (.resumeStep d) s = parks) ∧
  (∀ s t d a b nw, s.team? s.cur = some t → t.done = 0 → t.marked = none → t.role ≠ .vector →
    let parks : Result := .next (s.unitFault t (faultOf 0x04 0 0 1))
    exec (.iaddI32 d a b nw) s = parks ∧ exec (.faddF32 d a b nw) s = parks ∧ exec (.shfl d d b nw) s = parks ∧
    exec (.mand d d d) s = parks ∧ exec (.mpop d d) s = parks) ∧
  (∀ s t d a b, s.team? s.cur = some t → t.role = .vector → t.nreg ≤ d → (t.active ≠ 0 ∨ t.done = 0 ∧ t.marked = none) →
    exec (.iaddI32 d a b false) s = .next (s.unitFault t (faultOf 0x03 1 (BitVec.ofNat 64 d) t.active)))

/-- R175, R179, R401, R402, R405, R436: taking a fault parks the team: its record says what happened and where, SEQ advances by one,
the team enters its core's replay queue, and a supervisor that parks posts SUPFAULT instead; no memory and no other team
changes. -/
def Obligations.TakingAFault : Prop :=
  ∀ (s : State) (p : Nat × Nat) (t : Team) pc (f : FaultInfo), f.code ≠ 0x28 → f.code ≠ 0x29 →
    let s' := s.takeFault p t pc f
    ∃ t', s'.team? p = some t' ∧ t'.parked = true ∧ t'.pc = pc ∧ t'.record.code = f.code ∧ t'.record.sub = f.sub ∧
      t'.record.addr = f.addr ∧ t'.record.mask = f.mask ∧ t'.record.slot = p.2 ∧ t'.record.core = p.1 ∧ t'.record.pc = pc ∧
      t'.record.seq = s.seq + 1 ∧ t'.record.pasid = pasidOf (s.blockOf p.1 t) ∧ s'.seq = s.seq + 1 ∧
      (∀ k, t'.s k = t.s k) ∧ (∀ r l, t'.vreg r l = t.vreg r l) ∧ (∀ k, t'.mreg k = t.mreg k) ∧ t'.done = t.done ∧
      s'.mem = s.mem ∧ (∀ q, q ≠ p → s'.team? q = s.team? q) ∧
      (p.2 ≠ 0 → (s'.core p.1).replay = (s.core p.1).replay ++ [⟨s.seq + 1, p.2, false⟩] ∧ s'.mailOut = s.mailOut) ∧
      (p.2 = 0 → (s'.core p.1).replay = (s.core p.1).replay ∧ s'.mailOut.length = s.mailOut.length + 1)

/-- R317 to R320: `tbind`, `tstate`, `twait`, `tready` and `trel` on an entry the block holds, when what they ask of it holds: the
range bound, the entry's word, its state and phase, and what they leave in it. What must still come about is waited for; a
`twait` that a change of the entry met completes whatever the entry is by then. `tready` and `trel` are releases at block scope
(R97): they take their effect when nothing keeps the team's stores from that. R321: `mzero` makes an accumulator entry ready
with all its bytes zero, `mzero.f64` a pair of them; no other byte changes. -/
def Obligations.TileInstructions : Prop :=
  ((∀ s t b n e d, TileNamed s t .any b true n e →
     let x := (s.core s.cur.1).tile e
     let off := (t.s d).toNat % 2 ^ 19
     let len := (t.s d).toNat / 2 ^ 32 % 2 ^ 20
     off % 128 = 0 → 0 < len → len ≤ 524288 → off + len ≤ b.spList.length * 1024 → x.state = 0 → x.pair = false →
     exec (.tbind n d) s = .next ((s.setTile s.cur.1 e { x with length := len, offset := off }).completeWith id)) ∧
   (∀ s t b (slot : Bool) n e d, TileNamed s t .any b slot n e →
     let x := (s.core s.cur.1).tile e
     let bit (b : Bool) : Nat := if b then 1 else 0
     let w := x.kstep % 2 ^ 32 * 2 ^ 32 + bit x.pair * 2 ^ 7 + bit x.wide * 2 ^ 6 + bit slot * 2 ^ 5 + bit x.phase * 2 ^ 3 + x.state
     exec (if slot then .tstateSt n d else .tstateAcc n d) s = .next (s.acquire.completeWith (fun t => t.setS d (BitVec.ofNat 64 w)))) ∧
   (∀ s t b (slot : Bool) n e want phase, TileNamed s t .any b slot n e →
     let x := (s.core s.cur.1).tile e
     let bit (b : Bool) : Nat := if b then 1 else 0
     let run : Result := exec (if slot then .twaitSt n want phase else .twaitAcc n want phase) s
     (t.wait.kind = 1 → t.wait.param = n + bit slot * 2 ^ 5 + bit want * 2 ^ 6 + bit phase * 2 ^ 8 → t.wait.met = true →
       run = .next (s.acquire.completeWith id)) ∧
     (x.pair = false → x.localNo = n →
     (x.phase = phase → x.state = (if want then 2 else 0) → run = .next (s.acquire.completeWith id)) ∧
     (x.phase ≠ phase ∨ x.state ≠ (if want then 2 else 0) → t.wait.kind = 0 →
       ∃ s' t', run = .next s' ∧ s'.team? s.cur = some t' ∧ t'.wait.kind = 1 ∧ t'.pc = t.pc ∧ (∀ k, t'.s k = t.s k) ∧ s'.mem = s.mem))) ∧
   (∀ s t b (slot : Bool) n e, TileNamed s t .any b slot n e →
     let k := s.core s.cur.1
     let x := k.tile e
     x.pair = false →
     ∀ s0 t0, s.storesComplete .blk allStores = .done s0 → s0.team? s0.cur = some t0 →
     (x.state = 0 → exec (if slot then .treadySt n else .treadyAcc n) s =
       .next ((s0.setTile s0.cur.1 e { (s0.core s0.cur.1).tile e with state := 2, wide := false, pair := false }).completeWith id)) ∧
     (x.state ≠ 0 →
       let es := if x.wide then e :: (b.entry? slot (n + 1)).toList else [e]
       (∀ e ∈ es, (k.tile e).state ≠ 1 ∧ (k.tile e).state ≠ 3 ∧ k.tileReaders b slot (k.tile e).localNo e = false) →
       exec (if slot then .trelSt n else .trelAcc n) s =
         .next ((s0.modTiles s0.cur.1 es (fun y => { y with state := 0, phase := !y.phase, wide := false, pair := false })).completeWith id)))) ∧
  ((∀ s t b n e, TileNamed s t .matrix b false n e →
     let x := (s.core s.cur.1).tile e
     x.pair = false → x.state ≠ 1 → x.state ≠ 3 →
     exec (.mzero n false) s =
       .next (((s.zeroTile s.cur.1 e).setTile s.cur.1 e { x with state := 2, wide := false, pair := false }).completeWith id)) ∧
   (∀ s t b n e e2, OnceReady s t .matrix → s.blockOf s.cur.1 t = some b → n % 2 = 0 → b.entry? false n = some e →
     b.entry? false (n + 1) = some e2 → e ≠ e2 → EntriesClear s t [e, e2] →
     let k := s.core s.cur.1
     (k.tile e).pair = false → (∀ x ∈ [e, e2], (k.tile x).state ≠ 1 ∧ (k.tile x).state ≠ 3) →
     exec (.mzero n true) s =
       .next ((((((s.zeroTile s.cur.1 e).zeroTile s.cur.1 e2).setTile s.cur.1 e { k.tile e with state := 2, wide := true, pair := false }).setTile
         s.cur.1 e2 { k.tile e2 with state := 2, wide := false, pair := true })).completeWith id)) ∧
   (∀ (s : State) c e a,
     let base := 0xF000000000000 + c * 0x1000000 + 0x600000 + e * 0x4000
     memGet (s.zeroTile c e).mem a = (if base ≤ a ∧ a < base + 0x4000 then 0 else memGet s.mem a)))

/-- R143 to R147, R322: the start of `mma` and `mmag`. The format block is read from the scratchpad and checked; with sources ready,
accumulator entries empty or ready and anvils free, and the release at team scope that the start is (R97) done, each part of the
operation starts with no k-step done and in no group, on entries that are filling, and the instruction completes. -/
def Obligations.MatrixStart : Prop :=
  (∀ s t b (gang : Bool) acc xa xb c, OnceReady s t .matrix → s.blockOf s.cur.1 t = some b →
    let a := t.matSrc xa
    let b' := t.matSrc xb
    let off := (t.s c).toNat % 2 ^ 19
    let ws := (List.range 4).map (fun i => BitVec.ofNat 64 (s.spRead s.cur.1 b (off + 8 * i) 8))
    let f := FormatBlock.ofWords ws
    let slots := (a.entry? b).toList ++ (b'.entry? b).toList
    let parts := if gang then s.groupOf b else [(s.cur.1, t.place, b)]
    let entries (p : Nat × Nat × Block) : List Nat :=
      ((List.range (opEntries f.shape f.cls)).map (fun i => acc + i)).filterMap (fun n => p.2.2.entry? false n)
    t.captured = none → off % 32 = 0 → off + 32 ≤ b.spSize → s.spPoison s.cur.1 b off 32 = none →
    s.spBusy s.cur.1 b off 32 = none → s.matChecks s.cur.1 b gang acc a b' f = none →
    EntriesClearAt s t (s.matNamed b gang acc slots f) →
    (∀ x ∈ [a, b'], ∀ e ∈ x.entry? b, ((s.core s.cur.1).tile e).state = 2) →
    (∀ p ∈ parts, ∀ e ∈ entries p, ((s.core p.1).tile e).state = 0 ∨ ((s.core p.1).tile e).state = 2) →
    (∀ p ∈ parts, (s.core p.1).takeAnvils f.shape ≠ none ∧ (s.core p.1).anvilWaiters = []) →
    ∀ s0 t0, s.storesComplete .team allStores = .done s0 → s0.team? s0.cur = some t0 →
    exec (if gang then .mmag acc xa xb c else .mma acc xa xb c) s =
      .next ((parts.foldl (fun r p => r.startPart t0 f acc a b' gang s0.nextUid p) s0).completeWith id)) ∧
  (∀ (s : State) t f acc a b' gang issue c pl b,
    let s' := s.startPart t f acc a b' gang issue (c, pl, b)
    (∃ o, (s'.core c).ops = (s.core c).ops ++ [o] ∧ o.team = t.uid ∧ o.blk = b.uid ∧ o.kind = .mma ∧ o.kstep = 0 ∧
      o.ksteps = f.ksteps ∧ o.group = none ∧ o.running = true ∧ o.fault = none ∧ o.srcA = a ∧ o.srcB = b' ∧ o.cls = f.cls ∧ o.shape = f.shape) ∧
    ∀ i e, i < opEntries f.shape f.cls → b.entry? false (acc + i) = some e →
      ((s'.core c).tile e).state = 1 ∧ ((s'.core c).tile e).kstep = 0)

/-- R324, R326: the start of `mdrain`, `mdrain.add`, `quant` and `quant.bmaj` whose destination passes its checks: the source
entries go to draining, and the operation is in flight with the addresses of the destination's units. -/
def Obligations.DrainStart : Prop :=
  ∀ s t b n xd sb e, TileNamed s t .matrix b false n e →
    let dst := t.matSrc xd
    let x := (s.core s.cur.1).tile e
    t.captured = none → dst.notHeld b = false → EntriesClear s t (e :: (dst.entry? b).toList) → x.pair = false → x.state = 2 →
    (∀ e' ∈ dst.entry? b, ((s.core s.cur.1).tile e').state ≠ 1) →
    let starts (es : List Nat) (o : MatOp) (s : State) : Result :=
      let s1 := s.modTiles s.cur.1 es (fun x => { x with state := 3 })
      let k := s1.core s.cur.1
      .next (({ s1.setCore s.cur.1 { k with ops := k.ops ++ [o] } with nextUid := s1.nextUid + 1 } : State).completeWith id)
    ∀ s1 : State, s1.cur = s.cur → (s1.core s.cur.1).tiles = (s.core s.cur.1).tiles → ∀ pas,
    (∀ (add : Bool) e',
      let es := if x.wide then [e, e'] else [e]
      let row := if x.wide then 512 else 256
      let rs := (t.s sb).toNat % 2 ^ 32
      let stride := if rs = 0 then row else rs
      (x.wide = true → b.entry? false (n + 1) = some e' ∧ ((s.core s.cur.1).tile e').state = 2) → EntriesClear s t es →
      stride % 16 = 0 → row ≤ stride →
      (∀ k, s.drainDest t b dst stride row add k = k s1 t pas) → s1.tilePoison s1.cur.1 es = none →
      exec (if add then .mdrainAdd n xd sb else .mdrain n xd sb) s =
        starts es (s1.drainOp t b (.drain add) n (if x.wide then 0 else 1) (if x.wide then [n, n + 1] else [n]) pas) s1) ∧
    (∀ (bmaj : Bool) sc, x.wide = false →
      let desc := (t.s sb).toNat
      let fw : W32 := BitVec.ofNat 32 desc
      let row := 8 * (NFmt.of fw).w
      let rs := desc / 2 ^ 48
      let stride := if rs = 0 then row else rs
      let blk := desc / 2 ^ 32 % 4
      let so := (t.s sc).toNat % 2 ^ 19
      nfValid fw = true → blk ≠ 0 → (rs = 0 ∨ rs % 16 = 0) → row ≤ stride →
      (∀ k, s.drainDest t b dst stride row false k = k s1 t pas) → so + 64 * (64 / (8 * 2 ^ blk)) ≤ b.spSize →
      s1.partRange s1.cur.1 b so (64 * (64 / (8 * 2 ^ blk))) = none → s1.tilePoison s1.cur.1 [e] = none →
      exec (if bmaj then .quantBmaj n xd sb sc else .quant n xd sb sc) s =
        starts [e] { s1.drainOp t b (.quant bmaj) n 1 [n] pas with fmtA := fw, blkLen := blk, scaleDst := so } s1)

/-- R152, R323: `mcommit` opens the next group with every operation of the team that is in none and writes its token, unless 64
groups are open; `mwait` on a token never issued faults, on a group that is complete acquires and completes, and waits
otherwise. R165, R172 to R174, R329: `cwait`, `cstat.map`, `cstat` and `ccancel` on a token that was issued. -/
def Obligations.Tokens : Prop :=
  (∀ s t d, OnceReady s t .matrix →
     (t.issued - t.drained ≠ 64 → exec (.mcommit d) s =
       .next ((({ s with cores := s.cores.map (fun k => (k.1, { k.2 with
           ops := k.2.ops.map (fun o => if o.team = t.uid ∧ o.group = none then { o with group := some (t.issued + 1) } else o) })) } : State).completeWith
         (fun t' => ({ t' with issued := t.issued + 1 } : Team).setS d ((t.issued + 1).zeroExtend 64))).advanceGroups t.uid 64)) ∧
     (t.issued - t.drained = 64 → exec (.mcommit d) s = .next (s.waitWith t { WaitRec.idle with kind := 6 })) ∧
     (let tok : BitVec 16 := (t.s d).setWidth 16
      (1 ≤ (tok - t.issued).toNat → (tok - t.issued).toNat ≤ 2 ^ 15 - 1 → exec (.mwait d) s = .next (s.onceFault t 0x18 7 0)) ∧
      (tok = t.issued ∨ 2 ^ 15 ≤ (tok - t.issued).toNat →
       s.reportDue t (fun _ o => o.group.any (fun g => decide ((tok - g).toNat < 2 ^ 15))) (fun _ => false) = none →
       ((t.issued - t.drained).toNat ≤ (t.issued - tok).toNat → exec (.mwait d) s = .next (s.acquire.completeWith id)) ∧
       ((t.issued - tok).toNat < (t.issued - t.drained).toNat →
         exec (.mwait d) s = .next (s.waitWith t { WaitRec.idle with kind := 7, param := tok.toNat }))))) ∧
  (∀ s t d a, OnceReady s t .copy →
     let tok : BitVec 16 := (t.s a).setWidth 16
     let y := (s.core s.cur.1).copies.find? (fun y => y.team == t.uid && y.token == tok)
     (1 ≤ (tok - t.copyIssued).toNat → (tok - t.copyIssued).toNat ≤ 2 ^ 15 - 1 →
       let parks : Result := .next (s.onceFault t 0x18 7 0)
       exec (.cwait a) s = parks ∧ exec (.cstatMap d a) s = parks ∧ exec (.cstat d a) s = parks ∧ exec (.ccancel a) s = parks) ∧
     (tok = t.copyIssued ∨ 2 ^ 15 ≤ (tok - t.copyIssued).toNat →
       (s.reportDue t (fun _ _ => false) (fun y => decide ((tok - y.token).toNat < 2 ^ 15)) = none →
         ((t.copyIssued - t.copyDone).toNat ≤ (t.copyIssued - tok).toNat →
           let k := s.core s.cur.1
           exec (.cwait a) s = .next ((s.setCore s.cur.1 { k with copies := k.copies.filter (fun y =>
             !(y.team == t.uid && y.complete && decide ((tok - y.token).toNat < 2 ^ 15))) }).acquire.completeWith id)) ∧
         ((t.copyIssued - tok).toNat < (t.copyIssued - t.copyDone).toNat →
           exec (.cwait a) s = .next (s.waitWith t { WaitRec.idle with kind := 5, param := tok.toNat }))) ∧
       exec (.cstatMap d a) s = .next (scalarDone s t d ((y.map (·.bitmap)).getD 0)) ∧
       exec (.cstat d a) s = .next (scalarDone s t d (BitVec.ofNat 64 ((y.map Copy.word).getD (tok.toNat * 2 ^ 48 + 2)))) ∧
       (y = none → exec (.ccancel a) s = .next (s.complete t)) ∧
       (∀ z, y = some z → z.complete = true → exec (.ccancel a) s = .next (s.complete t)) ∧
       (∀ z, y = some z → z.complete = false → exec (.ccancel a) s =
         .next (((s.modCopy s.cur.1 z.id (fun y => { y with cancelled := true })).advanceCopies s.cur.1 t.uid 32).completeWith id))))

/-- R160, R163, R165, R328: the start of `tcopy`. The layout record is read from the scratchpad and checked; with room in the queue
and the dense side's entry in the state the direction needs, the copy joins the queue with the next token, which the instruction
writes, and a gather's entry goes to filling. The start is a release at team scope (R97). -/
def Obligations.CopyStart : Prop :=
  (∀ s t b d sa (x : DenseArg), OnceReady s t .copy → s.blockOf s.cur.1 t = some b →
    let dense := t.denseSide x
    let e := dense.local?.bind (fun p => b.entry? p.1 p.2)
    let off := (t.s sa).toNat % 2 ^ 19
    let ws := (List.range 12).map (fun i => BitVec.ofNat 64 (s.spRead s.cur.1 b (off + 8 * i) 8))
    let scatter := (Layout.of ws).scatter
    (dense.local? ≠ none → e ≠ none) → EntriesClear s t e.toList → (∀ e' ∈ e, ((s.core s.cur.1).tile e').pair = false) →
    t.captured = none → off % 32 = 0 → off + 96 ≤ b.spSize → s.spPoison s.cur.1 b off 96 = none → s.spBusy s.cur.1 b off 96 = none →
    s.copyChecks s.cur.1 off dense e ws = none → (s.core s.cur.1).copies.length < 32 →
    (∀ e' ∈ e, ((s.core s.cur.1).tile e').state = (if scatter then 2 else 0)) →
    ∀ s1 t1, s.storesComplete .team allStores = .done s1 → s1.team? s1.cur = some t1 →
    let k := s1.core s1.cur.1
    let tok := t1.copyIssued + 1
    let y : Copy :=
      { id := s1.nextUid, team := t1.uid, blk := b.uid, token := tok, record := ws, dense := dense, bitmap := 0,
        nbox := (Layout.of ws).nb, boxes := [], denseOff := ((e.map (fun e => ((s.core s.cur.1).tile e).offset)).getD 0) % 2 ^ 64,
        fault := none, fbox := 0, reported := false, cancelled := false, complete := false, frozen := false }
    let s2 : State := { s1.setCore s1.cur.1 { k with copies := k.copies ++ [y] } with nextUid := s1.nextUid + 1 }
    let s3 := if scatter then s2 else s2.modTiles s2.cur.1 e.toList (fun x => { x with state := 1, kstep := 0 })
    let done : Result := .next (s3.completeWith (fun t => ({ t with copyIssued := tok } : Team).setS d (tok.zeroExtend 64)))
    match x with
    | .src o => exec (.tcopyDense d sa o) s = done
    | .acc n => exec (.tcopyAcc d sa n) s = done)

/-- R148 to R155: a k-step of an operation, of all its parts together. It reads its rows of A and columns of B, writes every output
element's new accumulator value, and counts; the last k-step makes its entries ready. A fault stops every part and marks its
entries. An operation that has stopped takes free anvils first, and one whose block stops lets go of them at the boundary. The
model's choices here (log 32): a fault frees the anvils at once, and a stopped operation takes whichever anvils are free by
then. R150: what one output element of a k-step becomes. In classes 2 to 4 the products are summed exactly and the accumulator
is added with one rounding to nearest even; an invalid product, a NaN among the elements, gives the canonical NaN with the
invalid flag. R157, R207, R208, R324, R327: a drain writes the bytes of its tile to its destination in one step and makes its
entries ready; a `quant` writes codes and scale bytes, or, when a trapped exception arises, nothing. Both wait while something
holds their destination. What a source or a destination that has been poisoned since the start does to them is the model's
choice (log 111). -/
def Obligations.MatrixSteps : Prop :=
  ((∀ (s : State) op c o p ps, s.findOp op = some (c, o) → o.kind = .mma → o.fault = none → s.partsOf o.issue = p :: ps →
     let parts := p :: ps
     let boundary (s : State) : State := if ∀ q ∈ parts, q.blk.engines = true then s
       else s.modParts parts (fun o => { o with anvils := 0, running := false, pins := [] })
     (o.running = false → (∃ q ∈ parts, q.blk.engines = false ∨ (s.core q.core).takeAnvils q.op.shape = none) →
       exec (.kstepComplete op) s = .next s) ∧
     (∀ s0, (o.running = true ∧ s0 = s ∨
         o.running = false ∧ (∀ q ∈ parts, q.blk.engines = true) ∧ s.takeParts parts = some s0) →
       (∀ q ∈ parts, s0.accPoison q = none) →
       (∀ f s1, s0.kstepFetch p = (.error (some f), s1) → exec (.kstepComplete op) s = .next (s1.faultOp p.op f)) ∧
       (∀ s1, s0.kstepFetch p = (.error none, s1) → exec (.kstepComplete op) s = .next (boundary s1)) ∧
       (∀ rows cols s1, s0.kstepFetch p = (.ok (rows, cols), s1) →
         let s2 := parts.foldl (fun s q => s.kstepPart rows.rows cols.rows q) s1
         exec (.kstepComplete op) s = .next (if p.op.kstep + 1 = p.op.ksteps then parts.foldl (fun s q => s.finishOp q.core q.op) s2
           else boundary s2)))) ∧
   (∀ (s : State) p rows cols,
     let o := p.op
     let cs := if o.gang then (cols.drop (128 * o.member)).take 128 else cols
     let out := s.kstepOut p.core p.blk o rows cs
     let s1 := (out.1.foldl (fun s e => s.memWrite e.1 (leBytes (if o.cls = 0 then 8 else 4) e.2)) s).orSticky o.team out.2
     s.kstepPart rows cols p = ((s1.modOp p.core o.id (fun o => { o with kstep := o.kstep + 1 })).modTiles p.core
       (o.phys (s1.core p.core)) (fun x => { x with kstep := o.kstep + 1 })).traceCount p.core 5 none) ∧
   (∀ (s : State) p rows cols s1 s2,
     let o := p.op
     let la := o.ks * elemBits o.cls o.fmtA / 8
     let lb := o.ks * elemBits o.cls o.fmtB / 8
     let n := if o.gang then 128 * p.blk.gang else o.dims.2
     o.blkLen = 0 →
     s.fetchRows p.core p.blk o.pins o.srcA o.strideA (o.ksteps * la) (o.kstep * la) la 0 o.dims.1 = (.ok rows, s1) →
     s1.fetchRows p.core p.blk rows.ls o.srcB o.strideB (o.ksteps * lb) (o.kstep * lb) lb 0 n = (.ok cols, s2) →
     (s.kstepFetch p).1 = .ok (rows, cols) ∨ (s.kstepFetch p).1 = .error none) ∧
   (∀ (s : State) o f c,
     (∀ x ∈ ((s.faultOp o f).core c).ops, x.issue = o.issue → x.fault = some f ∧ x.anvils = 0 ∧ x.running = false) ∧
     ∀ x ∈ (s.core c).ops, x.issue = o.issue → ∀ e ∈ x.phys (s.core c),
       (((s.faultOp o f).core c).tile e).faulted = true ∧ (((s.faultOp o f).core c).tile e).fault = f.code)) ∧
  (∀ cls rflush a b c, 2 ≤ cls →
     (dotExact a b = none → elemStep cls rflush a b c = f32.nanRes true) ∧
     (∀ v, dotExact a b = some v → (f32.dec c).isNan = false →
       elemStep cls rflush a b c = f32.finish .rne rflush (addVal .rne (f32.dec c) v)) ∧
     (∀ x y, a = [x] → b = [y] → x.isNan = true ∨ y.isNan = true → dotExact a b = none)) ∧
  ((∀ (s : State) op c o add, s.findOp op = some (c, o) → o.kind = .drain add →
     let r := s.drainUnits c (o.phys (s.core c)) o add 0 o.dstPa
     (s.engineWait c o.team o = none → exec (.drainComplete op) s =
       .next (((if add then r.1 else r.1.sectorClears 8 o.dstPa).orSticky o.team r.2).finishOp c o)) ∧
     (∀ s1, s.engineWait c o.team o = some s1 → exec (.drainComplete op) s = .next s1)) ∧
   (∀ (s : State) c phys o u pa t,
     let x := leRead (memGet s.mem) (tileAddr c phys (8 * u)) 8
     s.unitDropped c phys false o.dstPa u pa = false →
     s.drainUnits c phys o false u (pa :: t) =
       (let r := (s.engineStore c o.team pa (leBytes 8 x)).drainUnits c phys o false (u + 1) t
        (r.1, 0 ||| r.2))) ∧
   (∀ (s : State) op c o b bmaj, s.findOp op = some (c, o) → o.kind = .quant bmaj → (s.core c).blockUid o.blk = some b → o.fault = none →
     let phys := o.phys (s.core c)
     let rows := (List.range 64).map (fun i => quantRow (NFmt.of o.fmtA) o.fmtB (blkLength o.blkLen)
       ((List.range 64).map (fun j => leRead (memGet s.mem) (tileAddr c phys ((64 * i + j) * 4)) 4)))
     let fl : Flags := rows.foldl (fun r row => row.foldl (fun r x => r ||| x.2.2) r) 0
     let fails (f : FlightFault) : Result :=
       .next (((s.modOp c o.id (fun o => { o with fault := some f })).modTiles c phys (fun x => { x with state := 2 })).advanceGroups o.team 64)
     (∀ sec, s.tilePoison c phys = some sec → exec (.quantComplete op) s = fails ⟨0x0B, 0, BitVec.ofNat 64 (sec * 32)⟩) ∧
     (s.tilePoison c phys = none → fl &&& o.fmtB.extractLsb' 16 5 ≠ 0 → exec (.quantComplete op) s = fails ⟨0x11, fl.toNat, 0⟩) ∧
     (s.tilePoison c phys = none → fl &&& o.fmtB.extractLsb' 16 5 = 0 →
       (s.engineWait c o.team o = none → s.spBusy c b o.scaleDst (64 * (64 / (8 * 2 ^ o.blkLen))) = none →
         exec (.quantComplete op) s = .next (((s.quantWrite c b o bmaj rows).orSticky o.team fl).finishOp c o)) ∧
       (∀ s1, s.engineWait c o.team o = some s1 → exec (.quantComplete op) s = .next s1))) ∧
   (∀ f mode xs, (xs.map (f32.decIn (mode.getLsbD 5))).any FVal.isNan = true →
     quantBlock f mode xs = (xs.map (fun _ => 0), 255, fInv)))

/-- R164 to R172: the steps of a box. Issue takes the first box that nothing holds back, in queue order, and translates and owns its
destination; completion writes what is left of its bytes, sets its bit and releases its lines; a fault stands in the copy with
the box's number, what the box wrote before staying written; a pause waits for a shootdown at the boundary of a source page; an
abort ends a stopped block's boxes and freezes its copies. R84, R159, R161, R162: where a gather puts its bytes and what it
reads: an element in range is read at its tensor address, out of its line, which is read once and not across a page boundary
while a shootdown of the address space is pending (R168); one out of range is the fill value; the swizzle keeps the offset
within its span. -/
def Obligations.BoxSteps : Prop :=
  ((∀ (s : State) core,
     let k := s.core core
     let ready := k.copies.flatMap (fun y =>
       match k.blockUid y.blk with
       | some b => if s.copyRuns y b then y.openBoxes.map (fun n => (y, b, n)) else []
       | none => [])
     let flying := (k.copies.map (fun y => y.boxes.length)).sum
     (64 ≤ flying ∨ ready = [] → exec (.boxIssue core) s = .next s) ∧
     ∀ y b n rest pas s1, flying < 64 → ready = (y, b, n) :: rest →
       let l := Layout.of y.record
       let size := if l.scatter then l.esize else 8
       s.engineUnits core y.team (blockAgent core b) size (y.boxDst core b n) = .ok pas s1 → s1.boxHeld core y size pas = false →
       s1.partSector size pas = none →
       exec (.boxIssue core) s = .next (s1.modCopy core y.id (fun y => { y with boxes := y.boxes ++
         [{ num := n, paused := false, owned := ((pas.filter (fun p => !isWindow p)).map (· / 128)).eraseDups, dst := pas, size := size,
            pos := 0, src := [], page := none }] }))) ∧
   (∀ (s : State) copy box c y b x, s.liveBox copy box = some (c, y, b, x) →
     let e := s.runBox c y b x
     (e.stop = none →
       let y1 : Copy := { y with bitmap := y.bitmap ||| BitVec.ofNat 64 (2 ^ box), boxes := y.boxes.filter (fun x => x.num != box) }
       let s1 := (e.s.boxWrites c y x.dst x.pos (e.units.drop x.pos)).sectorClears x.size x.dst
       let s2 := s1.modCopy c y.id (fun _ => y1)
       let s3 := if y.scatter ∨ y.fault.isSome then s2 else
         s2.modTiles c ((y.entry? (s.core c)).toList) (fun t => { t with kstep := y1.kstep })
       exec (.boxComplete copy box) s = .next ((s3.traceCount c 6 none).advanceCopies c y.team 32)) ∧
     (e.stop ≠ none → exec (.boxComplete copy box) s = .next s) ∧
     (∀ f, e.stop = some (.fault f) → exec (.boxFault copy box) s =
       .next (((e.advance c y x e.units.length).faultBox c y box f).advanceCopies c y.team 32)) ∧
     (e.stop = some .pause → exec (.boxPause copy box) s =
       .next ((e.advance c y x e.units.length).modCopy c y.id (fun y =>
         { y with boxes := y.boxes.map (fun x => if x.num = box then { x with paused := true } else x) })))) ∧
   (∀ (s : State) blk c pl b, s.findBlock blk = some (c, pl) → tabGet? (s.core c).blocks pl = some b →
     (b.engines = true → exec (.boxAbort blk) s = .next s) ∧
     (b.engines = false → ∃ s', exec (.boxAbort blk) s = .next s' ∧ s'.mem = s.mem ∧
       ∀ y ∈ (s'.core c).copies, y.blk = blk → y.complete = false → y.boxes = [] ∧ y.frozen = true))) ∧
  ((∀ (s : State) c uid a l r w p n, l.elem r w = none →
     let q := s.gatherRow c uid a l r (w + 1) p n
     s.gatherRow c uid a l r w p (n + 1) = (leBytes l.esize l.fill ++ q.1, q.2)) ∧
   (∀ (s : State) c uid a l r w p n va x q s1, l.elem r w = some va → s.boxRead c uid a p va l.esize = (.ok (x, q), s1) →
     let t := s1.gatherRow c uid a l r (w + 1) q n
     s.gatherRow c uid a l r w p (n + 1) = (leBytes l.esize x ++ t.1, t.2)) ∧
   (∀ (s : State) c uid a p va n q s1,
     let line := va.toNat / 128 * 128
     let part (x : Nat) : Nat := x / 2 ^ (8 * (va.toNat % 128)) % 2 ^ (8 * n)
     (∀ l, p.src.find? (fun l => l.va == line) = some l → s.boxRead c uid a p va n = (.ok (part l.data, p), s)) ∧
     ((∀ l ∈ p.src, l.va ≠ line) →
       (pageLeft p.page va = true → s.downFor a.pasid = true → s.boxRead c uid a p va n = (.error .pause, s)) ∧
       (pageLeft p.page va = false ∨ s.downFor a.pasid = false → s.engineAccess c a va n .engineRead = (.ok q, s1) → isWindow q.pa = false →
         let s2 := if regionOf q.pa = .pod then s1 else s1.drainLine c (q.pa / 128)
         let x := s2.engineLoad c uid (q.pa / 128 * 128) 128
         s.boxRead c uid a p va n = (.ok (part x, ⟨⟨line, q.pa / 128 * 128, x⟩ :: p.src, s1.pageOf a va⟩), s2)))) ∧
   (∀ l : Layout, ∀ d rest r, ∀ w : Nat, l.dims = d :: rest → (d.origin + (w : Int) < 0 ∨ (d.extent : Int) ≤ d.origin + (w : Int)) → l.elem r w = none) ∧
   (∀ l : Layout, ∀ a, l.bank < 4 → a % 16 = (l.swizzle a) % 16 ∧ a / (16 * 2 ^ l.bank) = l.swizzle a / (16 * 2 ^ l.bank)))

/-- R365 to R379: the steps of the front end. A well-formed packet whose address passes its checks is done as R368 says, with the
release of its FSCOPE when it completes, and HEAD moves past its slot when it starts; `LAUNCH` hands a launch to the dispatcher;
`WAIT` stands until its value is reached. Submission writes are captured with a sequence number or counted as dropped; queues
start and resume; a complex that takes over goes on from the committed table; a missed watchdog is logged (R431). In recovery
mode nothing of this operates (R378). A queue table that lies where the unit cannot write is shut out (log 89). That enabling
clears ERR is log 39; that consuming captured writes commits their part of the table, and that a start commits it whole, is log
41. -/
def Obligations.FrontEndSteps : Prop :=
  (∀ (s : State) q s1 raw,
    let scope := fld (fld raw 2016 32) 12 4
    (PacketRead s q 5 s1 raw → exec (.nopPacket q) s = .next ((s1.packetStart q).packetRelease scope none)) ∧
    (∀ p s2, s1.packetAddr q (BitVec.ofNat 64 (packetWord raw 0)) true = (.ok p, s2) →
      (PacketRead s q 2 s1 raw → exec (.write q) s =
        .next (((s2.packetStart q).agentWrite p (leBytes 8 (packetWord raw 8))).packetRelease scope none)) ∧
      (PacketRead s q 4 s1 raw → ∃ (x : Nat) (s3 : State), s2.time ≤ x ∧ s3.time = x ∧
        exec (.time q) s = .next ((s3.agentWrite p (leBytes 8 x)).packetRelease scope none))) ∧
    (∀ p s2, s1.packetAddr q (BitVec.ofNat 64 (packetWord raw 0)) false = (.ok p, s2) → PacketRead s q 3 s1 raw →
      let s3 := s2.packetStart q
      exec (.wait q) s = .next { s3 with fe := { s3.fe with inFlight := s3.fe.inFlight ++
        [⟨q, s.queueHead q, scope, none, some (BitVec.ofNat 64 (packetWord raw 0), BitVec.ofNat 64 (packetWord raw 8))⟩] } }) ∧
    (∀ ws s2,
      let e := packetWord raw 0
      let kd := packetWord raw 8
      let g := packetWord raw 0x10
      let x := packetWord raw 0x58
      let l := s2.launchOf q raw ws
      PacketRead s q 1 s1 raw → fld e 57 7 = 0 → fld e 0 1 = 0 → fld kd 57 7 = 0 → fld kd 0 6 = 0 → fld g 48 16 = 0 →
      fld x 20 44 = 0 → fld x 17 1 = 0 → fld raw 0x300 0x4E0 = 0 → fld e 56 1 = 0 → fld g 0 16 ≠ 0 → fld g 16 16 ≠ 0 → fld g 32 16 ≠ 0 →
      s1.descWords (s1.queueAgent q) (wide (BitVec.ofNat 57 kd)) 17 = (.ok ws, s2) → descRsvBad ws = false → descRangeBad ws = false →
      shapeFits l.shape = true → l.total % l.gang = 0 →
      let s3 := s2.packetStart q
      exec (.launch q) s = .next { s3 with
        nextUid := s3.nextUid + 1,
        fe := { s3.fe with
          launchNo := (s3.fe.launchNo + 1) % 2 ^ 16, launches := s3.fe.launches ++ [l],
          inFlight := s3.fe.inFlight ++ [⟨q, s.queueHead q, scope, some l.id, none⟩] } })) ∧
  (∀ (s : State) q, QueueEntryThere s q → (s.packetStart q).queueHead q = (s.queueHead q + 1) % 2 ^ 32 ∧
    (s.packetStart q).queueErr q = 0 ∧ (s.packetStart q).queueOn q = s.queueOn q ∧
    (s.packetStart q).fe.table = ⟨s.fe.format, s.fe.capCons, s.fe.hints, s.fe.runEntry⟩) ∧
  (∀ (s : State) q,
    (s.queueHeld q = true → exec (.waitComplete q) s = .next s) ∧
    (∀ before x rest va v p s1, s.queueHeld q = false → s.fe.inFlight.filter (fun x => x.queue == q) = before ++ x :: rest → (∀ y ∈ before, s.tryWait q y = none) →
      x.wait = some (va, v) → s.packetAddr q va false = (.ok p, s1) → v.toNat ≤ s1.agentRead p 8 →
      exec (.waitComplete q) s = .next (({ s1 with fe := { s1.fe with
        inFlight := s1.fe.inFlight.filter (fun y => y != x) } } : State).packetRelease x.fscope none)) ∧
    ((∀ x ∈ s.fe.inFlight, x.queue = q → s.tryWait q x = none) → exec (.waitComplete q) s = .next s) ∧
    (∀ x, x.wait = none → s.tryWait q x = none) ∧
    (∀ x va v p s1, x.wait = some (va, v) → s.packetAddr q va false = (.ok p, s1) → s1.agentRead p 8 < v.toNat → s.tryWait q x = none)) ∧
  (∀ (s : State) q val, s.fe.recovery = true → exec (.submissionWrite q val) s = .next s ∧ exec (.queueEnable q) s = .next s ∧
    exec (.queueResume q) s = .next s ∧ exec .update s = .next s ∧ exec .watchdogTakeover s = .next s) ∧
  (∀ (s : State) q val, s.fe.recovery = false → exec (.submissionWrite q val) s = .next (if s.fe.capture.length < 1024 then
      { s with fe := { s.fe with capSeq := s.fe.capSeq + 1, capture := s.fe.capture ++ [(s.fe.capSeq.toNat, q, val)] } }
    else { s with fe := { s.fe with capSeq := s.fe.capSeq + 1, drops := min (s.fe.drops + 1) (2 ^ 32 - 1) } })) ∧
  (∀ (s : State) q, s.queueOn q = false → QueueEntryThere s q → s.fe.recovery = false → s.queueHeld q = false →
    ∃ s', exec (.queueEnable q) s = .next s' ∧ s'.queueOn q = true ∧ s'.queueHead q = 0 ∧ s'.queueErr q = 0) ∧
  (∀ (s : State) q, s.queueOn q = true → exec (.queueEnable q) s = .next s) ∧
  (∀ (s : State) q, s.queueOn q = true → QueueEntryThere s q → s.fe.recovery = false → s.queueHeld q = false →
    ∃ s', exec (.queueResume q) s = .next s' ∧ s'.queueOn q = true ∧ s'.queueHead q = s.queueHead q ∧ s'.queueErr q = 0) ∧
  (∀ s : State,
    let took (s s' : State) : Prop := s'.fe.active = 1 - s.fe.active ∧ s'.fe.standby = false ∧ s'.fe.updating = false ∧
      s'.fe.capCons = s.fe.table.capCons ∧ s'.fe.hints = s.fe.table.hints ∧ (∀ e ∈ s'.fe.capture, s.fe.table.capCons.toNat < e.1) ∧
      (s.fe.table.runEntry < s.runCount → s'.fe.runEntry = s.fe.table.runEntry) ∧ s'.cores = s.cores ∧ s'.mem = s.mem
    let missed : State := ({ s with time := s.time + 10000000 } : State).logError 9 s.fe.active 2 (if s.fe.standby then 3 else 0) 0 0
    (s.fe.recovery = false → s.fe.updating = false →
      exec .update s = .next { s with fe := { s.fe with updating := true, standby := false } } ∧
      (s.fe.standby = false → exec .standbyImport s = .next { s with
        fe := { s.fe with standby := true }, runDigest := tabSet s.runDigest (1 - s.fe.active) (tabGet 0 s.runDigest s.fe.active) })) ∧
    (s.fe.standby = true → exec .standbyImport s = .next s) ∧
    (s.fe.standby = true → s.fe.updating = false → ∃ s', exec .failover s = .next s' ∧ took s s' ∧ s'.fe.fwver = s.fe.fwver) ∧
    (s.fe.recovery = false → s.fe.standby = false → s.fe.updating = true → ∃ s' r, exec .standbyImport s = .next s' ∧ r < 4 ∧
      s'.fe.upderr = r ∧ (s'.fe.standby = true ↔ r = 0) ∧ (s'.fe.updating = true ↔ r = 0)) ∧
    (s.fe.updating = true → s.fe.standby = true → ∃ s', exec .updateTakeover s = .next s' ∧ took s s' ∧ s'.fe.upderr = 0 ∧
      exec .failover s = .next s) ∧
    (s.fe.recovery = false → s.fe.standby = true →
      ∃ s', exec .watchdogTakeover s = .next s' ∧ s'.time = s.time + 10000000 ∧ took missed s') ∧
    (s.fe.recovery = false → s.fe.standby = false → exec .watchdogTakeover s = .next missed))

/-- R40 to R47, R52 to R56, R379, R394, R395: the steps of the dispatcher. A decision places the first pending item that fits, at
the core that `placeFor` names: a core where it fits, at a multiple of the group size, in a stack group no more loaded than any
other where it fits. Of the blocks placed on a die the next to start is the one due first, and it starts no earlier than the
stagger allows; the threshold's expiry advances the time; swap-outs begin for the item that waits and end in save slots once
nothing of the block is left to finish; a turn of the run list ends when its time is over and passes to the next entry. Which of
the placed blocks starts first where R45 leaves it open is log 83, and that the lowest free save slots are taken log 7. -/
def Obligations.DispatcherSteps : Prop :=
  (∀ (s : State) i c0, s.items.find? (fun i => (s.placeFor i).isSome) = some i → s.placeFor i = some c0 → s.lostSaved i = [] →
    exec .placementDecision s = .next (s.placeItem i c0)) ∧
  (∀ (s : State) i c0, s.placeFor i = some c0 → 0 < i.gang → s.fitsAt i c0 = true ∧ c0 < 256 ∧ c0 % i.gang = 0 ∧
    ∀ c1, c1 < 256 → c1 % i.gang = 0 → c1 / i.gang < 256 / i.gang → s.fitsAt i c1 = true → s.loadOf (c0 / 32) ≤ s.loadOf (c1 / 32)) ∧
  (∀ (s : State) blk b p, s.blockByUid blk = some b → s.findBlock blk = some p → b.started = false →
    (s.startsNext p.1 b = false → exec (.blockStart blk) s = .next s) ∧
    (s.startsNext p.1 b = true →
    let d := p.1 / 64
    let t := match tabGet? s.fe.dieLast d with
      | some x => max s.time (x + s.staggerOf b.launch)
      | none => s.time
    let s1 : State := { s with time := t, fe := { s.fe with dieLast := tabSet s.fe.dieLast d t } }
    exec (.blockStart blk) s = .next ((s1.groupOf b).foldl (fun s m => s.startBlock m.1 m.2.1 m.2.2) s1))) ∧
  (∀ (s : State) blk b p t, s.blockByUid blk = some b → s.findBlock blk = some p → s.eligibleAt b = some t →
    exec (.swapThresholdExpiry blk) s = .next { s with time := max s.time t }) ∧
  (∀ (s : State) blk x i b, (s.items.filter (fun i => (s.placeFor i).isNone && !s.swapBusy i)).findSome?
      (fun i => (s.victimFor i).map (fun b => (i, b))) = some (i, b) → s.blockByUid blk = some x → x.groupWith b = true →
    exec (.swapOutBegin blk) s = .next (s.beginSwap b (some i.key) none)) ∧
  (∀ (s : State) b item why c pl x, tabGet? ((s.beginSwap b item why).core c).blocks pl = some x → x.groupWith b = true →
    x.swapping = true ∧ x.swapFor = item ∧ x.preempt = why) ∧
  (∀ (s : State) blk b p, s.blockByUid blk = some b → s.findBlock blk = some p → b.swapping = true →
    let s1 := (s.groupOf b).foldl (fun s m => s.drainBlock m.1 m.2.2) s
    let g := s1.groupOf b
    let save (s : State) (m : Nat × Nat × Block) : State :=
      let s := (s.parkLosers m.1 m.2.2).passDue m.1 m.2.2
      match s.freeSaveSlots b.ctx with
      | [] => s
      | i :: _ => s.saveAway m i m.2.2.metAt
    let s2 := g.foldl save s1
    ((∀ m ∈ g, s1.saveReady m.1 m.2.2 = true) →
      exec (.swapOutComplete blk) s = .next (s2.queueSaved (fun x t => x.groupWith b && s2.savedMet b.swapFor.isSome x t))) ∧
    (∀ m ∈ g, s1.saveReady m.1 m.2.2 = false → exec (.swapOutComplete blk) s = .next s1)) ∧
  (∀ (s : State) c pl b i r,
    let s0 := s.freezeCopies c b.uid
    ∃ x, (s.saveBlock c pl b i r).saved = s0.saved ++ [x] ∧ x.blk.uid = b.uid ∧ x.slotIx = i ∧
      x.readmit = r ∧ x.preempted = b.preempt ∧ x.teams.length = ((s0.core c).teamsOf b.uid).length ∧
      ∀ o ∈ x.ops, o.running = false ∧ o.anvils = 0) ∧
  (∀ s : State,
    let n := s.fe.runlist.toNat / 2 ^ 52
    (n = 0 ∨ s.fe.recovery = true → exec .runListTurnEnd s = .next s) ∧
    (n ≠ 0 → s.fe.recovery = false → ∃ s', exec .runListTurnEnd s = .next s' ∧ s'.fe.runEntry = (s.fe.runEntry + 1) % n ∧
      s'.fe.runlist = s.fe.runlist ∧ s.fe.turnAt + s.fe.turnLen ≤ s'.time))

/-- R399 to R412: the steps by which supervisors, the mailbox and the team-state port act. DATA reads and writes a word of the
record of a team that is parked, halted or saved; `FRAME` writes the frame below the stack, then the team stands at its handler;
`KILL` ends the team; `RELEASE` frees a report place; a parked supervisor resumes on its valid record; the oldest record posted
goes to the ring. STATUS reads 3 for a team that cannot be reached, and 1 as long as a port is busy. That one record goes in a
step, the oldest first, is log 62; that a record with reserved bits is consumed and not used is log 99; what STATUS reads after
the end of its team is log 72. -/
def Obligations.SupervisorPort : Prop :=
  (∀ (s : State) core,
    exec (.supervisorTimer core) s =
      .next (({ s with time := max s.time (s.core core).timerDue }).setCore core { s.core core with timerPending := true }) ∧
    exec (.doorbell core) s = .next (s.setCore core { s.core core with doorbell := true })) ∧
  (∀ (s : State) core,
    let b := (s.inRing core).1
    let n := (s.inRing core).2
    let i := s.unitWord (b + 8)
    let r := b + 0x40 + i % n * 64
    let w := s.unitWord r
    let taken := s.unitPut (b + 8) (leBytes 8 (i + 1))
    (s.ringWaits b = true ∨ s.lineOwned (r / 128) = true → exec (.supresume core) s = .next (s.await 1024 b none)) ∧
    (s.ringWaits b = false → s.lineOwned (r / 128) = false → s.unitWord (r + 56) / 2 ^ 56 = validByte i n →
      w % 2 ^ 16 = core * 2 ^ 8 + 1 →
      (w / 2 ^ 16 = 0 → exec (.supresume core) s =
        .next (taken.modTeam (core, 0) (fun t => { t with parked := false, record := .empty }))) ∧
      (w / 2 ^ 16 ≠ 0 → exec (.supresume core) s = .next taken))) ∧
  (∀ (s : State) ws rest, s.mailOut = ws :: rest →
    let b := s.outRing.1
    let n := s.outRing.2
    let i := (s.takeNumber).1
    let s1 := (s.takeNumber).2
    let r := b + 0x40 + i % n * 64
    let room := decide ((i + 2 ^ 64 - s.unitWord (b + 8)) % 2 ^ 64 < n)
    let word (k : Nat) : Nat :=
      let x := ((ws[k]?).getD 0).toNat
      if k = 7 then x % 2 ^ 56 + validByte i n * 2 ^ 56 else x
    i = s.mailNo.getD (s.unitWord b) ∧ s1.mailNo = some i ∧ s1.mailOut = s.mailOut ∧
    (s.ringWaits b = true → exec .mailboxPost s = .next (s.await 1024 b none)) ∧
    (s.ringWaits b = false → room = false → exec .mailboxPost s = .next s1) ∧
    (s.ringWaits b = false → room = true → s1.unitWaits r 64 = false → s1.unitWaits (r + 32) 32 = false →
      exec .mailboxPost s = .next ((List.range 8).foldl (fun s k => s.unitPut (r + 8 * k) (leBytes 8 (word k)))
        { s1 with mailOut := rest, mailNo := none }))) ∧
  (∀ (s : State) port t,
    let p := s.port port
    s.dataTeam p = some t → p.off % 8 = 0 →
      exec (.teamStateDataRead port) s = .next (s.setPort port
        { p with data := BitVec.ofNat 64 (t.recordWord (s.blockByUid t.blk) (s.rfoffOf t) p.off % 2 ^ 64) }) ∧
      (∀ val q t2, s.findTeam t.uid = some q → s.team? q = some t2 → (∀ x ∈ s.saved, x.blk.uid ≠ t.blk) →
        ∃ s', exec (.teamStateDataWrite port val) s = .next s' ∧ s'.team? q = some (t2.setRecordWord p.off val) ∧ s'.mem = s.mem)) ∧
  (∀ (s : State) port val, s.dataTeam (s.port port) = none →
    exec (.teamStateDataWrite port val) s = .next s ∧ exec (.teamStateDataRead port) s = .next (s.setPort port { s.port port with data := 0 })) ∧
  (∀ (s : State) (p : Port), (p.status = 1 → s.portStatus p = 1) ∧ (∀ t, s.dataTeam p = some t → s.portStatus p = p.status) ∧
    (s.dataTeam p = none → p.status ≠ 1 → p.ended = false → s.portStatus p = 3)) ∧
  (∀ (s : State) port u t s1 s2,
    let p := s.port port
    let f := wide (p.stack.setWidth 57) - BitVec.ofNat 64 t.frameSize
    let ws := t.frame p.signal
    s.portTeam p = some u → s.teamByUid u = some t → t.parked = true →
    s.unitCheck (s.frameAgent port t) f ws.length = (.ok (), s1) → s1.frameWrite (s.frameAgent port t) f ws = (.ok (), s2) →
    ∃ s', exec (.frame port) s = .next s' ∧ (s'.port port).status = 0 ∧
      (∀ q t2, s2.findTeam t.uid = some q → s2.team? q = some t2 → (s2.core q.1).trace.on = false →
        s'.team? q = some (t2.enterHandler p.signal (p.entry.setWidth 57) f))) ∧
  (∀ (t : Team) n entry f, let t1 := t.enterHandler n entry f
    t1.pc = entry ∧ t1.done = 0 ∧ t1.loops = [] ∧ t1.rep = .idle ∧ t1.sticky = 0 ∧ t1.sigstk = f.setWidth 57 ∧
    t1.s 1 = BitVec.ofNat 64 n ∧ t1.s 2 = f ∧ t1.parked = t.parked ∧ t1.record = .empty ∧ ∀ k, k ≠ 1 → k ≠ 2 → t1.s k = t.s k) ∧
  (∀ (s : State) port u t q,
    let p := s.port port
    s.portTeam p = some u → s.teamByUid u = some t → s.findTeam t.uid = some q → s.team? q = some t →
    ((s.blockByUid t.blk).map Block.swapping).getD false = false →
    ∃ s', exec (.kill port) s = .next s' ∧ s'.mem = (s.killResident q t).mem ∧ s'.cores = (s.killResident q t).cores ∧
      (s'.port port).status = if ((s.killResident q t).teamByUid t.uid).isSome then 1 else 0) ∧
  (∀ (s : State) p t b, s.blockOf p.1 t = some b → (s.endTeam p t).team? p = none) ∧
  (∀ (s : State) port, exec (.release port) s =
    .next ((s.setCore port { s.core port with reports := tabErase (s.core port).reports (s.port port).signal }).setPort port
      { s.port port with status := 0, ended := true }))

/-- R183, R291, R316, R413 to R428: the debug agent's commands, the steps of the trace units and those of the issue hardware. A
command on a block or team of another process answers RESULT 4; `STOP` halts the teams of a block, `RUN` lets them go on, `STEP`
and `EXEC` run units of a halted team and leave its block stopped. That every `STOP` and `GANGSTOP` takes a SEQ is log 68; which
targets answer 4 and 5, and that a unit held by what is no architectural wait keeps its command in progress, is log 69; how
cycles count towards boosts and the end of `yield` is log 81. -/
def Obligations.DebugAndTrace : Prop :=
  (∀ (s : State) core place slot nbuf,
    (s.debugBlock core place = none →
      exec (.stop core place) s = .next (s.debugResult 4) ∧ exec (.run core place) s = .next (s.debugResult 4)) ∧
    ((∃ r, s.debugRun = some r ∧ (r.at_ ≠ (core, slot) ∨ r.saved.isSome = true)) → exec (.step core slot) s = .next s) ∧
    ((∃ r, s.debugRun = some r ∧ (r.at_ ≠ (core, slot) ∨ r.saved.isSome = false)) → exec (.exec core slot nbuf) s = .next s) ∧
    (s.debugRun = none → s.debugTeam core slot = none → exec (.step core slot) s = .next (s.debugOutcome 4 0 0) ∧
      exec (.exec core slot nbuf) s = .next (s.debugOutcome 4 0 0)) ∧
    (∀ b, s.debugBlock core place = some b →
      (∃ s', exec (.stop core place) s = .next s' ∧ fld (s'.dbgReg 0x10).toNat 32 4 = 0 ∧ s'.seq = s.seq + 1 ∧
        ∀ e ∈ (s'.core core).teams, e.1 ≠ 0 → e.2.blk = b.uid → e.2.parked = true ∨ e.2.halted = true) ∧
      (∃ s', exec (.run core place) s = .next s' ∧ fld (s'.dbgReg 0x10).toNat 32 4 = 0 ∧
        ∀ e ∈ (s'.core core).teams, e.1 ≠ 0 → e.2.blk = b.uid → e.2.halted = false)) ∧
    (∀ t b, s.debugRun = none → s.debugTeam core slot = some (t, b) → t.steppable b = false →
      exec (.step core slot) s = .next (s.debugOutcome 5 0 0) ∧ exec (.exec core slot nbuf) s = .next (s.debugOutcome 5 0 0)) ∧
    (∀ t b, (∀ r, s.debugRun = some r → r.at_ = (core, slot) ∧ r.saved = none) → s.debugTeam core slot = some (t, b) →
      t.steppable b = true →
      ∃ s2 s', ((s.setTeam (core, slot) { t with halted := false, brkHalt := false }).mapBlock core b.uid
          (fun b => { b with stopped := false })).issueWhole (core, slot) 65 = .next s2 ∧
        exec (.step core slot) s = .next s' ∧
        s' = ((s2.holdStarted s.nextUid).stopBlock core b.uid).stepOutcome (core, slot) (s2.team? (core, slot)) ∧ s'.mem = s2.mem ∧
        (∀ t1, s2.team? (core, slot) = some t1 →
          (t1.parked ∨ t1.brkHalt → fld (s'.dbgReg 0x10).toNat 32 4 = 2) ∧
          (¬(t1.parked ∨ t1.brkHalt) → t1.waitsArch → fld (s'.dbgReg 0x10).toNat 32 4 = 1) ∧
          (¬(t1.parked ∨ t1.brkHalt) → t1.waitsArch = false → t1.stands = false → fld (s'.dbgReg 0x10).toNat 32 4 = 0) ∧
          (¬(t1.parked ∨ t1.brkHalt) → t1.waitsArch = false → t1.stands = true →
            s'.debugRun = some ⟨(core, slot), 0, none⟩ ∧ (s'.dbgReg 0x10).getLsbD 0 = true)) ∧
        ∀ e ∈ (s'.core core).blocks, e.2.uid = b.uid → e.2.stopped = true) ∧
    (∀ t b, s.debugRun = none → s.debugTeam core slot = some (t, b) → t.steppable b = true →
      let run := (({ s with cur := (core, slot) } : State).setTeam (core, slot) { t.setAside with brkHalt := false }).execWords
        (core, slot) 0 (min 15 nbuf) 16
      let back (s2 : State) : State := { s2 with cur := s.cur, latch := s.latch }
      (∃ s2 r code sub, (run = .more s2 ∧ r = 0 ∧ code = 0 ∧ sub = 0 ∨ run = .stop s2 r code sub) ∧
        exec (.exec core slot nbuf) s = .next (((back s2).modTeam (core, slot) (fun t1 => t1.putBack t)).debugOutcome r code sub)) ∨
      ∃ s2 w, run = .held s2 w ∧ exec (.exec core slot nbuf) s =
        .next (((back s2).modTeam (core, slot) (fun t1 => { t1 with halted := true })).debugStays ⟨(core, slot), w, some t⟩))) ∧
  (∀ (s : State) p n s1 t, s.issueTurn p none = .next s1 → s1.team? p = some t →
    (t.rep.remain = 0 ∨ t.parked ∨ t.brkHalt ∨ t.stands) → s.issueWhole p (n + 1) = .next s1) ∧
  (∀ (t t0 : Team), (t.putBack t0).pc = t0.pc ∧ (t.putBack t0).done = t0.done ∧ (t.putBack t0).rep = t0.rep ∧
    (t.putBack t0).halted = true ∧ (t.putBack t0).sreg = t.sreg ∧ (t.putBack t0).v = t.v ∧ (t.putBack t0).m = t.m) ∧
  (∀ s : State,
    let busy := s.stoppedBlocks.any (fun m => (s.core m.1).ops.any (fun o => o.blk == m.2.uid && o.running && o.fault.isNone))
    (busy = true → exec .blockStopDone s = .next s) ∧
    (busy = false → ∃ s', exec .blockStopDone s = .next s' ∧ (s.debugRun = none → (s'.dbgReg 0x10).getLsbD 0 = false) ∧
      s'.gangStop = false)) ∧
  (∀ (s : State) core, ∃ s', exec (.gangstop core) s = .next s' ∧ s'.mem = s.mem ∧
    s'.seq = if s.gangStop then s.seq else s.seq + 1) ∧
  (∀ (s : State) core slot t,
    (∀ u w, s.nextUnit (core, slot) = some (t, .ok u w) → t.role = .vector → wordIsVector u.word.w = true →
      firstRanked (s.candidates core t.datapath) = some slot →
      ∃ s1, s.issueAt (core, slot) (some 1) = .next s1 ∧ exec (.vectorPass core slot) s = .next (s1.issueCycles s (core, slot))) ∧
    (∀ u w, s.nextUnit (core, slot) = some (t, .ok u w) → startsOperation u.instr = true →
      firstRanked (s.candidates core (s.resourceOf (core, slot) t)) = some slot →
      ∃ s1, s.issueAt (core, slot) none = .next s1 ∧ exec (.operationStart core slot) s = .next (s1.issueCycles s (core, slot))) ∧
    (let sw := ({ s with cur := (core, slot) } : State).settleWait (core, slot) t
     let t0 : Team := { (sw.team? (core, slot)).getD t with hold := none }
     let s0 := sw.setTeam (core, slot) t0
     let ended (s1 : State) : Result :=
       .next (({ s1.traceUnit s (core, slot) with cur := s.cur, latch := s.latch } : State).issueCycles s (core, slot))
     s.fe.recovery = false →
     (∀ g s2, s.nextUnit (core, slot) = some (t, .fault g s2) →
       (t0.stepDue = true → exec (.fetchFault core slot) s =
         ended (sw.takeFault (core, slot) t0 t0.pc (faultOf 0x2A 0 0 (sw.stepMask t0)))) ∧
       (∀ f s1, t0.stepDue = false → s0.fetchUnit (core, slot) t0 = .fault f s1 →
         exec (.fetchFault core slot) s = ended (s1.takeFault s1.cur t0 t0.pc f))) ∧
     (∀ f g u v s1 s2, s.nextUnit (core, slot) = some (t, .bad g v s2) → t0.stepDue = false →
       s0.fetchUnit (core, slot) t0 = .bad f u s1 →
       (t0.excused f = false → exec (.fetchFault core slot) s = ended (s1.takeFault s1.cur t0 t0.pc f)) ∧
       (t0.excused f = true → exec (.fetchFault core slot) s = ended (({ s1 with latch := u } : State).complete t0))))) ∧
  (∀ (s : State) core slot t, s.team? (core, slot) = some t →
    (s.isReady (core, slot) t = true → t.boost = none → 512 ≤ t.cyclesReady →
      exec (.teamBoost core slot) s = .next (s.setTeam (core, slot) { t with boost := some s.tick })) ∧
    (s.isReady (core, slot) t = false ∨ t.boost ≠ none ∨ t.cyclesReady < 512 → exec (.teamBoost core slot) s = .next s) ∧
    (t.yielded = true → (t.yieldFor = [] ∨ 64 ≤ t.yieldCycles ∨ s.sharers core slot t = []) → exec (.yieldEnd core slot) s =
      .next (s.setTeam (core, slot) { t with yielded := false, yieldFor := [], yieldCycles := 0 })) ∧
    (t.yielded = false ∨ t.yieldFor ≠ [] ∧ t.yieldCycles < 64 ∧ s.sharers core slot t ≠ [] →
      exec (.yieldEnd core slot) s = .next s)) ∧
  (∀ (s : State) core (val : W64),
    let u := (s.core core).trace
    let base : Trace := { u with
      teams := val.extractLsb' 32 32, ctl := val &&& 0x1FFFFFF, page := if val.toNat % 2 ^ 20 = u.pasid then u.page else none }
    (val.getLsbD 20 = false → exec (.traceEnable core val) s = .next (s.modTrace core (fun _ => { base with
      lost := min (u.lost + u.held.length) (2 ^ 32 - 1), held := [], page := none, paused := false, pausing := false, async := [] }))) ∧
    (val.getLsbD 20 = true → u.on = true → exec (.traceEnable core val) s = .next (s.modTrace core (fun _ => base))) ∧
    (val.getLsbD 20 = true → u.on = false →
      let s1 := s.modTrace core (fun _ =>
        { base with wptr := 0, err := false, paused := false, full := false, held := [], page := none, failed := 0, dropped := 0,
                    since := 0, pausing := false, async := [], ran := true })
      let s2 : State := { s1 with late := s1.late.filter (fun w => !w.src.same (.trace core 0)) }
      exec (.traceEnable core val) s = .next ((s2.traceSync core).traceContexts core) ∧
      ((s2.traceSync core).core core).trace.since = 0)) ∧
  (∀ (s : State) core, (s.core core).trace.on = true →
    (∃ s', exec (.traceSync core) s = .next s' ∧ (s'.core core).trace.since = 0) ∧
    (∀ e, e < 8 → ((s.core core).trace.counter e).event = 0 ∨ ((s.core core).trace.counter e).event = 3 →
      ∃ s', exec (.counterWrap core e) s = .next s' ∧ ((s'.core core).trace.counter e).ovf = true ∧
        ((s'.core core).trace.counter e).count = 0)) ∧
  (∀ (s : State) core, (s.core core).trace.paused = true → (∀ x ∈ s.shootdowns, x.pasid ≠ (s.core core).trace.pasid) →
    (s.core core).trace.held = [] → ((s.core core).trace.dropped = 0) →
    exec (.traceResume core) s = .next (s.modTrace core (fun u => { u with paused := false, held := [], page := none })))

/-- R81 to R85, R103 to R105, R363, R378, R387, R388, R396, R430 to R441: the steps of the fleet: logical time and epochs, the
host's accesses, lost links, shootdowns, the cut of a checkpoint and of a freeze, errors and poison, power, and the reset. Which
values the draws of a step give is free (logs 4 and 9), so only what they leave is said. The model's choices in it are: what
stands in the region of a cut and when a freeze writes it (log 61), what a reset keeps (log 2), the sizes and operations of a
pod-remote request (log 77), the order in which the retries of waiting homes come (log 78), and the unit that the record of a
failed link names (log 115). -/
def Obligations.FleetSteps : Prop :=
  (∀ (s : State) core n,
    (∃ s', exec (.logicalTimeAdvance core n) s = .next s' ∧ (s'.core core).ltime =
      max (s.core core).ltime (min ((s.core core).ltime + max 1 n) 0xFFFFFFFF) ∧ s'.mem = s.mem) ∧
    ((s.core core).retention = false →
      exec (.l1RetentionSleep core) s = .next (s.setCore core { s.core core with retention := true, slept := 0 })) ∧
    ((s.core core).retention = true → exec (.l1RetentionSleep core) s = .next s) ∧
    (∃ s', exec (.retentionWake core) s = .next s' ∧ (s'.core core).retention = false ∧ (s'.core core).teams = (s.core core).teams ∧
      ∀ l ∈ (s'.core core).l1, l ∈ (s.core core).l1 ∧ l.2.epoch = s.epoch)) ∧
  (∀ s : State, s.epochDue = true → ∃ s', exec .epochChange s = .next s' ∧ s'.epoch = (s.epoch + 1) % 4 ∧ s'.stamps = [] ∧ s'.floors = [] ∧
    s'.mem = s.mem ∧ s'.cores.map (fun k => k.2.retention) = s.cores.map (fun k => k.2.retention && decide (k.2.slept < 3)) ∧
    ∀ k ∈ s'.cores, k.2.ltime = 0 ∧ (k.2.retention = false → k.2.l1 = [])) ∧
  (∀ s : State, s.hostReaches = false → (∀ line, exec (.hostSnoop line) s = .next s) ∧
    ∀ addr req, exec (.hostCxlMemAccess addr req) s = .next s) ∧
  (∀ (s : State) line, s.hostReaches = true → regionOf (line * 128) = .host → s.lineOwned line = false → s.epochDue = false →
    ∃ s', exec (.hostSnoop line) s = .next s' ∧
    (∀ k ∈ s'.cores, ∀ e ∈ k.2.l1, e.1 ≠ line) ∧ ∀ a, a / 128 ≠ line → memGet s'.mem a = memGet s.mem a) ∧
  (∀ (s : State) addr (val : W64), s.hostReaches = true → (regionOf addr = .hbm ∨ (∃ p, regionOf addr = .cxl p) ∧ s.cxlHole addr = false) →
    s.lineOwned (addr / 128) = false → s.poisoned (addr / 128) = false → s.epochDue = false →
    (∃ s', exec (.hostCxlMemAccess addr .read) s = .next s' ∧ s'.mem = s.mem ∧
      ∀ a ∈ lineSectors (addr / 128), (s'.dirAt a).map (fun e => e.2.host) = some true) ∧
    (((s.setHostBit addr false).unreachable 1024 addr = none →
      ∃ s', exec (.hostCxlMemAccess addr (.write val)) s = .next s' ∧
        s'.mem = (s.memWrite (addr / 8 * 8) (leBytes 8 val.toNat)).mem ∧ ∀ e, s'.dirAt addr = some e → e.2.host = false) ∧
      ((s.setHostBit addr false).unreachable 1024 addr ≠ none →
        ∃ s', exec (.hostCxlMemAccess addr (.write val)) s = .next s' ∧ s'.mem = s.mem)) ∧
    ∃ s', exec (.hostCxlMemAccess addr .release) s = .next s' ∧ s'.mem = s.mem ∧
      ∀ a ∈ lineSectors (addr / 128), ∀ e, s'.dirAt a = some e → e.2.host = false) ∧
  (∀ (s : State) path core,
    let ms := (s.core core).teams.flatMap (fun e => (e.2.markers.getD []).filter (fun m => m.1 == path))
    let s1 := s.drainCore core (fun p => ms.any (fun m => s.markerHolds core m p))
    let k := s1.core core
    exec (.fenceMarkerAck path core) s = .next (s1.setCore core { k with teams := k.teams.map (fun e => (e.1, { e.2 with
      markers := e.2.markers.map (fun l => l.filter (fun m => m.1 != path || k.stores.any (s1.markerHolds core m))) })) })) ∧
  (∀ (s : State) d1 d2, d1 ≠ d2 → d1 < 4 → d2 < 4 → s.fenced.contains (100 + 4 * min d1 d2 + max d1 d2) = false →
    exec (.dieLinkFailure d1 d2) s = .next { s with
      fenced := s.fenced ++ [100 + 4 * min d1 d2 + max d1 d2],
      errs := s.errs ++ [[6, BitVec.ofNat 64 (max d1 d2), 0, 0, BitVec.ofNat 64 (100 + 4 * min d1 d2 + max d1 d2)]] }) ∧
  (∀ (s : State) port, (port < 4 → s.fenced.contains (116 + port) = false →
      exec (.cxlPortFailure port) s = .next { s with
        fenced := s.fenced ++ [116 + port],
        errs := s.errs ++ [[7, BitVec.ofNat 64 port, 0, 0, BitVec.ofNat 64 (116 + port)]] }) ∧
    (port < 12 → s.fenced.contains (130 + port) = false → ∃ s', exec (.ualinkPortFailure port) s = .next s' ∧
      s'.fenced = s.fenced ++ [130 + port] ∧ s'.seq = s.seq + 1) ∧
    (port < 12 → s.fenced.contains (130 + port) = true → exec (.ualinkPortFailure port) s = .next (s.logError 8 port 2 2 0 0))) ∧
  (∀ s : State, s.awaited = [] → ∀ ok, exec (.invalidationRetry ok) s = .next s) ∧
  (∀ (s : State) w rest, s.awaited = w :: rest →
    let h := w.holder
    let home := sliceDie (s.homeOf w.pa)
    h = 16 ∨ h < 4 ∧ home < 4 ∧ h ≠ home →
    ((h = 16 ∨ (s.retryRoute home h).isSome = true) → ∃ s', exec (.invalidationRetry true) s = .next s' ∧
      s'.fenced = s.fenced.filter (fun y => y != linkCode home h) ∧ s'.seq = s.seq + 1 ∧
      s'.errs = s.errs.filter (fun e => ((e[4]?).getD 0).toNat != linkCode home h) ∧
      ∀ k ∈ s'.cores, ∀ p ∈ k.2.stores, p.stuck = some h → linkCode (sliceDie (s.homeOf p.pa)) h ≠ linkCode home h) ∧
    (h ≠ 16 → s.retryRoute home h = none → exec (.invalidationRetry true) s = exec (.invalidationRetry false) s) ∧
    ∃ s', exec (.invalidationRetry false) s = .next s' ∧ (if h = 16 then 120 else h) ∈ s'.fenced) ∧
  (∀ (s : State) pasid va req, s.fe.recovery = true ∨ s.ctxOf pasid = none → exec (.remoteRequest pasid va req) s = .next s) ∧
  (∀ (s : State) pasid va i, s.ctxOf pasid = some i → s.fe.recovery = false →
    let a := unitAgent 0 pasid i none
    (∀ n, n ≤ 7 → exec (.remoteRequest pasid va (.read n)) s = .next (s.unitRead a va (2 ^ n)).2) ∧
    (∀ n v, n ≤ 7 → exec (.remoteRequest pasid va (.write n v)) s =
      .next (s.unitWrite a va (2 ^ n) (v.toNat % 2 ^ (8 * 2 ^ n))).2) ∧
    (∀ n v, 7 < n → exec (.remoteRequest pasid va (.read n)) s = .next s ∧ exec (.remoteRequest pasid va (.write n v)) s = .next s) ∧
    (∀ op wide x y p s1,
      let n := if wide = true then 8 else 4
      let old := s1.agentRead p n
      s.access a va n n .atomic = (.ok p, s1) →
      exec (.remoteRequest pasid va (.atomic op wide x y)) s = .next (match remoteResult op (8 * n) x.toNat y.toNat old with
        | some z => s1.agentWrite p (leBytes n z)
        | none => s1))) ∧
  (∀ n x y old,
    let a := x % 2 ^ n
    remoteResult .add n x y old = some ((old + a) % 2 ^ n) ∧ remoteResult .exch n x y old = some a ∧
    remoteResult .max n x y old = some (if signed n old < signed n a then a else old) ∧
    remoteResult .min n x y old = some (if signed n a < signed n old then a else old) ∧
    remoteResult .cas n x y a = some (y % 2 ^ n) ∧ (old ≠ a → remoteResult .cas n x y old = none)) ∧
  (∀ (s : State) val, s.pendingShootdowns < 16 → ∃ s', exec (.shootdownSubmit val) s = .next s' ∧
    s'.pendingShootdowns = s.pendingShootdowns + 1 ∧
    (s'.xltReg 0x20).toNat / 2 ^ 32 = ((s.xltReg 0x20).toNat / 2 ^ 32 + 1) % 2 ^ 32 ∧ s'.mem = s.mem) ∧
  (∀ (s : State) pasid va log2, ∃ s', exec (.atsInvalidation pasid va log2) s = .next s' ∧
    s'.pendingShootdowns = s.pendingShootdowns ∧ s'.shootdowns.length = s.shootdowns.length + 1) ∧
  (∀ (s : State) x rest, s.shootdowns = x :: rest →
    (s.cores.foldl (fun s k => s.drainCore k.1 (fun _ => true)) s).shootdownReady x = true →
    ∃ s', exec .shootdownComplete s = .next s' ∧ s'.shootdowns = rest ∧
      (∀ k ∈ s'.cores, ∀ e ∈ k.2.tlb, e.pasid = x.pasid → rangesMeet e.base e.log2 x.base x.log2 = false) ∧
      (∀ g ∈ s'.gtlb, ∀ e ∈ g.2, e.pasid = x.pasid → rangesMeet e.base e.log2 x.base x.log2 = false) ∧
      ∀ d ∈ s'.walkCache, ∀ e ∈ d.2, e.pasid = x.pasid → rangesMeet e.base e.log2 x.base x.log2 = false) ∧
  (∀ (s : State) x rest, s.shootdowns = x :: rest →
    let s1 := s.cores.foldl (fun s k => s.drainCore k.1 (fun _ => true)) s
    s1.shootdownReady x = false → exec .shootdownComplete s = .next s1) ∧
  (∀ (s : State) val, s.fe.ckpt = false →
    exec (.checkpoint val) s = .next ({ s with
      mgt := tabSet s.mgt 0x1000 (BitVec.ofNat 64 (fld val.toNat 22 30 * 2 ^ 22 + fld val.toNat 1 1 * 2)),
      fe := { s.fe with ckpt := true, ckptFail := false } } : State).beginCut ∧
    exec .freeze s = .next ({ s with mgt := tabSet s.mgt 0 1, fe := { s.fe with regionDue := true } } : State).beginCut ∧
    ((s.mgtReg 0).getLsbD 0 = true → exec .unfreeze s = .next ({ s with mgt := tabSet s.mgt 0 0 } : State).endCut)) ∧
  (∀ s : State, s.fe.ckpt = true → exec .freeze s = .next ({ s with mgt := tabSet s.mgt 0 1 } : State) ∧
    (∃ s', exec (.checkpointDone false) s = .next s' ∧ (s'.mgtReg 0x1000).getLsbD 62 = true ∧ s'.safeTier = s.safeTier) ∧
    (s.fe.ckptFail = true → ∃ s', exec (.checkpointDone true) s = .next s' ∧ (s'.mgtReg 0x1000).getLsbD 62 = true ∧
      s'.safeTier = s.safeTier) ∧
    (s.fe.ckptFail = false → s.cutOpen = true → exec (.checkpointDone true) s = .next s) ∧
    (s.fe.ckptFail = false → s.cutOpen = false → ∃ s', exec (.checkpointDone true) s = .next s' ∧
      (s'.mgtReg 0x1000).getLsbD 63 = true ∧ s'.safeTier = s.writeRegion.mem.filter (fun c => decide (regionOf c.1 = .hbm)))) ∧
  (∀ s : State, (s.fe.regionDue = true → s.cutOpen = false →
      s.finishCut = ({ s with fe := { s.fe with regionDue := false } } : State).writeRegion) ∧
    (s.fe.regionDue = false ∨ s.cutOpen = true → s.finishCut = s)) ∧
  (∀ (s : State) (val : W64), (regionOf (fld val.toNat 7 45 * 128) = .hbm ∨ ∃ p, regionOf (fld val.toNat 7 45 * 128) = .cxl p) →
    ∃ s', exec (.unpoison val) s = .next s' ∧ s'.poisoned (fld val.toNat 7 45) = false ∧
      s'.mem = (s.memWrite (fld val.toNat 7 45 * 128) (List.replicate 128 0)).mem ∧
      ∀ k ∈ s'.cores, ∀ e ∈ k.2.l1, e.1 ≠ fld val.toNat 7 45) ∧
  (∀ (s : State) src unit addr ident, exec (.errorDetected src unit addr ident) s =
    .next { s with errs := s.errs ++ [[BitVec.ofNat 64 src, BitVec.ofNat 64 unit, BitVec.ofNat 64 addr, ident, 0]] }) ∧
  (∀ ok, ∀ s : State, s.errs = [] → exec (.errorRetry ok) s = .next s) ∧
  (∀ (s : State) (src unit addr : Nat) ident code rest,
    src < 2 ^ 64 → unit < 2 ^ 64 → addr < 2 ^ 64 → code < 2 ^ 64 →
    s.errs = [BitVec.ofNat 64 src, BitVec.ofNat 64 unit, BitVec.ofNat 64 addr, ident, BitVec.ofNat 64 code] :: rest →
    let s1 : State := { s with errs := rest }
    let s2 := s1.failCkpt
    let record (action : Nat) : State := s2.logError src unit 2 action addr ident
    (src = 6 ∨ src = 7 → ∀ ok, exec (.errorRetry ok) s = .next (s1.linkRetry ok src unit addr ident code)) ∧
    (src ≠ 6 → src ≠ 7 →
      exec (.errorRetry true) s = .next (s1.logError src unit 1 0 addr ident) ∧
      (src = 1 ∨ src = 2 → exec (.errorRetry false) s = .next ((record 1).poisonLine (addr / 128))) ∧
      (src = 3 ∨ src = 4 ∨ src = 5 → exec (.errorRetry false) s = .next ((record 1).poisonUnit addr)) ∧
      (src = 8 → exec (.errorRetry false) s = exec (.ualinkPortFailure (unit % 12)) s2) ∧
      (src = 0 ∨ 8 < src → exec (.errorRetry false) s = .next
        (if unit % 2 = s2.fe.active then (if s2.fe.standby = true then (record 3).takeOver else record 3)
         else { record 3 with fe := { (record 3).fe with standby := false } })))) ∧
  (∀ s : State,
    (s.withheld = 0 → s.clock + 25 ≤ 1750 → exec (.clockStep true) s = .next { s with clock := s.clock + 25 }) ∧
    (1025 ≤ s.clock → exec (.clockStep false) s = .next { s with clock := s.clock - 25 }) ∧
    (∀ k, s.clock = 1000 → k ≤ 12 → k ≤ s.withheld + 1 → exec (.withholdStep k) s = .next { s with withheld := k })) ∧
  (∀ (s : State) val, s.slotBusy = false → exec (.slotWrite val) s = .next s) ∧
  (∀ (s : State) val, s.slotBusy = true → ∃ s' r, exec (.slotWrite val) s = .next s' ∧ r ∈ [1, 2] ∧ s'.cores = s.cores ∧ s'.mem = s.mem ∧
    s'.mgtReg 0x30 = BitVec.ofNat 64 (fld val.toNat 12 40 * 4096 + r * 2)) ∧
  (∀ (s : State) n,
    (∃ s', exec (.spdmMeasurement n) s = .next s' ∧ s'.cores = s.cores ∧ s'.mem = s.mem ∧ s'.certOut = s.certs ∧
      s'.spdmOut.map (fun b => (b.index, b.words)) = (if 1 ≤ n ∧ n ≤ 4 then [n] else [1, 2, 3, 4]).map (fun i => (i,
        if i = 1 then [s.slotDigest.toNat]
        else if i = 2 then [(tabGet 0 s.runDigest 0).toNat, (tabGet 0 s.runDigest 1).toNat]
        else if i = 3 then [s.fuses.keyDigest.toNat, s.fuses.minVersion.toNat]
        else [s.fencedWord, bit s.fe.recovery]))) ∧
    ∃ s' k, exec (.spdmKeyExchange n) s = .next s' ∧ s'.ide = tabSet s.ide n k ∧ s'.cores = s.cores ∧ s'.mem = s.mem) ∧
  (∀ (s : State) (val : W64),
    exec (.registerWrite 0x20 (.word val)) s = .next (s.setMgt 0x20 (max 1000 (min 2600 (val.toNat % 2 ^ 12)))) ∧
    exec (.registerWrite 0x1000018 (.word val)) s = .next { s with fe := { s.fe with qtab := BitVec.ofNat 64 (fld val.toNat 12 40 * 2 ^ 12) } } ∧
    exec (.registerWrite 0x2000000 (.word val)) s = .next s ∧
    (∀ off (x : W32), off < 0x100000000 → (off % 8 ≠ 0 → exec (.registerWrite off (.word val)) s = .next s) ∧
      (off % 4 ≠ 0 → exec (.registerWrite off (.half x)) s = .next s) ∧
      (off % 4 = 0 → exec (.registerWrite off (.half x)) s = exec (.registerWrite (off / 8 * 8)
        (.word (BitVec.ofNat 64 (s.mergedWord off (leBytes 4 x.toNat))))) s))) ∧
  (∀ s : State, ∃ s', exec .powerLoss s = .next s' ∧ s'.powered = false ∧ s'.mem = s.mem ∧ s'.cores = s.cores) ∧
  (∀ s : State, ∃ s', exec .reset s = .next s' ∧ s'.cores = State.reset.cores ∧ s'.powered = true ∧ s'.seq = State.reset.seq ∧
    s'.fe.recovery = (!s.slotOk) ∧ s'.fuses = s.fuses ∧ s'.certs = s.certs ∧ s'.slotDigest = s.slotDigest ∧
    ∀ a, regionOf a = .host → memGet s'.mem a = memGet s.mem a)
end

