-- ==== Sys2Proof/Laws/Exec.lean ====
section
/-! SUPPORT. `exec` of each instruction is its meaning, and performing an event is `exec` of its row. -/

namespace Sys2Proof.Machine

@[simp] theorem exec_mov16 {d a} (s : State) : exec (.mov16 d a) s = execMov16 d a s := rfl
@[simp] theorem exec_iadd16 {d a} (s : State) : exec (.iadd16 d a) s = execIadd16 d a s := rfl
@[simp] theorem exec_isub16 {d a} (s : State) : exec (.isub16 d a) s = execIsub16 d a s := rfl
@[simp] theorem exec_imul16 {d a} (s : State) : exec (.imul16 d a) s = execImul16 d a s := rfl
@[simp] theorem exec_and16 {d a} (s : State) : exec (.and16 d a) s = execAnd16 d a s := rfl
@[simp] theorem exec_or16 {d a} (s : State) : exec (.or16 d a) s = execOr16 d a s := rfl
@[simp] theorem exec_xor16 {d a} (s : State) : exec (.xor16 d a) s = execXor16 d a s := rfl
@[simp] theorem exec_shl16 {d a} (s : State) : exec (.shl16 d a) s = execShl16 d a s := rfl
@[simp] theorem exec_shr16 {d a} (s : State) : exec (.shr16 d a) s = execShr16 d a s := rfl
@[simp] theorem exec_sar16 {d a} (s : State) : exec (.sar16 d a) s = execSar16 d a s := rfl
@[simp] theorem exec_imin16 {d a} (s : State) : exec (.imin16 d a) s = execImin16 d a s := rfl
@[simp] theorem exec_imax16 {d a} (s : State) : exec (.imax16 d a) s = execImax16 d a s := rfl
@[simp] theorem exec_fadd16 {d a} (s : State) : exec (.fadd16 d a) s = execFadd16 d a s := rfl
@[simp] theorem exec_fsub16 {d a} (s : State) : exec (.fsub16 d a) s = execFsub16 d a s := rfl
@[simp] theorem exec_fmul16 {d a} (s : State) : exec (.fmul16 d a) s = execFmul16 d a s := rfl
@[simp] theorem exec_fmax16 {d a} (s : State) : exec (.fmax16 d a) s = execFmax16 d a s := rfl
@[simp] theorem exec_iaddI32 {d a b nw} (s : State) : exec (.iaddI32 d a b nw) s = execIaddI32 d a b nw s := rfl
@[simp] theorem exec_isubI32 {d a b nw} (s : State) : exec (.isubI32 d a b nw) s = execIsubI32 d a b nw s := rfl
@[simp] theorem exec_imulI32 {d a b nw} (s : State) : exec (.imulI32 d a b nw) s = execImulI32 d a b nw s := rfl
@[simp] theorem exec_imadI32 {d a b nw} (s : State) : exec (.imadI32 d a b nw) s = execImadI32 d a b nw s := rfl
@[simp] theorem exec_imulhI32 {d a b nw} (s : State) : exec (.imulhI32 d a b nw) s = execImulhI32 d a b nw s := rfl
@[simp] theorem exec_imulhN32 {d a b nw} (s : State) : exec (.imulhN32 d a b nw) s = execImulhN32 d a b nw s := rfl
@[simp] theorem exec_iabsI32 {d a nw} (s : State) : exec (.iabsI32 d a nw) s = execIabsI32 d a nw s := rfl
@[simp] theorem exec_sel {d a b nw} (s : State) : exec (.sel d a b nw) s = execSel d a b nw s := rfl
@[simp] theorem exec_idivI32 {d a b nw} (s : State) : exec (.idivI32 d a b nw) s = execIdivI32 d a b nw s := rfl
@[simp] theorem exec_idivN32 {d a b nw} (s : State) : exec (.idivN32 d a b nw) s = execIdivN32 d a b nw s := rfl
@[simp] theorem exec_iremI32 {d a b nw} (s : State) : exec (.iremI32 d a b nw) s = execIremI32 d a b nw s := rfl
@[simp] theorem exec_iremN32 {d a b nw} (s : State) : exec (.iremN32 d a b nw) s = execIremN32 d a b nw s := rfl
@[simp] theorem exec_iminI32 {d a b nw} (s : State) : exec (.iminI32 d a b nw) s = execIminI32 d a b nw s := rfl
@[simp] theorem exec_iminN32 {d a b nw} (s : State) : exec (.iminN32 d a b nw) s = execIminN32 d a b nw s := rfl
@[simp] theorem exec_imaxI32 {d a b nw} (s : State) : exec (.imaxI32 d a b nw) s = execImaxI32 d a b nw s := rfl
@[simp] theorem exec_imaxN32 {d a b nw} (s : State) : exec (.imaxN32 d a b nw) s = execImaxN32 d a b nw s := rfl
@[simp] theorem exec_andV {d a b nw} (s : State) : exec (.andV d a b nw) s = execAndV d a b nw s := rfl
@[simp] theorem exec_orV {d a b nw} (s : State) : exec (.orV d a b nw) s = execOrV d a b nw s := rfl
@[simp] theorem exec_xorV {d a b nw} (s : State) : exec (.xorV d a b nw) s = execXorV d a b nw s := rfl
@[simp] theorem exec_andn {d a b nw} (s : State) : exec (.andn d a b nw) s = execAndn d a b nw s := rfl
@[simp] theorem exec_shlN32 {d a b nw} (s : State) : exec (.shlN32 d a b nw) s = execShlN32 d a b nw s := rfl
@[simp] theorem exec_shrN32 {d a b nw} (s : State) : exec (.shrN32 d a b nw) s = execShrN32 d a b nw s := rfl
@[simp] theorem exec_sarI32 {d a b nw} (s : State) : exec (.sarI32 d a b nw) s = execSarI32 d a b nw s := rfl
@[simp] theorem exec_rotN32 {d a b nw} (s : State) : exec (.rotN32 d a b nw) s = execRotN32 d a b nw s := rfl
@[simp] theorem exec_clz {d a nw} (s : State) : exec (.clz d a nw) s = execClz d a nw s := rfl
@[simp] theorem exec_popc {d a nw} (s : State) : exec (.popc d a nw) s = execPopc d a nw s := rfl
@[simp] theorem exec_brev {d a nw} (s : State) : exec (.brev d a nw) s = execBrev d a nw s := rfl
@[simp] theorem exec_bfx {d a b nw} (s : State) : exec (.bfx d a b nw) s = execBfx d a b nw s := rfl
@[simp] theorem exec_bfi {d a b nw} (s : State) : exec (.bfi d a b nw) s = execBfi d a b nw s := rfl
@[simp] theorem exec_movV {d a nw} (s : State) : exec (.movV d a nw) s = execMovV d a nw s := rfl
@[simp] theorem exec_iaddI64V {d a b nw} (s : State) : exec (.iaddI64V d a b nw) s = execIaddI64V d a b nw s := rfl
@[simp] theorem exec_isubI64V {d a b nw} (s : State) : exec (.isubI64V d a b nw) s = execIsubI64V d a b nw s := rfl
@[simp] theorem exec_iaddI64S {d a b} (s : State) : exec (.iaddI64S d a b) s = execIaddI64S d a b s := rfl
@[simp] theorem exec_isubI64S {d a b} (s : State) : exec (.isubI64S d a b) s = execIsubI64S d a b s := rfl
@[simp] theorem exec_imulI64 {d a b} (s : State) : exec (.imulI64 d a b) s = execImulI64 d a b s := rfl
@[simp] theorem exec_andS {d a b} (s : State) : exec (.andS d a b) s = execAndS d a b s := rfl
@[simp] theorem exec_orS {d a b} (s : State) : exec (.orS d a b) s = execOrS d a b s := rfl
@[simp] theorem exec_xorS {d a b} (s : State) : exec (.xorS d a b) s = execXorS d a b s := rfl
@[simp] theorem exec_shlN64 {d a b} (s : State) : exec (.shlN64 d a b) s = execShlN64 d a b s := rfl
@[simp] theorem exec_shrN64 {d a b} (s : State) : exec (.shrN64 d a b) s = execShrN64 d a b s := rfl
@[simp] theorem exec_sarI64 {d a b} (s : State) : exec (.sarI64 d a b) s = execSarI64 d a b s := rfl
@[simp] theorem exec_movS {d a} (s : State) : exec (.movS d a) s = execMovS d a s := rfl
@[simp] theorem exec_icmpEqI32 {d a b} (s : State) : exec (.icmpEqI32 d a b) s = execIcmpEqI32 d a b s := rfl
@[simp] theorem exec_icmpLtI32 {d a b} (s : State) : exec (.icmpLtI32 d a b) s = execIcmpLtI32 d a b s := rfl
@[simp] theorem exec_icmpLtN32 {d a b} (s : State) : exec (.icmpLtN32 d a b) s = execIcmpLtN32 d a b s := rfl
@[simp] theorem exec_icmpEqI64 {d a b} (s : State) : exec (.icmpEqI64 d a b) s = execIcmpEqI64 d a b s := rfl
@[simp] theorem exec_icmpLtI64 {d a b} (s : State) : exec (.icmpLtI64 d a b) s = execIcmpLtI64 d a b s := rfl
@[simp] theorem exec_icmpLtN64 {d a b} (s : State) : exec (.icmpLtN64 d a b) s = execIcmpLtN64 d a b s := rfl
@[simp] theorem exec_lidV {d nw} (s : State) : exec (.lidV d nw) s = execLidV d nw s := rfl
@[simp] theorem exec_lidS {d} (s : State) : exec (.lidS d) s = execLidS d s := rfl
@[simp] theorem exec_fpack {d a b nw} (s : State) : exec (.fpack d a b nw) s = execFpack d a b nw s := rfl
@[simp] theorem exec_funpack {d a b nw} (s : State) : exec (.funpack d a b nw) s = execFunpack d a b nw s := rfl
@[simp] theorem exec_fstat {d} (s : State) : exec (.fstat d) s = execFstat d s := rfl
@[simp] theorem exec_fmode {d a} (s : State) : exec (.fmode d a) s = execFmode d a s := rfl
@[simp] theorem exec_iaddI32Imm {d a imm nw} (s : State) : exec (.iaddI32Imm d a imm nw) s = execIaddI32Imm d a imm nw s := rfl
@[simp] theorem exec_iaddI64Imm {d a imm} (s : State) : exec (.iaddI64Imm d a imm) s = execIaddI64Imm d a imm s := rfl
@[simp] theorem exec_moviV {d imm nw} (s : State) : exec (.moviV d imm nw) s = execMoviV d imm nw s := rfl
@[simp] theorem exec_moviS {d imm} (s : State) : exec (.moviS d imm) s = execMoviS d imm s := rfl
@[simp] theorem exec_lea {d imm} (s : State) : exec (.lea d imm) s = execLea d imm s := rfl
@[simp] theorem exec_limm {value} (s : State) : exec (.limm value) s = execLimm value s := rfl
@[simp] theorem exec_faddF32 {d a b nw} (s : State) : exec (.faddF32 d a b nw) s = execFaddF32 d a b nw s := rfl
@[simp] theorem exec_fsubF32 {d a b nw} (s : State) : exec (.fsubF32 d a b nw) s = execFsubF32 d a b nw s := rfl
@[simp] theorem exec_fmulF32 {d a b nw} (s : State) : exec (.fmulF32 d a b nw) s = execFmulF32 d a b nw s := rfl
@[simp] theorem exec_ffmaF32 {d a b nw} (s : State) : exec (.ffmaF32 d a b nw) s = execFfmaF32 d a b nw s := rfl
@[simp] theorem exec_fdivF32 {d a b nw} (s : State) : exec (.fdivF32 d a b nw) s = execFdivF32 d a b nw s := rfl
@[simp] theorem exec_fsqrtF32 {d a nw} (s : State) : exec (.fsqrtF32 d a nw) s = execFsqrtF32 d a nw s := rfl
@[simp] theorem exec_fminF32 {d a b nw} (s : State) : exec (.fminF32 d a b nw) s = execFminF32 d a b nw s := rfl
@[simp] theorem exec_fmaxF32 {d a b nw} (s : State) : exec (.fmaxF32 d a b nw) s = execFmaxF32 d a b nw s := rfl
@[simp] theorem exec_frcp {d a nw} (s : State) : exec (.frcp d a nw) s = execFrcp d a nw s := rfl
@[simp] theorem exec_frsq {d a nw} (s : State) : exec (.frsq d a nw) s = execFrsq d a nw s := rfl
@[simp] theorem exec_fexp2 {d a nw} (s : State) : exec (.fexp2 d a nw) s = execFexp2 d a nw s := rfl
@[simp] theorem exec_flog2 {d a nw} (s : State) : exec (.flog2 d a nw) s = execFlog2 d a nw s := rfl
@[simp] theorem exec_froundF32 {d a nw} (s : State) : exec (.froundF32 d a nw) s = execFroundF32 d a nw s := rfl
@[simp] theorem exec_fclassF32 {d a nw} (s : State) : exec (.fclassF32 d a nw) s = execFclassF32 d a nw s := rfl
@[simp] theorem exec_fcmpEqF32 {d a b} (s : State) : exec (.fcmpEqF32 d a b) s = execFcmpEqF32 d a b s := rfl
@[simp] theorem exec_fcmpLtF32 {d a b} (s : State) : exec (.fcmpLtF32 d a b) s = execFcmpLtF32 d a b s := rfl
@[simp] theorem exec_faddF64 {d a b nw} (s : State) : exec (.faddF64 d a b nw) s = execFaddF64 d a b nw s := rfl
@[simp] theorem exec_fsubF64 {d a b nw} (s : State) : exec (.fsubF64 d a b nw) s = execFsubF64 d a b nw s := rfl
@[simp] theorem exec_fmulF64 {d a b nw} (s : State) : exec (.fmulF64 d a b nw) s = execFmulF64 d a b nw s := rfl
@[simp] theorem exec_ffmaF64 {d a b nw} (s : State) : exec (.ffmaF64 d a b nw) s = execFfmaF64 d a b nw s := rfl
@[simp] theorem exec_fdivF64 {d a b nw} (s : State) : exec (.fdivF64 d a b nw) s = execFdivF64 d a b nw s := rfl
@[simp] theorem exec_fsqrtF64 {d a nw} (s : State) : exec (.fsqrtF64 d a nw) s = execFsqrtF64 d a nw s := rfl
@[simp] theorem exec_fminF64 {d a b nw} (s : State) : exec (.fminF64 d a b nw) s = execFminF64 d a b nw s := rfl
@[simp] theorem exec_fmaxF64 {d a b nw} (s : State) : exec (.fmaxF64 d a b nw) s = execFmaxF64 d a b nw s := rfl
@[simp] theorem exec_fcmpLeF32 {d a b} (s : State) : exec (.fcmpLeF32 d a b) s = execFcmpLeF32 d a b s := rfl
@[simp] theorem exec_fcmpEqF64 {d a b} (s : State) : exec (.fcmpEqF64 d a b) s = execFcmpEqF64 d a b s := rfl
@[simp] theorem exec_fcmpLtF64 {d a b} (s : State) : exec (.fcmpLtF64 d a b) s = execFcmpLtF64 d a b s := rfl
@[simp] theorem exec_fcmpLeF64 {d a b} (s : State) : exec (.fcmpLeF64 d a b) s = execFcmpLeF64 d a b s := rfl
@[simp] theorem exec_froundF64 {d a nw} (s : State) : exec (.froundF64 d a nw) s = execFroundF64 d a nw s := rfl
@[simp] theorem exec_fclassF64 {d a nw} (s : State) : exec (.fclassF64 d a nw) s = execFclassF64 d a nw s := rfl
@[simp] theorem exec_ftoiI32F32 {d a nw} (s : State) : exec (.ftoiI32F32 d a nw) s = execFtoiI32F32 d a nw s := rfl
@[simp] theorem exec_itofF32I32 {d a nw} (s : State) : exec (.itofF32I32 d a nw) s = execItofF32I32 d a nw s := rfl
@[simp] theorem exec_fcvtF64F32 {d a nw} (s : State) : exec (.fcvtF64F32 d a nw) s = execFcvtF64F32 d a nw s := rfl
@[simp] theorem exec_fcvtF32F64 {d a nw} (s : State) : exec (.fcvtF32F64 d a nw) s = execFcvtF32F64 d a nw s := rfl
@[simp] theorem exec_fcvtBf16F32 {d a nw} (s : State) : exec (.fcvtBf16F32 d a nw) s = execFcvtBf16F32 d a nw s := rfl
@[simp] theorem exec_fcvtF32Bf16 {d a nw} (s : State) : exec (.fcvtF32Bf16 d a nw) s = execFcvtF32Bf16 d a nw s := rfl
@[simp] theorem exec_fcvtF16F32 {d a nw} (s : State) : exec (.fcvtF16F32 d a nw) s = execFcvtF16F32 d a nw s := rfl
@[simp] theorem exec_fcvtF32F16 {d a nw} (s : State) : exec (.fcvtF32F16 d a nw) s = execFcvtF32F16 d a nw s := rfl
@[simp] theorem exec_fcvtNfF32 {d a b nw} (s : State) : exec (.fcvtNfF32 d a b nw) s = execFcvtNfF32 d a b nw s := rfl
@[simp] theorem exec_fcvtF32Nf {d a b nw} (s : State) : exec (.fcvtF32Nf d a b nw) s = execFcvtF32Nf d a b nw s := rfl
@[simp] theorem exec_mand {d a b} (s : State) : exec (.mand d a b) s = execMand d a b s := rfl
@[simp] theorem exec_mor {d a b} (s : State) : exec (.mor d a b) s = execMor d a b s := rfl
@[simp] theorem exec_mxor {d a b} (s : State) : exec (.mxor d a b) s = execMxor d a b s := rfl
@[simp] theorem exec_mnot {d a} (s : State) : exec (.mnot d a) s = execMnot d a s := rfl
@[simp] theorem exec_mmov {d a} (s : State) : exec (.mmov d a) s = execMmov d a s := rfl
@[simp] theorem exec_mpop {d a} (s : State) : exec (.mpop d a) s = execMpop d a s := rfl
@[simp] theorem exec_mfirst {d a} (s : State) : exec (.mfirst d a) s = execMfirst d a s := rfl
@[simp] theorem exec_shfl {d a b nw} (s : State) : exec (.shfl d a b nw) s = execShfl d a b nw s := rfl
@[simp] theorem exec_bcast {d a b nw} (s : State) : exec (.bcast d a b nw) s = execBcast d a b nw s := rfl
@[simp] theorem exec_reduceAddI32 {d a} (s : State) : exec (.reduceAddI32 d a) s = execReduceAddI32 d a s := rfl
@[simp] theorem exec_reduceAddF32 {d a} (s : State) : exec (.reduceAddF32 d a) s = execReduceAddF32 d a s := rfl
@[simp] theorem exec_reduceMaxI32 {d a} (s : State) : exec (.reduceMaxI32 d a) s = execReduceMaxI32 d a s := rfl
@[simp] theorem exec_reduceMaxF32 {d a} (s : State) : exec (.reduceMaxF32 d a) s = execReduceMaxF32 d a s := rfl
@[simp] theorem exec_scanAddI32 {d a nw} (s : State) : exec (.scanAddI32 d a nw) s = execScanAddI32 d a nw s := rfl
@[simp] theorem exec_scanAddF32 {d a nw} (s : State) : exec (.scanAddF32 d a nw) s = execScanAddF32 d a nw s := rfl
@[simp] theorem exec_scanMaxI32 {d a nw} (s : State) : exec (.scanMaxI32 d a nw) s = execScanMaxI32 d a nw s := rfl
@[simp] theorem exec_scanMaxF32 {d a nw} (s : State) : exec (.scanMaxF32 d a nw) s = execScanMaxF32 d a nw s := rfl
@[simp] theorem exec_jmpr {a} (s : State) : exec (.jmpr a) s = execJmpr a s := rfl
@[simp] theorem exec_ret (s : State) : exec (.ret) s = execRet s := rfl
@[simp] theorem exec_lbrk (s : State) : exec (.lbrk) s = execLbrk s := rfl
@[simp] theorem exec_yield (s : State) : exec (.yield) s = execYield s := rfl
@[simp] theorem exec_bra {off} (s : State) : exec (.bra off) s = execBra off s := rfl
@[simp] theorem exec_bzM {m off} (s : State) : exec (.bzM m off) s = execBzM m off s := rfl
@[simp] theorem exec_bnzM {m off} (s : State) : exec (.bnzM m off) s = execBnzM m off s := rfl
@[simp] theorem exec_ball {m off} (s : State) : exec (.ball m off) s = execBall m off s := rfl
@[simp] theorem exec_call {off} (s : State) : exec (.call off) s = execCall off s := rfl
@[simp] theorem exec_bzS {r off} (s : State) : exec (.bzS r off) s = execBzS r off s := rfl
@[simp] theorem exec_bnzS {r off} (s : State) : exec (.bnzS r off) s = execBnzS r off s := rfl
@[simp] theorem exec_loop {r off} (s : State) : exec (.loop r off) s = execLoop r off s := rfl
@[simp] theorem exec_rep {sb sa sd cnt} (s : State) : exec (.rep sb sa sd cnt) s = execRep sb sa sd cnt s := rfl
@[simp] theorem exec_ldV {d size sb ix nw} (s : State) : exec (.ldV d size sb ix nw) s = execLdV d size sb ix nw s := rfl
@[simp] theorem exec_ldS {d size sb ix} (s : State) : exec (.ldS d size sb ix) s = execLdS d size sb ix s := rfl
@[simp] theorem exec_stV {d size sb ix} (s : State) : exec (.stV d size sb ix) s = execStV d size sb ix s := rfl
@[simp] theorem exec_stS {d size sb ix} (s : State) : exec (.stS d size sb ix) s = execStS d size sb ix s := rfl
@[simp] theorem exec_ldp {d size sb ix nw} (s : State) : exec (.ldp d size sb ix nw) s = execLdp d size sb ix nw s := rfl
@[simp] theorem exec_stp {d size sb ix} (s : State) : exec (.stp d size sb ix) s = execStp d size sb ix s := rfl
@[simp] theorem exec_ldOrdV {d sb x ord scope} (s : State) : exec (.ldOrdV d sb x ord scope) s = execLdOrdV d sb x ord scope s := rfl
@[simp] theorem exec_ldOrdS {d sb x ord scope} (s : State) : exec (.ldOrdS d sb x ord scope) s = execLdOrdS d sb x ord scope s := rfl
@[simp] theorem exec_stOrdV {d sb x ord scope} (s : State) : exec (.stOrdV d sb x ord scope) s = execStOrdV d sb x ord scope s := rfl
@[simp] theorem exec_stOrdS {d sb x ord scope} (s : State) : exec (.stOrdS d sb x ord scope) s = execStOrdS d sb x ord scope s := rfl
@[simp] theorem exec_atomAddI32 {d sb x ord scope} (s : State) : exec (.atomAddI32 d sb x ord scope) s = execAtomAddI32 d sb x ord scope s := rfl
@[simp] theorem exec_atomAddI64 {d sb x ord scope} (s : State) : exec (.atomAddI64 d sb x ord scope) s = execAtomAddI64 d sb x ord scope s := rfl
@[simp] theorem exec_atomExchI32 {d sb x ord scope} (s : State) : exec (.atomExchI32 d sb x ord scope) s = execAtomExchI32 d sb x ord scope s := rfl
@[simp] theorem exec_atomExchI64 {d sb x ord scope} (s : State) : exec (.atomExchI64 d sb x ord scope) s = execAtomExchI64 d sb x ord scope s := rfl
@[simp] theorem exec_atomMaxI32 {d sb x ord scope} (s : State) : exec (.atomMaxI32 d sb x ord scope) s = execAtomMaxI32 d sb x ord scope s := rfl
@[simp] theorem exec_atomMinI32 {d sb x ord scope} (s : State) : exec (.atomMinI32 d sb x ord scope) s = execAtomMinI32 d sb x ord scope s := rfl
@[simp] theorem exec_redAddI32 {d sb x ord scope} (s : State) : exec (.redAddI32 d sb x ord scope) s = execRedAddI32 d sb x ord scope s := rfl
@[simp] theorem exec_casI32 {d sb x ord scope} (s : State) : exec (.casI32 d sb x ord scope) s = execCasI32 d sb x ord scope s := rfl
@[simp] theorem exec_casI64 {d sb x ord scope} (s : State) : exec (.casI64 d sb x ord scope) s = execCasI64 d sb x ord scope s := rfl
@[simp] theorem exec_fence {kind scope} (s : State) : exec (.fence kind scope) s = execFence kind scope s := rfl
@[simp] theorem exec_llock {d sb x scope} (s : State) : exec (.llock d sb x scope) s = execLlock d sb x scope s := rfl
@[simp] theorem exec_ltry {d sb scope} (s : State) : exec (.ltry d sb scope) s = execLtry d sb scope s := rfl
@[simp] theorem exec_lunlock {sb scope} (s : State) : exec (.lunlock sb scope) s = execLunlock sb scope s := rfl
@[simp] theorem exec_lunlockReg {sb scope} (s : State) : exec (.lunlockReg sb scope) s = execLunlockReg sb scope s := rfl
@[simp] theorem exec_qpass (s : State) : exec (.qpass) s = execQpass s := rfl
@[simp] theorem exec_qidle (s : State) : exec (.qidle) s = execQidle s := rfl
@[simp] theorem exec_qwake (s : State) : exec (.qwake) s = execQwake s := rfl
@[simp] theorem exec_gpstart {d} (s : State) : exec (.gpstart d) s = execGpstart d s := rfl
@[simp] theorem exec_gpwait {d a} (s : State) : exec (.gpwait d a) s = execGpwait d a s := rfl
@[simp] theorem exec_dfree {d a b} (s : State) : exec (.dfree d a b) s = execDfree d a b s := rfl
@[simp] theorem exec_lstat {d a} (s : State) : exec (.lstat d a) s = execLstat d a s := rfl
@[simp] theorem exec_prefL1 {a} (s : State) : exec (.prefL1 a) s = execPrefL1 a s := rfl
@[simp] theorem exec_prefL2 {a} (s : State) : exec (.prefL2 a) s = execPrefL2 a s := rfl
@[simp] theorem exec_prefL2x {a} (s : State) : exec (.prefL2x a) s = execPrefL2x a s := rfl
@[simp] theorem exec_ldbN8 {d a b nw} (s : State) : exec (.ldbN8 d a b nw) s = execLdbN8 d a b nw s := rfl
@[simp] theorem exec_ldbN16 {d a b nw} (s : State) : exec (.ldbN16 d a b nw) s = execLdbN16 d a b nw s := rfl
@[simp] theorem exec_ldbN32 {d a b nw} (s : State) : exec (.ldbN32 d a b nw) s = execLdbN32 d a b nw s := rfl
@[simp] theorem exec_ldbN64 {d a b nw} (s : State) : exec (.ldbN64 d a b nw) s = execLdbN64 d a b nw s := rfl
@[simp] theorem exec_mma {t a b c} (s : State) : exec (.mma t a b c) s = execMma t a b c s := rfl
@[simp] theorem exec_mmag {t a b c} (s : State) : exec (.mmag t a b c) s = execMmag t a b c s := rfl
@[simp] theorem exec_mdrain {t dst sb} (s : State) : exec (.mdrain t dst sb) s = execMdrain t dst sb s := rfl
@[simp] theorem exec_mdrainAdd {t dst sb} (s : State) : exec (.mdrainAdd t dst sb) s = execMdrainAdd t dst sb s := rfl
@[simp] theorem exec_quant {t dst sb sc} (s : State) : exec (.quant t dst sb sc) s = execQuant t dst sb sc s := rfl
@[simp] theorem exec_quantBmaj {t dst sb sc} (s : State) : exec (.quantBmaj t dst sb sc) s = execQuantBmaj t dst sb sc s := rfl
@[simp] theorem exec_tcopyDense {c a dst} (s : State) : exec (.tcopyDense c a dst) s = execTcopyDense c a dst s := rfl
@[simp] theorem exec_tcopyAcc {c a t} (s : State) : exec (.tcopyAcc c a t) s = execTcopyAcc c a t s := rfl
@[simp] theorem exec_tstateAcc {t d} (s : State) : exec (.tstateAcc t d) s = execTstateAcc t d s := rfl
@[simp] theorem exec_tstateSt {t d} (s : State) : exec (.tstateSt t d) s = execTstateSt t d s := rfl
@[simp] theorem exec_twaitAcc {t want phase} (s : State) : exec (.twaitAcc t want phase) s = execTwaitAcc t want phase s := rfl
@[simp] theorem exec_twaitSt {t want phase} (s : State) : exec (.twaitSt t want phase) s = execTwaitSt t want phase s := rfl
@[simp] theorem exec_treadyAcc {t} (s : State) : exec (.treadyAcc t) s = execTreadyAcc t s := rfl
@[simp] theorem exec_treadySt {t} (s : State) : exec (.treadySt t) s = execTreadySt t s := rfl
@[simp] theorem exec_trelAcc {t} (s : State) : exec (.trelAcc t) s = execTrelAcc t s := rfl
@[simp] theorem exec_trelSt {t} (s : State) : exec (.trelSt t) s = execTrelSt t s := rfl
@[simp] theorem exec_mzero {t wide} (s : State) : exec (.mzero t wide) s = execMzero t wide s := rfl
@[simp] theorem exec_tbind {t d} (s : State) : exec (.tbind t d) s = execTbind t d s := rfl
@[simp] theorem exec_mcommit {d} (s : State) : exec (.mcommit d) s = execMcommit d s := rfl
@[simp] theorem exec_mwait {a} (s : State) : exec (.mwait a) s = execMwait a s := rfl
@[simp] theorem exec_cwait {a} (s : State) : exec (.cwait a) s = execCwait a s := rfl
@[simp] theorem exec_cstatMap {d a} (s : State) : exec (.cstatMap d a) s = execCstatMap d a s := rfl
@[simp] theorem exec_cstat {d a} (s : State) : exec (.cstat d a) s = execCstat d a s := rfl
@[simp] theorem exec_ccancel {a} (s : State) : exec (.ccancel a) s = execCcancel a s := rfl
@[simp] theorem exec_bar {n gang expect} (s : State) : exec (.bar n gang expect) s = execBar n gang expect s := rfl
@[simp] theorem exec_arrive {n gang expect} (s : State) : exec (.arrive n gang expect) s = execArrive n gang expect s := rfl
@[simp] theorem exec_bwait {n gang} (s : State) : exec (.bwait n gang) s = execBwait n gang s := rfl
@[simp] theorem exec_trap {n} (s : State) : exec (.trap n) s = execTrap n s := rfl
@[simp] theorem exec_brk {n} (s : State) : exec (.brk n) s = execBrk n s := rfl
@[simp] theorem exec_halt (s : State) : exec (.halt) s = execHalt s := rfl
@[simp] theorem exec_nop (s : State) : exec (.nop) s = execNop s := rfl
@[simp] theorem exec_sigret {d} (s : State) : exec (.sigret d) s = execSigret d s := rfl
@[simp] theorem exec_eret (s : State) : exec (.eret) s = execEret s := rfl
@[simp] theorem exec_sysrd {d r} (s : State) : exec (.sysrd d r) s = execSysrd d r s := rfl
@[simp] theorem exec_syswr {d r} (s : State) : exec (.syswr d r) s = execSyswr d r s := rfl
@[simp] theorem exec_syswrSet {d r} (s : State) : exec (.syswrSet d r) s = execSyswrSet d r s := rfl
@[simp] theorem exec_syswrClr {d r} (s : State) : exec (.syswrClr d r) s = execSyswrClr d r s := rfl
@[simp] theorem exec_park {d} (s : State) : exec (.park d) s = execPark d s := rfl
@[simp] theorem exec_resume {d} (s : State) : exec (.resume d) s = execResume d s := rfl
@[simp] theorem exec_resumeStep {d} (s : State) : exec (.resumeStep d) s = execResumeStep d s := rfl
@[simp] theorem exec_vectorPass {core slot} (s : State) : exec (.vectorPass core slot) s = execVectorPass core slot s := rfl
@[simp] theorem exec_teamBoost {core slot} (s : State) : exec (.teamBoost core slot) s = execTeamBoost core slot s := rfl
@[simp] theorem exec_yieldEnd {core slot} (s : State) : exec (.yieldEnd core slot) s = execYieldEnd core slot s := rfl
@[simp] theorem exec_submissionWrite {q val} (s : State) : exec (.submissionWrite q val) s = execSubmissionWrite q val s := rfl
@[simp] theorem exec_launch {q} (s : State) : exec (.launch q) s = execLaunch q s := rfl
@[simp] theorem exec_write {q} (s : State) : exec (.write q) s = execWrite q s := rfl
@[simp] theorem exec_wait {q} (s : State) : exec (.wait q) s = execWait q s := rfl
@[simp] theorem exec_waitComplete {q} (s : State) : exec (.waitComplete q) s = execWaitComplete q s := rfl
@[simp] theorem exec_time {q} (s : State) : exec (.time q) s = execTime q s := rfl
@[simp] theorem exec_nopPacket {q} (s : State) : exec (.nopPacket q) s = execNopPacket q s := rfl
@[simp] theorem exec_queueEnable {q} (s : State) : exec (.queueEnable q) s = execQueueEnable q s := rfl
@[simp] theorem exec_queueResume {q} (s : State) : exec (.queueResume q) s = execQueueResume q s := rfl
@[simp] theorem exec_update (s : State) : exec (.update) s = execUpdate s := rfl
@[simp] theorem exec_standbyImport (s : State) : exec (.standbyImport) s = execStandbyImport s := rfl
@[simp] theorem exec_updateTakeover (s : State) : exec (.updateTakeover) s = execUpdateTakeover s := rfl
@[simp] theorem exec_failover (s : State) : exec (.failover) s = execFailover s := rfl
@[simp] theorem exec_watchdogTakeover (s : State) : exec (.watchdogTakeover) s = execWatchdogTakeover s := rfl
@[simp] theorem exec_runListTurnEnd (s : State) : exec (.runListTurnEnd) s = execRunListTurnEnd s := rfl
@[simp] theorem exec_reset (s : State) : exec (.reset) s = execReset s := rfl
@[simp] theorem exec_placementDecision (s : State) : exec (.placementDecision) s = execPlacementDecision s := rfl
@[simp] theorem exec_blockStart {blk} (s : State) : exec (.blockStart blk) s = execBlockStart blk s := rfl
@[simp] theorem exec_swapThresholdExpiry {blk} (s : State) : exec (.swapThresholdExpiry blk) s = execSwapThresholdExpiry blk s := rfl
@[simp] theorem exec_swapOutBegin {blk} (s : State) : exec (.swapOutBegin blk) s = execSwapOutBegin blk s := rfl
@[simp] theorem exec_swapOutComplete {blk} (s : State) : exec (.swapOutComplete blk) s = execSwapOutComplete blk s := rfl
@[simp] theorem exec_operationStart {core slot} (s : State) : exec (.operationStart core slot) s = execOperationStart core slot s := rfl
@[simp] theorem exec_kstepComplete {op} (s : State) : exec (.kstepComplete op) s = execKstepComplete op s := rfl
@[simp] theorem exec_drainComplete {op} (s : State) : exec (.drainComplete op) s = execDrainComplete op s := rfl
@[simp] theorem exec_quantComplete {op} (s : State) : exec (.quantComplete op) s = execQuantComplete op s := rfl
@[simp] theorem exec_boxIssue {core} (s : State) : exec (.boxIssue core) s = execBoxIssue core s := rfl
@[simp] theorem exec_boxPause {copy box} (s : State) : exec (.boxPause copy box) s = execBoxPause copy box s := rfl
@[simp] theorem exec_boxComplete {copy box} (s : State) : exec (.boxComplete copy box) s = execBoxComplete copy box s := rfl
@[simp] theorem exec_boxFault {copy box} (s : State) : exec (.boxFault copy box) s = execBoxFault copy box s := rfl
@[simp] theorem exec_boxAbort {blk} (s : State) : exec (.boxAbort blk) s = execBoxAbort blk s := rfl
@[simp] theorem exec_lockRequest {core slot} (s : State) : exec (.lockRequest core slot) s = execLockRequest core slot s := rfl
@[simp] theorem exec_lockRelease {obj} (s : State) : exec (.lockRelease obj) s = execLockRelease obj s := rfl
@[simp] theorem exec_grantDelivery {obj} (s : State) : exec (.grantDelivery obj) s = execGrantDelivery obj s := rfl
@[simp] theorem exec_grantWindowClose {obj} (s : State) : exec (.grantWindowClose obj) s = execGrantWindowClose obj s := rfl
@[simp] theorem exec_lockDeadline {obj team} (s : State) : exec (.lockDeadline obj team) s = execLockDeadline obj team s := rfl
@[simp] theorem exec_deadlockProbe {obj team} (s : State) : exec (.deadlockProbe obj team) s = execDeadlockProbe obj team s := rfl
@[simp] theorem exec_probeHop {idx} (s : State) : exec (.probeHop idx) s = execProbeHop idx s := rfl
@[simp] theorem exec_graceRecompute {p} (s : State) : exec (.graceRecompute p) s = execGraceRecompute p s := rfl
@[simp] theorem exec_deferredMove {p} (s : State) : exec (.deferredMove p) s = execDeferredMove p s := rfl
@[simp] theorem exec_headPoll {p} (s : State) : exec (.headPoll p) s = execHeadPoll p s := rfl
@[simp] theorem exec_graceStallReport {p} (s : State) : exec (.graceStallReport p) s = execGraceStallReport p s := rfl
@[simp] theorem exec_qscResume (s : State) : exec (.qscResume) s = execQscResume s := rfl
@[simp] theorem exec_logicalTimeAdvance {core n} (s : State) : exec (.logicalTimeAdvance core n) s = execLogicalTimeAdvance core n s := rfl
@[simp] theorem exec_epochChange (s : State) : exec (.epochChange) s = execEpochChange s := rfl
@[simp] theorem exec_retentionWake {core} (s : State) : exec (.retentionWake core) s = execRetentionWake core s := rfl
@[simp] theorem exec_hostSnoop {line} (s : State) : exec (.hostSnoop line) s = execHostSnoop line s := rfl
@[simp] theorem exec_fenceMarkerAck {path core} (s : State) : exec (.fenceMarkerAck path core) s = execFenceMarkerAck path core s := rfl
@[simp] theorem exec_dieLinkFailure {d1 d2} (s : State) : exec (.dieLinkFailure d1 d2) s = execDieLinkFailure d1 d2 s := rfl
@[simp] theorem exec_cxlPortFailure {port} (s : State) : exec (.cxlPortFailure port) s = execCxlPortFailure port s := rfl
@[simp] theorem exec_invalidationRetry {ok} (s : State) : exec (.invalidationRetry ok) s = execInvalidationRetry ok s := rfl
@[simp] theorem exec_ualinkPortFailure {port} (s : State) : exec (.ualinkPortFailure port) s = execUalinkPortFailure port s := rfl
@[simp] theorem exec_remoteRequest {pasid va req} (s : State) : exec (.remoteRequest pasid va req) s = execRemoteRequest pasid va req s := rfl
@[simp] theorem exec_eventEntry {core} (s : State) : exec (.eventEntry core) s = execEventEntry core s := rfl
@[simp] theorem exec_supervisorTimer {core} (s : State) : exec (.supervisorTimer core) s = execSupervisorTimer core s := rfl
@[simp] theorem exec_doorbell {core} (s : State) : exec (.doorbell core) s = execDoorbell core s := rfl
@[simp] theorem exec_supresume {core} (s : State) : exec (.supresume core) s = execSupresume core s := rfl
@[simp] theorem exec_mailboxPost (s : State) : exec (.mailboxPost) s = execMailboxPost s := rfl
@[simp] theorem exec_teamStateDataWrite {port val} (s : State) : exec (.teamStateDataWrite port val) s = execTeamStateDataWrite port val s := rfl
@[simp] theorem exec_teamStateDataRead {port} (s : State) : exec (.teamStateDataRead port) s = execTeamStateDataRead port s := rfl
@[simp] theorem exec_frame {port} (s : State) : exec (.frame port) s = execFrame port s := rfl
@[simp] theorem exec_kill {port} (s : State) : exec (.kill port) s = execKill port s := rfl
@[simp] theorem exec_release {port} (s : State) : exec (.release port) s = execRelease port s := rfl
@[simp] theorem exec_stop {core place} (s : State) : exec (.stop core place) s = execStop core place s := rfl
@[simp] theorem exec_blockStopDone (s : State) : exec (.blockStopDone) s = execBlockStopDone s := rfl
@[simp] theorem exec_run {core place} (s : State) : exec (.run core place) s = execRun core place s := rfl
@[simp] theorem exec_step {core slot} (s : State) : exec (.step core slot) s = execStep core slot s := rfl
@[simp] theorem exec_exec {core slot nbuf} (s : State) : exec (.exec core slot nbuf) s = execExec core slot nbuf s := rfl
@[simp] theorem exec_gangstop {core} (s : State) : exec (.gangstop core) s = execGangstop core s := rfl
@[simp] theorem exec_traceEnable {core val} (s : State) : exec (.traceEnable core val) s = execTraceEnable core val s := rfl
@[simp] theorem exec_traceSync {core} (s : State) : exec (.traceSync core) s = execTraceSync core s := rfl
@[simp] theorem exec_traceResume {core} (s : State) : exec (.traceResume core) s = execTraceResume core s := rfl
@[simp] theorem exec_counterWrap {core e} (s : State) : exec (.counterWrap core e) s = execCounterWrap core e s := rfl
@[simp] theorem exec_shootdownSubmit {val} (s : State) : exec (.shootdownSubmit val) s = execShootdownSubmit val s := rfl
@[simp] theorem exec_atsInvalidation {pasid va log2} (s : State) : exec (.atsInvalidation pasid va log2) s = execAtsInvalidation pasid va log2 s := rfl
@[simp] theorem exec_shootdownComplete (s : State) : exec (.shootdownComplete) s = execShootdownComplete s := rfl
@[simp] theorem exec_checkpoint {val} (s : State) : exec (.checkpoint val) s = execCheckpoint val s := rfl
@[simp] theorem exec_checkpointDone {ok} (s : State) : exec (.checkpointDone ok) s = execCheckpointDone ok s := rfl
@[simp] theorem exec_freeze (s : State) : exec (.freeze) s = execFreeze s := rfl
@[simp] theorem exec_unfreeze (s : State) : exec (.unfreeze) s = execUnfreeze s := rfl
@[simp] theorem exec_unpoison {val} (s : State) : exec (.unpoison val) s = execUnpoison val s := rfl
@[simp] theorem exec_slotWrite {val} (s : State) : exec (.slotWrite val) s = execSlotWrite val s := rfl
@[simp] theorem exec_clockStep {up} (s : State) : exec (.clockStep up) s = execClockStep up s := rfl
@[simp] theorem exec_withholdStep {k} (s : State) : exec (.withholdStep k) s = execWithholdStep k s := rfl
@[simp] theorem exec_errorDetected {src unit addr ident} (s : State) : exec (.errorDetected src unit addr ident) s = execErrorDetected src unit addr ident s := rfl
@[simp] theorem exec_errorRetry {ok} (s : State) : exec (.errorRetry ok) s = execErrorRetry ok s := rfl
@[simp] theorem exec_spdmMeasurement {idx} (s : State) : exec (.spdmMeasurement idx) s = execSpdmMeasurement idx s := rfl
@[simp] theorem exec_spdmKeyExchange {port} (s : State) : exec (.spdmKeyExchange port) s = execSpdmKeyExchange port s := rfl
@[simp] theorem exec_registerWrite {off val} (s : State) : exec (.registerWrite off val) s = execRegisterWrite off val s := rfl
@[simp] theorem exec_fetchFault {core slot} (s : State) : exec (.fetchFault core slot) s = execFetchFault core slot s := rfl
@[simp] theorem exec_storePerformed {core idx} (s : State) : exec (.storePerformed core idx) s = execStorePerformed core idx s := rfl
@[simp] theorem exec_hostCxlMemAccess {addr req} (s : State) : exec (.hostCxlMemAccess addr req) s = execHostCxlMemAccess addr req s := rfl
@[simp] theorem exec_powerLoss (s : State) : exec (.powerLoss) s = execPowerLoss s := rfl
@[simp] theorem exec_l1RetentionSleep {core} (s : State) : exec (.l1RetentionSleep core) s = execL1RetentionSleep core s := rfl

end Sys2Proof.Machine
end

