-- ==== Sys2Proof/Laws/State.lean ====
section
/-! SUPPORT. What each update of a state, a core or a team leaves in each of its fields, and what reading after writing gives. -/

namespace Sys2Proof.Machine

/-! ### Tables -/

variable {α : Type}

theorem tabGet?_tabSet (t : Tab α) (k j : Nat) (v : α) : tabGet? (tabSet t k v) j = if j = k then some v else tabGet? t j := by
  induction t with
  | nil => by_cases h : k = j <;> simp [tabSet, tabGet?, h, eq_comm]
  | cons e t ih =>
    simp only [tabSet]
    split
    · simp only [tabGet?]; grind
    · split <;> simp only [tabGet?] <;> grind

@[simp] theorem tabGet?_tabSet_same (t : Tab α) (k : Nat) (v : α) : tabGet? (tabSet t k v) k = some v := by simp [tabGet?_tabSet]

theorem tabGet?_tabSet_other (t : Tab α) {k j : Nat} (v : α) (h : j ≠ k) : tabGet? (tabSet t k v) j = tabGet? t j := by
  simp [tabGet?_tabSet, h]

theorem tabGet_tabSet (d : α) (t : Tab α) (k j : Nat) (v : α) : tabGet d (tabSet t k v) j = if j = k then v else tabGet d t j := by
  unfold tabGet; rw [tabGet?_tabSet]; split <;> simp

@[simp] theorem tabGet_tabSet_same (d : α) (t : Tab α) (k : Nat) (v : α) : tabGet d (tabSet t k v) k = v := by simp [tabGet_tabSet]

theorem tabGet_tabSet_other (d : α) (t : Tab α) {k j : Nat} (v : α) (h : j ≠ k) : tabGet d (tabSet t k v) j = tabGet d t j := by
  simp [tabGet_tabSet, h]

theorem tabGet?_filter (t : Tab α) (p : Nat → Bool) (j : Nat) :
    tabGet? (t.filter (fun e => p e.1)) j = if p j then tabGet? t j else none := by
  induction t with
  | nil => simp [tabGet?]
  | cons e t ih =>
    rw [List.filter_cons]
    split <;> simp only [tabGet?] <;> grind

theorem tabGet?_tabErase (t : Tab α) (k j : Nat) : tabGet? (tabErase t k) j = if j = k then none else tabGet? t j := by
  unfold tabErase
  rw [tabGet?_filter t (fun i => i != k)]
  by_cases h : j = k <;> simp [h]

@[simp] theorem tabGet?_tabErase_same (t : Tab α) (k : Nat) : tabGet? (tabErase t k) k = none := by simp [tabGet?_tabErase]

theorem tabGet?_tabModify (t : Tab α) (k j : Nat) (f : α → α) :
    tabGet? (tabModify t k f) j = if j = k then (tabGet? t j).map f else tabGet? t j := by
  unfold tabModify
  induction t with
  | nil => simp [tabGet?]
  | cons e t ih =>
    rw [List.map_cons]
    by_cases he : e.1 = k <;> simp only [he, if_true, if_false, tabGet?] <;> grind

/-! ### Cores and teams -/

@[simp] theorem core_setCore (s : State) (c : Nat) (k : Core) : (s.setCore c k).core c = k := by simp [State.core, State.setCore]

theorem core_setCore_other (s : State) {c c' : Nat} (k : Core) (h : c' ≠ c) : (s.setCore c k).core c' = s.core c' := by
  simp [State.core, State.setCore, tabGet_tabSet, h]

theorem core_setTeam (s : State) (p : Nat × Nat) (t : Team) :
    (s.setTeam p t).core p.1 = { s.core p.1 with teams := tabSet (s.core p.1).teams p.2 t } := by simp [State.setTeam]

theorem core_setTeam_other (s : State) {p : Nat × Nat} {c : Nat} (t : Team) (h : c ≠ p.1) : (s.setTeam p t).core c = s.core c :=
  core_setCore_other s _ h

@[simp] theorem team?_setTeam (s : State) (p : Nat × Nat) (t : Team) : (s.setTeam p t).team? p = some t := by
  simp [State.team?, core_setTeam]

theorem team?_setTeam_other (s : State) {p q : Nat × Nat} (t : Team) (h : q ≠ p) : (s.setTeam p t).team? q = s.team? q := by
  unfold State.team?
  by_cases hc : q.1 = p.1
  · have hs : q.2 ≠ p.2 := fun e => h (Prod.ext hc e)
    rw [hc, core_setTeam]
    exact tabGet?_tabSet_other _ _ hs
  · rw [core_setTeam_other s t hc]

/-! ### Fields of the state -/

@[simp] theorem State.setCore_cores (s : State) (c : Nat) (k : Core) : (s.setCore c k).cores = tabSet s.cores c k := rfl
@[simp] theorem State.setCore_mem (s : State) (c : Nat) (k : Core) : (s.setCore c k).mem = s.mem := rfl
@[simp] theorem State.setCore_poison (s : State) (c : Nat) (k : Core) : (s.setCore c k).poison = s.poison := rfl
@[simp] theorem State.setCore_restored (s : State) (c : Nat) (k : Core) : (s.setCore c k).restored = s.restored := rfl
@[simp] theorem State.setCore_winPoison (s : State) (c : Nat) (k : Core) : (s.setCore c k).winPoison = s.winPoison := rfl
@[simp] theorem State.setCore_stamps (s : State) (c : Nat) (k : Core) : (s.setCore c k).stamps = s.stamps := rfl
@[simp] theorem State.setCore_floors (s : State) (c : Nat) (k : Core) : (s.setCore c k).floors = s.floors := rfl
@[simp] theorem State.setCore_agentTime (s : State) (c : Nat) (k : Core) : (s.setCore c k).agentTime = s.agentTime := rfl
@[simp] theorem State.setCore_epoch (s : State) (c : Nat) (k : Core) : (s.setCore c k).epoch = s.epoch := rfl
@[simp] theorem State.setCore_dirs (s : State) (c : Nat) (k : Core) : (s.setCore c k).dirs = s.dirs := rfl
@[simp] theorem State.setCore_locks (s : State) (c : Nat) (k : Core) : (s.setCore c k).locks = s.locks := rfl
@[simp] theorem State.setCore_lockReqs (s : State) (c : Nat) (k : Core) : (s.setCore c k).lockReqs = s.lockReqs := rfl
@[simp] theorem State.setCore_probes (s : State) (c : Nat) (k : Core) : (s.setCore c k).probes = s.probes := rfl
@[simp] theorem State.setCore_lkdTiming (s : State) (c : Nat) (k : Core) : (s.setCore c k).lkdTiming = s.lkdTiming := rfl
@[simp] theorem State.setCore_lkdCounts (s : State) (c : Nat) (k : Core) : (s.setCore c k).lkdCounts = s.lkdCounts := rfl
@[simp] theorem State.setCore_procs (s : State) (c : Nat) (k : Core) : (s.setCore c k).procs = s.procs := rfl
@[simp] theorem State.setCore_qscStall (s : State) (c : Nat) (k : Core) : (s.setCore c k).qscStall = s.qscStall := rfl
@[simp] theorem State.setCore_qscProc (s : State) (c : Nat) (k : Core) : (s.setCore c k).qscProc = s.qscProc := rfl
@[simp] theorem State.setCore_qscCounts (s : State) (c : Nat) (k : Core) : (s.setCore c k).qscCounts = s.qscCounts := rfl
@[simp] theorem State.setCore_xlt (s : State) (c : Nat) (k : Core) : (s.setCore c k).xlt = s.xlt := rfl
@[simp] theorem State.setCore_shootdowns (s : State) (c : Nat) (k : Core) : (s.setCore c k).shootdowns = s.shootdowns := rfl
@[simp] theorem State.setCore_fe (s : State) (c : Nat) (k : Core) : (s.setCore c k).fe = s.fe := rfl
@[simp] theorem State.setCore_saved (s : State) (c : Nat) (k : Core) : (s.setCore c k).saved = s.saved := rfl
@[simp] theorem State.setCore_mgt (s : State) (c : Nat) (k : Core) : (s.setCore c k).mgt = s.mgt := rfl
@[simp] theorem State.setCore_mailOut (s : State) (c : Nat) (k : Core) : (s.setCore c k).mailOut = s.mailOut := rfl
@[simp] theorem State.setCore_mailNo (s : State) (c : Nat) (k : Core) : (s.setCore c k).mailNo = s.mailNo := rfl
@[simp] theorem State.setCore_ports (s : State) (c : Nat) (k : Core) : (s.setCore c k).ports = s.ports := rfl
@[simp] theorem State.setCore_dbg (s : State) (c : Nat) (k : Core) : (s.setCore c k).dbg = s.dbg := rfl
@[simp] theorem State.setCore_gangStop (s : State) (c : Nat) (k : Core) : (s.setCore c k).gangStop = s.gangStop := rfl
@[simp] theorem State.setCore_gangDue (s : State) (c : Nat) (k : Core) : (s.setCore c k).gangDue = s.gangDue := rfl
@[simp] theorem State.setCore_debugRun (s : State) (c : Nat) (k : Core) : (s.setCore c k).debugRun = s.debugRun := rfl
@[simp] theorem State.setCore_fenced (s : State) (c : Nat) (k : Core) : (s.setCore c k).fenced = s.fenced := rfl
@[simp] theorem State.setCore_errs (s : State) (c : Nat) (k : Core) : (s.setCore c k).errs = s.errs := rfl
@[simp] theorem State.setCore_awaited (s : State) (c : Nat) (k : Core) : (s.setCore c k).awaited = s.awaited := rfl
@[simp] theorem State.setCore_late (s : State) (c : Nat) (k : Core) : (s.setCore c k).late = s.late := rfl
@[simp] theorem State.setCore_slices (s : State) (c : Nat) (k : Core) : (s.setCore c k).slices = s.slices := rfl
@[simp] theorem State.setCore_gtlb (s : State) (c : Nat) (k : Core) : (s.setCore c k).gtlb = s.gtlb := rfl
@[simp] theorem State.setCore_walkCache (s : State) (c : Nat) (k : Core) : (s.setCore c k).walkCache = s.walkCache := rfl
@[simp] theorem State.setCore_seq (s : State) (c : Nat) (k : Core) : (s.setCore c k).seq = s.seq := rfl
@[simp] theorem State.setCore_time (s : State) (c : Nat) (k : Core) : (s.setCore c k).time = s.time := rfl
@[simp] theorem State.setCore_readmitSeq (s : State) (c : Nat) (k : Core) : (s.setCore c k).readmitSeq = s.readmitSeq := rfl
@[simp] theorem State.setCore_clock (s : State) (c : Nat) (k : Core) : (s.setCore c k).clock = s.clock := rfl
@[simp] theorem State.setCore_withheld (s : State) (c : Nat) (k : Core) : (s.setCore c k).withheld = s.withheld := rfl
@[simp] theorem State.setCore_cur (s : State) (c : Nat) (k : Core) : (s.setCore c k).cur = s.cur := rfl
@[simp] theorem State.setCore_agenda (s : State) (c : Nat) (k : Core) : (s.setCore c k).agenda = s.agenda := rfl
@[simp] theorem State.setCore_turns (s : State) (c : Nat) (k : Core) : (s.setCore c k).turns = s.turns := rfl
@[simp] theorem State.setCore_latch (s : State) (c : Nat) (k : Core) : (s.setCore c k).latch = s.latch := rfl
@[simp] theorem State.setCore_ide (s : State) (c : Nat) (k : Core) : (s.setCore c k).ide = s.ide := rfl
@[simp] theorem State.setCore_slotOk (s : State) (c : Nat) (k : Core) : (s.setCore c k).slotOk = s.slotOk := rfl
@[simp] theorem State.setCore_slotDigest (s : State) (c : Nat) (k : Core) : (s.setCore c k).slotDigest = s.slotDigest := rfl
@[simp] theorem State.setCore_runDigest (s : State) (c : Nat) (k : Core) : (s.setCore c k).runDigest = s.runDigest := rfl
@[simp] theorem State.setCore_fuses (s : State) (c : Nat) (k : Core) : (s.setCore c k).fuses = s.fuses := rfl
@[simp] theorem State.setCore_certs (s : State) (c : Nat) (k : Core) : (s.setCore c k).certs = s.certs := rfl
@[simp] theorem State.setCore_spdmOut (s : State) (c : Nat) (k : Core) : (s.setCore c k).spdmOut = s.spdmOut := rfl
@[simp] theorem State.setCore_certOut (s : State) (c : Nat) (k : Core) : (s.setCore c k).certOut = s.certOut := rfl
@[simp] theorem State.setCore_safeTier (s : State) (c : Nat) (k : Core) : (s.setCore c k).safeTier = s.safeTier := rfl
@[simp] theorem State.setCore_powered (s : State) (c : Nat) (k : Core) : (s.setCore c k).powered = s.powered := rfl
@[simp] theorem State.setCore_tick (s : State) (c : Nat) (k : Core) : (s.setCore c k).tick = s.tick := rfl
@[simp] theorem State.setCore_nextUid (s : State) (c : Nat) (k : Core) : (s.setCore c k).nextUid = s.nextUid := rfl

@[simp] theorem State.setTeam_cores (s : State) (p : Nat × Nat) (t : Team) : (s.setTeam p t).cores = tabSet s.cores p.1 { s.core p.1 with teams := tabSet (s.core p.1).teams p.2 t } := rfl
@[simp] theorem State.setTeam_mem (s : State) (p : Nat × Nat) (t : Team) : (s.setTeam p t).mem = s.mem := rfl
@[simp] theorem State.setTeam_poison (s : State) (p : Nat × Nat) (t : Team) : (s.setTeam p t).poison = s.poison := rfl
@[simp] theorem State.setTeam_restored (s : State) (p : Nat × Nat) (t : Team) : (s.setTeam p t).restored = s.restored := rfl
@[simp] theorem State.setTeam_winPoison (s : State) (p : Nat × Nat) (t : Team) : (s.setTeam p t).winPoison = s.winPoison := rfl
@[simp] theorem State.setTeam_stamps (s : State) (p : Nat × Nat) (t : Team) : (s.setTeam p t).stamps = s.stamps := rfl
@[simp] theorem State.setTeam_floors (s : State) (p : Nat × Nat) (t : Team) : (s.setTeam p t).floors = s.floors := rfl
@[simp] theorem State.setTeam_agentTime (s : State) (p : Nat × Nat) (t : Team) : (s.setTeam p t).agentTime = s.agentTime := rfl
@[simp] theorem State.setTeam_epoch (s : State) (p : Nat × Nat) (t : Team) : (s.setTeam p t).epoch = s.epoch := rfl
@[simp] theorem State.setTeam_dirs (s : State) (p : Nat × Nat) (t : Team) : (s.setTeam p t).dirs = s.dirs := rfl
@[simp] theorem State.setTeam_locks (s : State) (p : Nat × Nat) (t : Team) : (s.setTeam p t).locks = s.locks := rfl
@[simp] theorem State.setTeam_lockReqs (s : State) (p : Nat × Nat) (t : Team) : (s.setTeam p t).lockReqs = s.lockReqs := rfl
@[simp] theorem State.setTeam_probes (s : State) (p : Nat × Nat) (t : Team) : (s.setTeam p t).probes = s.probes := rfl
@[simp] theorem State.setTeam_lkdTiming (s : State) (p : Nat × Nat) (t : Team) : (s.setTeam p t).lkdTiming = s.lkdTiming := rfl
@[simp] theorem State.setTeam_lkdCounts (s : State) (p : Nat × Nat) (t : Team) : (s.setTeam p t).lkdCounts = s.lkdCounts := rfl
@[simp] theorem State.setTeam_procs (s : State) (p : Nat × Nat) (t : Team) : (s.setTeam p t).procs = s.procs := rfl
@[simp] theorem State.setTeam_qscStall (s : State) (p : Nat × Nat) (t : Team) : (s.setTeam p t).qscStall = s.qscStall := rfl
@[simp] theorem State.setTeam_qscProc (s : State) (p : Nat × Nat) (t : Team) : (s.setTeam p t).qscProc = s.qscProc := rfl
@[simp] theorem State.setTeam_qscCounts (s : State) (p : Nat × Nat) (t : Team) : (s.setTeam p t).qscCounts = s.qscCounts := rfl
@[simp] theorem State.setTeam_xlt (s : State) (p : Nat × Nat) (t : Team) : (s.setTeam p t).xlt = s.xlt := rfl
@[simp] theorem State.setTeam_shootdowns (s : State) (p : Nat × Nat) (t : Team) : (s.setTeam p t).shootdowns = s.shootdowns := rfl
@[simp] theorem State.setTeam_fe (s : State) (p : Nat × Nat) (t : Team) : (s.setTeam p t).fe = s.fe := rfl
@[simp] theorem State.setTeam_saved (s : State) (p : Nat × Nat) (t : Team) : (s.setTeam p t).saved = s.saved := rfl
@[simp] theorem State.setTeam_mgt (s : State) (p : Nat × Nat) (t : Team) : (s.setTeam p t).mgt = s.mgt := rfl
@[simp] theorem State.setTeam_mailOut (s : State) (p : Nat × Nat) (t : Team) : (s.setTeam p t).mailOut = s.mailOut := rfl
@[simp] theorem State.setTeam_mailNo (s : State) (p : Nat × Nat) (t : Team) : (s.setTeam p t).mailNo = s.mailNo := rfl
@[simp] theorem State.setTeam_ports (s : State) (p : Nat × Nat) (t : Team) : (s.setTeam p t).ports = s.ports := rfl
@[simp] theorem State.setTeam_dbg (s : State) (p : Nat × Nat) (t : Team) : (s.setTeam p t).dbg = s.dbg := rfl
@[simp] theorem State.setTeam_gangStop (s : State) (p : Nat × Nat) (t : Team) : (s.setTeam p t).gangStop = s.gangStop := rfl
@[simp] theorem State.setTeam_gangDue (s : State) (p : Nat × Nat) (t : Team) : (s.setTeam p t).gangDue = s.gangDue := rfl
@[simp] theorem State.setTeam_debugRun (s : State) (p : Nat × Nat) (t : Team) : (s.setTeam p t).debugRun = s.debugRun := rfl
@[simp] theorem State.setTeam_fenced (s : State) (p : Nat × Nat) (t : Team) : (s.setTeam p t).fenced = s.fenced := rfl
@[simp] theorem State.setTeam_errs (s : State) (p : Nat × Nat) (t : Team) : (s.setTeam p t).errs = s.errs := rfl
@[simp] theorem State.setTeam_awaited (s : State) (p : Nat × Nat) (t : Team) : (s.setTeam p t).awaited = s.awaited := rfl
@[simp] theorem State.setTeam_late (s : State) (p : Nat × Nat) (t : Team) : (s.setTeam p t).late = s.late := rfl
@[simp] theorem State.setTeam_slices (s : State) (p : Nat × Nat) (t : Team) : (s.setTeam p t).slices = s.slices := rfl
@[simp] theorem State.setTeam_gtlb (s : State) (p : Nat × Nat) (t : Team) : (s.setTeam p t).gtlb = s.gtlb := rfl
@[simp] theorem State.setTeam_walkCache (s : State) (p : Nat × Nat) (t : Team) : (s.setTeam p t).walkCache = s.walkCache := rfl
@[simp] theorem State.setTeam_seq (s : State) (p : Nat × Nat) (t : Team) : (s.setTeam p t).seq = s.seq := rfl
@[simp] theorem State.setTeam_time (s : State) (p : Nat × Nat) (t : Team) : (s.setTeam p t).time = s.time := rfl
@[simp] theorem State.setTeam_readmitSeq (s : State) (p : Nat × Nat) (t : Team) : (s.setTeam p t).readmitSeq = s.readmitSeq := rfl
@[simp] theorem State.setTeam_clock (s : State) (p : Nat × Nat) (t : Team) : (s.setTeam p t).clock = s.clock := rfl
@[simp] theorem State.setTeam_withheld (s : State) (p : Nat × Nat) (t : Team) : (s.setTeam p t).withheld = s.withheld := rfl
@[simp] theorem State.setTeam_cur (s : State) (p : Nat × Nat) (t : Team) : (s.setTeam p t).cur = s.cur := rfl
@[simp] theorem State.setTeam_agenda (s : State) (p : Nat × Nat) (t : Team) : (s.setTeam p t).agenda = s.agenda := rfl
@[simp] theorem State.setTeam_turns (s : State) (p : Nat × Nat) (t : Team) : (s.setTeam p t).turns = s.turns := rfl
@[simp] theorem State.setTeam_latch (s : State) (p : Nat × Nat) (t : Team) : (s.setTeam p t).latch = s.latch := rfl
@[simp] theorem State.setTeam_ide (s : State) (p : Nat × Nat) (t : Team) : (s.setTeam p t).ide = s.ide := rfl
@[simp] theorem State.setTeam_slotOk (s : State) (p : Nat × Nat) (t : Team) : (s.setTeam p t).slotOk = s.slotOk := rfl
@[simp] theorem State.setTeam_slotDigest (s : State) (p : Nat × Nat) (t : Team) : (s.setTeam p t).slotDigest = s.slotDigest := rfl
@[simp] theorem State.setTeam_runDigest (s : State) (p : Nat × Nat) (t : Team) : (s.setTeam p t).runDigest = s.runDigest := rfl
@[simp] theorem State.setTeam_fuses (s : State) (p : Nat × Nat) (t : Team) : (s.setTeam p t).fuses = s.fuses := rfl
@[simp] theorem State.setTeam_certs (s : State) (p : Nat × Nat) (t : Team) : (s.setTeam p t).certs = s.certs := rfl
@[simp] theorem State.setTeam_spdmOut (s : State) (p : Nat × Nat) (t : Team) : (s.setTeam p t).spdmOut = s.spdmOut := rfl
@[simp] theorem State.setTeam_certOut (s : State) (p : Nat × Nat) (t : Team) : (s.setTeam p t).certOut = s.certOut := rfl
@[simp] theorem State.setTeam_safeTier (s : State) (p : Nat × Nat) (t : Team) : (s.setTeam p t).safeTier = s.safeTier := rfl
@[simp] theorem State.setTeam_powered (s : State) (p : Nat × Nat) (t : Team) : (s.setTeam p t).powered = s.powered := rfl
@[simp] theorem State.setTeam_tick (s : State) (p : Nat × Nat) (t : Team) : (s.setTeam p t).tick = s.tick := rfl
@[simp] theorem State.setTeam_nextUid (s : State) (p : Nat × Nat) (t : Team) : (s.setTeam p t).nextUid = s.nextUid := rfl

@[simp] theorem State.setBlock_cores (s : State) (c pl : Nat) (b : Block) : (s.setBlock c pl b).cores = tabSet s.cores c { s.core c with blocks := tabSet (s.core c).blocks pl b } := rfl
@[simp] theorem State.setBlock_mem (s : State) (c pl : Nat) (b : Block) : (s.setBlock c pl b).mem = s.mem := rfl
@[simp] theorem State.setBlock_poison (s : State) (c pl : Nat) (b : Block) : (s.setBlock c pl b).poison = s.poison := rfl
@[simp] theorem State.setBlock_restored (s : State) (c pl : Nat) (b : Block) : (s.setBlock c pl b).restored = s.restored := rfl
@[simp] theorem State.setBlock_winPoison (s : State) (c pl : Nat) (b : Block) : (s.setBlock c pl b).winPoison = s.winPoison := rfl
@[simp] theorem State.setBlock_stamps (s : State) (c pl : Nat) (b : Block) : (s.setBlock c pl b).stamps = s.stamps := rfl
@[simp] theorem State.setBlock_floors (s : State) (c pl : Nat) (b : Block) : (s.setBlock c pl b).floors = s.floors := rfl
@[simp] theorem State.setBlock_agentTime (s : State) (c pl : Nat) (b : Block) : (s.setBlock c pl b).agentTime = s.agentTime := rfl
@[simp] theorem State.setBlock_epoch (s : State) (c pl : Nat) (b : Block) : (s.setBlock c pl b).epoch = s.epoch := rfl
@[simp] theorem State.setBlock_dirs (s : State) (c pl : Nat) (b : Block) : (s.setBlock c pl b).dirs = s.dirs := rfl
@[simp] theorem State.setBlock_locks (s : State) (c pl : Nat) (b : Block) : (s.setBlock c pl b).locks = s.locks := rfl
@[simp] theorem State.setBlock_lockReqs (s : State) (c pl : Nat) (b : Block) : (s.setBlock c pl b).lockReqs = s.lockReqs := rfl
@[simp] theorem State.setBlock_probes (s : State) (c pl : Nat) (b : Block) : (s.setBlock c pl b).probes = s.probes := rfl
@[simp] theorem State.setBlock_lkdTiming (s : State) (c pl : Nat) (b : Block) : (s.setBlock c pl b).lkdTiming = s.lkdTiming := rfl
@[simp] theorem State.setBlock_lkdCounts (s : State) (c pl : Nat) (b : Block) : (s.setBlock c pl b).lkdCounts = s.lkdCounts := rfl
@[simp] theorem State.setBlock_procs (s : State) (c pl : Nat) (b : Block) : (s.setBlock c pl b).procs = s.procs := rfl
@[simp] theorem State.setBlock_qscStall (s : State) (c pl : Nat) (b : Block) : (s.setBlock c pl b).qscStall = s.qscStall := rfl
@[simp] theorem State.setBlock_qscProc (s : State) (c pl : Nat) (b : Block) : (s.setBlock c pl b).qscProc = s.qscProc := rfl
@[simp] theorem State.setBlock_qscCounts (s : State) (c pl : Nat) (b : Block) : (s.setBlock c pl b).qscCounts = s.qscCounts := rfl
@[simp] theorem State.setBlock_xlt (s : State) (c pl : Nat) (b : Block) : (s.setBlock c pl b).xlt = s.xlt := rfl
@[simp] theorem State.setBlock_shootdowns (s : State) (c pl : Nat) (b : Block) : (s.setBlock c pl b).shootdowns = s.shootdowns := rfl
@[simp] theorem State.setBlock_fe (s : State) (c pl : Nat) (b : Block) : (s.setBlock c pl b).fe = s.fe := rfl
@[simp] theorem State.setBlock_saved (s : State) (c pl : Nat) (b : Block) : (s.setBlock c pl b).saved = s.saved := rfl
@[simp] theorem State.setBlock_mgt (s : State) (c pl : Nat) (b : Block) : (s.setBlock c pl b).mgt = s.mgt := rfl
@[simp] theorem State.setBlock_mailOut (s : State) (c pl : Nat) (b : Block) : (s.setBlock c pl b).mailOut = s.mailOut := rfl
@[simp] theorem State.setBlock_mailNo (s : State) (c pl : Nat) (b : Block) : (s.setBlock c pl b).mailNo = s.mailNo := rfl
@[simp] theorem State.setBlock_ports (s : State) (c pl : Nat) (b : Block) : (s.setBlock c pl b).ports = s.ports := rfl
@[simp] theorem State.setBlock_dbg (s : State) (c pl : Nat) (b : Block) : (s.setBlock c pl b).dbg = s.dbg := rfl
@[simp] theorem State.setBlock_gangStop (s : State) (c pl : Nat) (b : Block) : (s.setBlock c pl b).gangStop = s.gangStop := rfl
@[simp] theorem State.setBlock_gangDue (s : State) (c pl : Nat) (b : Block) : (s.setBlock c pl b).gangDue = s.gangDue := rfl
@[simp] theorem State.setBlock_debugRun (s : State) (c pl : Nat) (b : Block) : (s.setBlock c pl b).debugRun = s.debugRun := rfl
@[simp] theorem State.setBlock_fenced (s : State) (c pl : Nat) (b : Block) : (s.setBlock c pl b).fenced = s.fenced := rfl
@[simp] theorem State.setBlock_errs (s : State) (c pl : Nat) (b : Block) : (s.setBlock c pl b).errs = s.errs := rfl
@[simp] theorem State.setBlock_awaited (s : State) (c pl : Nat) (b : Block) : (s.setBlock c pl b).awaited = s.awaited := rfl
@[simp] theorem State.setBlock_late (s : State) (c pl : Nat) (b : Block) : (s.setBlock c pl b).late = s.late := rfl
@[simp] theorem State.setBlock_slices (s : State) (c pl : Nat) (b : Block) : (s.setBlock c pl b).slices = s.slices := rfl
@[simp] theorem State.setBlock_gtlb (s : State) (c pl : Nat) (b : Block) : (s.setBlock c pl b).gtlb = s.gtlb := rfl
@[simp] theorem State.setBlock_walkCache (s : State) (c pl : Nat) (b : Block) : (s.setBlock c pl b).walkCache = s.walkCache := rfl
@[simp] theorem State.setBlock_seq (s : State) (c pl : Nat) (b : Block) : (s.setBlock c pl b).seq = s.seq := rfl
@[simp] theorem State.setBlock_time (s : State) (c pl : Nat) (b : Block) : (s.setBlock c pl b).time = s.time := rfl
@[simp] theorem State.setBlock_readmitSeq (s : State) (c pl : Nat) (b : Block) : (s.setBlock c pl b).readmitSeq = s.readmitSeq := rfl
@[simp] theorem State.setBlock_clock (s : State) (c pl : Nat) (b : Block) : (s.setBlock c pl b).clock = s.clock := rfl
@[simp] theorem State.setBlock_withheld (s : State) (c pl : Nat) (b : Block) : (s.setBlock c pl b).withheld = s.withheld := rfl
@[simp] theorem State.setBlock_cur (s : State) (c pl : Nat) (b : Block) : (s.setBlock c pl b).cur = s.cur := rfl
@[simp] theorem State.setBlock_agenda (s : State) (c pl : Nat) (b : Block) : (s.setBlock c pl b).agenda = s.agenda := rfl
@[simp] theorem State.setBlock_turns (s : State) (c pl : Nat) (b : Block) : (s.setBlock c pl b).turns = s.turns := rfl
@[simp] theorem State.setBlock_latch (s : State) (c pl : Nat) (b : Block) : (s.setBlock c pl b).latch = s.latch := rfl
@[simp] theorem State.setBlock_ide (s : State) (c pl : Nat) (b : Block) : (s.setBlock c pl b).ide = s.ide := rfl
@[simp] theorem State.setBlock_slotOk (s : State) (c pl : Nat) (b : Block) : (s.setBlock c pl b).slotOk = s.slotOk := rfl
@[simp] theorem State.setBlock_slotDigest (s : State) (c pl : Nat) (b : Block) : (s.setBlock c pl b).slotDigest = s.slotDigest := rfl
@[simp] theorem State.setBlock_runDigest (s : State) (c pl : Nat) (b : Block) : (s.setBlock c pl b).runDigest = s.runDigest := rfl
@[simp] theorem State.setBlock_fuses (s : State) (c pl : Nat) (b : Block) : (s.setBlock c pl b).fuses = s.fuses := rfl
@[simp] theorem State.setBlock_certs (s : State) (c pl : Nat) (b : Block) : (s.setBlock c pl b).certs = s.certs := rfl
@[simp] theorem State.setBlock_spdmOut (s : State) (c pl : Nat) (b : Block) : (s.setBlock c pl b).spdmOut = s.spdmOut := rfl
@[simp] theorem State.setBlock_certOut (s : State) (c pl : Nat) (b : Block) : (s.setBlock c pl b).certOut = s.certOut := rfl
@[simp] theorem State.setBlock_safeTier (s : State) (c pl : Nat) (b : Block) : (s.setBlock c pl b).safeTier = s.safeTier := rfl
@[simp] theorem State.setBlock_powered (s : State) (c pl : Nat) (b : Block) : (s.setBlock c pl b).powered = s.powered := rfl
@[simp] theorem State.setBlock_tick (s : State) (c pl : Nat) (b : Block) : (s.setBlock c pl b).tick = s.tick := rfl
@[simp] theorem State.setBlock_nextUid (s : State) (c pl : Nat) (b : Block) : (s.setBlock c pl b).nextUid = s.nextUid := rfl

@[simp] theorem State.draw_cores (s : State) : (s.draw).cores = s.cores := rfl
@[simp] theorem State.draw_mem (s : State) : (s.draw).mem = s.mem := rfl
@[simp] theorem State.draw_poison (s : State) : (s.draw).poison = s.poison := rfl
@[simp] theorem State.draw_restored (s : State) : (s.draw).restored = s.restored := rfl
@[simp] theorem State.draw_winPoison (s : State) : (s.draw).winPoison = s.winPoison := rfl
@[simp] theorem State.draw_stamps (s : State) : (s.draw).stamps = s.stamps := rfl
@[simp] theorem State.draw_floors (s : State) : (s.draw).floors = s.floors := rfl
@[simp] theorem State.draw_agentTime (s : State) : (s.draw).agentTime = s.agentTime := rfl
@[simp] theorem State.draw_epoch (s : State) : (s.draw).epoch = s.epoch := rfl
@[simp] theorem State.draw_dirs (s : State) : (s.draw).dirs = s.dirs := rfl
@[simp] theorem State.draw_locks (s : State) : (s.draw).locks = s.locks := rfl
@[simp] theorem State.draw_lockReqs (s : State) : (s.draw).lockReqs = s.lockReqs := rfl
@[simp] theorem State.draw_probes (s : State) : (s.draw).probes = s.probes := rfl
@[simp] theorem State.draw_lkdTiming (s : State) : (s.draw).lkdTiming = s.lkdTiming := rfl
@[simp] theorem State.draw_lkdCounts (s : State) : (s.draw).lkdCounts = s.lkdCounts := rfl
@[simp] theorem State.draw_procs (s : State) : (s.draw).procs = s.procs := rfl
@[simp] theorem State.draw_qscStall (s : State) : (s.draw).qscStall = s.qscStall := rfl
@[simp] theorem State.draw_qscProc (s : State) : (s.draw).qscProc = s.qscProc := rfl
@[simp] theorem State.draw_qscCounts (s : State) : (s.draw).qscCounts = s.qscCounts := rfl
@[simp] theorem State.draw_xlt (s : State) : (s.draw).xlt = s.xlt := rfl
@[simp] theorem State.draw_shootdowns (s : State) : (s.draw).shootdowns = s.shootdowns := rfl
@[simp] theorem State.draw_fe (s : State) : (s.draw).fe = s.fe := rfl
@[simp] theorem State.draw_saved (s : State) : (s.draw).saved = s.saved := rfl
@[simp] theorem State.draw_mgt (s : State) : (s.draw).mgt = s.mgt := rfl
@[simp] theorem State.draw_mailOut (s : State) : (s.draw).mailOut = s.mailOut := rfl
@[simp] theorem State.draw_mailNo (s : State) : (s.draw).mailNo = s.mailNo := rfl
@[simp] theorem State.draw_ports (s : State) : (s.draw).ports = s.ports := rfl
@[simp] theorem State.draw_dbg (s : State) : (s.draw).dbg = s.dbg := rfl
@[simp] theorem State.draw_gangStop (s : State) : (s.draw).gangStop = s.gangStop := rfl
@[simp] theorem State.draw_gangDue (s : State) : (s.draw).gangDue = s.gangDue := rfl
@[simp] theorem State.draw_debugRun (s : State) : (s.draw).debugRun = s.debugRun := rfl
@[simp] theorem State.draw_fenced (s : State) : (s.draw).fenced = s.fenced := rfl
@[simp] theorem State.draw_errs (s : State) : (s.draw).errs = s.errs := rfl
@[simp] theorem State.draw_awaited (s : State) : (s.draw).awaited = s.awaited := rfl
@[simp] theorem State.draw_late (s : State) : (s.draw).late = s.late := rfl
@[simp] theorem State.draw_slices (s : State) : (s.draw).slices = s.slices := rfl
@[simp] theorem State.draw_gtlb (s : State) : (s.draw).gtlb = s.gtlb := rfl
@[simp] theorem State.draw_walkCache (s : State) : (s.draw).walkCache = s.walkCache := rfl
@[simp] theorem State.draw_seq (s : State) : (s.draw).seq = s.seq := rfl
@[simp] theorem State.draw_time (s : State) : (s.draw).time = s.time := rfl
@[simp] theorem State.draw_readmitSeq (s : State) : (s.draw).readmitSeq = s.readmitSeq := rfl
@[simp] theorem State.draw_clock (s : State) : (s.draw).clock = s.clock := rfl
@[simp] theorem State.draw_withheld (s : State) : (s.draw).withheld = s.withheld := rfl
@[simp] theorem State.draw_cur (s : State) : (s.draw).cur = s.cur := rfl
@[simp] theorem State.draw_agenda (s : State) : (s.draw).agenda = s.agenda := rfl
@[simp] theorem State.draw_turns (s : State) : (s.draw).turns = s.turns := rfl
@[simp] theorem State.draw_latch (s : State) : (s.draw).latch = s.latch := rfl
@[simp] theorem State.draw_ide (s : State) : (s.draw).ide = s.ide := rfl
@[simp] theorem State.draw_slotOk (s : State) : (s.draw).slotOk = s.slotOk := rfl
@[simp] theorem State.draw_slotDigest (s : State) : (s.draw).slotDigest = s.slotDigest := rfl
@[simp] theorem State.draw_runDigest (s : State) : (s.draw).runDigest = s.runDigest := rfl
@[simp] theorem State.draw_fuses (s : State) : (s.draw).fuses = s.fuses := rfl
@[simp] theorem State.draw_certs (s : State) : (s.draw).certs = s.certs := rfl
@[simp] theorem State.draw_spdmOut (s : State) : (s.draw).spdmOut = s.spdmOut := rfl
@[simp] theorem State.draw_certOut (s : State) : (s.draw).certOut = s.certOut := rfl
@[simp] theorem State.draw_safeTier (s : State) : (s.draw).safeTier = s.safeTier := rfl
@[simp] theorem State.draw_powered (s : State) : (s.draw).powered = s.powered := rfl
@[simp] theorem State.draw_tick (s : State) : (s.draw).tick = s.tick + 1 := rfl
@[simp] theorem State.draw_nextUid (s : State) : (s.draw).nextUid = s.nextUid := rfl

@[simp] theorem State.setDbg_cores (s : State) (off : Nat) (x : W64) : (s.setDbg off x).cores = s.cores := rfl
@[simp] theorem State.setDbg_mem (s : State) (off : Nat) (x : W64) : (s.setDbg off x).mem = s.mem := rfl
@[simp] theorem State.setDbg_poison (s : State) (off : Nat) (x : W64) : (s.setDbg off x).poison = s.poison := rfl
@[simp] theorem State.setDbg_restored (s : State) (off : Nat) (x : W64) : (s.setDbg off x).restored = s.restored := rfl
@[simp] theorem State.setDbg_winPoison (s : State) (off : Nat) (x : W64) : (s.setDbg off x).winPoison = s.winPoison := rfl
@[simp] theorem State.setDbg_stamps (s : State) (off : Nat) (x : W64) : (s.setDbg off x).stamps = s.stamps := rfl
@[simp] theorem State.setDbg_floors (s : State) (off : Nat) (x : W64) : (s.setDbg off x).floors = s.floors := rfl
@[simp] theorem State.setDbg_agentTime (s : State) (off : Nat) (x : W64) : (s.setDbg off x).agentTime = s.agentTime := rfl
@[simp] theorem State.setDbg_epoch (s : State) (off : Nat) (x : W64) : (s.setDbg off x).epoch = s.epoch := rfl
@[simp] theorem State.setDbg_dirs (s : State) (off : Nat) (x : W64) : (s.setDbg off x).dirs = s.dirs := rfl
@[simp] theorem State.setDbg_locks (s : State) (off : Nat) (x : W64) : (s.setDbg off x).locks = s.locks := rfl
@[simp] theorem State.setDbg_lockReqs (s : State) (off : Nat) (x : W64) : (s.setDbg off x).lockReqs = s.lockReqs := rfl
@[simp] theorem State.setDbg_probes (s : State) (off : Nat) (x : W64) : (s.setDbg off x).probes = s.probes := rfl
@[simp] theorem State.setDbg_lkdTiming (s : State) (off : Nat) (x : W64) : (s.setDbg off x).lkdTiming = s.lkdTiming := rfl
@[simp] theorem State.setDbg_lkdCounts (s : State) (off : Nat) (x : W64) : (s.setDbg off x).lkdCounts = s.lkdCounts := rfl
@[simp] theorem State.setDbg_procs (s : State) (off : Nat) (x : W64) : (s.setDbg off x).procs = s.procs := rfl
@[simp] theorem State.setDbg_qscStall (s : State) (off : Nat) (x : W64) : (s.setDbg off x).qscStall = s.qscStall := rfl
@[simp] theorem State.setDbg_qscProc (s : State) (off : Nat) (x : W64) : (s.setDbg off x).qscProc = s.qscProc := rfl
@[simp] theorem State.setDbg_qscCounts (s : State) (off : Nat) (x : W64) : (s.setDbg off x).qscCounts = s.qscCounts := rfl
@[simp] theorem State.setDbg_xlt (s : State) (off : Nat) (x : W64) : (s.setDbg off x).xlt = s.xlt := rfl
@[simp] theorem State.setDbg_shootdowns (s : State) (off : Nat) (x : W64) : (s.setDbg off x).shootdowns = s.shootdowns := rfl
@[simp] theorem State.setDbg_fe (s : State) (off : Nat) (x : W64) : (s.setDbg off x).fe = s.fe := rfl
@[simp] theorem State.setDbg_saved (s : State) (off : Nat) (x : W64) : (s.setDbg off x).saved = s.saved := rfl
@[simp] theorem State.setDbg_mgt (s : State) (off : Nat) (x : W64) : (s.setDbg off x).mgt = s.mgt := rfl
@[simp] theorem State.setDbg_mailOut (s : State) (off : Nat) (x : W64) : (s.setDbg off x).mailOut = s.mailOut := rfl
@[simp] theorem State.setDbg_mailNo (s : State) (off : Nat) (x : W64) : (s.setDbg off x).mailNo = s.mailNo := rfl
@[simp] theorem State.setDbg_ports (s : State) (off : Nat) (x : W64) : (s.setDbg off x).ports = s.ports := rfl
@[simp] theorem State.setDbg_dbg (s : State) (off : Nat) (x : W64) : (s.setDbg off x).dbg = tabSet s.dbg off x := rfl
@[simp] theorem State.setDbg_gangStop (s : State) (off : Nat) (x : W64) : (s.setDbg off x).gangStop = s.gangStop := rfl
@[simp] theorem State.setDbg_gangDue (s : State) (off : Nat) (x : W64) : (s.setDbg off x).gangDue = s.gangDue := rfl
@[simp] theorem State.setDbg_debugRun (s : State) (off : Nat) (x : W64) : (s.setDbg off x).debugRun = s.debugRun := rfl
@[simp] theorem State.setDbg_fenced (s : State) (off : Nat) (x : W64) : (s.setDbg off x).fenced = s.fenced := rfl
@[simp] theorem State.setDbg_errs (s : State) (off : Nat) (x : W64) : (s.setDbg off x).errs = s.errs := rfl
@[simp] theorem State.setDbg_awaited (s : State) (off : Nat) (x : W64) : (s.setDbg off x).awaited = s.awaited := rfl
@[simp] theorem State.setDbg_late (s : State) (off : Nat) (x : W64) : (s.setDbg off x).late = s.late := rfl
@[simp] theorem State.setDbg_slices (s : State) (off : Nat) (x : W64) : (s.setDbg off x).slices = s.slices := rfl
@[simp] theorem State.setDbg_gtlb (s : State) (off : Nat) (x : W64) : (s.setDbg off x).gtlb = s.gtlb := rfl
@[simp] theorem State.setDbg_walkCache (s : State) (off : Nat) (x : W64) : (s.setDbg off x).walkCache = s.walkCache := rfl
@[simp] theorem State.setDbg_seq (s : State) (off : Nat) (x : W64) : (s.setDbg off x).seq = s.seq := rfl
@[simp] theorem State.setDbg_time (s : State) (off : Nat) (x : W64) : (s.setDbg off x).time = s.time := rfl
@[simp] theorem State.setDbg_readmitSeq (s : State) (off : Nat) (x : W64) : (s.setDbg off x).readmitSeq = s.readmitSeq := rfl
@[simp] theorem State.setDbg_clock (s : State) (off : Nat) (x : W64) : (s.setDbg off x).clock = s.clock := rfl
@[simp] theorem State.setDbg_withheld (s : State) (off : Nat) (x : W64) : (s.setDbg off x).withheld = s.withheld := rfl
@[simp] theorem State.setDbg_cur (s : State) (off : Nat) (x : W64) : (s.setDbg off x).cur = s.cur := rfl
@[simp] theorem State.setDbg_agenda (s : State) (off : Nat) (x : W64) : (s.setDbg off x).agenda = s.agenda := rfl
@[simp] theorem State.setDbg_turns (s : State) (off : Nat) (x : W64) : (s.setDbg off x).turns = s.turns := rfl
@[simp] theorem State.setDbg_latch (s : State) (off : Nat) (x : W64) : (s.setDbg off x).latch = s.latch := rfl
@[simp] theorem State.setDbg_ide (s : State) (off : Nat) (x : W64) : (s.setDbg off x).ide = s.ide := rfl
@[simp] theorem State.setDbg_slotOk (s : State) (off : Nat) (x : W64) : (s.setDbg off x).slotOk = s.slotOk := rfl
@[simp] theorem State.setDbg_slotDigest (s : State) (off : Nat) (x : W64) : (s.setDbg off x).slotDigest = s.slotDigest := rfl
@[simp] theorem State.setDbg_runDigest (s : State) (off : Nat) (x : W64) : (s.setDbg off x).runDigest = s.runDigest := rfl
@[simp] theorem State.setDbg_fuses (s : State) (off : Nat) (x : W64) : (s.setDbg off x).fuses = s.fuses := rfl
@[simp] theorem State.setDbg_certs (s : State) (off : Nat) (x : W64) : (s.setDbg off x).certs = s.certs := rfl
@[simp] theorem State.setDbg_spdmOut (s : State) (off : Nat) (x : W64) : (s.setDbg off x).spdmOut = s.spdmOut := rfl
@[simp] theorem State.setDbg_certOut (s : State) (off : Nat) (x : W64) : (s.setDbg off x).certOut = s.certOut := rfl
@[simp] theorem State.setDbg_safeTier (s : State) (off : Nat) (x : W64) : (s.setDbg off x).safeTier = s.safeTier := rfl
@[simp] theorem State.setDbg_powered (s : State) (off : Nat) (x : W64) : (s.setDbg off x).powered = s.powered := rfl
@[simp] theorem State.setDbg_tick (s : State) (off : Nat) (x : W64) : (s.setDbg off x).tick = s.tick := rfl
@[simp] theorem State.setDbg_nextUid (s : State) (off : Nat) (x : W64) : (s.setDbg off x).nextUid = s.nextUid := rfl

@[simp] theorem State.memWrite_cores (s : State) (a : Nat) (bs : List Byte) : (s.memWrite a bs).cores = s.cores := rfl
@[simp] theorem State.memWrite_mem (s : State) (a : Nat) (bs : List Byte) : (s.memWrite a bs).mem = memSetAll s.mem a bs := rfl
@[simp] theorem State.memWrite_poison (s : State) (a : Nat) (bs : List Byte) : (s.memWrite a bs).poison = s.poison := rfl
@[simp] theorem State.memWrite_restored (s : State) (a : Nat) (bs : List Byte) : (s.memWrite a bs).restored = s.restored := rfl
@[simp] theorem State.memWrite_winPoison (s : State) (a : Nat) (bs : List Byte) : (s.memWrite a bs).winPoison = s.winPoison := rfl
@[simp] theorem State.memWrite_stamps (s : State) (a : Nat) (bs : List Byte) : (s.memWrite a bs).stamps = s.stamps := rfl
@[simp] theorem State.memWrite_floors (s : State) (a : Nat) (bs : List Byte) : (s.memWrite a bs).floors = s.floors := rfl
@[simp] theorem State.memWrite_agentTime (s : State) (a : Nat) (bs : List Byte) : (s.memWrite a bs).agentTime = s.agentTime := rfl
@[simp] theorem State.memWrite_epoch (s : State) (a : Nat) (bs : List Byte) : (s.memWrite a bs).epoch = s.epoch := rfl
@[simp] theorem State.memWrite_dirs (s : State) (a : Nat) (bs : List Byte) : (s.memWrite a bs).dirs = s.dirs := rfl
@[simp] theorem State.memWrite_locks (s : State) (a : Nat) (bs : List Byte) : (s.memWrite a bs).locks = s.locks := rfl
@[simp] theorem State.memWrite_lockReqs (s : State) (a : Nat) (bs : List Byte) : (s.memWrite a bs).lockReqs = s.lockReqs := rfl
@[simp] theorem State.memWrite_probes (s : State) (a : Nat) (bs : List Byte) : (s.memWrite a bs).probes = s.probes := rfl
@[simp] theorem State.memWrite_lkdTiming (s : State) (a : Nat) (bs : List Byte) : (s.memWrite a bs).lkdTiming = s.lkdTiming := rfl
@[simp] theorem State.memWrite_lkdCounts (s : State) (a : Nat) (bs : List Byte) : (s.memWrite a bs).lkdCounts = s.lkdCounts := rfl
@[simp] theorem State.memWrite_procs (s : State) (a : Nat) (bs : List Byte) : (s.memWrite a bs).procs = s.procs := rfl
@[simp] theorem State.memWrite_qscStall (s : State) (a : Nat) (bs : List Byte) : (s.memWrite a bs).qscStall = s.qscStall := rfl
@[simp] theorem State.memWrite_qscProc (s : State) (a : Nat) (bs : List Byte) : (s.memWrite a bs).qscProc = s.qscProc := rfl
@[simp] theorem State.memWrite_qscCounts (s : State) (a : Nat) (bs : List Byte) : (s.memWrite a bs).qscCounts = s.qscCounts := rfl
@[simp] theorem State.memWrite_xlt (s : State) (a : Nat) (bs : List Byte) : (s.memWrite a bs).xlt = s.xlt := rfl
@[simp] theorem State.memWrite_shootdowns (s : State) (a : Nat) (bs : List Byte) : (s.memWrite a bs).shootdowns = s.shootdowns := rfl
@[simp] theorem State.memWrite_fe (s : State) (a : Nat) (bs : List Byte) : (s.memWrite a bs).fe = s.fe := rfl
@[simp] theorem State.memWrite_saved (s : State) (a : Nat) (bs : List Byte) : (s.memWrite a bs).saved = s.saved := rfl
@[simp] theorem State.memWrite_mgt (s : State) (a : Nat) (bs : List Byte) : (s.memWrite a bs).mgt = s.mgt := rfl
@[simp] theorem State.memWrite_mailOut (s : State) (a : Nat) (bs : List Byte) : (s.memWrite a bs).mailOut = s.mailOut := rfl
@[simp] theorem State.memWrite_mailNo (s : State) (a : Nat) (bs : List Byte) : (s.memWrite a bs).mailNo = s.mailNo := rfl
@[simp] theorem State.memWrite_ports (s : State) (a : Nat) (bs : List Byte) : (s.memWrite a bs).ports = s.ports := rfl
@[simp] theorem State.memWrite_dbg (s : State) (a : Nat) (bs : List Byte) : (s.memWrite a bs).dbg = s.dbg := rfl
@[simp] theorem State.memWrite_gangStop (s : State) (a : Nat) (bs : List Byte) : (s.memWrite a bs).gangStop = s.gangStop := rfl
@[simp] theorem State.memWrite_gangDue (s : State) (a : Nat) (bs : List Byte) : (s.memWrite a bs).gangDue = s.gangDue := rfl
@[simp] theorem State.memWrite_debugRun (s : State) (a : Nat) (bs : List Byte) : (s.memWrite a bs).debugRun = s.debugRun := rfl
@[simp] theorem State.memWrite_fenced (s : State) (a : Nat) (bs : List Byte) : (s.memWrite a bs).fenced = s.fenced := rfl
@[simp] theorem State.memWrite_errs (s : State) (a : Nat) (bs : List Byte) : (s.memWrite a bs).errs = s.errs := rfl
@[simp] theorem State.memWrite_awaited (s : State) (a : Nat) (bs : List Byte) : (s.memWrite a bs).awaited = s.awaited := rfl
@[simp] theorem State.memWrite_late (s : State) (a : Nat) (bs : List Byte) : (s.memWrite a bs).late = s.late := rfl
@[simp] theorem State.memWrite_slices (s : State) (a : Nat) (bs : List Byte) : (s.memWrite a bs).slices = s.slices := rfl
@[simp] theorem State.memWrite_gtlb (s : State) (a : Nat) (bs : List Byte) : (s.memWrite a bs).gtlb = s.gtlb := rfl
@[simp] theorem State.memWrite_walkCache (s : State) (a : Nat) (bs : List Byte) : (s.memWrite a bs).walkCache = s.walkCache := rfl
@[simp] theorem State.memWrite_seq (s : State) (a : Nat) (bs : List Byte) : (s.memWrite a bs).seq = s.seq := rfl
@[simp] theorem State.memWrite_time (s : State) (a : Nat) (bs : List Byte) : (s.memWrite a bs).time = s.time := rfl
@[simp] theorem State.memWrite_readmitSeq (s : State) (a : Nat) (bs : List Byte) : (s.memWrite a bs).readmitSeq = s.readmitSeq := rfl
@[simp] theorem State.memWrite_clock (s : State) (a : Nat) (bs : List Byte) : (s.memWrite a bs).clock = s.clock := rfl
@[simp] theorem State.memWrite_withheld (s : State) (a : Nat) (bs : List Byte) : (s.memWrite a bs).withheld = s.withheld := rfl
@[simp] theorem State.memWrite_cur (s : State) (a : Nat) (bs : List Byte) : (s.memWrite a bs).cur = s.cur := rfl
@[simp] theorem State.memWrite_agenda (s : State) (a : Nat) (bs : List Byte) : (s.memWrite a bs).agenda = s.agenda := rfl
@[simp] theorem State.memWrite_turns (s : State) (a : Nat) (bs : List Byte) : (s.memWrite a bs).turns = s.turns := rfl
@[simp] theorem State.memWrite_latch (s : State) (a : Nat) (bs : List Byte) : (s.memWrite a bs).latch = s.latch := rfl
@[simp] theorem State.memWrite_ide (s : State) (a : Nat) (bs : List Byte) : (s.memWrite a bs).ide = s.ide := rfl
@[simp] theorem State.memWrite_slotOk (s : State) (a : Nat) (bs : List Byte) : (s.memWrite a bs).slotOk = s.slotOk := rfl
@[simp] theorem State.memWrite_slotDigest (s : State) (a : Nat) (bs : List Byte) : (s.memWrite a bs).slotDigest = s.slotDigest := rfl
@[simp] theorem State.memWrite_runDigest (s : State) (a : Nat) (bs : List Byte) : (s.memWrite a bs).runDigest = s.runDigest := rfl
@[simp] theorem State.memWrite_fuses (s : State) (a : Nat) (bs : List Byte) : (s.memWrite a bs).fuses = s.fuses := rfl
@[simp] theorem State.memWrite_certs (s : State) (a : Nat) (bs : List Byte) : (s.memWrite a bs).certs = s.certs := rfl
@[simp] theorem State.memWrite_spdmOut (s : State) (a : Nat) (bs : List Byte) : (s.memWrite a bs).spdmOut = s.spdmOut := rfl
@[simp] theorem State.memWrite_certOut (s : State) (a : Nat) (bs : List Byte) : (s.memWrite a bs).certOut = s.certOut := rfl
@[simp] theorem State.memWrite_safeTier (s : State) (a : Nat) (bs : List Byte) : (s.memWrite a bs).safeTier = s.safeTier := rfl
@[simp] theorem State.memWrite_powered (s : State) (a : Nat) (bs : List Byte) : (s.memWrite a bs).powered = s.powered := rfl
@[simp] theorem State.memWrite_tick (s : State) (a : Nat) (bs : List Byte) : (s.memWrite a bs).tick = s.tick := rfl
@[simp] theorem State.memWrite_nextUid (s : State) (a : Nat) (bs : List Byte) : (s.memWrite a bs).nextUid = s.nextUid := rfl

@[simp] theorem State.setStamp_cores (s : State) (line wts rts : Nat) : (s.setStamp line wts rts).cores = s.cores := rfl
@[simp] theorem State.setStamp_mem (s : State) (line wts rts : Nat) : (s.setStamp line wts rts).mem = s.mem := rfl
@[simp] theorem State.setStamp_poison (s : State) (line wts rts : Nat) : (s.setStamp line wts rts).poison = s.poison := rfl
@[simp] theorem State.setStamp_restored (s : State) (line wts rts : Nat) : (s.setStamp line wts rts).restored = s.restored := rfl
@[simp] theorem State.setStamp_winPoison (s : State) (line wts rts : Nat) : (s.setStamp line wts rts).winPoison = s.winPoison := rfl
@[simp] theorem State.setStamp_stamps (s : State) (line wts rts : Nat) : (s.setStamp line wts rts).stamps = tabSet s.stamps line ⟨wts, rts, s.epoch⟩ := rfl
@[simp] theorem State.setStamp_floors (s : State) (line wts rts : Nat) : (s.setStamp line wts rts).floors = s.floors := rfl
@[simp] theorem State.setStamp_agentTime (s : State) (line wts rts : Nat) : (s.setStamp line wts rts).agentTime = s.agentTime := rfl
@[simp] theorem State.setStamp_epoch (s : State) (line wts rts : Nat) : (s.setStamp line wts rts).epoch = s.epoch := rfl
@[simp] theorem State.setStamp_dirs (s : State) (line wts rts : Nat) : (s.setStamp line wts rts).dirs = s.dirs := rfl
@[simp] theorem State.setStamp_locks (s : State) (line wts rts : Nat) : (s.setStamp line wts rts).locks = s.locks := rfl
@[simp] theorem State.setStamp_lockReqs (s : State) (line wts rts : Nat) : (s.setStamp line wts rts).lockReqs = s.lockReqs := rfl
@[simp] theorem State.setStamp_probes (s : State) (line wts rts : Nat) : (s.setStamp line wts rts).probes = s.probes := rfl
@[simp] theorem State.setStamp_lkdTiming (s : State) (line wts rts : Nat) : (s.setStamp line wts rts).lkdTiming = s.lkdTiming := rfl
@[simp] theorem State.setStamp_lkdCounts (s : State) (line wts rts : Nat) : (s.setStamp line wts rts).lkdCounts = s.lkdCounts := rfl
@[simp] theorem State.setStamp_procs (s : State) (line wts rts : Nat) : (s.setStamp line wts rts).procs = s.procs := rfl
@[simp] theorem State.setStamp_qscStall (s : State) (line wts rts : Nat) : (s.setStamp line wts rts).qscStall = s.qscStall := rfl
@[simp] theorem State.setStamp_qscProc (s : State) (line wts rts : Nat) : (s.setStamp line wts rts).qscProc = s.qscProc := rfl
@[simp] theorem State.setStamp_qscCounts (s : State) (line wts rts : Nat) : (s.setStamp line wts rts).qscCounts = s.qscCounts := rfl
@[simp] theorem State.setStamp_xlt (s : State) (line wts rts : Nat) : (s.setStamp line wts rts).xlt = s.xlt := rfl
@[simp] theorem State.setStamp_shootdowns (s : State) (line wts rts : Nat) : (s.setStamp line wts rts).shootdowns = s.shootdowns := rfl
@[simp] theorem State.setStamp_fe (s : State) (line wts rts : Nat) : (s.setStamp line wts rts).fe = s.fe := rfl
@[simp] theorem State.setStamp_saved (s : State) (line wts rts : Nat) : (s.setStamp line wts rts).saved = s.saved := rfl
@[simp] theorem State.setStamp_mgt (s : State) (line wts rts : Nat) : (s.setStamp line wts rts).mgt = s.mgt := rfl
@[simp] theorem State.setStamp_mailOut (s : State) (line wts rts : Nat) : (s.setStamp line wts rts).mailOut = s.mailOut := rfl
@[simp] theorem State.setStamp_mailNo (s : State) (line wts rts : Nat) : (s.setStamp line wts rts).mailNo = s.mailNo := rfl
@[simp] theorem State.setStamp_ports (s : State) (line wts rts : Nat) : (s.setStamp line wts rts).ports = s.ports := rfl
@[simp] theorem State.setStamp_dbg (s : State) (line wts rts : Nat) : (s.setStamp line wts rts).dbg = s.dbg := rfl
@[simp] theorem State.setStamp_gangStop (s : State) (line wts rts : Nat) : (s.setStamp line wts rts).gangStop = s.gangStop := rfl
@[simp] theorem State.setStamp_gangDue (s : State) (line wts rts : Nat) : (s.setStamp line wts rts).gangDue = s.gangDue := rfl
@[simp] theorem State.setStamp_debugRun (s : State) (line wts rts : Nat) : (s.setStamp line wts rts).debugRun = s.debugRun := rfl
@[simp] theorem State.setStamp_fenced (s : State) (line wts rts : Nat) : (s.setStamp line wts rts).fenced = s.fenced := rfl
@[simp] theorem State.setStamp_errs (s : State) (line wts rts : Nat) : (s.setStamp line wts rts).errs = s.errs := rfl
@[simp] theorem State.setStamp_awaited (s : State) (line wts rts : Nat) : (s.setStamp line wts rts).awaited = s.awaited := rfl
@[simp] theorem State.setStamp_late (s : State) (line wts rts : Nat) : (s.setStamp line wts rts).late = s.late := rfl
@[simp] theorem State.setStamp_slices (s : State) (line wts rts : Nat) : (s.setStamp line wts rts).slices = s.slices := rfl
@[simp] theorem State.setStamp_gtlb (s : State) (line wts rts : Nat) : (s.setStamp line wts rts).gtlb = s.gtlb := rfl
@[simp] theorem State.setStamp_walkCache (s : State) (line wts rts : Nat) : (s.setStamp line wts rts).walkCache = s.walkCache := rfl
@[simp] theorem State.setStamp_seq (s : State) (line wts rts : Nat) : (s.setStamp line wts rts).seq = s.seq := rfl
@[simp] theorem State.setStamp_time (s : State) (line wts rts : Nat) : (s.setStamp line wts rts).time = s.time := rfl
@[simp] theorem State.setStamp_readmitSeq (s : State) (line wts rts : Nat) : (s.setStamp line wts rts).readmitSeq = s.readmitSeq := rfl
@[simp] theorem State.setStamp_clock (s : State) (line wts rts : Nat) : (s.setStamp line wts rts).clock = s.clock := rfl
@[simp] theorem State.setStamp_withheld (s : State) (line wts rts : Nat) : (s.setStamp line wts rts).withheld = s.withheld := rfl
@[simp] theorem State.setStamp_cur (s : State) (line wts rts : Nat) : (s.setStamp line wts rts).cur = s.cur := rfl
@[simp] theorem State.setStamp_agenda (s : State) (line wts rts : Nat) : (s.setStamp line wts rts).agenda = s.agenda := rfl
@[simp] theorem State.setStamp_turns (s : State) (line wts rts : Nat) : (s.setStamp line wts rts).turns = s.turns := rfl
@[simp] theorem State.setStamp_latch (s : State) (line wts rts : Nat) : (s.setStamp line wts rts).latch = s.latch := rfl
@[simp] theorem State.setStamp_ide (s : State) (line wts rts : Nat) : (s.setStamp line wts rts).ide = s.ide := rfl
@[simp] theorem State.setStamp_slotOk (s : State) (line wts rts : Nat) : (s.setStamp line wts rts).slotOk = s.slotOk := rfl
@[simp] theorem State.setStamp_slotDigest (s : State) (line wts rts : Nat) : (s.setStamp line wts rts).slotDigest = s.slotDigest := rfl
@[simp] theorem State.setStamp_runDigest (s : State) (line wts rts : Nat) : (s.setStamp line wts rts).runDigest = s.runDigest := rfl
@[simp] theorem State.setStamp_fuses (s : State) (line wts rts : Nat) : (s.setStamp line wts rts).fuses = s.fuses := rfl
@[simp] theorem State.setStamp_certs (s : State) (line wts rts : Nat) : (s.setStamp line wts rts).certs = s.certs := rfl
@[simp] theorem State.setStamp_spdmOut (s : State) (line wts rts : Nat) : (s.setStamp line wts rts).spdmOut = s.spdmOut := rfl
@[simp] theorem State.setStamp_certOut (s : State) (line wts rts : Nat) : (s.setStamp line wts rts).certOut = s.certOut := rfl
@[simp] theorem State.setStamp_safeTier (s : State) (line wts rts : Nat) : (s.setStamp line wts rts).safeTier = s.safeTier := rfl
@[simp] theorem State.setStamp_powered (s : State) (line wts rts : Nat) : (s.setStamp line wts rts).powered = s.powered := rfl
@[simp] theorem State.setStamp_tick (s : State) (line wts rts : Nat) : (s.setStamp line wts rts).tick = s.tick := rfl
@[simp] theorem State.setStamp_nextUid (s : State) (line wts rts : Nat) : (s.setStamp line wts rts).nextUid = s.nextUid := rfl

@[simp] theorem State.stampAgent_cores (s : State) (line : Nat) : (s.stampAgent line).cores = s.cores := rfl
@[simp] theorem State.stampAgent_mem (s : State) (line : Nat) : (s.stampAgent line).mem = s.mem := rfl
@[simp] theorem State.stampAgent_poison (s : State) (line : Nat) : (s.stampAgent line).poison = s.poison := rfl
@[simp] theorem State.stampAgent_restored (s : State) (line : Nat) : (s.stampAgent line).restored = s.restored := rfl
@[simp] theorem State.stampAgent_winPoison (s : State) (line : Nat) : (s.stampAgent line).winPoison = s.winPoison := rfl
@[simp] theorem State.stampAgent_floors (s : State) (line : Nat) : (s.stampAgent line).floors = s.floors := rfl
@[simp] theorem State.stampAgent_epoch (s : State) (line : Nat) : (s.stampAgent line).epoch = s.epoch := rfl
@[simp] theorem State.stampAgent_dirs (s : State) (line : Nat) : (s.stampAgent line).dirs = s.dirs := rfl
@[simp] theorem State.stampAgent_locks (s : State) (line : Nat) : (s.stampAgent line).locks = s.locks := rfl
@[simp] theorem State.stampAgent_lockReqs (s : State) (line : Nat) : (s.stampAgent line).lockReqs = s.lockReqs := rfl
@[simp] theorem State.stampAgent_probes (s : State) (line : Nat) : (s.stampAgent line).probes = s.probes := rfl
@[simp] theorem State.stampAgent_lkdTiming (s : State) (line : Nat) : (s.stampAgent line).lkdTiming = s.lkdTiming := rfl
@[simp] theorem State.stampAgent_lkdCounts (s : State) (line : Nat) : (s.stampAgent line).lkdCounts = s.lkdCounts := rfl
@[simp] theorem State.stampAgent_procs (s : State) (line : Nat) : (s.stampAgent line).procs = s.procs := rfl
@[simp] theorem State.stampAgent_qscStall (s : State) (line : Nat) : (s.stampAgent line).qscStall = s.qscStall := rfl
@[simp] theorem State.stampAgent_qscProc (s : State) (line : Nat) : (s.stampAgent line).qscProc = s.qscProc := rfl
@[simp] theorem State.stampAgent_qscCounts (s : State) (line : Nat) : (s.stampAgent line).qscCounts = s.qscCounts := rfl
@[simp] theorem State.stampAgent_xlt (s : State) (line : Nat) : (s.stampAgent line).xlt = s.xlt := rfl
@[simp] theorem State.stampAgent_shootdowns (s : State) (line : Nat) : (s.stampAgent line).shootdowns = s.shootdowns := rfl
@[simp] theorem State.stampAgent_fe (s : State) (line : Nat) : (s.stampAgent line).fe = s.fe := rfl
@[simp] theorem State.stampAgent_saved (s : State) (line : Nat) : (s.stampAgent line).saved = s.saved := rfl
@[simp] theorem State.stampAgent_mgt (s : State) (line : Nat) : (s.stampAgent line).mgt = s.mgt := rfl
@[simp] theorem State.stampAgent_mailOut (s : State) (line : Nat) : (s.stampAgent line).mailOut = s.mailOut := rfl
@[simp] theorem State.stampAgent_mailNo (s : State) (line : Nat) : (s.stampAgent line).mailNo = s.mailNo := rfl
@[simp] theorem State.stampAgent_ports (s : State) (line : Nat) : (s.stampAgent line).ports = s.ports := rfl
@[simp] theorem State.stampAgent_dbg (s : State) (line : Nat) : (s.stampAgent line).dbg = s.dbg := rfl
@[simp] theorem State.stampAgent_gangStop (s : State) (line : Nat) : (s.stampAgent line).gangStop = s.gangStop := rfl
@[simp] theorem State.stampAgent_gangDue (s : State) (line : Nat) : (s.stampAgent line).gangDue = s.gangDue := rfl
@[simp] theorem State.stampAgent_debugRun (s : State) (line : Nat) : (s.stampAgent line).debugRun = s.debugRun := rfl
@[simp] theorem State.stampAgent_fenced (s : State) (line : Nat) : (s.stampAgent line).fenced = s.fenced := rfl
@[simp] theorem State.stampAgent_errs (s : State) (line : Nat) : (s.stampAgent line).errs = s.errs := rfl
@[simp] theorem State.stampAgent_awaited (s : State) (line : Nat) : (s.stampAgent line).awaited = s.awaited := rfl
@[simp] theorem State.stampAgent_late (s : State) (line : Nat) : (s.stampAgent line).late = s.late := rfl
@[simp] theorem State.stampAgent_slices (s : State) (line : Nat) : (s.stampAgent line).slices = s.slices := rfl
@[simp] theorem State.stampAgent_gtlb (s : State) (line : Nat) : (s.stampAgent line).gtlb = s.gtlb := rfl
@[simp] theorem State.stampAgent_walkCache (s : State) (line : Nat) : (s.stampAgent line).walkCache = s.walkCache := rfl
@[simp] theorem State.stampAgent_seq (s : State) (line : Nat) : (s.stampAgent line).seq = s.seq := rfl
@[simp] theorem State.stampAgent_time (s : State) (line : Nat) : (s.stampAgent line).time = s.time := rfl
@[simp] theorem State.stampAgent_readmitSeq (s : State) (line : Nat) : (s.stampAgent line).readmitSeq = s.readmitSeq := rfl
@[simp] theorem State.stampAgent_clock (s : State) (line : Nat) : (s.stampAgent line).clock = s.clock := rfl
@[simp] theorem State.stampAgent_withheld (s : State) (line : Nat) : (s.stampAgent line).withheld = s.withheld := rfl
@[simp] theorem State.stampAgent_cur (s : State) (line : Nat) : (s.stampAgent line).cur = s.cur := rfl
@[simp] theorem State.stampAgent_agenda (s : State) (line : Nat) : (s.stampAgent line).agenda = s.agenda := rfl
@[simp] theorem State.stampAgent_turns (s : State) (line : Nat) : (s.stampAgent line).turns = s.turns := rfl
@[simp] theorem State.stampAgent_latch (s : State) (line : Nat) : (s.stampAgent line).latch = s.latch := rfl
@[simp] theorem State.stampAgent_ide (s : State) (line : Nat) : (s.stampAgent line).ide = s.ide := rfl
@[simp] theorem State.stampAgent_slotOk (s : State) (line : Nat) : (s.stampAgent line).slotOk = s.slotOk := rfl
@[simp] theorem State.stampAgent_slotDigest (s : State) (line : Nat) : (s.stampAgent line).slotDigest = s.slotDigest := rfl
@[simp] theorem State.stampAgent_runDigest (s : State) (line : Nat) : (s.stampAgent line).runDigest = s.runDigest := rfl
@[simp] theorem State.stampAgent_fuses (s : State) (line : Nat) : (s.stampAgent line).fuses = s.fuses := rfl
@[simp] theorem State.stampAgent_certs (s : State) (line : Nat) : (s.stampAgent line).certs = s.certs := rfl
@[simp] theorem State.stampAgent_spdmOut (s : State) (line : Nat) : (s.stampAgent line).spdmOut = s.spdmOut := rfl
@[simp] theorem State.stampAgent_certOut (s : State) (line : Nat) : (s.stampAgent line).certOut = s.certOut := rfl
@[simp] theorem State.stampAgent_safeTier (s : State) (line : Nat) : (s.stampAgent line).safeTier = s.safeTier := rfl
@[simp] theorem State.stampAgent_powered (s : State) (line : Nat) : (s.stampAgent line).powered = s.powered := rfl
@[simp] theorem State.stampAgent_tick (s : State) (line : Nat) : (s.stampAgent line).tick = s.tick := rfl
@[simp] theorem State.stampAgent_nextUid (s : State) (line : Nat) : (s.stampAgent line).nextUid = s.nextUid := rfl

@[simp] theorem State.storeAgent_cores (s : State) (pa : Nat) (bs : List Byte) : (s.storeAgent pa bs).cores = s.cores := rfl
@[simp] theorem State.storeAgent_mem (s : State) (pa : Nat) (bs : List Byte) : (s.storeAgent pa bs).mem = memSetAll s.mem pa bs := rfl
@[simp] theorem State.storeAgent_poison (s : State) (pa : Nat) (bs : List Byte) : (s.storeAgent pa bs).poison = s.poison := rfl
@[simp] theorem State.storeAgent_restored (s : State) (pa : Nat) (bs : List Byte) : (s.storeAgent pa bs).restored = s.restored := rfl
@[simp] theorem State.storeAgent_winPoison (s : State) (pa : Nat) (bs : List Byte) : (s.storeAgent pa bs).winPoison = s.winPoison := rfl
@[simp] theorem State.storeAgent_floors (s : State) (pa : Nat) (bs : List Byte) : (s.storeAgent pa bs).floors = s.floors := rfl
@[simp] theorem State.storeAgent_epoch (s : State) (pa : Nat) (bs : List Byte) : (s.storeAgent pa bs).epoch = s.epoch := rfl
@[simp] theorem State.storeAgent_dirs (s : State) (pa : Nat) (bs : List Byte) : (s.storeAgent pa bs).dirs = s.dirs := rfl
@[simp] theorem State.storeAgent_locks (s : State) (pa : Nat) (bs : List Byte) : (s.storeAgent pa bs).locks = s.locks := rfl
@[simp] theorem State.storeAgent_lockReqs (s : State) (pa : Nat) (bs : List Byte) : (s.storeAgent pa bs).lockReqs = s.lockReqs := rfl
@[simp] theorem State.storeAgent_probes (s : State) (pa : Nat) (bs : List Byte) : (s.storeAgent pa bs).probes = s.probes := rfl
@[simp] theorem State.storeAgent_lkdTiming (s : State) (pa : Nat) (bs : List Byte) : (s.storeAgent pa bs).lkdTiming = s.lkdTiming := rfl
@[simp] theorem State.storeAgent_lkdCounts (s : State) (pa : Nat) (bs : List Byte) : (s.storeAgent pa bs).lkdCounts = s.lkdCounts := rfl
@[simp] theorem State.storeAgent_procs (s : State) (pa : Nat) (bs : List Byte) : (s.storeAgent pa bs).procs = s.procs := rfl
@[simp] theorem State.storeAgent_qscStall (s : State) (pa : Nat) (bs : List Byte) : (s.storeAgent pa bs).qscStall = s.qscStall := rfl
@[simp] theorem State.storeAgent_qscProc (s : State) (pa : Nat) (bs : List Byte) : (s.storeAgent pa bs).qscProc = s.qscProc := rfl
@[simp] theorem State.storeAgent_qscCounts (s : State) (pa : Nat) (bs : List Byte) : (s.storeAgent pa bs).qscCounts = s.qscCounts := rfl
@[simp] theorem State.storeAgent_xlt (s : State) (pa : Nat) (bs : List Byte) : (s.storeAgent pa bs).xlt = s.xlt := rfl
@[simp] theorem State.storeAgent_shootdowns (s : State) (pa : Nat) (bs : List Byte) : (s.storeAgent pa bs).shootdowns = s.shootdowns := rfl
@[simp] theorem State.storeAgent_fe (s : State) (pa : Nat) (bs : List Byte) : (s.storeAgent pa bs).fe = s.fe := rfl
@[simp] theorem State.storeAgent_saved (s : State) (pa : Nat) (bs : List Byte) : (s.storeAgent pa bs).saved = s.saved := rfl
@[simp] theorem State.storeAgent_mgt (s : State) (pa : Nat) (bs : List Byte) : (s.storeAgent pa bs).mgt = s.mgt := rfl
@[simp] theorem State.storeAgent_mailOut (s : State) (pa : Nat) (bs : List Byte) : (s.storeAgent pa bs).mailOut = s.mailOut := rfl
@[simp] theorem State.storeAgent_mailNo (s : State) (pa : Nat) (bs : List Byte) : (s.storeAgent pa bs).mailNo = s.mailNo := rfl
@[simp] theorem State.storeAgent_ports (s : State) (pa : Nat) (bs : List Byte) : (s.storeAgent pa bs).ports = s.ports := rfl
@[simp] theorem State.storeAgent_dbg (s : State) (pa : Nat) (bs : List Byte) : (s.storeAgent pa bs).dbg = s.dbg := rfl
@[simp] theorem State.storeAgent_gangStop (s : State) (pa : Nat) (bs : List Byte) : (s.storeAgent pa bs).gangStop = s.gangStop := rfl
@[simp] theorem State.storeAgent_gangDue (s : State) (pa : Nat) (bs : List Byte) : (s.storeAgent pa bs).gangDue = s.gangDue := rfl
@[simp] theorem State.storeAgent_debugRun (s : State) (pa : Nat) (bs : List Byte) : (s.storeAgent pa bs).debugRun = s.debugRun := rfl
@[simp] theorem State.storeAgent_fenced (s : State) (pa : Nat) (bs : List Byte) : (s.storeAgent pa bs).fenced = s.fenced := rfl
@[simp] theorem State.storeAgent_errs (s : State) (pa : Nat) (bs : List Byte) : (s.storeAgent pa bs).errs = s.errs := rfl
@[simp] theorem State.storeAgent_awaited (s : State) (pa : Nat) (bs : List Byte) : (s.storeAgent pa bs).awaited = s.awaited := rfl
@[simp] theorem State.storeAgent_late (s : State) (pa : Nat) (bs : List Byte) : (s.storeAgent pa bs).late = s.late := rfl
@[simp] theorem State.storeAgent_slices (s : State) (pa : Nat) (bs : List Byte) : (s.storeAgent pa bs).slices = s.slices := rfl
@[simp] theorem State.storeAgent_gtlb (s : State) (pa : Nat) (bs : List Byte) : (s.storeAgent pa bs).gtlb = s.gtlb := rfl
@[simp] theorem State.storeAgent_walkCache (s : State) (pa : Nat) (bs : List Byte) : (s.storeAgent pa bs).walkCache = s.walkCache := rfl
@[simp] theorem State.storeAgent_seq (s : State) (pa : Nat) (bs : List Byte) : (s.storeAgent pa bs).seq = s.seq := rfl
@[simp] theorem State.storeAgent_time (s : State) (pa : Nat) (bs : List Byte) : (s.storeAgent pa bs).time = s.time := rfl
@[simp] theorem State.storeAgent_readmitSeq (s : State) (pa : Nat) (bs : List Byte) : (s.storeAgent pa bs).readmitSeq = s.readmitSeq := rfl
@[simp] theorem State.storeAgent_clock (s : State) (pa : Nat) (bs : List Byte) : (s.storeAgent pa bs).clock = s.clock := rfl
@[simp] theorem State.storeAgent_withheld (s : State) (pa : Nat) (bs : List Byte) : (s.storeAgent pa bs).withheld = s.withheld := rfl
@[simp] theorem State.storeAgent_cur (s : State) (pa : Nat) (bs : List Byte) : (s.storeAgent pa bs).cur = s.cur := rfl
@[simp] theorem State.storeAgent_agenda (s : State) (pa : Nat) (bs : List Byte) : (s.storeAgent pa bs).agenda = s.agenda := rfl
@[simp] theorem State.storeAgent_turns (s : State) (pa : Nat) (bs : List Byte) : (s.storeAgent pa bs).turns = s.turns := rfl
@[simp] theorem State.storeAgent_latch (s : State) (pa : Nat) (bs : List Byte) : (s.storeAgent pa bs).latch = s.latch := rfl
@[simp] theorem State.storeAgent_ide (s : State) (pa : Nat) (bs : List Byte) : (s.storeAgent pa bs).ide = s.ide := rfl
@[simp] theorem State.storeAgent_slotOk (s : State) (pa : Nat) (bs : List Byte) : (s.storeAgent pa bs).slotOk = s.slotOk := rfl
@[simp] theorem State.storeAgent_slotDigest (s : State) (pa : Nat) (bs : List Byte) : (s.storeAgent pa bs).slotDigest = s.slotDigest := rfl
@[simp] theorem State.storeAgent_runDigest (s : State) (pa : Nat) (bs : List Byte) : (s.storeAgent pa bs).runDigest = s.runDigest := rfl
@[simp] theorem State.storeAgent_fuses (s : State) (pa : Nat) (bs : List Byte) : (s.storeAgent pa bs).fuses = s.fuses := rfl
@[simp] theorem State.storeAgent_certs (s : State) (pa : Nat) (bs : List Byte) : (s.storeAgent pa bs).certs = s.certs := rfl
@[simp] theorem State.storeAgent_spdmOut (s : State) (pa : Nat) (bs : List Byte) : (s.storeAgent pa bs).spdmOut = s.spdmOut := rfl
@[simp] theorem State.storeAgent_certOut (s : State) (pa : Nat) (bs : List Byte) : (s.storeAgent pa bs).certOut = s.certOut := rfl
@[simp] theorem State.storeAgent_safeTier (s : State) (pa : Nat) (bs : List Byte) : (s.storeAgent pa bs).safeTier = s.safeTier := rfl
@[simp] theorem State.storeAgent_powered (s : State) (pa : Nat) (bs : List Byte) : (s.storeAgent pa bs).powered = s.powered := rfl
@[simp] theorem State.storeAgent_tick (s : State) (pa : Nat) (bs : List Byte) : (s.storeAgent pa bs).tick = s.tick := rfl
@[simp] theorem State.storeAgent_nextUid (s : State) (pa : Nat) (bs : List Byte) : (s.storeAgent pa bs).nextUid = s.nextUid := rfl

@[simp] theorem State.sealStores_mem (s : State) (c uid : Nat) : (s.sealStores c uid).mem = s.mem := rfl
@[simp] theorem State.sealStores_poison (s : State) (c uid : Nat) : (s.sealStores c uid).poison = s.poison := rfl
@[simp] theorem State.sealStores_restored (s : State) (c uid : Nat) : (s.sealStores c uid).restored = s.restored := rfl
@[simp] theorem State.sealStores_winPoison (s : State) (c uid : Nat) : (s.sealStores c uid).winPoison = s.winPoison := rfl
@[simp] theorem State.sealStores_stamps (s : State) (c uid : Nat) : (s.sealStores c uid).stamps = s.stamps := rfl
@[simp] theorem State.sealStores_floors (s : State) (c uid : Nat) : (s.sealStores c uid).floors = s.floors := rfl
@[simp] theorem State.sealStores_agentTime (s : State) (c uid : Nat) : (s.sealStores c uid).agentTime = s.agentTime := rfl
@[simp] theorem State.sealStores_epoch (s : State) (c uid : Nat) : (s.sealStores c uid).epoch = s.epoch := rfl
@[simp] theorem State.sealStores_dirs (s : State) (c uid : Nat) : (s.sealStores c uid).dirs = s.dirs := rfl
@[simp] theorem State.sealStores_locks (s : State) (c uid : Nat) : (s.sealStores c uid).locks = s.locks := rfl
@[simp] theorem State.sealStores_lockReqs (s : State) (c uid : Nat) : (s.sealStores c uid).lockReqs = s.lockReqs := rfl
@[simp] theorem State.sealStores_probes (s : State) (c uid : Nat) : (s.sealStores c uid).probes = s.probes := rfl
@[simp] theorem State.sealStores_lkdTiming (s : State) (c uid : Nat) : (s.sealStores c uid).lkdTiming = s.lkdTiming := rfl
@[simp] theorem State.sealStores_lkdCounts (s : State) (c uid : Nat) : (s.sealStores c uid).lkdCounts = s.lkdCounts := rfl
@[simp] theorem State.sealStores_procs (s : State) (c uid : Nat) : (s.sealStores c uid).procs = s.procs := rfl
@[simp] theorem State.sealStores_qscStall (s : State) (c uid : Nat) : (s.sealStores c uid).qscStall = s.qscStall := rfl
@[simp] theorem State.sealStores_qscProc (s : State) (c uid : Nat) : (s.sealStores c uid).qscProc = s.qscProc := rfl
@[simp] theorem State.sealStores_qscCounts (s : State) (c uid : Nat) : (s.sealStores c uid).qscCounts = s.qscCounts := rfl
@[simp] theorem State.sealStores_xlt (s : State) (c uid : Nat) : (s.sealStores c uid).xlt = s.xlt := rfl
@[simp] theorem State.sealStores_shootdowns (s : State) (c uid : Nat) : (s.sealStores c uid).shootdowns = s.shootdowns := rfl
@[simp] theorem State.sealStores_fe (s : State) (c uid : Nat) : (s.sealStores c uid).fe = s.fe := rfl
@[simp] theorem State.sealStores_saved (s : State) (c uid : Nat) : (s.sealStores c uid).saved = s.saved := rfl
@[simp] theorem State.sealStores_mgt (s : State) (c uid : Nat) : (s.sealStores c uid).mgt = s.mgt := rfl
@[simp] theorem State.sealStores_mailOut (s : State) (c uid : Nat) : (s.sealStores c uid).mailOut = s.mailOut := rfl
@[simp] theorem State.sealStores_mailNo (s : State) (c uid : Nat) : (s.sealStores c uid).mailNo = s.mailNo := rfl
@[simp] theorem State.sealStores_ports (s : State) (c uid : Nat) : (s.sealStores c uid).ports = s.ports := rfl
@[simp] theorem State.sealStores_dbg (s : State) (c uid : Nat) : (s.sealStores c uid).dbg = s.dbg := rfl
@[simp] theorem State.sealStores_gangStop (s : State) (c uid : Nat) : (s.sealStores c uid).gangStop = s.gangStop := rfl
@[simp] theorem State.sealStores_gangDue (s : State) (c uid : Nat) : (s.sealStores c uid).gangDue = s.gangDue := rfl
@[simp] theorem State.sealStores_debugRun (s : State) (c uid : Nat) : (s.sealStores c uid).debugRun = s.debugRun := rfl
@[simp] theorem State.sealStores_fenced (s : State) (c uid : Nat) : (s.sealStores c uid).fenced = s.fenced := rfl
@[simp] theorem State.sealStores_errs (s : State) (c uid : Nat) : (s.sealStores c uid).errs = s.errs := rfl
@[simp] theorem State.sealStores_awaited (s : State) (c uid : Nat) : (s.sealStores c uid).awaited = s.awaited := rfl
@[simp] theorem State.sealStores_late (s : State) (c uid : Nat) : (s.sealStores c uid).late = s.late := rfl
@[simp] theorem State.sealStores_slices (s : State) (c uid : Nat) : (s.sealStores c uid).slices = s.slices := rfl
@[simp] theorem State.sealStores_gtlb (s : State) (c uid : Nat) : (s.sealStores c uid).gtlb = s.gtlb := rfl
@[simp] theorem State.sealStores_walkCache (s : State) (c uid : Nat) : (s.sealStores c uid).walkCache = s.walkCache := rfl
@[simp] theorem State.sealStores_seq (s : State) (c uid : Nat) : (s.sealStores c uid).seq = s.seq := rfl
@[simp] theorem State.sealStores_time (s : State) (c uid : Nat) : (s.sealStores c uid).time = s.time := rfl
@[simp] theorem State.sealStores_readmitSeq (s : State) (c uid : Nat) : (s.sealStores c uid).readmitSeq = s.readmitSeq := rfl
@[simp] theorem State.sealStores_clock (s : State) (c uid : Nat) : (s.sealStores c uid).clock = s.clock := rfl
@[simp] theorem State.sealStores_withheld (s : State) (c uid : Nat) : (s.sealStores c uid).withheld = s.withheld := rfl
@[simp] theorem State.sealStores_cur (s : State) (c uid : Nat) : (s.sealStores c uid).cur = s.cur := rfl
@[simp] theorem State.sealStores_agenda (s : State) (c uid : Nat) : (s.sealStores c uid).agenda = s.agenda := rfl
@[simp] theorem State.sealStores_turns (s : State) (c uid : Nat) : (s.sealStores c uid).turns = s.turns := rfl
@[simp] theorem State.sealStores_latch (s : State) (c uid : Nat) : (s.sealStores c uid).latch = s.latch := rfl
@[simp] theorem State.sealStores_ide (s : State) (c uid : Nat) : (s.sealStores c uid).ide = s.ide := rfl
@[simp] theorem State.sealStores_slotOk (s : State) (c uid : Nat) : (s.sealStores c uid).slotOk = s.slotOk := rfl
@[simp] theorem State.sealStores_slotDigest (s : State) (c uid : Nat) : (s.sealStores c uid).slotDigest = s.slotDigest := rfl
@[simp] theorem State.sealStores_runDigest (s : State) (c uid : Nat) : (s.sealStores c uid).runDigest = s.runDigest := rfl
@[simp] theorem State.sealStores_fuses (s : State) (c uid : Nat) : (s.sealStores c uid).fuses = s.fuses := rfl
@[simp] theorem State.sealStores_certs (s : State) (c uid : Nat) : (s.sealStores c uid).certs = s.certs := rfl
@[simp] theorem State.sealStores_spdmOut (s : State) (c uid : Nat) : (s.sealStores c uid).spdmOut = s.spdmOut := rfl
@[simp] theorem State.sealStores_certOut (s : State) (c uid : Nat) : (s.sealStores c uid).certOut = s.certOut := rfl
@[simp] theorem State.sealStores_safeTier (s : State) (c uid : Nat) : (s.sealStores c uid).safeTier = s.safeTier := rfl
@[simp] theorem State.sealStores_powered (s : State) (c uid : Nat) : (s.sealStores c uid).powered = s.powered := rfl
@[simp] theorem State.sealStores_tick (s : State) (c uid : Nat) : (s.sealStores c uid).tick = s.tick := rfl
@[simp] theorem State.sealStores_nextUid (s : State) (c uid : Nat) : (s.sealStores c uid).nextUid = s.nextUid := rfl

@[simp] theorem State.modDir_cores (s : State) (pa : Nat) (f : DirEntry → DirEntry) : (s.modDir pa f).cores = s.cores := by
  unfold State.modDir; split <;> rfl
@[simp] theorem State.modDir_mem (s : State) (pa : Nat) (f : DirEntry → DirEntry) : (s.modDir pa f).mem = s.mem := by
  unfold State.modDir; split <;> rfl
@[simp] theorem State.modDir_poison (s : State) (pa : Nat) (f : DirEntry → DirEntry) : (s.modDir pa f).poison = s.poison := by
  unfold State.modDir; split <;> rfl
@[simp] theorem State.modDir_restored (s : State) (pa : Nat) (f : DirEntry → DirEntry) : (s.modDir pa f).restored = s.restored := by
  unfold State.modDir; split <;> rfl
@[simp] theorem State.modDir_winPoison (s : State) (pa : Nat) (f : DirEntry → DirEntry) : (s.modDir pa f).winPoison = s.winPoison := by
  unfold State.modDir; split <;> rfl
@[simp] theorem State.modDir_stamps (s : State) (pa : Nat) (f : DirEntry → DirEntry) : (s.modDir pa f).stamps = s.stamps := by
  unfold State.modDir; split <;> rfl
@[simp] theorem State.modDir_floors (s : State) (pa : Nat) (f : DirEntry → DirEntry) : (s.modDir pa f).floors = s.floors := by
  unfold State.modDir; split <;> rfl
@[simp] theorem State.modDir_agentTime (s : State) (pa : Nat) (f : DirEntry → DirEntry) : (s.modDir pa f).agentTime = s.agentTime := by
  unfold State.modDir; split <;> rfl
@[simp] theorem State.modDir_epoch (s : State) (pa : Nat) (f : DirEntry → DirEntry) : (s.modDir pa f).epoch = s.epoch := by
  unfold State.modDir; split <;> rfl
@[simp] theorem State.modDir_locks (s : State) (pa : Nat) (f : DirEntry → DirEntry) : (s.modDir pa f).locks = s.locks := by
  unfold State.modDir; split <;> rfl
@[simp] theorem State.modDir_lockReqs (s : State) (pa : Nat) (f : DirEntry → DirEntry) : (s.modDir pa f).lockReqs = s.lockReqs := by
  unfold State.modDir; split <;> rfl
@[simp] theorem State.modDir_probes (s : State) (pa : Nat) (f : DirEntry → DirEntry) : (s.modDir pa f).probes = s.probes := by
  unfold State.modDir; split <;> rfl
@[simp] theorem State.modDir_lkdTiming (s : State) (pa : Nat) (f : DirEntry → DirEntry) : (s.modDir pa f).lkdTiming = s.lkdTiming := by
  unfold State.modDir; split <;> rfl
@[simp] theorem State.modDir_lkdCounts (s : State) (pa : Nat) (f : DirEntry → DirEntry) : (s.modDir pa f).lkdCounts = s.lkdCounts := by
  unfold State.modDir; split <;> rfl
@[simp] theorem State.modDir_procs (s : State) (pa : Nat) (f : DirEntry → DirEntry) : (s.modDir pa f).procs = s.procs := by
  unfold State.modDir; split <;> rfl
@[simp] theorem State.modDir_qscStall (s : State) (pa : Nat) (f : DirEntry → DirEntry) : (s.modDir pa f).qscStall = s.qscStall := by
  unfold State.modDir; split <;> rfl
@[simp] theorem State.modDir_qscProc (s : State) (pa : Nat) (f : DirEntry → DirEntry) : (s.modDir pa f).qscProc = s.qscProc := by
  unfold State.modDir; split <;> rfl
@[simp] theorem State.modDir_qscCounts (s : State) (pa : Nat) (f : DirEntry → DirEntry) : (s.modDir pa f).qscCounts = s.qscCounts := by
  unfold State.modDir; split <;> rfl
@[simp] theorem State.modDir_xlt (s : State) (pa : Nat) (f : DirEntry → DirEntry) : (s.modDir pa f).xlt = s.xlt := by
  unfold State.modDir; split <;> rfl
@[simp] theorem State.modDir_shootdowns (s : State) (pa : Nat) (f : DirEntry → DirEntry) : (s.modDir pa f).shootdowns = s.shootdowns := by
  unfold State.modDir; split <;> rfl
@[simp] theorem State.modDir_fe (s : State) (pa : Nat) (f : DirEntry → DirEntry) : (s.modDir pa f).fe = s.fe := by
  unfold State.modDir; split <;> rfl
@[simp] theorem State.modDir_saved (s : State) (pa : Nat) (f : DirEntry → DirEntry) : (s.modDir pa f).saved = s.saved := by
  unfold State.modDir; split <;> rfl
@[simp] theorem State.modDir_mgt (s : State) (pa : Nat) (f : DirEntry → DirEntry) : (s.modDir pa f).mgt = s.mgt := by
  unfold State.modDir; split <;> rfl
@[simp] theorem State.modDir_mailOut (s : State) (pa : Nat) (f : DirEntry → DirEntry) : (s.modDir pa f).mailOut = s.mailOut := by
  unfold State.modDir; split <;> rfl
@[simp] theorem State.modDir_mailNo (s : State) (pa : Nat) (f : DirEntry → DirEntry) : (s.modDir pa f).mailNo = s.mailNo := by
  unfold State.modDir; split <;> rfl
@[simp] theorem State.modDir_ports (s : State) (pa : Nat) (f : DirEntry → DirEntry) : (s.modDir pa f).ports = s.ports := by
  unfold State.modDir; split <;> rfl
@[simp] theorem State.modDir_dbg (s : State) (pa : Nat) (f : DirEntry → DirEntry) : (s.modDir pa f).dbg = s.dbg := by
  unfold State.modDir; split <;> rfl
@[simp] theorem State.modDir_gangStop (s : State) (pa : Nat) (f : DirEntry → DirEntry) : (s.modDir pa f).gangStop = s.gangStop := by
  unfold State.modDir; split <;> rfl
@[simp] theorem State.modDir_gangDue (s : State) (pa : Nat) (f : DirEntry → DirEntry) : (s.modDir pa f).gangDue = s.gangDue := by
  unfold State.modDir; split <;> rfl
@[simp] theorem State.modDir_debugRun (s : State) (pa : Nat) (f : DirEntry → DirEntry) : (s.modDir pa f).debugRun = s.debugRun := by
  unfold State.modDir; split <;> rfl
@[simp] theorem State.modDir_fenced (s : State) (pa : Nat) (f : DirEntry → DirEntry) : (s.modDir pa f).fenced = s.fenced := by
  unfold State.modDir; split <;> rfl
@[simp] theorem State.modDir_errs (s : State) (pa : Nat) (f : DirEntry → DirEntry) : (s.modDir pa f).errs = s.errs := by
  unfold State.modDir; split <;> rfl
@[simp] theorem State.modDir_awaited (s : State) (pa : Nat) (f : DirEntry → DirEntry) : (s.modDir pa f).awaited = s.awaited := by
  unfold State.modDir; split <;> rfl
@[simp] theorem State.modDir_late (s : State) (pa : Nat) (f : DirEntry → DirEntry) : (s.modDir pa f).late = s.late := by
  unfold State.modDir; split <;> rfl
@[simp] theorem State.modDir_slices (s : State) (pa : Nat) (f : DirEntry → DirEntry) : (s.modDir pa f).slices = s.slices := by
  unfold State.modDir; split <;> rfl
@[simp] theorem State.modDir_gtlb (s : State) (pa : Nat) (f : DirEntry → DirEntry) : (s.modDir pa f).gtlb = s.gtlb := by
  unfold State.modDir; split <;> rfl
@[simp] theorem State.modDir_walkCache (s : State) (pa : Nat) (f : DirEntry → DirEntry) : (s.modDir pa f).walkCache = s.walkCache := by
  unfold State.modDir; split <;> rfl
@[simp] theorem State.modDir_seq (s : State) (pa : Nat) (f : DirEntry → DirEntry) : (s.modDir pa f).seq = s.seq := by
  unfold State.modDir; split <;> rfl
@[simp] theorem State.modDir_time (s : State) (pa : Nat) (f : DirEntry → DirEntry) : (s.modDir pa f).time = s.time := by
  unfold State.modDir; split <;> rfl
@[simp] theorem State.modDir_readmitSeq (s : State) (pa : Nat) (f : DirEntry → DirEntry) : (s.modDir pa f).readmitSeq = s.readmitSeq := by
  unfold State.modDir; split <;> rfl
@[simp] theorem State.modDir_clock (s : State) (pa : Nat) (f : DirEntry → DirEntry) : (s.modDir pa f).clock = s.clock := by
  unfold State.modDir; split <;> rfl
@[simp] theorem State.modDir_withheld (s : State) (pa : Nat) (f : DirEntry → DirEntry) : (s.modDir pa f).withheld = s.withheld := by
  unfold State.modDir; split <;> rfl
@[simp] theorem State.modDir_cur (s : State) (pa : Nat) (f : DirEntry → DirEntry) : (s.modDir pa f).cur = s.cur := by
  unfold State.modDir; split <;> rfl
@[simp] theorem State.modDir_agenda (s : State) (pa : Nat) (f : DirEntry → DirEntry) : (s.modDir pa f).agenda = s.agenda := by
  unfold State.modDir; split <;> rfl
@[simp] theorem State.modDir_turns (s : State) (pa : Nat) (f : DirEntry → DirEntry) : (s.modDir pa f).turns = s.turns := by
  unfold State.modDir; split <;> rfl
@[simp] theorem State.modDir_latch (s : State) (pa : Nat) (f : DirEntry → DirEntry) : (s.modDir pa f).latch = s.latch := by
  unfold State.modDir; split <;> rfl
@[simp] theorem State.modDir_ide (s : State) (pa : Nat) (f : DirEntry → DirEntry) : (s.modDir pa f).ide = s.ide := by
  unfold State.modDir; split <;> rfl
@[simp] theorem State.modDir_slotOk (s : State) (pa : Nat) (f : DirEntry → DirEntry) : (s.modDir pa f).slotOk = s.slotOk := by
  unfold State.modDir; split <;> rfl
@[simp] theorem State.modDir_slotDigest (s : State) (pa : Nat) (f : DirEntry → DirEntry) : (s.modDir pa f).slotDigest = s.slotDigest := by
  unfold State.modDir; split <;> rfl
@[simp] theorem State.modDir_runDigest (s : State) (pa : Nat) (f : DirEntry → DirEntry) : (s.modDir pa f).runDigest = s.runDigest := by
  unfold State.modDir; split <;> rfl
@[simp] theorem State.modDir_fuses (s : State) (pa : Nat) (f : DirEntry → DirEntry) : (s.modDir pa f).fuses = s.fuses := by
  unfold State.modDir; split <;> rfl
@[simp] theorem State.modDir_certs (s : State) (pa : Nat) (f : DirEntry → DirEntry) : (s.modDir pa f).certs = s.certs := by
  unfold State.modDir; split <;> rfl
@[simp] theorem State.modDir_spdmOut (s : State) (pa : Nat) (f : DirEntry → DirEntry) : (s.modDir pa f).spdmOut = s.spdmOut := by
  unfold State.modDir; split <;> rfl
@[simp] theorem State.modDir_certOut (s : State) (pa : Nat) (f : DirEntry → DirEntry) : (s.modDir pa f).certOut = s.certOut := by
  unfold State.modDir; split <;> rfl
@[simp] theorem State.modDir_safeTier (s : State) (pa : Nat) (f : DirEntry → DirEntry) : (s.modDir pa f).safeTier = s.safeTier := by
  unfold State.modDir; split <;> rfl
@[simp] theorem State.modDir_powered (s : State) (pa : Nat) (f : DirEntry → DirEntry) : (s.modDir pa f).powered = s.powered := by
  unfold State.modDir; split <;> rfl
@[simp] theorem State.modDir_tick (s : State) (pa : Nat) (f : DirEntry → DirEntry) : (s.modDir pa f).tick = s.tick := by
  unfold State.modDir; split <;> rfl
@[simp] theorem State.modDir_nextUid (s : State) (pa : Nat) (f : DirEntry → DirEntry) : (s.modDir pa f).nextUid = s.nextUid := by
  unfold State.modDir; split <;> rfl

@[simp] theorem State.invalidate_cores (s : State) (c pa : Nat) : (s.invalidate c pa).cores = s.cores := State.modDir_cores s pa _
@[simp] theorem State.invalidate_mem (s : State) (c pa : Nat) : (s.invalidate c pa).mem = s.mem := State.modDir_mem s pa _
@[simp] theorem State.invalidate_poison (s : State) (c pa : Nat) : (s.invalidate c pa).poison = s.poison := State.modDir_poison s pa _
@[simp] theorem State.invalidate_restored (s : State) (c pa : Nat) : (s.invalidate c pa).restored = s.restored := State.modDir_restored s pa _
@[simp] theorem State.invalidate_winPoison (s : State) (c pa : Nat) : (s.invalidate c pa).winPoison = s.winPoison := State.modDir_winPoison s pa _
@[simp] theorem State.invalidate_stamps (s : State) (c pa : Nat) : (s.invalidate c pa).stamps = s.stamps := State.modDir_stamps s pa _
@[simp] theorem State.invalidate_floors (s : State) (c pa : Nat) : (s.invalidate c pa).floors = s.floors := State.modDir_floors s pa _
@[simp] theorem State.invalidate_agentTime (s : State) (c pa : Nat) : (s.invalidate c pa).agentTime = s.agentTime := State.modDir_agentTime s pa _
@[simp] theorem State.invalidate_epoch (s : State) (c pa : Nat) : (s.invalidate c pa).epoch = s.epoch := State.modDir_epoch s pa _
@[simp] theorem State.invalidate_locks (s : State) (c pa : Nat) : (s.invalidate c pa).locks = s.locks := State.modDir_locks s pa _
@[simp] theorem State.invalidate_lockReqs (s : State) (c pa : Nat) : (s.invalidate c pa).lockReqs = s.lockReqs := State.modDir_lockReqs s pa _
@[simp] theorem State.invalidate_probes (s : State) (c pa : Nat) : (s.invalidate c pa).probes = s.probes := State.modDir_probes s pa _
@[simp] theorem State.invalidate_lkdTiming (s : State) (c pa : Nat) : (s.invalidate c pa).lkdTiming = s.lkdTiming := State.modDir_lkdTiming s pa _
@[simp] theorem State.invalidate_lkdCounts (s : State) (c pa : Nat) : (s.invalidate c pa).lkdCounts = s.lkdCounts := State.modDir_lkdCounts s pa _
@[simp] theorem State.invalidate_procs (s : State) (c pa : Nat) : (s.invalidate c pa).procs = s.procs := State.modDir_procs s pa _
@[simp] theorem State.invalidate_qscStall (s : State) (c pa : Nat) : (s.invalidate c pa).qscStall = s.qscStall := State.modDir_qscStall s pa _
@[simp] theorem State.invalidate_qscProc (s : State) (c pa : Nat) : (s.invalidate c pa).qscProc = s.qscProc := State.modDir_qscProc s pa _
@[simp] theorem State.invalidate_qscCounts (s : State) (c pa : Nat) : (s.invalidate c pa).qscCounts = s.qscCounts := State.modDir_qscCounts s pa _
@[simp] theorem State.invalidate_xlt (s : State) (c pa : Nat) : (s.invalidate c pa).xlt = s.xlt := State.modDir_xlt s pa _
@[simp] theorem State.invalidate_shootdowns (s : State) (c pa : Nat) : (s.invalidate c pa).shootdowns = s.shootdowns := State.modDir_shootdowns s pa _
@[simp] theorem State.invalidate_fe (s : State) (c pa : Nat) : (s.invalidate c pa).fe = s.fe := State.modDir_fe s pa _
@[simp] theorem State.invalidate_saved (s : State) (c pa : Nat) : (s.invalidate c pa).saved = s.saved := State.modDir_saved s pa _
@[simp] theorem State.invalidate_mgt (s : State) (c pa : Nat) : (s.invalidate c pa).mgt = s.mgt := State.modDir_mgt s pa _
@[simp] theorem State.invalidate_mailOut (s : State) (c pa : Nat) : (s.invalidate c pa).mailOut = s.mailOut := State.modDir_mailOut s pa _
@[simp] theorem State.invalidate_mailNo (s : State) (c pa : Nat) : (s.invalidate c pa).mailNo = s.mailNo := State.modDir_mailNo s pa _
@[simp] theorem State.invalidate_ports (s : State) (c pa : Nat) : (s.invalidate c pa).ports = s.ports := State.modDir_ports s pa _
@[simp] theorem State.invalidate_dbg (s : State) (c pa : Nat) : (s.invalidate c pa).dbg = s.dbg := State.modDir_dbg s pa _
@[simp] theorem State.invalidate_gangStop (s : State) (c pa : Nat) : (s.invalidate c pa).gangStop = s.gangStop := State.modDir_gangStop s pa _
@[simp] theorem State.invalidate_gangDue (s : State) (c pa : Nat) : (s.invalidate c pa).gangDue = s.gangDue := State.modDir_gangDue s pa _
@[simp] theorem State.invalidate_debugRun (s : State) (c pa : Nat) : (s.invalidate c pa).debugRun = s.debugRun := State.modDir_debugRun s pa _
@[simp] theorem State.invalidate_fenced (s : State) (c pa : Nat) : (s.invalidate c pa).fenced = s.fenced := State.modDir_fenced s pa _
@[simp] theorem State.invalidate_errs (s : State) (c pa : Nat) : (s.invalidate c pa).errs = s.errs := State.modDir_errs s pa _
@[simp] theorem State.invalidate_awaited (s : State) (c pa : Nat) : (s.invalidate c pa).awaited = s.awaited := State.modDir_awaited s pa _
@[simp] theorem State.invalidate_late (s : State) (c pa : Nat) : (s.invalidate c pa).late = s.late := State.modDir_late s pa _
@[simp] theorem State.invalidate_slices (s : State) (c pa : Nat) : (s.invalidate c pa).slices = s.slices := State.modDir_slices s pa _
@[simp] theorem State.invalidate_gtlb (s : State) (c pa : Nat) : (s.invalidate c pa).gtlb = s.gtlb := State.modDir_gtlb s pa _
@[simp] theorem State.invalidate_walkCache (s : State) (c pa : Nat) : (s.invalidate c pa).walkCache = s.walkCache := State.modDir_walkCache s pa _
@[simp] theorem State.invalidate_seq (s : State) (c pa : Nat) : (s.invalidate c pa).seq = s.seq := State.modDir_seq s pa _
@[simp] theorem State.invalidate_time (s : State) (c pa : Nat) : (s.invalidate c pa).time = s.time := State.modDir_time s pa _
@[simp] theorem State.invalidate_readmitSeq (s : State) (c pa : Nat) : (s.invalidate c pa).readmitSeq = s.readmitSeq := State.modDir_readmitSeq s pa _
@[simp] theorem State.invalidate_clock (s : State) (c pa : Nat) : (s.invalidate c pa).clock = s.clock := State.modDir_clock s pa _
@[simp] theorem State.invalidate_withheld (s : State) (c pa : Nat) : (s.invalidate c pa).withheld = s.withheld := State.modDir_withheld s pa _
@[simp] theorem State.invalidate_cur (s : State) (c pa : Nat) : (s.invalidate c pa).cur = s.cur := State.modDir_cur s pa _
@[simp] theorem State.invalidate_agenda (s : State) (c pa : Nat) : (s.invalidate c pa).agenda = s.agenda := State.modDir_agenda s pa _
@[simp] theorem State.invalidate_turns (s : State) (c pa : Nat) : (s.invalidate c pa).turns = s.turns := State.modDir_turns s pa _
@[simp] theorem State.invalidate_latch (s : State) (c pa : Nat) : (s.invalidate c pa).latch = s.latch := State.modDir_latch s pa _
@[simp] theorem State.invalidate_ide (s : State) (c pa : Nat) : (s.invalidate c pa).ide = s.ide := State.modDir_ide s pa _
@[simp] theorem State.invalidate_slotOk (s : State) (c pa : Nat) : (s.invalidate c pa).slotOk = s.slotOk := State.modDir_slotOk s pa _
@[simp] theorem State.invalidate_slotDigest (s : State) (c pa : Nat) : (s.invalidate c pa).slotDigest = s.slotDigest := State.modDir_slotDigest s pa _
@[simp] theorem State.invalidate_runDigest (s : State) (c pa : Nat) : (s.invalidate c pa).runDigest = s.runDigest := State.modDir_runDigest s pa _
@[simp] theorem State.invalidate_fuses (s : State) (c pa : Nat) : (s.invalidate c pa).fuses = s.fuses := State.modDir_fuses s pa _
@[simp] theorem State.invalidate_certs (s : State) (c pa : Nat) : (s.invalidate c pa).certs = s.certs := State.modDir_certs s pa _
@[simp] theorem State.invalidate_spdmOut (s : State) (c pa : Nat) : (s.invalidate c pa).spdmOut = s.spdmOut := State.modDir_spdmOut s pa _
@[simp] theorem State.invalidate_certOut (s : State) (c pa : Nat) : (s.invalidate c pa).certOut = s.certOut := State.modDir_certOut s pa _
@[simp] theorem State.invalidate_safeTier (s : State) (c pa : Nat) : (s.invalidate c pa).safeTier = s.safeTier := State.modDir_safeTier s pa _
@[simp] theorem State.invalidate_powered (s : State) (c pa : Nat) : (s.invalidate c pa).powered = s.powered := State.modDir_powered s pa _
@[simp] theorem State.invalidate_tick (s : State) (c pa : Nat) : (s.invalidate c pa).tick = s.tick := State.modDir_tick s pa _
@[simp] theorem State.invalidate_nextUid (s : State) (c pa : Nat) : (s.invalidate c pa).nextUid = s.nextUid := State.modDir_nextUid s pa _

@[simp] theorem State.acceptStore_mem (s : State) (c : Nat) (p : PendStore) : (s.acceptStore c p).mem = s.mem := by
  simp only [State.acceptStore]; split; · rfl
  · split <;> rfl
@[simp] theorem State.acceptStore_poison (s : State) (c : Nat) (p : PendStore) : (s.acceptStore c p).poison = s.poison := by
  simp only [State.acceptStore]; split; · rfl
  · split <;> rfl
@[simp] theorem State.acceptStore_restored (s : State) (c : Nat) (p : PendStore) : (s.acceptStore c p).restored = s.restored := by
  simp only [State.acceptStore]; split; · rfl
  · split <;> rfl
@[simp] theorem State.acceptStore_winPoison (s : State) (c : Nat) (p : PendStore) : (s.acceptStore c p).winPoison = s.winPoison := by
  simp only [State.acceptStore]; split; · rfl
  · split <;> rfl
@[simp] theorem State.acceptStore_stamps (s : State) (c : Nat) (p : PendStore) : (s.acceptStore c p).stamps = s.stamps := by
  simp only [State.acceptStore]; split; · rfl
  · split <;> rfl
@[simp] theorem State.acceptStore_floors (s : State) (c : Nat) (p : PendStore) : (s.acceptStore c p).floors = s.floors := by
  simp only [State.acceptStore]; split; · rfl
  · split <;> rfl
@[simp] theorem State.acceptStore_agentTime (s : State) (c : Nat) (p : PendStore) : (s.acceptStore c p).agentTime = s.agentTime := by
  simp only [State.acceptStore]; split; · rfl
  · split <;> rfl
@[simp] theorem State.acceptStore_epoch (s : State) (c : Nat) (p : PendStore) : (s.acceptStore c p).epoch = s.epoch := by
  simp only [State.acceptStore]; split; · rfl
  · split <;> rfl
@[simp] theorem State.acceptStore_dirs (s : State) (c : Nat) (p : PendStore) : (s.acceptStore c p).dirs = s.dirs := by
  simp only [State.acceptStore]; split; · rfl
  · split <;> rfl
@[simp] theorem State.acceptStore_locks (s : State) (c : Nat) (p : PendStore) : (s.acceptStore c p).locks = s.locks := by
  simp only [State.acceptStore]; split; · rfl
  · split <;> rfl
@[simp] theorem State.acceptStore_lockReqs (s : State) (c : Nat) (p : PendStore) : (s.acceptStore c p).lockReqs = s.lockReqs := by
  simp only [State.acceptStore]; split; · rfl
  · split <;> rfl
@[simp] theorem State.acceptStore_probes (s : State) (c : Nat) (p : PendStore) : (s.acceptStore c p).probes = s.probes := by
  simp only [State.acceptStore]; split; · rfl
  · split <;> rfl
@[simp] theorem State.acceptStore_lkdTiming (s : State) (c : Nat) (p : PendStore) : (s.acceptStore c p).lkdTiming = s.lkdTiming := by
  simp only [State.acceptStore]; split; · rfl
  · split <;> rfl
@[simp] theorem State.acceptStore_lkdCounts (s : State) (c : Nat) (p : PendStore) : (s.acceptStore c p).lkdCounts = s.lkdCounts := by
  simp only [State.acceptStore]; split; · rfl
  · split <;> rfl
@[simp] theorem State.acceptStore_procs (s : State) (c : Nat) (p : PendStore) : (s.acceptStore c p).procs = s.procs := by
  simp only [State.acceptStore]; split; · rfl
  · split <;> rfl
@[simp] theorem State.acceptStore_qscStall (s : State) (c : Nat) (p : PendStore) : (s.acceptStore c p).qscStall = s.qscStall := by
  simp only [State.acceptStore]; split; · rfl
  · split <;> rfl
@[simp] theorem State.acceptStore_qscProc (s : State) (c : Nat) (p : PendStore) : (s.acceptStore c p).qscProc = s.qscProc := by
  simp only [State.acceptStore]; split; · rfl
  · split <;> rfl
@[simp] theorem State.acceptStore_qscCounts (s : State) (c : Nat) (p : PendStore) : (s.acceptStore c p).qscCounts = s.qscCounts := by
  simp only [State.acceptStore]; split; · rfl
  · split <;> rfl
@[simp] theorem State.acceptStore_xlt (s : State) (c : Nat) (p : PendStore) : (s.acceptStore c p).xlt = s.xlt := by
  simp only [State.acceptStore]; split; · rfl
  · split <;> rfl
@[simp] theorem State.acceptStore_shootdowns (s : State) (c : Nat) (p : PendStore) : (s.acceptStore c p).shootdowns = s.shootdowns := by
  simp only [State.acceptStore]; split; · rfl
  · split <;> rfl
@[simp] theorem State.acceptStore_fe (s : State) (c : Nat) (p : PendStore) : (s.acceptStore c p).fe = s.fe := by
  simp only [State.acceptStore]; split; · rfl
  · split <;> rfl
@[simp] theorem State.acceptStore_saved (s : State) (c : Nat) (p : PendStore) : (s.acceptStore c p).saved = s.saved := by
  simp only [State.acceptStore]; split; · rfl
  · split <;> rfl
@[simp] theorem State.acceptStore_mgt (s : State) (c : Nat) (p : PendStore) : (s.acceptStore c p).mgt = s.mgt := by
  simp only [State.acceptStore]; split; · rfl
  · split <;> rfl
@[simp] theorem State.acceptStore_mailOut (s : State) (c : Nat) (p : PendStore) : (s.acceptStore c p).mailOut = s.mailOut := by
  simp only [State.acceptStore]; split; · rfl
  · split <;> rfl
@[simp] theorem State.acceptStore_mailNo (s : State) (c : Nat) (p : PendStore) : (s.acceptStore c p).mailNo = s.mailNo := by
  simp only [State.acceptStore]; split; · rfl
  · split <;> rfl
@[simp] theorem State.acceptStore_ports (s : State) (c : Nat) (p : PendStore) : (s.acceptStore c p).ports = s.ports := by
  simp only [State.acceptStore]; split; · rfl
  · split <;> rfl
@[simp] theorem State.acceptStore_dbg (s : State) (c : Nat) (p : PendStore) : (s.acceptStore c p).dbg = s.dbg := by
  simp only [State.acceptStore]; split; · rfl
  · split <;> rfl
@[simp] theorem State.acceptStore_gangStop (s : State) (c : Nat) (p : PendStore) : (s.acceptStore c p).gangStop = s.gangStop := by
  simp only [State.acceptStore]; split; · rfl
  · split <;> rfl
@[simp] theorem State.acceptStore_gangDue (s : State) (c : Nat) (p : PendStore) : (s.acceptStore c p).gangDue = s.gangDue := by
  simp only [State.acceptStore]; split; · rfl
  · split <;> rfl
@[simp] theorem State.acceptStore_debugRun (s : State) (c : Nat) (p : PendStore) : (s.acceptStore c p).debugRun = s.debugRun := by
  simp only [State.acceptStore]; split; · rfl
  · split <;> rfl
@[simp] theorem State.acceptStore_fenced (s : State) (c : Nat) (p : PendStore) : (s.acceptStore c p).fenced = s.fenced := by
  simp only [State.acceptStore]; split; · rfl
  · split <;> rfl
@[simp] theorem State.acceptStore_errs (s : State) (c : Nat) (p : PendStore) : (s.acceptStore c p).errs = s.errs := by
  simp only [State.acceptStore]; split; · rfl
  · split <;> rfl
@[simp] theorem State.acceptStore_awaited (s : State) (c : Nat) (p : PendStore) : (s.acceptStore c p).awaited = s.awaited := by
  simp only [State.acceptStore]; split; · rfl
  · split <;> rfl
@[simp] theorem State.acceptStore_late (s : State) (c : Nat) (p : PendStore) : (s.acceptStore c p).late = s.late := by
  simp only [State.acceptStore]; split; · rfl
  · split <;> rfl
@[simp] theorem State.acceptStore_slices (s : State) (c : Nat) (p : PendStore) : (s.acceptStore c p).slices = s.slices := by
  simp only [State.acceptStore]; split; · rfl
  · split <;> rfl
@[simp] theorem State.acceptStore_gtlb (s : State) (c : Nat) (p : PendStore) : (s.acceptStore c p).gtlb = s.gtlb := by
  simp only [State.acceptStore]; split; · rfl
  · split <;> rfl
@[simp] theorem State.acceptStore_walkCache (s : State) (c : Nat) (p : PendStore) : (s.acceptStore c p).walkCache = s.walkCache := by
  simp only [State.acceptStore]; split; · rfl
  · split <;> rfl
@[simp] theorem State.acceptStore_seq (s : State) (c : Nat) (p : PendStore) : (s.acceptStore c p).seq = s.seq := by
  simp only [State.acceptStore]; split; · rfl
  · split <;> rfl
@[simp] theorem State.acceptStore_time (s : State) (c : Nat) (p : PendStore) : (s.acceptStore c p).time = s.time := by
  simp only [State.acceptStore]; split; · rfl
  · split <;> rfl
@[simp] theorem State.acceptStore_readmitSeq (s : State) (c : Nat) (p : PendStore) : (s.acceptStore c p).readmitSeq = s.readmitSeq := by
  simp only [State.acceptStore]; split; · rfl
  · split <;> rfl
@[simp] theorem State.acceptStore_clock (s : State) (c : Nat) (p : PendStore) : (s.acceptStore c p).clock = s.clock := by
  simp only [State.acceptStore]; split; · rfl
  · split <;> rfl
@[simp] theorem State.acceptStore_withheld (s : State) (c : Nat) (p : PendStore) : (s.acceptStore c p).withheld = s.withheld := by
  simp only [State.acceptStore]; split; · rfl
  · split <;> rfl
@[simp] theorem State.acceptStore_cur (s : State) (c : Nat) (p : PendStore) : (s.acceptStore c p).cur = s.cur := by
  simp only [State.acceptStore]; split; · rfl
  · split <;> rfl
@[simp] theorem State.acceptStore_agenda (s : State) (c : Nat) (p : PendStore) : (s.acceptStore c p).agenda = s.agenda := by
  simp only [State.acceptStore]; split; · rfl
  · split <;> rfl
@[simp] theorem State.acceptStore_turns (s : State) (c : Nat) (p : PendStore) : (s.acceptStore c p).turns = s.turns := by
  simp only [State.acceptStore]; split; · rfl
  · split <;> rfl
@[simp] theorem State.acceptStore_latch (s : State) (c : Nat) (p : PendStore) : (s.acceptStore c p).latch = s.latch := by
  simp only [State.acceptStore]; split; · rfl
  · split <;> rfl
@[simp] theorem State.acceptStore_ide (s : State) (c : Nat) (p : PendStore) : (s.acceptStore c p).ide = s.ide := by
  simp only [State.acceptStore]; split; · rfl
  · split <;> rfl
@[simp] theorem State.acceptStore_slotOk (s : State) (c : Nat) (p : PendStore) : (s.acceptStore c p).slotOk = s.slotOk := by
  simp only [State.acceptStore]; split; · rfl
  · split <;> rfl
@[simp] theorem State.acceptStore_slotDigest (s : State) (c : Nat) (p : PendStore) : (s.acceptStore c p).slotDigest = s.slotDigest := by
  simp only [State.acceptStore]; split; · rfl
  · split <;> rfl
@[simp] theorem State.acceptStore_runDigest (s : State) (c : Nat) (p : PendStore) : (s.acceptStore c p).runDigest = s.runDigest := by
  simp only [State.acceptStore]; split; · rfl
  · split <;> rfl
@[simp] theorem State.acceptStore_fuses (s : State) (c : Nat) (p : PendStore) : (s.acceptStore c p).fuses = s.fuses := by
  simp only [State.acceptStore]; split; · rfl
  · split <;> rfl
@[simp] theorem State.acceptStore_certs (s : State) (c : Nat) (p : PendStore) : (s.acceptStore c p).certs = s.certs := by
  simp only [State.acceptStore]; split; · rfl
  · split <;> rfl
@[simp] theorem State.acceptStore_spdmOut (s : State) (c : Nat) (p : PendStore) : (s.acceptStore c p).spdmOut = s.spdmOut := by
  simp only [State.acceptStore]; split; · rfl
  · split <;> rfl
@[simp] theorem State.acceptStore_certOut (s : State) (c : Nat) (p : PendStore) : (s.acceptStore c p).certOut = s.certOut := by
  simp only [State.acceptStore]; split; · rfl
  · split <;> rfl
@[simp] theorem State.acceptStore_safeTier (s : State) (c : Nat) (p : PendStore) : (s.acceptStore c p).safeTier = s.safeTier := by
  simp only [State.acceptStore]; split; · rfl
  · split <;> rfl
@[simp] theorem State.acceptStore_powered (s : State) (c : Nat) (p : PendStore) : (s.acceptStore c p).powered = s.powered := by
  simp only [State.acceptStore]; split; · rfl
  · split <;> rfl
@[simp] theorem State.acceptStore_nextUid (s : State) (c : Nat) (p : PendStore) : (s.acceptStore c p).nextUid = s.nextUid := by
  simp only [State.acceptStore]; split; · rfl
  · split <;> rfl

@[simp] theorem State.modTeam_mem (s : State) (p : Nat × Nat) (f : Team → Team) : (s.modTeam p f).mem = s.mem := by
  unfold State.modTeam; split <;> rfl
@[simp] theorem State.modTeam_poison (s : State) (p : Nat × Nat) (f : Team → Team) : (s.modTeam p f).poison = s.poison := by
  unfold State.modTeam; split <;> rfl
@[simp] theorem State.modTeam_restored (s : State) (p : Nat × Nat) (f : Team → Team) : (s.modTeam p f).restored = s.restored := by
  unfold State.modTeam; split <;> rfl
@[simp] theorem State.modTeam_winPoison (s : State) (p : Nat × Nat) (f : Team → Team) : (s.modTeam p f).winPoison = s.winPoison := by
  unfold State.modTeam; split <;> rfl
@[simp] theorem State.modTeam_stamps (s : State) (p : Nat × Nat) (f : Team → Team) : (s.modTeam p f).stamps = s.stamps := by
  unfold State.modTeam; split <;> rfl
@[simp] theorem State.modTeam_floors (s : State) (p : Nat × Nat) (f : Team → Team) : (s.modTeam p f).floors = s.floors := by
  unfold State.modTeam; split <;> rfl
@[simp] theorem State.modTeam_agentTime (s : State) (p : Nat × Nat) (f : Team → Team) : (s.modTeam p f).agentTime = s.agentTime := by
  unfold State.modTeam; split <;> rfl
@[simp] theorem State.modTeam_epoch (s : State) (p : Nat × Nat) (f : Team → Team) : (s.modTeam p f).epoch = s.epoch := by
  unfold State.modTeam; split <;> rfl
@[simp] theorem State.modTeam_dirs (s : State) (p : Nat × Nat) (f : Team → Team) : (s.modTeam p f).dirs = s.dirs := by
  unfold State.modTeam; split <;> rfl
@[simp] theorem State.modTeam_locks (s : State) (p : Nat × Nat) (f : Team → Team) : (s.modTeam p f).locks = s.locks := by
  unfold State.modTeam; split <;> rfl
@[simp] theorem State.modTeam_lockReqs (s : State) (p : Nat × Nat) (f : Team → Team) : (s.modTeam p f).lockReqs = s.lockReqs := by
  unfold State.modTeam; split <;> rfl
@[simp] theorem State.modTeam_probes (s : State) (p : Nat × Nat) (f : Team → Team) : (s.modTeam p f).probes = s.probes := by
  unfold State.modTeam; split <;> rfl
@[simp] theorem State.modTeam_lkdTiming (s : State) (p : Nat × Nat) (f : Team → Team) : (s.modTeam p f).lkdTiming = s.lkdTiming := by
  unfold State.modTeam; split <;> rfl
@[simp] theorem State.modTeam_lkdCounts (s : State) (p : Nat × Nat) (f : Team → Team) : (s.modTeam p f).lkdCounts = s.lkdCounts := by
  unfold State.modTeam; split <;> rfl
@[simp] theorem State.modTeam_procs (s : State) (p : Nat × Nat) (f : Team → Team) : (s.modTeam p f).procs = s.procs := by
  unfold State.modTeam; split <;> rfl
@[simp] theorem State.modTeam_qscStall (s : State) (p : Nat × Nat) (f : Team → Team) : (s.modTeam p f).qscStall = s.qscStall := by
  unfold State.modTeam; split <;> rfl
@[simp] theorem State.modTeam_qscProc (s : State) (p : Nat × Nat) (f : Team → Team) : (s.modTeam p f).qscProc = s.qscProc := by
  unfold State.modTeam; split <;> rfl
@[simp] theorem State.modTeam_qscCounts (s : State) (p : Nat × Nat) (f : Team → Team) : (s.modTeam p f).qscCounts = s.qscCounts := by
  unfold State.modTeam; split <;> rfl
@[simp] theorem State.modTeam_xlt (s : State) (p : Nat × Nat) (f : Team → Team) : (s.modTeam p f).xlt = s.xlt := by
  unfold State.modTeam; split <;> rfl
@[simp] theorem State.modTeam_shootdowns (s : State) (p : Nat × Nat) (f : Team → Team) : (s.modTeam p f).shootdowns = s.shootdowns := by
  unfold State.modTeam; split <;> rfl
@[simp] theorem State.modTeam_fe (s : State) (p : Nat × Nat) (f : Team → Team) : (s.modTeam p f).fe = s.fe := by
  unfold State.modTeam; split <;> rfl
@[simp] theorem State.modTeam_saved (s : State) (p : Nat × Nat) (f : Team → Team) : (s.modTeam p f).saved = s.saved := by
  unfold State.modTeam; split <;> rfl
@[simp] theorem State.modTeam_mgt (s : State) (p : Nat × Nat) (f : Team → Team) : (s.modTeam p f).mgt = s.mgt := by
  unfold State.modTeam; split <;> rfl
@[simp] theorem State.modTeam_mailOut (s : State) (p : Nat × Nat) (f : Team → Team) : (s.modTeam p f).mailOut = s.mailOut := by
  unfold State.modTeam; split <;> rfl
@[simp] theorem State.modTeam_mailNo (s : State) (p : Nat × Nat) (f : Team → Team) : (s.modTeam p f).mailNo = s.mailNo := by
  unfold State.modTeam; split <;> rfl
@[simp] theorem State.modTeam_ports (s : State) (p : Nat × Nat) (f : Team → Team) : (s.modTeam p f).ports = s.ports := by
  unfold State.modTeam; split <;> rfl
@[simp] theorem State.modTeam_dbg (s : State) (p : Nat × Nat) (f : Team → Team) : (s.modTeam p f).dbg = s.dbg := by
  unfold State.modTeam; split <;> rfl
@[simp] theorem State.modTeam_gangStop (s : State) (p : Nat × Nat) (f : Team → Team) : (s.modTeam p f).gangStop = s.gangStop := by
  unfold State.modTeam; split <;> rfl
@[simp] theorem State.modTeam_gangDue (s : State) (p : Nat × Nat) (f : Team → Team) : (s.modTeam p f).gangDue = s.gangDue := by
  unfold State.modTeam; split <;> rfl
@[simp] theorem State.modTeam_debugRun (s : State) (p : Nat × Nat) (f : Team → Team) : (s.modTeam p f).debugRun = s.debugRun := by
  unfold State.modTeam; split <;> rfl
@[simp] theorem State.modTeam_fenced (s : State) (p : Nat × Nat) (f : Team → Team) : (s.modTeam p f).fenced = s.fenced := by
  unfold State.modTeam; split <;> rfl
@[simp] theorem State.modTeam_errs (s : State) (p : Nat × Nat) (f : Team → Team) : (s.modTeam p f).errs = s.errs := by
  unfold State.modTeam; split <;> rfl
@[simp] theorem State.modTeam_awaited (s : State) (p : Nat × Nat) (f : Team → Team) : (s.modTeam p f).awaited = s.awaited := by
  unfold State.modTeam; split <;> rfl
@[simp] theorem State.modTeam_late (s : State) (p : Nat × Nat) (f : Team → Team) : (s.modTeam p f).late = s.late := by
  unfold State.modTeam; split <;> rfl
@[simp] theorem State.modTeam_slices (s : State) (p : Nat × Nat) (f : Team → Team) : (s.modTeam p f).slices = s.slices := by
  unfold State.modTeam; split <;> rfl
@[simp] theorem State.modTeam_gtlb (s : State) (p : Nat × Nat) (f : Team → Team) : (s.modTeam p f).gtlb = s.gtlb := by
  unfold State.modTeam; split <;> rfl
@[simp] theorem State.modTeam_walkCache (s : State) (p : Nat × Nat) (f : Team → Team) : (s.modTeam p f).walkCache = s.walkCache := by
  unfold State.modTeam; split <;> rfl
@[simp] theorem State.modTeam_seq (s : State) (p : Nat × Nat) (f : Team → Team) : (s.modTeam p f).seq = s.seq := by
  unfold State.modTeam; split <;> rfl
@[simp] theorem State.modTeam_time (s : State) (p : Nat × Nat) (f : Team → Team) : (s.modTeam p f).time = s.time := by
  unfold State.modTeam; split <;> rfl
@[simp] theorem State.modTeam_readmitSeq (s : State) (p : Nat × Nat) (f : Team → Team) : (s.modTeam p f).readmitSeq = s.readmitSeq := by
  unfold State.modTeam; split <;> rfl
@[simp] theorem State.modTeam_clock (s : State) (p : Nat × Nat) (f : Team → Team) : (s.modTeam p f).clock = s.clock := by
  unfold State.modTeam; split <;> rfl
@[simp] theorem State.modTeam_withheld (s : State) (p : Nat × Nat) (f : Team → Team) : (s.modTeam p f).withheld = s.withheld := by
  unfold State.modTeam; split <;> rfl
@[simp] theorem State.modTeam_cur (s : State) (p : Nat × Nat) (f : Team → Team) : (s.modTeam p f).cur = s.cur := by
  unfold State.modTeam; split <;> rfl
@[simp] theorem State.modTeam_agenda (s : State) (p : Nat × Nat) (f : Team → Team) : (s.modTeam p f).agenda = s.agenda := by
  unfold State.modTeam; split <;> rfl
@[simp] theorem State.modTeam_turns (s : State) (p : Nat × Nat) (f : Team → Team) : (s.modTeam p f).turns = s.turns := by
  unfold State.modTeam; split <;> rfl
@[simp] theorem State.modTeam_latch (s : State) (p : Nat × Nat) (f : Team → Team) : (s.modTeam p f).latch = s.latch := by
  unfold State.modTeam; split <;> rfl
@[simp] theorem State.modTeam_ide (s : State) (p : Nat × Nat) (f : Team → Team) : (s.modTeam p f).ide = s.ide := by
  unfold State.modTeam; split <;> rfl
@[simp] theorem State.modTeam_slotOk (s : State) (p : Nat × Nat) (f : Team → Team) : (s.modTeam p f).slotOk = s.slotOk := by
  unfold State.modTeam; split <;> rfl
@[simp] theorem State.modTeam_slotDigest (s : State) (p : Nat × Nat) (f : Team → Team) : (s.modTeam p f).slotDigest = s.slotDigest := by
  unfold State.modTeam; split <;> rfl
@[simp] theorem State.modTeam_runDigest (s : State) (p : Nat × Nat) (f : Team → Team) : (s.modTeam p f).runDigest = s.runDigest := by
  unfold State.modTeam; split <;> rfl
@[simp] theorem State.modTeam_fuses (s : State) (p : Nat × Nat) (f : Team → Team) : (s.modTeam p f).fuses = s.fuses := by
  unfold State.modTeam; split <;> rfl
@[simp] theorem State.modTeam_certs (s : State) (p : Nat × Nat) (f : Team → Team) : (s.modTeam p f).certs = s.certs := by
  unfold State.modTeam; split <;> rfl
@[simp] theorem State.modTeam_spdmOut (s : State) (p : Nat × Nat) (f : Team → Team) : (s.modTeam p f).spdmOut = s.spdmOut := by
  unfold State.modTeam; split <;> rfl
@[simp] theorem State.modTeam_certOut (s : State) (p : Nat × Nat) (f : Team → Team) : (s.modTeam p f).certOut = s.certOut := by
  unfold State.modTeam; split <;> rfl
@[simp] theorem State.modTeam_safeTier (s : State) (p : Nat × Nat) (f : Team → Team) : (s.modTeam p f).safeTier = s.safeTier := by
  unfold State.modTeam; split <;> rfl
@[simp] theorem State.modTeam_powered (s : State) (p : Nat × Nat) (f : Team → Team) : (s.modTeam p f).powered = s.powered := by
  unfold State.modTeam; split <;> rfl
@[simp] theorem State.modTeam_tick (s : State) (p : Nat × Nat) (f : Team → Team) : (s.modTeam p f).tick = s.tick := by
  unfold State.modTeam; split <;> rfl
@[simp] theorem State.modTeam_nextUid (s : State) (p : Nat × Nat) (f : Team → Team) : (s.modTeam p f).nextUid = s.nextUid := by
  unfold State.modTeam; split <;> rfl

/-! ### Fields of a core when one of its teams changes -/

@[simp] theorem setTeam_core_blocks (s : State) (p : Nat × Nat) (t : Team) (c : Nat) : ((s.setTeam p t).core c).blocks = (s.core c).blocks := by
  by_cases h : c = p.1
  · subst h; rw [core_setTeam]
  · rw [core_setTeam_other s t h]
@[simp] theorem setTeam_core_evec (s : State) (p : Nat × Nat) (t : Team) (c : Nat) : ((s.setTeam p t).core c).evec = (s.core c).evec := by
  by_cases h : c = p.1
  · subst h; rw [core_setTeam]
  · rw [core_setTeam_other s t h]
@[simp] theorem setTeam_core_epc (s : State) (p : Nat × Nat) (t : Team) (c : Nat) : ((s.setTeam p t).core c).epc = (s.core c).epc := by
  by_cases h : c = p.1
  · subst h; rw [core_setTeam]
  · rw [core_setTeam_other s t h]
@[simp] theorem setTeam_core_ecause (s : State) (p : Nat × Nat) (t : Team) (c : Nat) : ((s.setTeam p t).core c).ecause = (s.core c).ecause := by
  by_cases h : c = p.1
  · subst h; rw [core_setTeam]
  · rw [core_setTeam_other s t h]
@[simp] theorem setTeam_core_even (s : State) (p : Nat × Nat) (t : Team) (c : Nat) : ((s.setTeam p t).core c).even = (s.core c).even := by
  by_cases h : c = p.1
  · subst h; rw [core_setTeam]
  · rw [core_setTeam_other s t h]
@[simp] theorem setTeam_core_replay (s : State) (p : Nat × Nat) (t : Team) (c : Nat) : ((s.setTeam p t).core c).replay = (s.core c).replay := by
  by_cases h : c = p.1
  · subst h; rw [core_setTeam]
  · rw [core_setTeam_other s t h]
@[simp] theorem setTeam_core_reports (s : State) (p : Nat × Nat) (t : Team) (c : Nat) : ((s.setTeam p t).core c).reports = (s.core c).reports := by
  by_cases h : c = p.1
  · subst h; rw [core_setTeam]
  · rw [core_setTeam_other s t h]
@[simp] theorem setTeam_core_doorbell (s : State) (p : Nat × Nat) (t : Team) (c : Nat) : ((s.setTeam p t).core c).doorbell = (s.core c).doorbell := by
  by_cases h : c = p.1
  · subst h; rw [core_setTeam]
  · rw [core_setTeam_other s t h]
@[simp] theorem setTeam_core_timerPending (s : State) (p : Nat × Nat) (t : Team) (c : Nat) : ((s.setTeam p t).core c).timerPending = (s.core c).timerPending := by
  by_cases h : c = p.1
  · subst h; rw [core_setTeam]
  · rw [core_setTeam_other s t h]
@[simp] theorem setTeam_core_timerDue (s : State) (p : Nat × Nat) (t : Team) (c : Nat) : ((s.setTeam p t).core c).timerDue = (s.core c).timerDue := by
  by_cases h : c = p.1
  · subst h; rw [core_setTeam]
  · rw [core_setTeam_other s t h]
@[simp] theorem setTeam_core_tiles (s : State) (p : Nat × Nat) (t : Team) (c : Nat) : ((s.setTeam p t).core c).tiles = (s.core c).tiles := by
  by_cases h : c = p.1
  · subst h; rw [core_setTeam]
  · rw [core_setTeam_other s t h]
@[simp] theorem setTeam_core_ops (s : State) (p : Nat × Nat) (t : Team) (c : Nat) : ((s.setTeam p t).core c).ops = (s.core c).ops := by
  by_cases h : c = p.1
  · subst h; rw [core_setTeam]
  · rw [core_setTeam_other s t h]
@[simp] theorem setTeam_core_copies (s : State) (p : Nat × Nat) (t : Team) (c : Nat) : ((s.setTeam p t).core c).copies = (s.core c).copies := by
  by_cases h : c = p.1
  · subst h; rw [core_setTeam]
  · rw [core_setTeam_other s t h]
@[simp] theorem setTeam_core_ltime (s : State) (p : Nat × Nat) (t : Team) (c : Nat) : ((s.setTeam p t).core c).ltime = (s.core c).ltime := by
  by_cases h : c = p.1
  · subst h; rw [core_setTeam]
  · rw [core_setTeam_other s t h]
@[simp] theorem setTeam_core_l1 (s : State) (p : Nat × Nat) (t : Team) (c : Nat) : ((s.setTeam p t).core c).l1 = (s.core c).l1 := by
  by_cases h : c = p.1
  · subst h; rw [core_setTeam]
  · rw [core_setTeam_other s t h]
@[simp] theorem setTeam_core_retention (s : State) (p : Nat × Nat) (t : Team) (c : Nat) : ((s.setTeam p t).core c).retention = (s.core c).retention := by
  by_cases h : c = p.1
  · subst h; rw [core_setTeam]
  · rw [core_setTeam_other s t h]
@[simp] theorem setTeam_core_slept (s : State) (p : Nat × Nat) (t : Team) (c : Nat) : ((s.setTeam p t).core c).slept = (s.core c).slept := by
  by_cases h : c = p.1
  · subst h; rw [core_setTeam]
  · rw [core_setTeam_other s t h]
@[simp] theorem setTeam_core_misses (s : State) (p : Nat × Nat) (t : Team) (c : Nat) : ((s.setTeam p t).core c).misses = (s.core c).misses := by
  by_cases h : c = p.1
  · subst h; rw [core_setTeam]
  · rw [core_setTeam_other s t h]
@[simp] theorem setTeam_core_half (s : State) (p : Nat × Nat) (t : Team) (c : Nat) : ((s.setTeam p t).core c).half = (s.core c).half := by
  by_cases h : c = p.1
  · subst h; rw [core_setTeam]
  · rw [core_setTeam_other s t h]
@[simp] theorem setTeam_core_tlb (s : State) (p : Nat × Nat) (t : Team) (c : Nat) : ((s.setTeam p t).core c).tlb = (s.core c).tlb := by
  by_cases h : c = p.1
  · subst h; rw [core_setTeam]
  · rw [core_setTeam_other s t h]
@[simp] theorem setTeam_core_stores (s : State) (p : Nat × Nat) (t : Team) (c : Nat) : ((s.setTeam p t).core c).stores = (s.core c).stores := by
  by_cases h : c = p.1
  · subst h; rw [core_setTeam]
  · rw [core_setTeam_other s t h]
@[simp] theorem setTeam_core_storeNo (s : State) (p : Nat × Nat) (t : Team) (c : Nat) : ((s.setTeam p t).core c).storeNo = (s.core c).storeNo := by
  by_cases h : c = p.1
  · subst h; rw [core_setTeam]
  · rw [core_setTeam_other s t h]
@[simp] theorem setTeam_core_trace (s : State) (p : Nat × Nat) (t : Team) (c : Nat) : ((s.setTeam p t).core c).trace = (s.core c).trace := by
  by_cases h : c = p.1
  · subst h; rw [core_setTeam]
  · rw [core_setTeam_other s t h]

/-! ### Fields of a team -/

@[simp] theorem Team.setM_uid (t : Team) (k : Nat) (x : LaneMask) : (t.setM k x).uid = t.uid := rfl
@[simp] theorem Team.setM_blk (t : Team) (k : Nat) (x : LaneMask) : (t.setM k x).blk = t.blk := rfl
@[simp] theorem Team.setM_place (t : Team) (k : Nat) (x : LaneMask) : (t.setM k x).place = t.place := rfl
@[simp] theorem Team.setM_role (t : Team) (k : Nat) (x : LaneMask) : (t.setM k x).role = t.role := rfl
@[simp] theorem Team.setM_lanes (t : Team) (k : Nat) (x : LaneMask) : (t.setM k x).lanes = t.lanes := rfl
@[simp] theorem Team.setM_nreg (t : Team) (k : Nat) (x : LaneMask) : (t.setM k x).nreg = t.nreg := rfl
@[simp] theorem Team.setM_prio (t : Team) (k : Nat) (x : LaneMask) : (t.setM k x).prio = t.prio := rfl
@[simp] theorem Team.setM_tindex (t : Team) (k : Nat) (x : LaneMask) : (t.setM k x).tindex = t.tindex := rfl
@[simp] theorem Team.setM_noRefs (t : Team) (k : Nat) (x : LaneMask) : (t.setM k x).noRefs = t.noRefs := rfl
@[simp] theorem Team.setM_pc (t : Team) (k : Nat) (x : LaneMask) : (t.setM k x).pc = t.pc := rfl
@[simp] theorem Team.setM_done (t : Team) (k : Nat) (x : LaneMask) : (t.setM k x).done = t.done := rfl
@[simp] theorem Team.setM_m (t : Team) (k : Nat) (x : LaneMask) : (t.setM k x).m = tabSet t.m k (x &&& t.allLanes) := rfl
@[simp] theorem Team.setM_v (t : Team) (k : Nat) (x : LaneMask) : (t.setM k x).v = t.v := rfl
@[simp] theorem Team.setM_vInit (t : Team) (k : Nat) (x : LaneMask) : (t.setM k x).vInit = t.vInit := rfl
@[simp] theorem Team.setM_bp (t : Team) (k : Nat) (x : LaneMask) : (t.setM k x).bp = t.bp := rfl
@[simp] theorem Team.setM_sreg (t : Team) (k : Nat) (x : LaneMask) : (t.setM k x).sreg = t.sreg := rfl
@[simp] theorem Team.setM_loops (t : Team) (k : Nat) (x : LaneMask) : (t.setM k x).loops = t.loops := rfl
@[simp] theorem Team.setM_loopAbove (t : Team) (k : Nat) (x : LaneMask) : (t.setM k x).loopAbove = t.loopAbove := rfl
@[simp] theorem Team.setM_rep (t : Team) (k : Nat) (x : LaneMask) : (t.setM k x).rep = t.rep := rfl
@[simp] theorem Team.setM_pvalue (t : Team) (k : Nat) (x : LaneMask) : (t.setM k x).pvalue = t.pvalue := rfl
@[simp] theorem Team.setM_pwords (t : Team) (k : Nat) (x : LaneMask) : (t.setM k x).pwords = t.pwords := rfl
@[simp] theorem Team.setM_fpmode (t : Team) (k : Nat) (x : LaneMask) : (t.setM k x).fpmode = t.fpmode := rfl
@[simp] theorem Team.setM_sticky (t : Team) (k : Nat) (x : LaneMask) : (t.setM k x).sticky = t.sticky := rfl
@[simp] theorem Team.setM_issued (t : Team) (k : Nat) (x : LaneMask) : (t.setM k x).issued = t.issued := rfl
@[simp] theorem Team.setM_drained (t : Team) (k : Nat) (x : LaneMask) : (t.setM k x).drained = t.drained := rfl
@[simp] theorem Team.setM_copyIssued (t : Team) (k : Nat) (x : LaneMask) : (t.setM k x).copyIssued = t.copyIssued := rfl
@[simp] theorem Team.setM_copyDone (t : Team) (k : Nat) (x : LaneMask) : (t.setM k x).copyDone = t.copyDone := rfl
@[simp] theorem Team.setM_held (t : Team) (k : Nat) (x : LaneMask) : (t.setM k x).held = t.held := rfl
@[simp] theorem Team.setM_wait (t : Team) (k : Nat) (x : LaneMask) : (t.setM k x).wait = t.wait := rfl
@[simp] theorem Team.setM_qsGen (t : Team) (k : Nat) (x : LaneMask) : (t.setM k x).qsGen = t.qsGen := rfl
@[simp] theorem Team.setM_qsDue (t : Team) (k : Nat) (x : LaneMask) : (t.setM k x).qsDue = t.qsDue := rfl
@[simp] theorem Team.setM_extQuiet (t : Team) (k : Nat) (x : LaneMask) : (t.setM k x).extQuiet = t.extQuiet := rfl
@[simp] theorem Team.setM_stepArm (t : Team) (k : Nat) (x : LaneMask) : (t.setM k x).stepArm = t.stepArm := rfl
@[simp] theorem Team.setM_stepDue (t : Team) (k : Nat) (x : LaneMask) : (t.setM k x).stepDue = t.stepDue := rfl
@[simp] theorem Team.setM_sigstk (t : Team) (k : Nat) (x : LaneMask) : (t.setM k x).sigstk = t.sigstk := rfl
@[simp] theorem Team.setM_record (t : Team) (k : Nat) (x : LaneMask) : (t.setM k x).record = t.record := rfl
@[simp] theorem Team.setM_parked (t : Team) (k : Nat) (x : LaneMask) : (t.setM k x).parked = t.parked := rfl
@[simp] theorem Team.setM_halted (t : Team) (k : Nat) (x : LaneMask) : (t.setM k x).halted = t.halted := rfl
@[simp] theorem Team.setM_yielded (t : Team) (k : Nat) (x : LaneMask) : (t.setM k x).yielded = t.yielded := rfl
@[simp] theorem Team.setM_yieldFor (t : Team) (k : Nat) (x : LaneMask) : (t.setM k x).yieldFor = t.yieldFor := rfl
@[simp] theorem Team.setM_yieldCycles (t : Team) (k : Nat) (x : LaneMask) : (t.setM k x).yieldCycles = t.yieldCycles := rfl
@[simp] theorem Team.setM_brkHalt (t : Team) (k : Nat) (x : LaneMask) : (t.setM k x).brkHalt = t.brkHalt := rfl
@[simp] theorem Team.setM_obs (t : Team) (k : Nat) (x : LaneMask) : (t.setM k x).obs = t.obs := rfl
@[simp] theorem Team.setM_lost (t : Team) (k : Nat) (x : LaneMask) : (t.setM k x).lost = t.lost := rfl
@[simp] theorem Team.setM_datapath (t : Team) (k : Nat) (x : LaneMask) : (t.setM k x).datapath = t.datapath := rfl
@[simp] theorem Team.setM_cyclesReady (t : Team) (k : Nat) (x : LaneMask) : (t.setM k x).cyclesReady = t.cyclesReady := rfl
@[simp] theorem Team.setM_boost (t : Team) (k : Nat) (x : LaneMask) : (t.setM k x).boost = t.boost := rfl
@[simp] theorem Team.setM_rfList (t : Team) (k : Nat) (x : LaneMask) : (t.setM k x).rfList = t.rfList := rfl
@[simp] theorem Team.setM_vpoison (t : Team) (k : Nat) (x : LaneMask) : (t.setM k x).vpoison = t.vpoison := rfl
@[simp] theorem Team.setM_hold (t : Team) (k : Nat) (x : LaneMask) : (t.setM k x).hold = t.hold := rfl
@[simp] theorem Team.setM_heldSince (t : Team) (k : Nat) (x : LaneMask) : (t.setM k x).heldSince = t.heldSince := rfl
@[simp] theorem Team.setM_markers (t : Team) (k : Nat) (x : LaneMask) : (t.setM k x).markers = t.markers := rfl
@[simp] theorem Team.setM_marked (t : Team) (k : Nat) (x : LaneMask) : (t.setM k x).marked = t.marked := rfl
@[simp] theorem Team.setM_trapped (t : Team) (k : Nat) (x : LaneMask) : (t.setM k x).trapped = t.trapped := rfl

@[simp] theorem Team.setV_uid (t : Team) (r l : Nat) (x : W32) : (t.setV r l x).uid = t.uid := rfl
@[simp] theorem Team.setV_blk (t : Team) (r l : Nat) (x : W32) : (t.setV r l x).blk = t.blk := rfl
@[simp] theorem Team.setV_place (t : Team) (r l : Nat) (x : W32) : (t.setV r l x).place = t.place := rfl
@[simp] theorem Team.setV_role (t : Team) (r l : Nat) (x : W32) : (t.setV r l x).role = t.role := rfl
@[simp] theorem Team.setV_lanes (t : Team) (r l : Nat) (x : W32) : (t.setV r l x).lanes = t.lanes := rfl
@[simp] theorem Team.setV_nreg (t : Team) (r l : Nat) (x : W32) : (t.setV r l x).nreg = t.nreg := rfl
@[simp] theorem Team.setV_prio (t : Team) (r l : Nat) (x : W32) : (t.setV r l x).prio = t.prio := rfl
@[simp] theorem Team.setV_tindex (t : Team) (r l : Nat) (x : W32) : (t.setV r l x).tindex = t.tindex := rfl
@[simp] theorem Team.setV_noRefs (t : Team) (r l : Nat) (x : W32) : (t.setV r l x).noRefs = t.noRefs := rfl
@[simp] theorem Team.setV_pc (t : Team) (r l : Nat) (x : W32) : (t.setV r l x).pc = t.pc := rfl
@[simp] theorem Team.setV_done (t : Team) (r l : Nat) (x : W32) : (t.setV r l x).done = t.done := rfl
@[simp] theorem Team.setV_m (t : Team) (r l : Nat) (x : W32) : (t.setV r l x).m = t.m := rfl
@[simp] theorem Team.setV_v (t : Team) (r l : Nat) (x : W32) : (t.setV r l x).v = tabSet t.v r (tabSet (tabGet [] t.v r) l x) := rfl
@[simp] theorem Team.setV_vInit (t : Team) (r l : Nat) (x : W32) : (t.setV r l x).vInit = t.vInit := rfl
@[simp] theorem Team.setV_bp (t : Team) (r l : Nat) (x : W32) : (t.setV r l x).bp = t.bp := rfl
@[simp] theorem Team.setV_sreg (t : Team) (r l : Nat) (x : W32) : (t.setV r l x).sreg = t.sreg := rfl
@[simp] theorem Team.setV_loops (t : Team) (r l : Nat) (x : W32) : (t.setV r l x).loops = t.loops := rfl
@[simp] theorem Team.setV_loopAbove (t : Team) (r l : Nat) (x : W32) : (t.setV r l x).loopAbove = t.loopAbove := rfl
@[simp] theorem Team.setV_rep (t : Team) (r l : Nat) (x : W32) : (t.setV r l x).rep = t.rep := rfl
@[simp] theorem Team.setV_pvalue (t : Team) (r l : Nat) (x : W32) : (t.setV r l x).pvalue = t.pvalue := rfl
@[simp] theorem Team.setV_pwords (t : Team) (r l : Nat) (x : W32) : (t.setV r l x).pwords = t.pwords := rfl
@[simp] theorem Team.setV_fpmode (t : Team) (r l : Nat) (x : W32) : (t.setV r l x).fpmode = t.fpmode := rfl
@[simp] theorem Team.setV_sticky (t : Team) (r l : Nat) (x : W32) : (t.setV r l x).sticky = t.sticky := rfl
@[simp] theorem Team.setV_issued (t : Team) (r l : Nat) (x : W32) : (t.setV r l x).issued = t.issued := rfl
@[simp] theorem Team.setV_drained (t : Team) (r l : Nat) (x : W32) : (t.setV r l x).drained = t.drained := rfl
@[simp] theorem Team.setV_copyIssued (t : Team) (r l : Nat) (x : W32) : (t.setV r l x).copyIssued = t.copyIssued := rfl
@[simp] theorem Team.setV_copyDone (t : Team) (r l : Nat) (x : W32) : (t.setV r l x).copyDone = t.copyDone := rfl
@[simp] theorem Team.setV_held (t : Team) (r l : Nat) (x : W32) : (t.setV r l x).held = t.held := rfl
@[simp] theorem Team.setV_wait (t : Team) (r l : Nat) (x : W32) : (t.setV r l x).wait = t.wait := rfl
@[simp] theorem Team.setV_qsGen (t : Team) (r l : Nat) (x : W32) : (t.setV r l x).qsGen = t.qsGen := rfl
@[simp] theorem Team.setV_qsDue (t : Team) (r l : Nat) (x : W32) : (t.setV r l x).qsDue = t.qsDue := rfl
@[simp] theorem Team.setV_extQuiet (t : Team) (r l : Nat) (x : W32) : (t.setV r l x).extQuiet = t.extQuiet := rfl
@[simp] theorem Team.setV_stepArm (t : Team) (r l : Nat) (x : W32) : (t.setV r l x).stepArm = t.stepArm := rfl
@[simp] theorem Team.setV_stepDue (t : Team) (r l : Nat) (x : W32) : (t.setV r l x).stepDue = t.stepDue := rfl
@[simp] theorem Team.setV_sigstk (t : Team) (r l : Nat) (x : W32) : (t.setV r l x).sigstk = t.sigstk := rfl
@[simp] theorem Team.setV_record (t : Team) (r l : Nat) (x : W32) : (t.setV r l x).record = t.record := rfl
@[simp] theorem Team.setV_parked (t : Team) (r l : Nat) (x : W32) : (t.setV r l x).parked = t.parked := rfl
@[simp] theorem Team.setV_halted (t : Team) (r l : Nat) (x : W32) : (t.setV r l x).halted = t.halted := rfl
@[simp] theorem Team.setV_yielded (t : Team) (r l : Nat) (x : W32) : (t.setV r l x).yielded = t.yielded := rfl
@[simp] theorem Team.setV_yieldFor (t : Team) (r l : Nat) (x : W32) : (t.setV r l x).yieldFor = t.yieldFor := rfl
@[simp] theorem Team.setV_yieldCycles (t : Team) (r l : Nat) (x : W32) : (t.setV r l x).yieldCycles = t.yieldCycles := rfl
@[simp] theorem Team.setV_brkHalt (t : Team) (r l : Nat) (x : W32) : (t.setV r l x).brkHalt = t.brkHalt := rfl
@[simp] theorem Team.setV_obs (t : Team) (r l : Nat) (x : W32) : (t.setV r l x).obs = t.obs := rfl
@[simp] theorem Team.setV_lost (t : Team) (r l : Nat) (x : W32) : (t.setV r l x).lost = t.lost := rfl
@[simp] theorem Team.setV_datapath (t : Team) (r l : Nat) (x : W32) : (t.setV r l x).datapath = t.datapath := rfl
@[simp] theorem Team.setV_cyclesReady (t : Team) (r l : Nat) (x : W32) : (t.setV r l x).cyclesReady = t.cyclesReady := rfl
@[simp] theorem Team.setV_boost (t : Team) (r l : Nat) (x : W32) : (t.setV r l x).boost = t.boost := rfl
@[simp] theorem Team.setV_rfList (t : Team) (r l : Nat) (x : W32) : (t.setV r l x).rfList = t.rfList := rfl
@[simp] theorem Team.setV_vpoison (t : Team) (r l : Nat) (x : W32) : (t.setV r l x).vpoison = t.vpoison.filter (fun e => e != (r, l)) := rfl
@[simp] theorem Team.setV_hold (t : Team) (r l : Nat) (x : W32) : (t.setV r l x).hold = t.hold := rfl
@[simp] theorem Team.setV_heldSince (t : Team) (r l : Nat) (x : W32) : (t.setV r l x).heldSince = t.heldSince := rfl
@[simp] theorem Team.setV_markers (t : Team) (r l : Nat) (x : W32) : (t.setV r l x).markers = t.markers := rfl
@[simp] theorem Team.setV_marked (t : Team) (r l : Nat) (x : W32) : (t.setV r l x).marked = t.marked := rfl
@[simp] theorem Team.setV_trapped (t : Team) (r l : Nat) (x : W32) : (t.setV r l x).trapped = t.trapped := rfl

@[simp] theorem Team.shiftLatch_uid (t : Team) (l : Nat) (x : W32) : (t.shiftLatch l x).uid = t.uid := rfl
@[simp] theorem Team.shiftLatch_blk (t : Team) (l : Nat) (x : W32) : (t.shiftLatch l x).blk = t.blk := rfl
@[simp] theorem Team.shiftLatch_place (t : Team) (l : Nat) (x : W32) : (t.shiftLatch l x).place = t.place := rfl
@[simp] theorem Team.shiftLatch_role (t : Team) (l : Nat) (x : W32) : (t.shiftLatch l x).role = t.role := rfl
@[simp] theorem Team.shiftLatch_lanes (t : Team) (l : Nat) (x : W32) : (t.shiftLatch l x).lanes = t.lanes := rfl
@[simp] theorem Team.shiftLatch_nreg (t : Team) (l : Nat) (x : W32) : (t.shiftLatch l x).nreg = t.nreg := rfl
@[simp] theorem Team.shiftLatch_prio (t : Team) (l : Nat) (x : W32) : (t.shiftLatch l x).prio = t.prio := rfl
@[simp] theorem Team.shiftLatch_tindex (t : Team) (l : Nat) (x : W32) : (t.shiftLatch l x).tindex = t.tindex := rfl
@[simp] theorem Team.shiftLatch_noRefs (t : Team) (l : Nat) (x : W32) : (t.shiftLatch l x).noRefs = t.noRefs := rfl
@[simp] theorem Team.shiftLatch_pc (t : Team) (l : Nat) (x : W32) : (t.shiftLatch l x).pc = t.pc := rfl
@[simp] theorem Team.shiftLatch_done (t : Team) (l : Nat) (x : W32) : (t.shiftLatch l x).done = t.done := rfl
@[simp] theorem Team.shiftLatch_m (t : Team) (l : Nat) (x : W32) : (t.shiftLatch l x).m = t.m := rfl
@[simp] theorem Team.shiftLatch_v (t : Team) (l : Nat) (x : W32) : (t.shiftLatch l x).v = t.v := rfl
@[simp] theorem Team.shiftLatch_vInit (t : Team) (l : Nat) (x : W32) : (t.shiftLatch l x).vInit = t.vInit := rfl
@[simp] theorem Team.shiftLatch_bp (t : Team) (l : Nat) (x : W32) : (t.shiftLatch l x).bp = tabSet t.bp l ⟨x, (t.latches l).b0, (t.latches l).b1, (t.latches l).b2⟩ := rfl
@[simp] theorem Team.shiftLatch_sreg (t : Team) (l : Nat) (x : W32) : (t.shiftLatch l x).sreg = t.sreg := rfl
@[simp] theorem Team.shiftLatch_loops (t : Team) (l : Nat) (x : W32) : (t.shiftLatch l x).loops = t.loops := rfl
@[simp] theorem Team.shiftLatch_loopAbove (t : Team) (l : Nat) (x : W32) : (t.shiftLatch l x).loopAbove = t.loopAbove := rfl
@[simp] theorem Team.shiftLatch_rep (t : Team) (l : Nat) (x : W32) : (t.shiftLatch l x).rep = t.rep := rfl
@[simp] theorem Team.shiftLatch_pvalue (t : Team) (l : Nat) (x : W32) : (t.shiftLatch l x).pvalue = t.pvalue := rfl
@[simp] theorem Team.shiftLatch_pwords (t : Team) (l : Nat) (x : W32) : (t.shiftLatch l x).pwords = t.pwords := rfl
@[simp] theorem Team.shiftLatch_fpmode (t : Team) (l : Nat) (x : W32) : (t.shiftLatch l x).fpmode = t.fpmode := rfl
@[simp] theorem Team.shiftLatch_sticky (t : Team) (l : Nat) (x : W32) : (t.shiftLatch l x).sticky = t.sticky := rfl
@[simp] theorem Team.shiftLatch_issued (t : Team) (l : Nat) (x : W32) : (t.shiftLatch l x).issued = t.issued := rfl
@[simp] theorem Team.shiftLatch_drained (t : Team) (l : Nat) (x : W32) : (t.shiftLatch l x).drained = t.drained := rfl
@[simp] theorem Team.shiftLatch_copyIssued (t : Team) (l : Nat) (x : W32) : (t.shiftLatch l x).copyIssued = t.copyIssued := rfl
@[simp] theorem Team.shiftLatch_copyDone (t : Team) (l : Nat) (x : W32) : (t.shiftLatch l x).copyDone = t.copyDone := rfl
@[simp] theorem Team.shiftLatch_held (t : Team) (l : Nat) (x : W32) : (t.shiftLatch l x).held = t.held := rfl
@[simp] theorem Team.shiftLatch_wait (t : Team) (l : Nat) (x : W32) : (t.shiftLatch l x).wait = t.wait := rfl
@[simp] theorem Team.shiftLatch_qsGen (t : Team) (l : Nat) (x : W32) : (t.shiftLatch l x).qsGen = t.qsGen := rfl
@[simp] theorem Team.shiftLatch_qsDue (t : Team) (l : Nat) (x : W32) : (t.shiftLatch l x).qsDue = t.qsDue := rfl
@[simp] theorem Team.shiftLatch_extQuiet (t : Team) (l : Nat) (x : W32) : (t.shiftLatch l x).extQuiet = t.extQuiet := rfl
@[simp] theorem Team.shiftLatch_stepArm (t : Team) (l : Nat) (x : W32) : (t.shiftLatch l x).stepArm = t.stepArm := rfl
@[simp] theorem Team.shiftLatch_stepDue (t : Team) (l : Nat) (x : W32) : (t.shiftLatch l x).stepDue = t.stepDue := rfl
@[simp] theorem Team.shiftLatch_sigstk (t : Team) (l : Nat) (x : W32) : (t.shiftLatch l x).sigstk = t.sigstk := rfl
@[simp] theorem Team.shiftLatch_record (t : Team) (l : Nat) (x : W32) : (t.shiftLatch l x).record = t.record := rfl
@[simp] theorem Team.shiftLatch_parked (t : Team) (l : Nat) (x : W32) : (t.shiftLatch l x).parked = t.parked := rfl
@[simp] theorem Team.shiftLatch_halted (t : Team) (l : Nat) (x : W32) : (t.shiftLatch l x).halted = t.halted := rfl
@[simp] theorem Team.shiftLatch_yielded (t : Team) (l : Nat) (x : W32) : (t.shiftLatch l x).yielded = t.yielded := rfl
@[simp] theorem Team.shiftLatch_yieldFor (t : Team) (l : Nat) (x : W32) : (t.shiftLatch l x).yieldFor = t.yieldFor := rfl
@[simp] theorem Team.shiftLatch_yieldCycles (t : Team) (l : Nat) (x : W32) : (t.shiftLatch l x).yieldCycles = t.yieldCycles := rfl
@[simp] theorem Team.shiftLatch_brkHalt (t : Team) (l : Nat) (x : W32) : (t.shiftLatch l x).brkHalt = t.brkHalt := rfl
@[simp] theorem Team.shiftLatch_obs (t : Team) (l : Nat) (x : W32) : (t.shiftLatch l x).obs = t.obs := rfl
@[simp] theorem Team.shiftLatch_lost (t : Team) (l : Nat) (x : W32) : (t.shiftLatch l x).lost = t.lost := rfl
@[simp] theorem Team.shiftLatch_datapath (t : Team) (l : Nat) (x : W32) : (t.shiftLatch l x).datapath = t.datapath := rfl
@[simp] theorem Team.shiftLatch_cyclesReady (t : Team) (l : Nat) (x : W32) : (t.shiftLatch l x).cyclesReady = t.cyclesReady := rfl
@[simp] theorem Team.shiftLatch_boost (t : Team) (l : Nat) (x : W32) : (t.shiftLatch l x).boost = t.boost := rfl
@[simp] theorem Team.shiftLatch_rfList (t : Team) (l : Nat) (x : W32) : (t.shiftLatch l x).rfList = t.rfList := rfl
@[simp] theorem Team.shiftLatch_vpoison (t : Team) (l : Nat) (x : W32) : (t.shiftLatch l x).vpoison = t.vpoison := rfl
@[simp] theorem Team.shiftLatch_hold (t : Team) (l : Nat) (x : W32) : (t.shiftLatch l x).hold = t.hold := rfl
@[simp] theorem Team.shiftLatch_heldSince (t : Team) (l : Nat) (x : W32) : (t.shiftLatch l x).heldSince = t.heldSince := rfl
@[simp] theorem Team.shiftLatch_markers (t : Team) (l : Nat) (x : W32) : (t.shiftLatch l x).markers = t.markers := rfl
@[simp] theorem Team.shiftLatch_marked (t : Team) (l : Nat) (x : W32) : (t.shiftLatch l x).marked = t.marked := rfl
@[simp] theorem Team.shiftLatch_trapped (t : Team) (l : Nat) (x : W32) : (t.shiftLatch l x).trapped = t.trapped := rfl

@[simp] theorem Team.setLatch_uid (t : Team) (b l : Nat) (x : W32) : (t.setLatch b l x).uid = t.uid := rfl
@[simp] theorem Team.setLatch_blk (t : Team) (b l : Nat) (x : W32) : (t.setLatch b l x).blk = t.blk := rfl
@[simp] theorem Team.setLatch_place (t : Team) (b l : Nat) (x : W32) : (t.setLatch b l x).place = t.place := rfl
@[simp] theorem Team.setLatch_role (t : Team) (b l : Nat) (x : W32) : (t.setLatch b l x).role = t.role := rfl
@[simp] theorem Team.setLatch_lanes (t : Team) (b l : Nat) (x : W32) : (t.setLatch b l x).lanes = t.lanes := rfl
@[simp] theorem Team.setLatch_nreg (t : Team) (b l : Nat) (x : W32) : (t.setLatch b l x).nreg = t.nreg := rfl
@[simp] theorem Team.setLatch_prio (t : Team) (b l : Nat) (x : W32) : (t.setLatch b l x).prio = t.prio := rfl
@[simp] theorem Team.setLatch_tindex (t : Team) (b l : Nat) (x : W32) : (t.setLatch b l x).tindex = t.tindex := rfl
@[simp] theorem Team.setLatch_noRefs (t : Team) (b l : Nat) (x : W32) : (t.setLatch b l x).noRefs = t.noRefs := rfl
@[simp] theorem Team.setLatch_pc (t : Team) (b l : Nat) (x : W32) : (t.setLatch b l x).pc = t.pc := rfl
@[simp] theorem Team.setLatch_done (t : Team) (b l : Nat) (x : W32) : (t.setLatch b l x).done = t.done := rfl
@[simp] theorem Team.setLatch_m (t : Team) (b l : Nat) (x : W32) : (t.setLatch b l x).m = t.m := rfl
@[simp] theorem Team.setLatch_v (t : Team) (b l : Nat) (x : W32) : (t.setLatch b l x).v = t.v := rfl
@[simp] theorem Team.setLatch_vInit (t : Team) (b l : Nat) (x : W32) : (t.setLatch b l x).vInit = t.vInit := rfl
@[simp] theorem Team.setLatch_sreg (t : Team) (b l : Nat) (x : W32) : (t.setLatch b l x).sreg = t.sreg := rfl
@[simp] theorem Team.setLatch_loops (t : Team) (b l : Nat) (x : W32) : (t.setLatch b l x).loops = t.loops := rfl
@[simp] theorem Team.setLatch_loopAbove (t : Team) (b l : Nat) (x : W32) : (t.setLatch b l x).loopAbove = t.loopAbove := rfl
@[simp] theorem Team.setLatch_rep (t : Team) (b l : Nat) (x : W32) : (t.setLatch b l x).rep = t.rep := rfl
@[simp] theorem Team.setLatch_pvalue (t : Team) (b l : Nat) (x : W32) : (t.setLatch b l x).pvalue = t.pvalue := rfl
@[simp] theorem Team.setLatch_pwords (t : Team) (b l : Nat) (x : W32) : (t.setLatch b l x).pwords = t.pwords := rfl
@[simp] theorem Team.setLatch_fpmode (t : Team) (b l : Nat) (x : W32) : (t.setLatch b l x).fpmode = t.fpmode := rfl
@[simp] theorem Team.setLatch_sticky (t : Team) (b l : Nat) (x : W32) : (t.setLatch b l x).sticky = t.sticky := rfl
@[simp] theorem Team.setLatch_issued (t : Team) (b l : Nat) (x : W32) : (t.setLatch b l x).issued = t.issued := rfl
@[simp] theorem Team.setLatch_drained (t : Team) (b l : Nat) (x : W32) : (t.setLatch b l x).drained = t.drained := rfl
@[simp] theorem Team.setLatch_copyIssued (t : Team) (b l : Nat) (x : W32) : (t.setLatch b l x).copyIssued = t.copyIssued := rfl
@[simp] theorem Team.setLatch_copyDone (t : Team) (b l : Nat) (x : W32) : (t.setLatch b l x).copyDone = t.copyDone := rfl
@[simp] theorem Team.setLatch_held (t : Team) (b l : Nat) (x : W32) : (t.setLatch b l x).held = t.held := rfl
@[simp] theorem Team.setLatch_wait (t : Team) (b l : Nat) (x : W32) : (t.setLatch b l x).wait = t.wait := rfl
@[simp] theorem Team.setLatch_qsGen (t : Team) (b l : Nat) (x : W32) : (t.setLatch b l x).qsGen = t.qsGen := rfl
@[simp] theorem Team.setLatch_qsDue (t : Team) (b l : Nat) (x : W32) : (t.setLatch b l x).qsDue = t.qsDue := rfl
@[simp] theorem Team.setLatch_extQuiet (t : Team) (b l : Nat) (x : W32) : (t.setLatch b l x).extQuiet = t.extQuiet := rfl
@[simp] theorem Team.setLatch_stepArm (t : Team) (b l : Nat) (x : W32) : (t.setLatch b l x).stepArm = t.stepArm := rfl
@[simp] theorem Team.setLatch_stepDue (t : Team) (b l : Nat) (x : W32) : (t.setLatch b l x).stepDue = t.stepDue := rfl
@[simp] theorem Team.setLatch_sigstk (t : Team) (b l : Nat) (x : W32) : (t.setLatch b l x).sigstk = t.sigstk := rfl
@[simp] theorem Team.setLatch_record (t : Team) (b l : Nat) (x : W32) : (t.setLatch b l x).record = t.record := rfl
@[simp] theorem Team.setLatch_parked (t : Team) (b l : Nat) (x : W32) : (t.setLatch b l x).parked = t.parked := rfl
@[simp] theorem Team.setLatch_halted (t : Team) (b l : Nat) (x : W32) : (t.setLatch b l x).halted = t.halted := rfl
@[simp] theorem Team.setLatch_yielded (t : Team) (b l : Nat) (x : W32) : (t.setLatch b l x).yielded = t.yielded := rfl
@[simp] theorem Team.setLatch_yieldFor (t : Team) (b l : Nat) (x : W32) : (t.setLatch b l x).yieldFor = t.yieldFor := rfl
@[simp] theorem Team.setLatch_yieldCycles (t : Team) (b l : Nat) (x : W32) : (t.setLatch b l x).yieldCycles = t.yieldCycles := rfl
@[simp] theorem Team.setLatch_brkHalt (t : Team) (b l : Nat) (x : W32) : (t.setLatch b l x).brkHalt = t.brkHalt := rfl
@[simp] theorem Team.setLatch_obs (t : Team) (b l : Nat) (x : W32) : (t.setLatch b l x).obs = t.obs := rfl
@[simp] theorem Team.setLatch_lost (t : Team) (b l : Nat) (x : W32) : (t.setLatch b l x).lost = t.lost := rfl
@[simp] theorem Team.setLatch_datapath (t : Team) (b l : Nat) (x : W32) : (t.setLatch b l x).datapath = t.datapath := rfl
@[simp] theorem Team.setLatch_cyclesReady (t : Team) (b l : Nat) (x : W32) : (t.setLatch b l x).cyclesReady = t.cyclesReady := rfl
@[simp] theorem Team.setLatch_boost (t : Team) (b l : Nat) (x : W32) : (t.setLatch b l x).boost = t.boost := rfl
@[simp] theorem Team.setLatch_rfList (t : Team) (b l : Nat) (x : W32) : (t.setLatch b l x).rfList = t.rfList := rfl
@[simp] theorem Team.setLatch_vpoison (t : Team) (b l : Nat) (x : W32) : (t.setLatch b l x).vpoison = t.vpoison := rfl
@[simp] theorem Team.setLatch_hold (t : Team) (b l : Nat) (x : W32) : (t.setLatch b l x).hold = t.hold := rfl
@[simp] theorem Team.setLatch_heldSince (t : Team) (b l : Nat) (x : W32) : (t.setLatch b l x).heldSince = t.heldSince := rfl
@[simp] theorem Team.setLatch_markers (t : Team) (b l : Nat) (x : W32) : (t.setLatch b l x).markers = t.markers := rfl
@[simp] theorem Team.setLatch_marked (t : Team) (b l : Nat) (x : W32) : (t.setLatch b l x).marked = t.marked := rfl
@[simp] theorem Team.setLatch_trapped (t : Team) (b l : Nat) (x : W32) : (t.setLatch b l x).trapped = t.trapped := rfl

@[simp] theorem Team.markDone_uid (t : Team) (l : Nat) : (t.markDone l).uid = t.uid := rfl
@[simp] theorem Team.markDone_blk (t : Team) (l : Nat) : (t.markDone l).blk = t.blk := rfl
@[simp] theorem Team.markDone_place (t : Team) (l : Nat) : (t.markDone l).place = t.place := rfl
@[simp] theorem Team.markDone_role (t : Team) (l : Nat) : (t.markDone l).role = t.role := rfl
@[simp] theorem Team.markDone_lanes (t : Team) (l : Nat) : (t.markDone l).lanes = t.lanes := rfl
@[simp] theorem Team.markDone_nreg (t : Team) (l : Nat) : (t.markDone l).nreg = t.nreg := rfl
@[simp] theorem Team.markDone_prio (t : Team) (l : Nat) : (t.markDone l).prio = t.prio := rfl
@[simp] theorem Team.markDone_tindex (t : Team) (l : Nat) : (t.markDone l).tindex = t.tindex := rfl
@[simp] theorem Team.markDone_noRefs (t : Team) (l : Nat) : (t.markDone l).noRefs = t.noRefs := rfl
@[simp] theorem Team.markDone_pc (t : Team) (l : Nat) : (t.markDone l).pc = t.pc := rfl
@[simp] theorem Team.markDone_done (t : Team) (l : Nat) : (t.markDone l).done = t.done ||| BitVec.ofNat 1024 (2 ^ l) := rfl
@[simp] theorem Team.markDone_m (t : Team) (l : Nat) : (t.markDone l).m = t.m := rfl
@[simp] theorem Team.markDone_v (t : Team) (l : Nat) : (t.markDone l).v = t.v := rfl
@[simp] theorem Team.markDone_vInit (t : Team) (l : Nat) : (t.markDone l).vInit = t.vInit := rfl
@[simp] theorem Team.markDone_bp (t : Team) (l : Nat) : (t.markDone l).bp = t.bp := rfl
@[simp] theorem Team.markDone_sreg (t : Team) (l : Nat) : (t.markDone l).sreg = t.sreg := rfl
@[simp] theorem Team.markDone_loops (t : Team) (l : Nat) : (t.markDone l).loops = t.loops := rfl
@[simp] theorem Team.markDone_loopAbove (t : Team) (l : Nat) : (t.markDone l).loopAbove = t.loopAbove := rfl
@[simp] theorem Team.markDone_rep (t : Team) (l : Nat) : (t.markDone l).rep = t.rep := rfl
@[simp] theorem Team.markDone_pvalue (t : Team) (l : Nat) : (t.markDone l).pvalue = t.pvalue := rfl
@[simp] theorem Team.markDone_pwords (t : Team) (l : Nat) : (t.markDone l).pwords = t.pwords := rfl
@[simp] theorem Team.markDone_fpmode (t : Team) (l : Nat) : (t.markDone l).fpmode = t.fpmode := rfl
@[simp] theorem Team.markDone_sticky (t : Team) (l : Nat) : (t.markDone l).sticky = t.sticky := rfl
@[simp] theorem Team.markDone_issued (t : Team) (l : Nat) : (t.markDone l).issued = t.issued := rfl
@[simp] theorem Team.markDone_drained (t : Team) (l : Nat) : (t.markDone l).drained = t.drained := rfl
@[simp] theorem Team.markDone_copyIssued (t : Team) (l : Nat) : (t.markDone l).copyIssued = t.copyIssued := rfl
@[simp] theorem Team.markDone_copyDone (t : Team) (l : Nat) : (t.markDone l).copyDone = t.copyDone := rfl
@[simp] theorem Team.markDone_held (t : Team) (l : Nat) : (t.markDone l).held = t.held := rfl
@[simp] theorem Team.markDone_wait (t : Team) (l : Nat) : (t.markDone l).wait = t.wait := rfl
@[simp] theorem Team.markDone_qsGen (t : Team) (l : Nat) : (t.markDone l).qsGen = t.qsGen := rfl
@[simp] theorem Team.markDone_qsDue (t : Team) (l : Nat) : (t.markDone l).qsDue = t.qsDue := rfl
@[simp] theorem Team.markDone_extQuiet (t : Team) (l : Nat) : (t.markDone l).extQuiet = t.extQuiet := rfl
@[simp] theorem Team.markDone_stepArm (t : Team) (l : Nat) : (t.markDone l).stepArm = t.stepArm := rfl
@[simp] theorem Team.markDone_stepDue (t : Team) (l : Nat) : (t.markDone l).stepDue = t.stepDue := rfl
@[simp] theorem Team.markDone_sigstk (t : Team) (l : Nat) : (t.markDone l).sigstk = t.sigstk := rfl
@[simp] theorem Team.markDone_record (t : Team) (l : Nat) : (t.markDone l).record = t.record := rfl
@[simp] theorem Team.markDone_parked (t : Team) (l : Nat) : (t.markDone l).parked = t.parked := rfl
@[simp] theorem Team.markDone_halted (t : Team) (l : Nat) : (t.markDone l).halted = t.halted := rfl
@[simp] theorem Team.markDone_yielded (t : Team) (l : Nat) : (t.markDone l).yielded = t.yielded := rfl
@[simp] theorem Team.markDone_yieldFor (t : Team) (l : Nat) : (t.markDone l).yieldFor = t.yieldFor := rfl
@[simp] theorem Team.markDone_yieldCycles (t : Team) (l : Nat) : (t.markDone l).yieldCycles = t.yieldCycles := rfl
@[simp] theorem Team.markDone_brkHalt (t : Team) (l : Nat) : (t.markDone l).brkHalt = t.brkHalt := rfl
@[simp] theorem Team.markDone_obs (t : Team) (l : Nat) : (t.markDone l).obs = t.obs := rfl
@[simp] theorem Team.markDone_lost (t : Team) (l : Nat) : (t.markDone l).lost = t.lost := rfl
@[simp] theorem Team.markDone_datapath (t : Team) (l : Nat) : (t.markDone l).datapath = t.datapath := rfl
@[simp] theorem Team.markDone_cyclesReady (t : Team) (l : Nat) : (t.markDone l).cyclesReady = t.cyclesReady := rfl
@[simp] theorem Team.markDone_boost (t : Team) (l : Nat) : (t.markDone l).boost = t.boost := rfl
@[simp] theorem Team.markDone_rfList (t : Team) (l : Nat) : (t.markDone l).rfList = t.rfList := rfl
@[simp] theorem Team.markDone_vpoison (t : Team) (l : Nat) : (t.markDone l).vpoison = t.vpoison := rfl
@[simp] theorem Team.markDone_hold (t : Team) (l : Nat) : (t.markDone l).hold = t.hold := rfl
@[simp] theorem Team.markDone_heldSince (t : Team) (l : Nat) : (t.markDone l).heldSince = t.heldSince := rfl
@[simp] theorem Team.markDone_markers (t : Team) (l : Nat) : (t.markDone l).markers = t.markers := rfl
@[simp] theorem Team.markDone_marked (t : Team) (l : Nat) : (t.markDone l).marked = t.marked := rfl
@[simp] theorem Team.markDone_trapped (t : Team) (l : Nat) : (t.markDone l).trapped = t.trapped := rfl

@[simp] theorem Team.setS_uid (t : Team) (k : Nat) (x : W64) : (t.setS k x).uid = t.uid := by unfold Team.setS; split <;> rfl
@[simp] theorem Team.setS_blk (t : Team) (k : Nat) (x : W64) : (t.setS k x).blk = t.blk := by unfold Team.setS; split <;> rfl
@[simp] theorem Team.setS_place (t : Team) (k : Nat) (x : W64) : (t.setS k x).place = t.place := by unfold Team.setS; split <;> rfl
@[simp] theorem Team.setS_role (t : Team) (k : Nat) (x : W64) : (t.setS k x).role = t.role := by unfold Team.setS; split <;> rfl
@[simp] theorem Team.setS_lanes (t : Team) (k : Nat) (x : W64) : (t.setS k x).lanes = t.lanes := by unfold Team.setS; split <;> rfl
@[simp] theorem Team.setS_nreg (t : Team) (k : Nat) (x : W64) : (t.setS k x).nreg = t.nreg := by unfold Team.setS; split <;> rfl
@[simp] theorem Team.setS_prio (t : Team) (k : Nat) (x : W64) : (t.setS k x).prio = t.prio := by unfold Team.setS; split <;> rfl
@[simp] theorem Team.setS_tindex (t : Team) (k : Nat) (x : W64) : (t.setS k x).tindex = t.tindex := by unfold Team.setS; split <;> rfl
@[simp] theorem Team.setS_noRefs (t : Team) (k : Nat) (x : W64) : (t.setS k x).noRefs = t.noRefs := by unfold Team.setS; split <;> rfl
@[simp] theorem Team.setS_pc (t : Team) (k : Nat) (x : W64) : (t.setS k x).pc = t.pc := by unfold Team.setS; split <;> rfl
@[simp] theorem Team.setS_done (t : Team) (k : Nat) (x : W64) : (t.setS k x).done = t.done := by unfold Team.setS; split <;> rfl
@[simp] theorem Team.setS_m (t : Team) (k : Nat) (x : W64) : (t.setS k x).m = t.m := by unfold Team.setS; split <;> rfl
@[simp] theorem Team.setS_v (t : Team) (k : Nat) (x : W64) : (t.setS k x).v = t.v := by unfold Team.setS; split <;> rfl
@[simp] theorem Team.setS_vInit (t : Team) (k : Nat) (x : W64) : (t.setS k x).vInit = t.vInit := by unfold Team.setS; split <;> rfl
@[simp] theorem Team.setS_bp (t : Team) (k : Nat) (x : W64) : (t.setS k x).bp = t.bp := by unfold Team.setS; split <;> rfl
@[simp] theorem Team.setS_loops (t : Team) (k : Nat) (x : W64) : (t.setS k x).loops = t.loops := by unfold Team.setS; split <;> rfl
@[simp] theorem Team.setS_loopAbove (t : Team) (k : Nat) (x : W64) : (t.setS k x).loopAbove = t.loopAbove := by unfold Team.setS; split <;> rfl
@[simp] theorem Team.setS_rep (t : Team) (k : Nat) (x : W64) : (t.setS k x).rep = t.rep := by unfold Team.setS; split <;> rfl
@[simp] theorem Team.setS_pvalue (t : Team) (k : Nat) (x : W64) : (t.setS k x).pvalue = t.pvalue := by unfold Team.setS; split <;> rfl
@[simp] theorem Team.setS_pwords (t : Team) (k : Nat) (x : W64) : (t.setS k x).pwords = t.pwords := by unfold Team.setS; split <;> rfl
@[simp] theorem Team.setS_fpmode (t : Team) (k : Nat) (x : W64) : (t.setS k x).fpmode = t.fpmode := by unfold Team.setS; split <;> rfl
@[simp] theorem Team.setS_sticky (t : Team) (k : Nat) (x : W64) : (t.setS k x).sticky = t.sticky := by unfold Team.setS; split <;> rfl
@[simp] theorem Team.setS_issued (t : Team) (k : Nat) (x : W64) : (t.setS k x).issued = t.issued := by unfold Team.setS; split <;> rfl
@[simp] theorem Team.setS_drained (t : Team) (k : Nat) (x : W64) : (t.setS k x).drained = t.drained := by unfold Team.setS; split <;> rfl
@[simp] theorem Team.setS_copyIssued (t : Team) (k : Nat) (x : W64) : (t.setS k x).copyIssued = t.copyIssued := by unfold Team.setS; split <;> rfl
@[simp] theorem Team.setS_copyDone (t : Team) (k : Nat) (x : W64) : (t.setS k x).copyDone = t.copyDone := by unfold Team.setS; split <;> rfl
@[simp] theorem Team.setS_held (t : Team) (k : Nat) (x : W64) : (t.setS k x).held = t.held := by unfold Team.setS; split <;> rfl
@[simp] theorem Team.setS_wait (t : Team) (k : Nat) (x : W64) : (t.setS k x).wait = t.wait := by unfold Team.setS; split <;> rfl
@[simp] theorem Team.setS_qsGen (t : Team) (k : Nat) (x : W64) : (t.setS k x).qsGen = t.qsGen := by unfold Team.setS; split <;> rfl
@[simp] theorem Team.setS_qsDue (t : Team) (k : Nat) (x : W64) : (t.setS k x).qsDue = t.qsDue := by unfold Team.setS; split <;> rfl
@[simp] theorem Team.setS_extQuiet (t : Team) (k : Nat) (x : W64) : (t.setS k x).extQuiet = t.extQuiet := by unfold Team.setS; split <;> rfl
@[simp] theorem Team.setS_stepArm (t : Team) (k : Nat) (x : W64) : (t.setS k x).stepArm = t.stepArm := by unfold Team.setS; split <;> rfl
@[simp] theorem Team.setS_stepDue (t : Team) (k : Nat) (x : W64) : (t.setS k x).stepDue = t.stepDue := by unfold Team.setS; split <;> rfl
@[simp] theorem Team.setS_sigstk (t : Team) (k : Nat) (x : W64) : (t.setS k x).sigstk = t.sigstk := by unfold Team.setS; split <;> rfl
@[simp] theorem Team.setS_record (t : Team) (k : Nat) (x : W64) : (t.setS k x).record = t.record := by unfold Team.setS; split <;> rfl
@[simp] theorem Team.setS_parked (t : Team) (k : Nat) (x : W64) : (t.setS k x).parked = t.parked := by unfold Team.setS; split <;> rfl
@[simp] theorem Team.setS_halted (t : Team) (k : Nat) (x : W64) : (t.setS k x).halted = t.halted := by unfold Team.setS; split <;> rfl
@[simp] theorem Team.setS_yielded (t : Team) (k : Nat) (x : W64) : (t.setS k x).yielded = t.yielded := by unfold Team.setS; split <;> rfl
@[simp] theorem Team.setS_yieldFor (t : Team) (k : Nat) (x : W64) : (t.setS k x).yieldFor = t.yieldFor := by unfold Team.setS; split <;> rfl
@[simp] theorem Team.setS_yieldCycles (t : Team) (k : Nat) (x : W64) : (t.setS k x).yieldCycles = t.yieldCycles := by unfold Team.setS; split <;> rfl
@[simp] theorem Team.setS_brkHalt (t : Team) (k : Nat) (x : W64) : (t.setS k x).brkHalt = t.brkHalt := by unfold Team.setS; split <;> rfl
@[simp] theorem Team.setS_obs (t : Team) (k : Nat) (x : W64) : (t.setS k x).obs = t.obs := by unfold Team.setS; split <;> rfl
@[simp] theorem Team.setS_lost (t : Team) (k : Nat) (x : W64) : (t.setS k x).lost = t.lost := by unfold Team.setS; split <;> rfl
@[simp] theorem Team.setS_datapath (t : Team) (k : Nat) (x : W64) : (t.setS k x).datapath = t.datapath := by unfold Team.setS; split <;> rfl
@[simp] theorem Team.setS_cyclesReady (t : Team) (k : Nat) (x : W64) : (t.setS k x).cyclesReady = t.cyclesReady := by unfold Team.setS; split <;> rfl
@[simp] theorem Team.setS_boost (t : Team) (k : Nat) (x : W64) : (t.setS k x).boost = t.boost := by unfold Team.setS; split <;> rfl
@[simp] theorem Team.setS_rfList (t : Team) (k : Nat) (x : W64) : (t.setS k x).rfList = t.rfList := by unfold Team.setS; split <;> rfl
@[simp] theorem Team.setS_vpoison (t : Team) (k : Nat) (x : W64) : (t.setS k x).vpoison = t.vpoison := by unfold Team.setS; split <;> rfl
@[simp] theorem Team.setS_hold (t : Team) (k : Nat) (x : W64) : (t.setS k x).hold = t.hold := by unfold Team.setS; split <;> rfl
@[simp] theorem Team.setS_heldSince (t : Team) (k : Nat) (x : W64) : (t.setS k x).heldSince = t.heldSince := by unfold Team.setS; split <;> rfl
@[simp] theorem Team.setS_markers (t : Team) (k : Nat) (x : W64) : (t.setS k x).markers = t.markers := by unfold Team.setS; split <;> rfl
@[simp] theorem Team.setS_marked (t : Team) (k : Nat) (x : W64) : (t.setS k x).marked = t.marked := by unfold Team.setS; split <;> rfl
@[simp] theorem Team.setS_trapped (t : Team) (k : Nat) (x : W64) : (t.setS k x).trapped = t.trapped := by unfold Team.setS; split <;> rfl

/-! ### Registers -/

@[simp] theorem Team.s_zero (t : Team) : t.s 0 = 0 := rfl

theorem Team.s_setS (t : Team) (k j : Nat) (x : W64) : (t.setS k x).s j = if j = k ∧ k ≠ 0 then x else t.s j := by
  unfold Team.s Team.setS
  by_cases hk : k = 0 <;> by_cases hj : j = 0 <;> simp [hk, hj, tabGet_tabSet] <;> grind

theorem Team.mreg_setM (t : Team) (k j : Nat) (x : LaneMask) :
    (t.setM k x).mreg j = if j = k then x &&& t.allLanes else t.mreg j := tabGet_tabSet ..

@[simp] theorem Team.mreg_setS (t : Team) (k j : Nat) (x : W64) : (t.setS k x).mreg j = t.mreg j := by simp [Team.mreg]

@[simp] theorem Team.s_setM (t : Team) (k j : Nat) (x : LaneMask) : (t.setM k x).s j = t.s j := rfl

theorem Team.vreg_setV (t : Team) (r l r' l' : Nat) (x : W32) :
    (t.setV r l x).vreg r' l' = if r' = r ∧ l' = l then x else t.vreg r' l' := by
  unfold Team.vreg Team.setV Team.vUnset
  by_cases hr : r' = r <;> by_cases hl : l' = l <;> simp [hr, hl, tabGet_tabSet]

@[simp] theorem Team.vreg_setS (t : Team) (k r l : Nat) (x : W64) : (t.setS k x).vreg r l = t.vreg r l := by
  simp [Team.vreg, Team.vUnset]

@[simp] theorem Team.vreg_setM (t : Team) (k r l : Nat) (x : LaneMask) : (t.setM k x).vreg r l = t.vreg r l := rfl

theorem Team.latches_shiftLatch (t : Team) (l l' : Nat) (x : W32) :
    (t.shiftLatch l x).latches l' = if l' = l then ⟨x, t.latch 0 l, t.latch 1 l, t.latch 2 l⟩ else t.latches l' := tabGet_tabSet ..

theorem State.dbgReg_setDbg (s : State) (off off' : Nat) (x : W64) :
    (s.setDbg off x).dbgReg off' = if off' = off then x else s.dbgReg off' := tabGet_tabSet ..

end Sys2Proof.Machine
end

