-- ==== Sys2Proof/Laws/Memory.lean ====
section
/-! SUPPORT. Reading after writing memory, and that every operation on memory keeps its canonical form. -/

namespace Sys2Proof.Machine

/-! ### Reading after writing -/

theorem memGet_memSet (m : List Host.Cell) (a x : Nat) (b : Byte) : memGet (memSet m a b) x = if x = a then b else memGet m x := by
  unfold memGet memSet
  by_cases hb : b = 0
  · simp only [hb, if_true, tabGet, tabGet?_tabErase]; split <;> simp
  · simp only [hb, if_false, tabGet_tabSet]

theorem memGet_memSetAll_outside (m : List Host.Cell) (a x : Nat) (bs : List Byte) (h : x < a ∨ a + bs.length ≤ x) :
    memGet (memSetAll m a bs) x = memGet m x := by
  induction bs generalizing m a with
  | nil => rfl
  | cons b t ih =>
    simp only [List.length_cons] at h
    rw [memSetAll, ih _ _ (by omega), memGet_memSet, if_neg (by omega)]

theorem memGet_memSetAll_inside (m : List Host.Cell) (a i : Nat) (bs : List Byte) (b : Byte) (h : bs[i]? = some b) :
    memGet (memSetAll m a bs) (a + i) = b := by
  induction bs generalizing m a i with
  | nil => simp at h
  | cons c t ih =>
    cases i with
    | zero =>
      rw [memSetAll, memGet_memSetAll_outside _ _ _ _ (by omega), memGet_memSet]
      simpa using h
    | succ i =>
      have := ih (memSet m a c) (a + 1) i (by simpa using h)
      rw [memSetAll, ← this]; congr 1; omega

theorem memGet_filter (m : List Host.Cell) (p : Nat → Bool) (x : Nat) :
    memGet (m.filter (fun e => p e.1)) x = if p x then memGet m x else 0 := by
  unfold memGet tabGet
  rw [tabGet?_filter m p]; split <;> simp

/-! ### The canonical form -/

theorem memWfFrom_mono {lo lo' : Nat} {m : List Host.Cell} (h : lo' ≤ lo) (hm : memWfFrom lo m = true) : memWfFrom lo' m = true := by
  cases m with
  | nil => rfl
  | cons e t => simp [memWfFrom] at hm ⊢; exact ⟨⟨by omega, hm.1.2⟩, hm.2⟩

theorem memWfFrom_filter {lo : Nat} {m : List Host.Cell} (p : Host.Cell → Bool) (h : memWfFrom lo m = true) :
    memWfFrom lo (m.filter p) = true := by
  induction m generalizing lo with
  | nil => rfl
  | cons e t ih =>
    simp [memWfFrom] at h
    rw [List.filter_cons]
    split
    · simp [memWfFrom]; exact ⟨⟨h.1.1, h.1.2⟩, ih h.2⟩
    · exact memWfFrom_mono (by omega) (ih h.2)

theorem memWfFrom_tabSet {lo a : Nat} {m : List Host.Cell} {b : Byte} (hb : b ≠ 0) (ha : lo ≤ a) (h : memWfFrom lo m = true) :
    memWfFrom lo (tabSet m a b) = true := by
  have hb' : (b != 0) = true := by simpa using hb
  induction m generalizing lo with
  | nil => simp only [tabSet, memWfFrom, hb', decide_eq_true ha, Bool.and_true]
  | cons e t ih =>
    simp only [memWfFrom, Bool.and_eq_true, decide_eq_true_eq] at h
    simp only [tabSet]
    split
    · next he => simp only [memWfFrom, Bool.and_eq_true, decide_eq_true_eq]; exact ⟨⟨ha, hb'⟩, he ▸ h.2⟩
    · split
      · simp only [memWfFrom, Bool.and_eq_true, decide_eq_true_eq]; exact ⟨⟨ha, hb'⟩, ⟨by omega, h.1.2⟩, h.2⟩
      · simp only [memWfFrom, Bool.and_eq_true, decide_eq_true_eq]; exact ⟨⟨h.1.1, h.1.2⟩, ih (by omega) h.2⟩

theorem wf_filter {m : List Host.Cell} (p : Host.Cell → Bool) (h : Memory.wf m = true) : Memory.wf (m.filter p) = true :=
  memWfFrom_filter p h

theorem wf_memSet {m : List Host.Cell} (a : Nat) (b : Byte) (h : Memory.wf m = true) : Memory.wf (memSet m a b) = true := by
  unfold memSet
  split
  · exact wf_filter _ h
  · next hb => exact memWfFrom_tabSet hb (Nat.zero_le _) h

theorem wf_memSetAll {m : List Host.Cell} (a : Nat) (bs : List Byte) (h : Memory.wf m = true) : Memory.wf (memSetAll m a bs) = true := by
  induction bs generalizing m a with
  | nil => exact h
  | cons b t ih => exact ih _ (wf_memSet _ _ h)

theorem wf_foldl_memSet {m : List Host.Cell} (cells : List Host.Cell) (f : Nat → Nat) (h : Memory.wf m = true) :
    Memory.wf (cells.foldl (fun m c => memSet m (f c.1) c.2) m) = true := by
  induction cells generalizing m with
  | nil => exact h
  | cons c t ih => exact ih (wf_memSet _ _ h)

theorem reset_memoryInv : MemoryInv State.reset := rfl

/-! ### Operations -/

theorem memWrite_inv {s : State} (a : Nat) (bs : List Byte) (h : MemoryInv s) : MemoryInv (s.memWrite a bs) := wf_memSetAll _ _ h

theorem memPutWord_inv {s : State} (a : Nat) (x : W64) (h : MemoryInv s) : MemoryInv (s.memPutWord a x) := memWrite_inv _ _ h

theorem storeAgent_inv {s : State} (a : Nat) (bs : List Byte) (h : MemoryInv s) : MemoryInv (s.storeAgent a bs) := wf_memSetAll _ _ h

@[simp] theorem storeHome_mem (s : State) (c a : Nat) (bs : List Byte) : (s.storeHome c a bs).mem = memSetAll s.mem a bs := rfl

theorem storeHome_inv {s : State} (c a : Nat) (bs : List Byte) (h : MemoryInv s) : MemoryInv (s.storeHome c a bs) := wf_memSetAll _ _ h

@[simp] theorem modDir_mem (s : State) (a : Nat) (f : DirEntry → DirEntry) : (s.modDir a f).mem = s.mem := by
  unfold State.modDir; split <;> rfl

@[simp] theorem invalidate_mem (s : State) (c a : Nat) : (s.invalidate c a).mem = s.mem := modDir_mem ..

@[simp] theorem refreshL1_mem (s : State) (c line : Nat) : (s.refreshL1 c line).mem = s.mem := rfl

theorem putCells_inv {s : State} (cs : List Host.Cell) (h : MemoryInv s) : MemoryInv (s.putCells cs) := by
  unfold State.putCells
  induction cs generalizing s with
  | nil => exact h
  | cons c t ih => exact ih (memWrite_inv _ _ h)

/-- Performing an access keeps the form of memory: it writes cells of memory, or nothing where the device holds none. -/
theorem performAt_inv {s : State} (c : Nat) (p : PendStore) (h : MemoryInv s) : MemoryInv (s.performAt c p) := by
  have hi : MemoryInv (s.invalidate c p.pa) := by unfold MemoryInv; rw [invalidate_mem]; exact h
  unfold State.performAt
  split
  · exact h
  · cases p.red with
    | none => exact putCells_inv p.data hi
    | some x => exact memWrite_inv _ _ hi

@[simp] theorem await_mem (s : State) (c a : Nat) (e : Option Nat) : (s.await c a e).mem = s.mem := by
  unfold State.await
  split
  · rfl
  · split <;> rfl

@[simp] theorem loseAt_mem (s : State) (c : Nat) (l : LostStore) : (s.loseAt c l).mem = s.mem := rfl

/-- Taking access i of a queue leaves memory alone or performs that access. -/
theorem performStore_mem (s : State) (c i : Nat) :
    (s.performStore c i).mem = s.mem ∨ ∃ (p : PendStore) (s1 : State), (s.core c).stores[i]? = some p ∧ s1.mem = s.mem ∧
      (s.performStore c i).mem = (s1.performAt c p).mem := by
  unfold State.performStore
  dsimp only
  split
  · exact .inl rfl
  · next p hp =>
    split
    · exact .inl rfl
    · split
      · exact .inl (loseAt_mem ..)
      · split
        · exact .inl (await_mem ..)
        · exact .inr ⟨p, s.setCore c _, hp, rfl, rfl⟩

theorem performStore_inv {s : State} (c i : Nat) (h : MemoryInv s) : MemoryInv (s.performStore c i) := by
  obtain e | ⟨p, s1, -, e1, e⟩ := performStore_mem s c i
  · unfold MemoryInv; rw [e]; exact h
  · unfold MemoryInv; rw [e]; exact performAt_inv c p (by unfold MemoryInv; rw [e1]; exact h)

theorem drainBy_inv {s : State} (c : Nat) (sel : PendStore → Bool) (n i : Nat) (h : MemoryInv s) : MemoryInv (s.drainBy c sel n i) := by
  induction n generalizing s i with
  | zero => exact h
  | succ n ih =>
    unfold State.drainBy
    split
    · exact h
    · exact ih _ (by split; · exact performStore_inv _ _ h
                     · exact h)

theorem drainCore_inv {s : State} (c : Nat) (sel : PendStore → Bool) (h : MemoryInv s) : MemoryInv (s.drainCore c sel) :=
  drainBy_inv _ _ _ _ h

theorem drainLine_inv {s : State} (c line : Nat) (h : MemoryInv s) : MemoryInv (s.drainLine c line) := drainCore_inv _ _ h

theorem zeroTile_inv {s : State} (c e : Nat) (h : MemoryInv s) : MemoryInv (s.zeroTile c e) := wf_filter _ h

/-! ### Taking a fault and completing -/

@[simp] theorem parkAt_mem (s : State) (p : Nat × Nat) (t : Team) (pc : W57) (f : FaultInfo) : (s.parkAt p t pc f).mem = s.mem := by
  unfold State.parkAt; dsimp only; split <;> rfl

@[simp] theorem recordStop_mem (s : State) (cause watch core slot seq : Nat) : (s.recordStop cause watch core slot seq).mem = s.mem := rfl

@[simp] theorem stopBlock_mem (s : State) (c blk : Nat) : (s.stopBlock c blk).mem = s.mem := rfl

@[simp] theorem debugHalt_mem (s : State) (p : Nat × Nat) (t : Team) (pc : W57) (f : FaultInfo) :
    (s.debugHalt p t pc f).mem = s.mem := by
  unfold State.debugHalt; dsimp only
  simp only [apply_ite State.mem, recordStop_mem, stopBlock_mem, State.setTeam_mem, ite_self]

@[simp] theorem takeFault_mem (s : State) (p : Nat × Nat) (t : Team) (pc : W57) (f : FaultInfo) :
    (s.takeFault p t pc f).mem = s.mem := by
  unfold State.takeFault; split <;> simp

@[simp] theorem unitFault_mem (s : State) (t : Team) (f : FaultInfo) : (s.unitFault t f).mem = s.mem := takeFault_mem ..

@[simp] theorem onceFault_mem (s : State) (t : Team) (code sub : Nat) (a : W64) : (s.onceFault t code sub a).mem = s.mem :=
  takeFault_mem ..

@[simp] theorem afterUnit_mem (s : State) (t : Team) : (s.afterUnit t).mem = s.mem := by
  simp [State.afterUnit]

@[simp] theorem complete_mem (s : State) (t : Team) : (s.complete t).mem = s.mem := by
  unfold State.complete; dsimp only; split
  · rfl
  · split
    · rfl
    · simp

@[simp] theorem transfer_mem (s : State) (t : Team) (tgt : W57) (l : List LoopEntry) : (s.transfer t tgt l).mem = s.mem := afterUnit_mem ..

@[simp] theorem transferChecked_mem (s : State) (t : Team) (tgt : W64) (odd : Bool) (l : List LoopEntry) :
    (s.transferChecked t tgt odd l).mem = s.mem := by
  unfold State.transferChecked; split
  · simp
  · split <;> simp

/-! ### Waits -/

theorem foldl_mem {α : Type} (f : State → α → State) (h : ∀ s a, (f s a).mem = s.mem) (l : List α) (s : State) :
    (l.foldl f s).mem = s.mem := by
  induction l generalizing s with
  | nil => rfl
  | cons a l ih => rw [List.foldl_cons, ih, h]

@[simp] theorem setLock_mem (s : State) (o : Nat) (r : LockRec) : (s.setLock o r).mem = s.mem := by
  unfold State.setLock; split <;> rfl

@[simp] theorem invalidateLine_mem (s : State) (c line : Nat) : (s.invalidateLine c line).mem = s.mem :=
  foldl_mem _ (fun s a => invalidate_mem s c a) _ _

@[simp] theorem recallLock_mem (s : State) (o : Nat) (g : Bool) : (s.recallLock o g).mem = s.mem :=
  foldl_mem _ (fun s => invalidateLine_mem s 1024) _ _

@[simp] theorem awaitLine_mem (s : State) (c line : Nat) (e : Option Nat) : (s.awaitLine c line e).mem = s.mem :=
  foldl_mem _ (fun s a => await_mem s c a e) _ _

@[simp] theorem postReport_mem (s : State) (c : Nat) (w : List W64) : (s.postReport c w).mem = s.mem := by
  unfold State.postReport; dsimp only; split <;> rfl

@[simp] theorem reportAbandon_mem (s : State) (uid obj : Nat) : (s.reportAbandon uid obj).mem = s.mem := by
  unfold State.reportAbandon; split <;> simp

@[simp] theorem queueReadmit_mem (s : State) (blk : Nat) : (s.queueReadmit blk).mem = s.mem := by
  unfold State.queueReadmit; dsimp only; split <;> rfl

@[simp] theorem readmitTeam_mem (s : State) (uid : Nat) : (s.readmitTeam uid).mem = s.mem := by
  unfold State.readmitTeam; split
  · split <;> simp
  · rfl

@[simp] theorem passOn_mem (s : State) (o : Nat) (r : LockRec) (a : Bool) : (s.passOn o r a).mem = s.mem := by
  unfold State.passOn; split
  · simp
  · split
    · simp
    · dsimp only
      simp only [apply_ite State.mem, reportAbandon_mem, recallLock_mem, setLock_mem, ite_self,
        foldl_mem _ (fun s line => awaitLine_mem s 1024 line none)]

@[simp] theorem dropWaiter_mem (s : State) (o uid : Nat) : (s.dropWaiter o uid).mem = s.mem := by
  unfold State.dropWaiter; split
  · rfl
  · split
    · split <;> simp
    · simp

@[simp] theorem forgetLock_mem (s : State) (uid : Nat) (w : WaitRec) : (s.forgetLock uid w).mem = s.mem := by
  unfold State.forgetLock; split
  · simp
  · rfl

@[simp] theorem waitWith_mem (s : State) (t : Team) (w : WaitRec) : (s.waitWith t w).mem = s.mem := by
  unfold State.waitWith; dsimp only
  rw [State.setTeam_mem]; split <;> simp

@[simp] theorem checkFault_mem (s : State) (t : Team) (vec : Bool) (code sub : Nat) (a : W64) :
    (s.checkFault t vec code sub a).mem = s.mem := by
  unfold State.checkFault; split <;> simp

/-- What `issue` may do: nothing, the effect of a failed check, or its body on the team that issues. -/
theorem issue_cases (s : State) (priv : Bool) (need : RoleNeed) (vregs : List Nat) (vec : Bool) (body : Team → State) :
    s.team? s.cur = none ∧ s.issue priv need vregs vec body = s ∨
      ∃ t, s.team? s.cur = some t ∧
        ((∃ code sub a, s.issue priv need vregs vec body = s.checkFault t vec code sub a) ∨
          (priv = true → s.cur.2 = 0) ∧ need.ok t.role = true ∧ (∀ r ∈ vregs, r < t.nreg) ∧
            s.issue priv need vregs vec body = body t) := by
  unfold State.issue
  split
  · next h => exact .inl ⟨h, rfl⟩
  · next t h =>
    refine .inr ⟨t, h, ?_⟩
    split
    · exact .inl ⟨_, _, _, rfl⟩
    · next hp =>
      split
      · exact .inl ⟨_, _, _, rfl⟩
      · next hr =>
        split
        · exact .inl ⟨_, _, _, rfl⟩
        · next hf =>
          refine .inr ⟨?_, by simpa using hr, ?_, rfl⟩
          · intro h; exact Decidable.byContradiction fun hc => hp ⟨h, hc⟩
          · intro r hm; simpa using List.find?_eq_none.1 hf r hm

theorem issue_inv {s : State} {priv : Bool} {need : RoleNeed} {vregs : List Nat} {vec : Bool} {body : Team → State} (h : MemoryInv s)
    (hb : ∀ t, s.team? s.cur = some t → MemoryInv (body t)) : MemoryInv (s.issue priv need vregs vec body) := by
  obtain ⟨-, e⟩ | ⟨t, ht, ⟨_, _, _, e⟩ | ⟨-, -, -, e⟩⟩ := issue_cases s priv need vregs vec body <;> rw [e]
  · exact h
  · unfold MemoryInv; simpa using (show Memory.wf s.mem = true from h)
  · exact hb t ht

end Sys2Proof.Machine
end

