-- ==== Sys2Proof/Laws/Vector.lean ====
section
/-! SUPPORT. What the engines of the vector and the scalar forms answer when nothing stops them, and when a lane faults. -/

namespace Sys2Proof.Machine

variable {s : State} {t : Team}

/-- The lanes that faulted, of lanes that all have a result: none. -/
theorem badLanes_ok (ls : List Nat) (o : Nat → LaneOut) :
    badLanes (ls.map (fun l => (l, (Except.ok (o l) : LaneRes)))) = [] := by
  induction ls with
  | nil => rfl
  | cons a l ih => simp [badLanes]

/-- The lanes that have a result, of lanes that all have one: all. -/
theorem goodLanes_ok (ls : List Nat) (o : Nat → LaneOut) :
    goodLanes (ls.map (fun l => (l, (Except.ok (o l) : LaneRes)))) = ls.map (fun l => (l, o l)) := by
  induction ls with
  | nil => rfl
  | cons a l ih => simpa [goodLanes] using ih

/-- No register of a list is poisoned in any lane. -/
theorem poisonedReg_none {regs : List Nat} (h : ∀ e ∈ t.vpoison, e.1 ∉ regs) (l : Nat) : t.poisonedReg regs l = none := by
  simp only [Team.poisonedReg, List.find?_eq_none]
  intro r hr hc
  exact h (r, l) (by simpa using hc) hr

/-- Without a poisoned register a lane answers its own result. -/
theorem guardPoison_clean {regs : List Nat} (h : ∀ e ∈ t.vpoison, e.1 ∉ regs) (l : Nat) (r : LaneRes) :
    t.guardPoison regs l r = r := by
  simp [Team.guardPoison, poisonedReg_none h l]

/-- `vecAlu` when every active lane has a result. -/
theorem vecAlu_done {dst : VDst} {f : Nat → LaneRes} {o : Nat → LaneOut} (hp : s.latch.passLimit = none)
    (hf : ∀ l ∈ lanesOf t.active t.lanes, f l = .ok (o l)) : s.vecAlu t dst f = vecDone s t dst o := by
  have hl : s.passLanes t = lanesOf t.active t.lanes := by simp [State.passLanes, hp]
  have hm : (lanesOf t.active t.lanes).map (fun l => (l, f l)) =
      (lanesOf t.active t.lanes).map (fun l => (l, (Except.ok (o l) : LaneRes))) :=
    List.map_congr_left (fun l h => by rw [hf l h])
  simp [State.vecAlu, hl, hm, badLanes_ok, goodLanes_ok, laneFaultInfo, vecDone]

/-- `issue` when the checks of R25 pass. -/
theorem issue_body {need : RoleNeed} {priv vec : Bool} {vregs : List Nat} {body : Team → State}
    (ht : s.team? s.cur = some t) (hr : need.ok t.role = true) (hv : ∀ r ∈ vregs, r < t.nreg) (hpriv : priv = false ∨ s.cur.2 = 0) :
    s.issue priv need vregs vec body = body t := by
  have hn : vregs.find? (fun r => decide (t.nreg ≤ r)) = none := by
    simp only [List.find?_eq_none, decide_eq_true_eq, Nat.not_le]
    exact hv
  have hq : ¬(priv = true ∧ s.cur.2 ≠ 0) := by rintro ⟨a, b⟩; rcases hpriv with h | h <;> simp_all
  simp [State.issue, ht, hr, hn, hq]

/-- A vector instruction whose registers are in the window and not poisoned, and whose active lanes all have a result. -/
theorem vecOpWith_done {dst : VDst} {regs more : List Nat} {f : Team → Nat → LaneRes} {o : Nat → LaneOut}
    (h : VecReady s t dst (regs ++ more)) (hf : ∀ l ∈ lanesOf t.active t.lanes, f t l = .ok (o l)) :
    s.vecOpWith dst regs more f = .next (vecDone s t dst o) := by
  obtain ⟨ht, hr, hv, hq, hp⟩ := h
  have hg : ∀ e ∈ t.vpoison, e.1 ∉ regs := fun e he hc => hq e he (List.mem_append_left _ hc)
  rw [State.vecOpWith, issue_body ht (by simp [hr, RoleNeed.ok]) (by simpa [List.append_assoc] using hv) (Or.inl rfl),
    vecAlu_done hp (o := o)]
  intro l hl
  rw [guardPoison_clean hg, hf l hl]

/-- The same where lanes read only their own registers. -/
theorem vecOp_done {dst : VDst} {regs : List Nat} {f : Team → Nat → LaneRes} {o : Nat → LaneOut}
    (h : VecReady s t dst regs) (hf : ∀ l ∈ lanesOf t.active t.lanes, f t l = .ok (o l)) :
    s.vecOp dst regs f = .next (vecDone s t dst o) :=
  vecOpWith_done (by simpa using h) hf

/-- An instruction that executes once, when its checks pass. -/
theorem once_body {need : RoleNeed} {priv : Bool} {body : Team → State} (h : OnceReady s t need)
    (hpriv : priv = false ∨ s.cur.2 = 0) : s.once priv need body = body t := by
  obtain ⟨ht, hr, hd⟩ := h
  simp only [State.once, ht, hd, Bool.false_eq_true, if_false]
  exact issue_body ht hr (by simp) hpriv

/-- A scalar form. -/
theorem scalarOp_done {need : RoleNeed} {d : Nat} {f : Team → W64} (h : OnceReady s t need) :
    s.scalarOp need d f = .next (scalarDone s t d (f t)) := by
  simp [State.scalarOp, once_body h (Or.inl rfl), scalarDone]

/-- A floating-point lane that raises nothing trapped. -/
theorem fpLane_ok {r : FRes} (h : r.flags &&& t.traps = 0) : t.fpLane r = .ok (fpOut r) := by
  simp [Team.fpLane, h, fpOut]

end Sys2Proof.Machine
end

