-- ==== Sys2Proof/Tests/Slice0.lean ====
section
/-! SUPPORT. Tests: ill-formed terms that the checks refuse, words that decode to the instructions the spec writes beside them,
single steps on a small machine, and for every statement with hypotheses a state and operands that meet them. -/

namespace Sys2Proof.Tests

open Machine

-- One theorem at a time: each is heavy in the kernel, and their threads would not fit side by side.
set_option Elab.async false

/-! ### Ill-formed instructions are refused -/

theorem test_wf_narrow_register : wellFormed (.mov16 64 0) = false ∧ wellFormed (.mov16 63 32) = false := by decide
theorem test_wf_vector_register : wellFormed (.iaddI32 124 (.reg 0) (.reg 0) false) = false := by decide
theorem test_wf_vector_source :
    wellFormed (.iaddI32 0 (.reg 124) (.reg 0) false) = false ∧ wellFormed (.iaddI32 0 (.bp 4) (.reg 0) false) = false := by decide
theorem test_wf_scalar_register : wellFormed (.iaddI64S 64 0 0) = false := by decide
theorem test_wf_mask_register : wellFormed (.mand 16 0 0) = false := by decide
theorem test_wf_pair : wellFormed (.iaddI64V 1 2 4 false) = false ∧ wellFormed (.iaddI64V 0 124 4 false) = false := by decide
theorem test_wf_scalar_pair : wellFormed (.casI64 3 0 0 .rlx .dev) = false := by decide
theorem test_wf_no_write : wellFormed (.iaddI32 1 (.reg 0) (.reg 0) true) = false := by decide
theorem test_wf_immediate : wellFormed (.iaddI32Imm 0 (.reg 0) 512 false) = false ∧ wellFormed (.moviS 0 (-65537)) = false := by decide
theorem test_wf_limm : wellFormed (.limm (2 ^ 24)) = false := by decide
theorem test_wf_displacement : wellFormed (.ldV 0 .b4 0 (.disp 64) false) = false ∧ wellFormed (.ldS 0 .b4 0 (.disp (-65))) = false := by decide
theorem test_wf_index : wellFormed (.ldV 0 .b4 0 (.idx (.bp 4)) false) = false ∧ wellFormed (.ldS 0 .b4 0 (.idx 64)) = false := by decide
theorem test_wf_store_pair : wellFormed (.stV (.reg 1) .b8 0 (.disp 0)) = false ∧ wellFormed (.stV (.bp 0) .b8 0 (.disp 0)) = false := by decide
theorem test_wf_order : wellFormed (.ldOrdS 0 0 0 .rel .dev) = false ∧ wellFormed (.stOrdS 0 0 0 .acq .dev) = false := by decide
theorem test_wf_shuffle_source : wellFormed (.shfl 3 3 (.reg 0) false) = false := by decide
theorem test_wf_tile : wellFormed (.mzero 32 false) = false ∧ wellFormed (.mma 0 (.slot 64) (.slot 0) 0) = false := by decide
theorem test_wf_barrier : wellFormed (.bar 16 false 0) = false ∧ wellFormed (.bar 0 false 256) = false := by decide
theorem test_wf_number : wellFormed (.trap 16384) = false ∧ wellFormed (.sysrd 0 16384) = false := by decide
theorem test_wf_rep : wellFormed (.rep 16 0 0 0) = false ∧ wellFormed (.rep 0 0 0 64) = false := by decide
theorem test_wf_branch : wellFormed (.bra 65536) = false ∧ wellFormed (.bzS 16 0) = false := by decide
theorem test_wf_event : wellFormed (.stop 256 0) = false ∧ wellFormed (.stop 0 8) = false ∧ wellFormed (.withholdStep 13) = false ∧
    wellFormed (.errorDetected 0 0 0 0) = false ∧ wellFormed (.ualinkPortFailure 12) = false := by decide

/-! ### Words of the spec decode to the instructions written beside them (chapters 12, 19 to 23) -/

/-- Chapter 12, worked example; the 16-bit form there is `iadd v9, v2`. -/
theorem test_decode_integer : decodeWord 0x1122 = .ok (.iadd16 9 2) ∧ decodeWord 0x00848901 = .ok (.iaddI32 9 (.reg 9) (.reg 2) false) ∧
    decodeWord 0x82848909 = .ok (.orS 9 9 10) ∧ decodeWord 0x40020411 = .ok (.iaddI64Imm 4 4 256) := by decide
theorem test_decode_compare : decodeWord 0x6142010B = .ok (.icmpLtI32 1 (.reg 4) (.reg 5)) ∧
    decodeWord 0xA2C20F0B = .ok (.icmpEqI64 15 4 11) := by decide
theorem test_decode_constant : decodeWord 0x0000017F = .ok (.limm 1) ∧ decodeWord 0x06B00415 = .ok (.moviS 4 0xD60) ∧
    decodeWord 0x00000313 = .ok (.moviV 3 0 false) ∧ decodeWord 0x2000050D = .ok (.lidS 5) := by decide
theorem test_decode_float : decodeWord 0x80808319 = .ok (.fdivF32 3 (.reg 1) (.reg 2) false) ∧
    decodeWord 0xA002800D = .ok (.fmode 0 5) := by decide
theorem test_decode_cross_lane : decodeWord 0xC0018525 = .ok (.scanAddI32 5 (.reg 3) false) ∧
    decodeWord 0x40018A25 = .ok (.reduceAddI32 10 (.reg 3)) := by decide
theorem test_decode_flow : decodeWord 0x00181229 = .ok (.bnzM 2 0x30) ∧ decodeWord 0x0008102B = .ok (.loop 8 16) := by decide
theorem test_decode_access : decodeWord 0x4002012D = .ok (.ldV 1 .b4 4 (.disp 0) false) ∧
    decodeWord 0x40038331 = .ok (.stV (.reg 3) .b4 7 (.disp 0)) ∧ decodeWord 0x8042052D = .ok (.ldV 5 .b1 4 (.idx (.reg 1)) false) ∧
    decodeWord 0x6001092F = .ok (.ldS 9 .b8 2 (.disp 0)) ∧ decodeWord 0x60010933 = .ok (.stS 9 .b8 2 (.disp 0)) := by decide
theorem test_decode_broadcast : decodeWord 0x8143855F = .ok (.ldbN8 5 7 (.reg 5) false) ∧
    decodeWord 0xC184075F = .ok (.ldbN32 7 8 (.reg 6) false) := by decide
theorem test_decode_ordered : decodeWord 0x71A005BF = .ok (.stOrdS 11 13 0 .rel .dev) ∧
    decodeWord 0x69A001BB = .ok (.ldOrdS 3 13 0 .acq .dev) ∧ decodeWord 0x7880C341 = .ok (.atomAddI32 6 4 (.reg 3) .acqrel .dev) ∧
    decodeWord 0x61800543 = .ok (.atomAddI64 10 12 0 .rlx .dev) ∧ decodeWord 0x18000053 = .ok (.fence .sc .team) := by decide
theorem test_decode_lock : decodeWord 0x61A300D5 = .ok (.llock 1 13 12 .dev) ∧ decodeWord 0x61A00059 = .ok (.lunlock 13 .dev) := by decide
theorem test_decode_grace : decodeWord 0x6000065D = .ok (.gpstart 6) ∧ decodeWord 0xA183835D = .ok (.dfree 3 7 6) ∧
    decodeWord 0x8003075D = .ok (.gpwait 7 6) ∧ decodeWord 0x0000005D = .ok .qpass := by decide
theorem test_decode_tile : decodeWord 0x20010B73 = .ok (.tbind 2 11) ∧ decodeWord 0x60110071 = .ok (.twaitSt 2 true false) ∧
    decodeWord 0xA0018071 = .ok (.treadySt 3) ∧ decodeWord 0xE0010071 = .ok (.trelSt 2) := by decide
theorem test_decode_matrix : decodeWord 0x2A0C0061 = .ok (.mma 0 (.slot 0) (.slot 1) 10) ∧
    decodeWord 0x34643069 = .ok (.quant 0 (.slot 3) 12 13) ∧ decodeWord 0x00000B75 = .ok (.mcommit 11) ∧
    decodeWord 0x20058075 = .ok (.mwait 11) := by decide
theorem test_decode_copy : decodeWord 0x3610C06D = .ok (.tcopyDense 13 12 (.slot 2)) ∧ decodeWord 0x40068075 = .ok (.cwait 13) := by decide
theorem test_decode_system : decodeWord 0xE0000277 = .ok (.sigret 2) ∧ decodeWord 0xA0000077 = .ok .halt ∧
    decodeWord 0xC0000077 = .ok .nop := by decide
/-- R219's example, chapter 11. -/
theorem test_decode_rep : decodeWord 0x001101FD = .ok (.rep 0 1 1 3) := by decide
/-- The illegal words of chapter 12's worked example: UNASSIGNED and RSVFIELD. -/
theorem test_decode_illegal : decodeWord 0xE0000023 = .error .unassigned ∧ decodeWord 0x00000829 = .error .rsvField ∧
    decodeWord 0x0000007B = .error .unassigned := by decide

/-! ### A small machine -/

/-- A one-block process: three teams of the three roles on core 0, 64 KiB of scratchpad, two accumulators and four slots. -/
def demoBlock : Block :=
  { uid := 300, launch := 1, pasid := 7, ctx := 5, launchNo := 9, x := 1, y := 2, z := 3, gx := 4, gy := 5, gz := 6, rank := 0, gang := 1,
    teamCount := 3, prio := .normal, spList := List.range 64, accList := [0, 1], stList := [32, 33, 34, 35],
    shape := [⟨.vector, 32, 64, false⟩, ⟨.matrix, 32, 0, false⟩, ⟨.copy, 32, 0, false⟩],
    barriers := [⟨0, 0, 0, false, false, 0⟩, ⟨4, 0, 0, false, false, 0⟩], started := true, order := none, stopped := false,
    swapping := false, swapFor := none, slotIx := none, metAt := none, preempt := none, quietAt := 0 }

/-- A team of that block. Lanes 0 and 1 are active; `v6` holds a signalling NaN in lane 0. -/
def demoTeam (uid tindex : Nat) (r : Role) : Team :=
  { Team.initial with
    uid := uid, blk := 300, place := 0, role := r, prio := .normal, tindex := tindex, noRefs := false, m := [(0, 3)],
    v := [(2, [(0, 3), (1, 5)]), (3, [(0, 10), (1, 12)]), (6, [(0, 0x7F800001)]), (7, [(0, 32), (1, 36)])],
    sreg := [(1, 0x10000), (2, 5), (3, 0x70548), (6, 0x2000000000000000), (7, 0x10001), (8, 0x1000000000000004), (63, 0x100)] }

def vt : Team := demoTeam 301 0 .vector
def mt : Team := demoTeam 302 1 .matrix
def ct : Team := demoTeam 303 2 .copy

/-- Every process maps the low gibibyte (`State.loadLeaf`). -/
def demoCore (ts : Tab Team) : Core :=
  { Core.reset 0 with
    teams := ts, blocks := [(0, demoBlock)], tlb := [⟨7, 0, 30, State.loadLeaf⟩, ⟨0, 0, 30, State.loadLeaf⟩] }

def withTeams (ts : Tab Team) (slot : Nat) : State := { State.reset with cores := [(0, demoCore ts)], cur := (0, slot) }

def demo (slot : Nat) : State := withTeams [(0, Team.supervisor 0), (1, vt), (2, mt), (3, ct)] slot

/-- The machine with another vector team. -/
def demoV (t : Team) : State := withTeams [(0, Team.supervisor 0), (1, t), (2, mt), (3, ct)] 1

/-- What a result leaves, read by a function. -/
def after {α : Type} (r : Result) (f : State → α) : Option α :=
  match r with
  | .next s => some (f s)
  | _ => none

/-- The team in a slot of core 0 after a result, read by a function. -/
def teamAfter {α : Type} (r : Result) (slot : Nat) (f : Team → α) : Option α := (after r (fun s => (s.team? (0, slot)).map f)).join

theorem once_v : OnceReady (demo 1) vt .any := ⟨by decide +kernel, rfl, by decide +kernel⟩
theorem once_vector : OnceReady (demo 1) vt .vector := ⟨by decide +kernel, rfl, by decide +kernel⟩
theorem once_m : OnceReady (demo 2) mt .matrix := ⟨by decide +kernel, rfl, by decide +kernel⟩
theorem once_c : OnceReady (demo 3) ct .copy := ⟨by decide +kernel, rfl, by decide +kernel⟩
theorem once_s : OnceReady (demo 0) (Team.supervisor 0) .any := ⟨by decide +kernel, rfl, by decide +kernel⟩

/-- The vector team with its registers below 64. -/
theorem ready_v {dst : VDst} {reads : List Nat} (h : ∀ r ∈ dst.regs ++ reads, r < 64) : VecReady (demo 1) vt dst reads :=
  ⟨by decide +kernel, rfl, h, (by intro e he; cases he), rfl⟩

/-! ### Hypotheses of the statements are met: chapters 13 to 15 -/

theorem witness_IntegerArithmetic :
    VecReady (demo 1) vt (.v 4 false) (4 :: (vregsOf (.reg 2) ++ vregsOf (.reg 3))) ∧ VecReady (demo 1) vt (.w 4 false) [2, 3, 6, 7] ∧
    OnceReady (demo 1) vt .any := ⟨ready_v (by decide), ready_v (by decide), once_v⟩

theorem witness_IntegerDivision : VecReady (demo 1) vt (.v 4 false) (vregsOf (.reg 3) ++ vregsOf (.reg 2)) ∧
    ∀ l ∈ lanesOf vt.active vt.lanes, vt.src (.reg 2) l ≠ 0 := ⟨ready_v (by decide), by decide +kernel⟩

/-- A team whose mode word traps invalid operations. -/
def vtTrap : Team := { vt with fpmode := 0x001F0000 }

theorem witness_LaneFaults :
    (VecReady (demo 1) vt (.v 4 false) (vregsOf (.reg 3) ++ vregsOf (.reg 5)) ∧
      ∃ l ∈ lanesOf vt.active vt.lanes, vt.src (.reg 5) l = 0) ∧
    VecReady (demoV vtTrap) vtTrap (.v 4 false) (vregsOf (.reg 6) ++ vregsOf (.reg 2)) ∧
      (lanesOf vtTrap.active vtTrap.lanes).filter (fun l =>
        (f32.add vtTrap.rm (vtTrap.rflush .c32) (vtTrap.f32src (.reg 6) l) (vtTrap.f32src (.reg 2) l)).flags &&& vtTrap.traps != 0) = [0] :=
  ⟨⟨ready_v (by decide), 0, by decide +kernel, by decide +kernel⟩,
    ⟨by decide +kernel, rfl, by decide, (by intro e he; cases he), rfl⟩, by decide +kernel⟩

theorem witness_BitOperations : VecReady (demo 1) vt (.v 4 false) (vregsOf (.reg 2) ++ vregsOf (.bp 0)) ∧
    VecReady (demo 1) vt (.v 4 false) (vregsOf (.reg 2)) ∧ OnceReady (demo 1) vt .any := ⟨ready_v (by decide), ready_v (by decide), once_v⟩

theorem witness_FieldsAndMoves : VecReady (demo 1) vt (.v 4 false) (4 :: (vregsOf (.reg 2) ++ vregsOf (.reg 3))) ∧
    VecReady (demo 1) vt (.v 4 false) [] ∧ OnceReady (demo 1) vt .any := ⟨ready_v (by decide), ready_v (by decide), once_v⟩

theorem witness_Comparisons : VecReady (demo 1) vt (.m 1) (vregsOf (.reg 2) ++ vregsOf (.reg 6)) ∧ OnceReady (demo 1) vt .any ∧
    NoTrap vt (fun l => cmpRes true FVal.lt (vt.f32src (.reg 2) l) (vt.f32src (.reg 6) l)) ∧
    VecReady (demo 1) vt (.m 1) [2, 3, 6, 7] ∧ NoTrap vt (fun l => cmpRes true FVal.lt (vt.f64pair 2 l) (vt.f64pair 6 l)) :=
  ⟨ready_v (by decide), once_v, by unfold NoTrap; decide +kernel, ready_v (by decide), by unfold NoTrap; decide +kernel⟩

theorem witness_NarrowForms : VecReady (demo 1) vt (.v 4 false) [4, 2] := ready_v (by decide)

theorem witness_FpArithmetic :
    (VecReady (demo 1) vt (.v 4 false) (4 :: (vregsOf (.reg 2) ++ vregsOf (.reg 3))) ∧
      NoTrap vt (fun l => f32.fma vt.rm (vt.rflush .c32) (vt.f32reg 4 l) (vt.f32src (.reg 2) l) (vt.f32src (.reg 3) l)) ∧
      NoTrap vt (fun l => frcpVal (vt.rflush .c32) (vt.f32src (.reg 2) l)) ∧
      NoTrap vt (fun l => f32.add vt.rm (vt.rflush .c32) (vt.f32reg 4 l) (vt.f32reg 2 l))) ∧
    VecReady (demo 1) vt (.w 4 false) [4, 5, 2, 3, 6, 7] ∧
      NoTrap vt (fun l => f64.fma vt.rm (vt.rflush .c64) (vt.f64pair 4 l) (vt.f64pair 2 l) (vt.f64pair 6 l)) ∧
      NoTrap vt (fun l => f64.sqrt vt.rm (vt.rflush .c64) (vt.f64pair 2 l)) :=
  ⟨⟨ready_v (by decide), by unfold NoTrap; decide +kernel, by unfold NoTrap; decide +kernel, by unfold NoTrap; decide +kernel⟩,
    ready_v (by decide), by unfold NoTrap; decide +kernel, by unfold NoTrap; decide +kernel⟩

/-- `s3` holds the narrow format word of chapter 21. -/
theorem witness_FpConversions : nfValid ((vt.s 3).truncate 32) = true ∧ (vt.s 3).toNat / 2 ^ 32 % 256 < 32 / (NFmt.of ((vt.s 3).truncate 32)).w ∧
    VecReady (demo 1) vt (.v 4 false) (4 :: vregsOf (.reg 2)) ∧
    NoTrap vt (fun l => (NFmt.of ((vt.s 3).truncate 32)).narrow vt.rm (vt.rflush .narrow) (vt.f32src (.reg 2) l)) ∧
    VecReady (demo 1) vt (.w 4 false) (vregsOf (.reg 2)) ∧ NoTrap vt (fun l => f64.ofVal vt.rm (vt.rflush .c64) (vt.f32src (.reg 2) l)) :=
  ⟨by decide +kernel, by decide +kernel, ready_v (by decide), by unfold NoTrap; decide +kernel, ready_v (by decide),
    by unfold NoTrap; decide +kernel⟩

theorem witness_Fclass : VecReady (demo 1) vt (.v 4 false) (vregsOf (.reg 6)) ∧ VecReady (demo 1) vt (.v 4 false) [2, 3] :=
  ⟨ready_v (by decide), ready_v (by decide)⟩

theorem witness_FpStatus : OnceReady (demo 1) vt .any := once_v

theorem witness_MaskResults : OnceReady (demo 1) vt .vector ∧ (vt.mreg 0).getLsbD 0 = true ∧ ∀ l < vt.lanes, (vt.mreg 1).getLsbD l = false :=
  ⟨once_vector, by decide +kernel, by decide +kernel⟩

theorem witness_CrossLane : VecReady (demo 1) vt (.v 4 false) (vregsOf (.reg 7) ++ [2]) := ready_v (by decide)

theorem witness_Folds : VecReady (demo 1) vt (.m 0) (vregsOf (.reg 2)) ∧ VecReady (demo 1) vt (.v 4 false) (vregsOf (.reg 2)) ∧ vt.pwords = 0 ∧
    vt.traps = 0 := ⟨ready_v (by decide), ready_v (by decide), rfl, by decide +kernel⟩

theorem witness_Transfers : (demo 1).team? (demo 1).cur = some vt ∧ vt.markedOnce = false ∧ vt.role = .vector ∧
    canonical (wide (demo 1).latch.word + BitVec.ofInt 64 (2 * 8)) = true ∧ OnceReady (demo 1) vt .any ∧
    canonical (vt.s 63) = true ∧ (vt.s 63).getLsbD 0 = false ∧ canonical (vt.s 1) = true ∧ (vt.s 1).getLsbD 0 = false :=
  ⟨once_v.1, by decide +kernel, rfl, by decide +kernel, once_v, by decide +kernel, by decide +kernel, by decide +kernel, by decide +kernel⟩

/-- The team in the last words of the lower half. -/
def demoEdge : State := { demo 1 with latch := { UnitLatch.idle with word := 0x0FFFFFFFFFFFFFE#57 } }

def vtRet (x : W64) : Team := { vt with sreg := [(63, x)] }

theorem witness_TransferFaults :
    (OnceReady demoEdge vt .any ∧ canonical (wide demoEdge.latch.word + BitVec.ofInt 64 (2 * 4)) = false) ∧
    (OnceReady (demoV (vtRet (BitVec.ofNat 64 (2 ^ 60)))) (vtRet (BitVec.ofNat 64 (2 ^ 60))) .any ∧ canonical ((vtRet (BitVec.ofNat 64 (2 ^ 60))).s 63) = false) ∧
    (OnceReady (demoV (vtRet 3)) (vtRet 3) .any ∧ canonical ((vtRet 3).s 63) = true ∧ ((vtRet 3).s 63).getLsbD 0 = true) :=
  ⟨⟨⟨by decide +kernel, rfl, by decide +kernel⟩, by decide +kernel⟩,
    ⟨⟨by decide +kernel, rfl, by decide +kernel⟩, by decide +kernel⟩,
    ⟨by decide +kernel, rfl, by decide +kernel⟩, by decide +kernel, by decide +kernel⟩

def demoLoop : LoopEntry := ⟨4, 40, 2⟩

def vtLoop (n : Nat) : Team := { vt with loops := List.replicate n demoLoop }

theorem witness_LoopInstructions :
    (OnceReady (demo 1) vt .any ∧ 2 * (2 : Int) ≤ 4) ∧
    (4 < 2 * (8 : Int) ∧ (vt.s 9).setWidth 32 = 0#32 ∧ canonical (wide (demo 1).latch.word + BitVec.ofInt 64 (2 * 8)) = true) ∧
    ((vt.s 2).setWidth 32 ≠ 0#32 ∧ OnceReady (demoV (vtLoop 4)) (vtLoop 4) .any ∧ (vtLoop 4).loops.length = 4 ∧ vt.loops.length < 4) ∧
    (OnceReady (demoV (vtLoop 1)) (vtLoop 1) .any ∧ (vtLoop 1).loops = [demoLoop]) ∧ vt.loops = [] :=
  ⟨⟨once_v, by decide⟩, ⟨by decide, by decide +kernel, by decide +kernel⟩,
    ⟨by decide +kernel, ⟨by decide +kernel, rfl, by decide +kernel⟩, rfl, by decide⟩,
    ⟨⟨by decide +kernel, rfl, by decide +kernel⟩, rfl⟩, rfl⟩

theorem witness_LoopRunsCountTimes : demoLoop.start.toNat ≤ (36#57).toNat ∧ (36#57).toNat < demoLoop.stop.toNat ∧
    0 + 1 < demoLoop.count.toNat := by decide

theorem witness_CompletionAndPrefixes : (demo 1).latch.stuffed = false ∧ vt.stepArm = false ∧ (demo 1).team? (demo 1).cur = some vt ∧
    vt.rep.remain = 0 ∧ repCheck vt (.iaddI32 4 (.reg 2) (.reg 3) false) ⟨4, 4, 1, 1, 0⟩ = none ∧
    repCheck { vt with rep := ⟨2, 4, 1, 1, 0⟩ } (.iaddI32 4 (.reg 2) (.reg 3) false) ⟨2, 4, 1, 1, 0⟩ = none :=
  ⟨rfl, rfl, once_v.1, rfl, by decide +kernel, by decide +kernel⟩

/-! ### Hypotheses of the statements are met: decoding and stepping -/

theorem witness_DecodeEncode : wellFormed (.atomAddI32 6 4 (.reg 3) .acqrel .dev) = true ∧
    encode (.atomAddI32 6 4 (.reg 3) .acqrel .dev) = some 0x7880C341 := by decide

def supStep (w : Nat) : State := State.reset.withFetchWord 32 w

def sup : Team := Team.supervisor 0

/-- The state after a fetch. -/
def fetched (r : FetchRes) : State :=
  match r with
  | .ok _ s => s
  | .stop _ s => s

def supFetch (w : Nat) : FetchRes := ((supStep w).setTeam (0, 0) sup).fetchWords (((supStep w).setTeam (0, 0) sup).agentOf (0, 0) sup) 3 0 none

def supWord (w : Nat) : UnitWord := ⟨[⟨0, 0, 32, 0⟩, ⟨2, 0, 32, 2⟩], 0, w⟩

theorem witness_StepRunsUnit :
    (supStep 0x00848901).agenda = [] ∧ (supStep 0x00848901).powered = true ∧ (supStep 0x00848901).fe.recovery = false ∧ (supStep 0x00848901).team? (supStep 0x00848901).cur = some sup ∧
    sup.canIssue ((supStep 0x00848901).blockOf (supStep 0x00848901).cur.1 sup) = true ∧
    supFetch 0x00848901 = .ok [supWord 0x00848901] (fetched (supFetch 0x00848901)) ∧
    (fetched (supFetch 0x00848901)).team? (fetched (supFetch 0x00848901)).cur = some sup ∧
    (supWord 0x00848901).pa.any ((fetched (supFetch 0x00848901)).inPool 0 sup.uid) = false ∧
    decodeWord 0x00848901 = .ok (.iaddI32 9 (.reg 9) (.reg 2) false) ∧ sup.rep.remain = 0 ∧
    (supFetch 0xE0000023 = .ok [supWord 0xE0000023] (fetched (supFetch 0xE0000023)) ∧ decodeWord 0xE0000023 = .error .unassigned) :=
  ⟨rfl, rfl, rfl, by decide +kernel, by decide +kernel, by decide +kernel, by decide +kernel, by decide +kernel, by decide, rfl,
    by decide +kernel, by decide⟩

/-- A unit of a `limm` and `movi s5, 0x20000`, and one of a `rep` and `iadd v9, v2` (chapters 11 and 19). -/
def supLimm : State := { (supStep 0x0000017F).memWrite 4 (leBytes 4 0x00000515) with powered := true }
def supRep : State := { (supStep 0x001101FD).memWrite 4 (leBytes 2 0x1122) with powered := true }

/-- A unit of a `rep`, a `limm` and `movi v3, 0`. -/
def supBoth : State := { ((supStep 0x000101FD).memWrite 4 (leBytes 4 0x0000017F)).memWrite 8 (leBytes 4 0x00000313) with powered := true }

/-- The state after the checks of a unit. -/
def checked (r : UnitRes) : State :=
  match r with
  | .ok _ s => s
  | .fault _ s => s
  | .hold _ s => s
  | .bad _ _ s => s

def supUnit (s : State) : UnitRes := (s.setTeam (0, 0) sup).fetchUnit (0, 0) sup

theorem witness_StepRunsUnit_prefixes :
    supUnit supLimm = .ok ⟨none, some 1, ⟨[⟨4, 0, 32, 4⟩, ⟨6, 0, 32, 6⟩], 4, 0x00000515⟩, .moviS 5 0⟩ (checked (supUnit supLimm)) ∧
    widened 1 (.moviS 5 0) = some (.moviS 5 0x20000) ∧ sup.rep.remain = 0 ∧
    supUnit supRep = .ok ⟨some (.rep 0 1 1 3), none, ⟨[⟨4, 0, 32, 4⟩], 4, 0x1122⟩, .iadd16 9 2⟩ (checked (supUnit supRep)) ∧
    supUnit supBoth = .ok ⟨some (.rep 0 0 1 3), some 1, ⟨[⟨8, 0, 32, 8⟩, ⟨10, 0, 32, 10⟩], 8, 0x00000313⟩, .moviV 3 0 false⟩
      (checked (supUnit supBoth)) ∧
    widened 1 (.moviV 3 0 false) = some (.moviV 3 0x20000 false) :=
  ⟨by decide +kernel, by decide +kernel, rfl, by decide +kernel, by decide +kernel, by decide +kernel⟩

/-- The supervisor, whose lane 0 a signal return from `F.ILL` marked done, before a word that decodes to nothing. -/
def supBack : Team := { sup with marked := some ⟨1, 1, 1⟩, done := 1 }
def supMarked : State := (supStep 0xE0000023).setTeam (0, 0) supBack

theorem witness_StepRunsUnit_marked : supMarked.team? supMarked.cur = some supBack ∧ supBack.waitOver = false ∧
    supBack.stepDue = false ∧ supBack.canIssue (supMarked.blockOf 0 supBack) = true ∧
    supBack.excused (faultOf 0x01 1 0 1) = true ∧
    supMarked.fetchWords (supMarked.agentOf (0, 0) supBack) 3 0 none =
      .ok [supWord 0xE0000023] (fetched (supMarked.fetchWords (supMarked.agentOf (0, 0) supBack) 3 0 none)) := by
  decide +kernel

theorem test_step_limm : teamAfter (step supLimm) 0 (fun t => (t.s 5, t.pc)) = some (0x20000, 8) := by decide +kernel
theorem test_step_rep : teamAfter (step supRep) 0 (fun t => (t.pc, t.rep.remain)) = some (0, 3) := by decide +kernel
theorem test_step_illegal : teamAfter (step (supStep 0xE0000023)) 0 (fun t => (t.parked, t.record.code, t.record.sub)) = some (true, 1, 1) := by
  decide +kernel

theorem witness_StepRunsEvent : ({ demo 1 with agenda := [.reset] } : State).agenda = .reset :: [] ∧ (demo 1).powered = true ∧
    ({ demo 1 with powered := false } : State).powered = false ∧ (demo 1).agenda = [] := ⟨rfl, rfl, rfl, rfl⟩

/-- A result that is a next state. -/
theorem next_of {r : Result} (h : after r (fun _ => true) = some true) : ∃ s, r = .next s := by
  cases r with
  | next s => exact ⟨s, rfl⟩
  | fault _ => cases h
  | refused _ => cases h

theorem witness_StepKeepsMemory : MemoryInv (supStep 0x00848901) ∧ ∃ s', step (supStep 0x00848901) = .next s' :=
  ⟨by unfold MemoryInv; decide +kernel, next_of (by decide +kernel)⟩

theorem witness_LaneResults : ([0, 1] : List Nat).Nodup ∧ 1 ∈ ([0, 1] : List Nat) ∧ 1 < vt.lanes := by decide

theorem witness_RegisterFrame : destOf (.faddF32 4 (.reg 2) (.reg 3) false) = some (.lanes (.v 4 false), true) ∧
    (demo 1).team? (demo 1).cur = some vt ∧ ∃ s', exec (.faddF32 4 (.reg 2) (.reg 3) false) (demo 1) = .next s' :=
  ⟨by decide, once_v.1, next_of (by decide +kernel)⟩

/-! ### Hypotheses of the statements are met: memory -/

theorem pair_of {α β : Type} {a : α × β} {x : α} (h : a.1 = x) : a = (x, a.2) := by cases a; subst h; rfl

theorem released_true {s s' : State} {t t' : Team} {scope : Scope} (h : s.storesComplete scope allStores = .done s')
    (ht : s'.team? s'.cur = some t') : Released s t true scope s' t' := by unfold Released; exact ⟨h, ht⟩

theorem released_false (s : State) (t : Team) (scope : Scope) : Released s t false scope s t := by unfold Released; exact ⟨rfl, rfl⟩

/-- The passes of a vector memory instruction. -/
def passesRun (lane : State → Team → Nat → MemRes) (s : State) (t : Team) : Option (State × Nat) :=
  (List.range t.words).foldl (fun r j => passRun lane t.uid r ((lanesOf t.active t.lanes).filter (fun l => l / 32 == j))) (some (s, 0))

theorem lanesDone_gen {lane : State → Team → Nat → MemRes} {s : State} {t t' : Team} {x : State × Nat}
    (h : passesRun lane s t = some x) (ht : x.1.team? x.1.cur = some t') (hl : lanesOf t'.active t'.lanes = []) :
    LanesDone lane s t x.1 x.2 := ⟨h, t', ht, hl⟩

/-- The state after a wait for the stores of the issuing team at device scope. -/
def relOf (s : State) : State :=
  match s.storesComplete .dev allStores with
  | .done s1 => s1
  | _ => s

/-- The demonstration machine after such a wait, in which nothing was pending. -/
def demoRel : State := relOf (demo 1)

theorem rel_demo : Released (demo 1) vt true .dev demoRel vt := released_true (by decide +kernel) (by decide +kernel)

/-- An access of the vector team at the address in `s1`, and the state after its checks. -/
def acc (k : AKind) (n : Nat) : AccRes × State := (demo 1).access ((demo 1).agentOf (demo 1).cur vt) 0x10000 n n k

def place : Phys := ⟨0x10000, 0, 32, 0x10000⟩

theorem witness_ScalarAccess :
    OnceReady (demo 1) vt .any ∧ acc .load 8 = (.ok place, (acc .load 8).2) ∧ acc .store 8 = (.ok place, (acc .store 8).2) ∧
    acc .atomic 8 = (.ok place, (acc .atomic 8).2) ∧ vt.s 1 + BitVec.ofInt 64 (0 * 8) = 0x10000 ∧ vt.s 1 + vt.s 0 = 0x10000 ∧
    Released (demo 1) vt true .dev demoRel vt ∧ Released (demo 1) vt false .dev (demo 1) vt :=
  ⟨once_v, pair_of (by decide +kernel), pair_of (by decide +kernel), pair_of (by decide +kernel), by decide +kernel,
    by decide +kernel, rel_demo, released_false _ _ _⟩

/-- What the lanes of a vector memory instruction leave, when they run. -/
def lanesEnd (r : Option (State × Nat)) : State × Nat := r.getD (State.reset, 0)

def loadLane (s : State) (t : Team) (l : Nat) : MemRes :=
  s.laneAccess t (vindexRegs (.disp 0)) l (t.s 1 + BitVec.ofInt 64 (0 * 4 + l * 4)) 4 .load (fun s p =>
    let (v, w, s1) := s.doLoad s.cur.1 t.uid p 4
    .ok (s1.putLane (.v 4 false) l v) w)

def storeLane (s : State) (t : Team) (l : Nat) : MemRes :=
  s.laneAccess t (dataRegs (.reg 2) 4 ++ vindexRegs (.idx (.reg 7))) l (t.s 1 + (t.src (.reg 7) l).signExtend 64) 4 .store (fun s p =>
    .ok (s.doStore s.cur.1 t.uid p (leBytes 4 (t.storeData (.reg 2) 4 l)) none) 0)

def addLane (s : State) (t : Team) (l : Nat) : MemRes :=
  s.laneAccess t (2 :: vregsOf (.reg 7)) l (t.s 1 + (t.src (.reg 7) l).signExtend 64) 4 .atomic (fun s p =>
    let (old, w, s1) := s.doAtomic s.cur.1 t.uid p 4 (fun old => some ((old + (t.vreg 2 l).toNat) % 2 ^ 32))
    .ok (s1.putLane (.v 2 false) l old) w)

def redLane (s : State) (t : Team) (l : Nat) : MemRes :=
  s.laneAccess t (vregsOf (.reg 2) ++ vregsOf (.reg 7)) l (t.s 1 + (t.src (.reg 7) l).signExtend 64) 4 .red (fun s p =>
    .ok (s.doRed s.cur.1 t.uid p (t.src (.reg 2) l).toNat) 0)

def run2 (lane : State → Team → Nat → MemRes) : State × Nat := lanesEnd (passesRun lane (demo 1) vt)

/-- Both lanes ran and none is left. -/
theorem lanesDone_of {lane : State → Team → Nat → MemRes} {t : Team}
    (h : passesRun lane (demo 1) vt = some (run2 lane))
    (ht : (run2 lane).1.team? (run2 lane).1.cur = some t) (hl : lanesOf t.active t.lanes = []) :
    LanesDone lane (demo 1) vt (run2 lane).1 (run2 lane).2 := lanesDone_gen h ht hl

/-- The same after a release. -/
def runRel (lane : State → Team → Nat → MemRes) : State × Nat := lanesEnd (passesRun lane demoRel vt)

/-- The issuing team after a state. -/
def curTeam (s : State) : Team := (s.team? s.cur).getD sup

theorem witness_VectorAccess :
    (VecReady (demo 1) vt (.v 4 false) (vindexRegs (.disp 0)) ∧ LanesDone loadLane (demo 1) vt (run2 loadLane).1 (run2 loadLane).2) ∧
    (VecReady (demo 1) vt (.m 0) (dataRegs (.reg 2) 4 ++ vindexRegs (.idx (.reg 7))) ∧
      LanesDone storeLane (demo 1) vt (run2 storeLane).1 (run2 storeLane).2) ∧
    (Released (demo 1) vt true .dev demoRel vt ∧ demoRel.latch = (demo 1).latch ∧
      VecReady (demo 1) vt (.v 2 false) (2 :: vregsOf (.reg 7)) ∧ LanesDone addLane demoRel vt (runRel addLane).1 (runRel addLane).2 ∧
      VecReady (demo 1) vt (.m 0) (vregsOf (.reg 2) ++ vregsOf (.reg 7)) ∧
      LanesDone redLane demoRel vt (runRel redLane).1 (runRel redLane).2) :=
  ⟨⟨ready_v (by decide), lanesDone_of (by decide +kernel) (t := curTeam (run2 loadLane).1) (by decide +kernel) (by decide +kernel)⟩,
    ⟨ready_v (by decide), lanesDone_of (by decide +kernel) (t := curTeam (run2 storeLane).1) (by decide +kernel) (by decide +kernel)⟩,
    rel_demo, by decide +kernel, ready_v (by decide),
    lanesDone_gen (by decide +kernel) (t' := curTeam (runRel addLane).1) (by decide +kernel) (by decide +kernel), ready_v (by decide),
    lanesDone_gen (by decide +kernel) (t' := curTeam (runRel redLane).1) (by decide +kernel) (by decide +kernel)⟩

/-- A broadcast load of four bytes from a page without the write permission. -/
def demoRead : State := (demo 1).setCore 0 { (demo 1).core 0 with tlb := [⟨7, 0, 30, 0x01A0000000000303⟩] }

def ldbLane (s : State) (t : Team) (l : Nat) : MemRes :=
  s.laneAccess t (vregsOf (.reg 7)) l (t.s 1 + (t.src (.reg 7) l).signExtend 64) 4 .ldb (fun s p =>
    let (v, w, s1) := s.doLdb s.cur.1 t.uid p 4
    .ok (s1.putLane (.v 4 false) l v) w)

def ldbRun : State × Nat := lanesEnd (passesRun ldbLane demoRead vt)

theorem witness_VectorAccess_ldb : VecReady demoRead vt (.v 4 false) (vregsOf (.reg 7)) ∧ LanesDone ldbLane demoRead vt ldbRun.1 ldbRun.2 :=
  ⟨⟨by decide +kernel, rfl, by decide, (by intro e he; cases he), rfl⟩,
    lanesDone_gen (by decide +kernel) (t' := curTeam ldbRun.1) (by decide +kernel) (by decide +kernel)⟩

def spanOf (t : Team) (l : Nat) : W64 × Nat × Nat := (t.s 1 + BitVec.ofInt 64 ((0 + (l : Int)) * 30 / 8), ((0 + (l : Int)) * 30 % 8).toNat, (((0 + (l : Int)) * 30 % 8).toNat + 30 + 7) / 8)

def packLane (s : State) (t : Team) (l : Nat) : MemRes :=
  s.lanePack t (vindexRegs (.disp 0)) l (spanOf t l) .ldp (fun s ps =>
    let (v, st, s1) := s.loadEach s.cur.1 t.uid ps
    .ok (s1.putLane (.v 4 false) l (v / 2 ^ (spanOf t l).2.1 % 2 ^ 30)) st)

/-- Lanes of `ldp` with elements of 3 bits: 30 bits a lane. -/
theorem witness_PackedAccess : VecReady (demo 1) vt (.v 4 false) (vindexRegs (.disp 0)) ∧
    LanesDone packLane (demo 1) vt (run2 packLane).1 (run2 packLane).2 :=
  ⟨ready_v (by decide), lanesDone_of (by decide +kernel) (t := curTeam (run2 packLane).1) (by decide +kernel) (by decide +kernel)⟩

def accPref (va : W64) : AccRes × State := (demo 1).access ((demo 1).agentOf (demo 1).cur vt) va 1 1 .pref

/-- The line is shared by every die and no link between dies works. -/
def demoCut : State := { demo 1 with dirs := [(0x10000 / 32, ⟨0, 32, 15, false⟩)], fenced := [101, 102, 103, 106, 107, 111] }
def accCut : AccRes × State := demoCut.access (demoCut.agentOf demoCut.cur vt) (vt.s 1) 1 1 .pref

/-- An address that passes, and the one in `s8`, which is not canonical. -/
theorem witness_PrefetchAndFence :
    (OnceReady (demo 1) vt .any ∧ accPref (vt.s 1) = (.ok place, (accPref (vt.s 1)).2) ∧ place.cached = true ∧
      (accPref (vt.s 1)).2.lineUnreachable 0 (place.pa / 128) = none) ∧
    (OnceReady demoCut vt .any ∧ accCut = (.ok place, accCut.2) ∧ accCut.2.lineUnreachable 0 (place.pa / 128) ≠ none) ∧
    (accPref (vt.s 8)).1 = .fault ⟨0x09, 1, vt.s 8⟩ ∧ Released (demo 1) vt true .dev demoRel vt :=
  ⟨⟨once_v, pair_of (by decide +kernel), by decide +kernel, by decide +kernel⟩,
    ⟨⟨by decide +kernel, rfl, rfl⟩, pair_of (by decide +kernel), by decide +kernel⟩, by decide +kernel, rel_demo⟩

/-- A store waits in the queue of core 0, and a `red` to another line. -/
def pend (pa : Nat) (d : List Host.Cell) (red : Option Nat) : PendStore :=
  { team := 301, blk := 300, no := 0, pa := pa, va := pa, size := 4, uncached := false, chain := none, data := d, red := red, tag := none, mayMerge := false, ordered := false, stuck := none }
def aStore : PendStore := pend 0x10000 [(0x10000, 1), (0x10001, 2)] none
def aRed : PendStore := { pend 0x20000 [] (some 5) with no := 1 }
def demoStore : State := ((demo 1).acceptStore 0 aStore).acceptStore 0 aRed

theorem witness_CoreSeesItsStores : place.cached = true ∧ place.pa % 128 + 8 ≤ 128 ∧ place.pa % 32 + 8 ≤ 32 ∧
    (demoStore.core 0).stores[0]? = some aStore ∧ (demoStore.core 0).stores[1]? = some aRed ∧
    demoStore.unreachable 0 0x10000 = none ∧ demoStore.unreachable 0 0x20000 = none ∧ regionOf 0x10000 ≠ .pod ∧ regionOf 0x20000 ≠ .pod ∧
    demoStore.lineOwned (0x10000 / 128) = false ∧ demoStore.lineOwned (0x20000 / 128) = false ∧ demoStore.epochDue = false ∧
    (aStore.data.map (·.1)).Nodup := by decide +kernel

def accBad (va : W64) (k : AKind) : AccRes × State := (demo 1).access ((demo 1).agentOf (demo 1).cur vt) va 8 8 k

/-- An address that is not canonical, one of the supervisor's half, and one that is not aligned. -/
theorem witness_AccessFaultsAndFrame :
    (demo 1).epochDue = false ∧ canonical (vt.s 8) = false ∧
    (canonical 0xFF00000000000000 = true ∧ ((demo 1).agentOf (demo 1).cur vt).priv = false ∧ (0xFF00000000000000 : W64).getLsbD 56 = true) ∧
    (regionOf 0x10001 = .hbm ∧ (vt.s 7).toNat % 8 ≠ 0) ∧
    accBad (vt.s 7) .load = (.fault ⟨0x0A, 0, vt.s 7⟩, (accBad (vt.s 7) .load).2) ∧
    accBad (vt.s 7) .atomic = (.fault ⟨0x0A, 0, vt.s 7⟩, (accBad (vt.s 7) .atomic).2) ∧
    (accBad (vt.s 7) .load).2.team? (accBad (vt.s 7) .load).2.cur = some vt :=
  ⟨by decide +kernel, by decide +kernel, ⟨by decide +kernel, by decide +kernel, by decide +kernel⟩, ⟨by decide +kernel, by decide +kernel⟩,
    pair_of (by decide +kernel), pair_of (by decide +kernel), by decide +kernel⟩

/-! ### Hypotheses of the statements are met: locks, grace periods and barriers -/

theorem once_V {t : Team} (h : t.markedOnce = false) : OnceReady (demoV t) t .any := ⟨rfl, rfl, h⟩

/-- The state a wait for stores ends in. -/
def doneOf (w : StoreWait) : State :=
  match w with
  | .done s => s
  | _ => State.reset
theorem done_of {w : StoreWait} (h : (match w with | .done _ => true | _ => false) = true) : w = .done (doneOf w) := by
  cases w <;> first | rfl | cases h

def lockAcc (t : Team) : AccRes × State := (demoV t).access ((demoV t).agentOf (demoV t).cur t) 0x10000 1 1 .lock

def lockObj : Nat := lockObject place

/-- A lock held on the line at 0x10000 with a region of 256 bytes, and a team that holds it or waits for it. -/
def heldLock : HeldLock := ⟨0x10000, lockObj, .dev, 256, false, false⟩
def vtHolds : Team := { vt with held := [heldLock] }
def vtAnswered (code : W64) : Team := { vt with wait := { WaitRec.idle with kind := 3, object := BitVec.ofNat 64 lockObj, reply := some code } }

def lockWait : StoreWait := (lockAcc vt).2.storesComplete .dev allStores

/-- The object itself, what completes the request, and what the faults ask for: a region length above 8192, no lock on the line, a
lock without a region. -/
theorem witness_LockInstructions :
    (OnceReady (demo 1) vt .any ∧ vt.s 1 = 0x10000 ∧ ((vt.s 2).toNat / 2 ^ 18 % 2 ^ 14 ≤ 8192) ∧ regionBad (vt.s 1) 0 = false ∧
      lockAcc vt = (.ok place, (lockAcc vt).2) ∧ vt.held.length < 8 ∧ (∀ e ∈ vt.held, e.obj ≠ lockObj) ∧ lockable place = true ∧
      vt.wait.kind = 0 ∧ lockWait = .done (doneOf lockWait) ∧ (doneOf lockWait).team? (doneOf lockWait).cur = some vt) ∧
    (OnceReady (demoV (vtAnswered 0)) (vtAnswered 0) .any ∧ lockAcc (vtAnswered 0) = (.ok place, (lockAcc (vtAnswered 0)).2) ∧
      (vtAnswered 0).wait.kind = 3 ∧ (vtAnswered 0).wait.object.toNat = lockObj ∧ (vtAnswered 0).wait.reply = some 0) ∧
    (OnceReady (demoV (vtAnswered 3)) (vtAnswered 3) .any ∧ lockAcc (vtAnswered 3) = (.ok place, (lockAcc (vtAnswered 3)).2)) ∧
    ((∀ e ∈ vt.held, ¬(e.range.1 ≤ (vt.s 1).toNat ∧ (vt.s 1).toNat < e.range.1 + e.range.2)) ∧ OnceReady (demoV vtHolds) vtHolds .any ∧
      regionBad 0xFFFFFFFFFFFFFF80 256 = true) :=
  ⟨⟨once_v, by decide +kernel, by decide +kernel, by decide +kernel, pair_of (by decide +kernel), by decide, (by intro e he; cases he),
      by decide +kernel, by decide, done_of (by decide +kernel), by decide +kernel⟩,
    ⟨once_V (by decide), pair_of (by decide +kernel), by decide, by decide +kernel, by decide +kernel⟩,
    ⟨once_V (by decide), pair_of (by decide +kernel)⟩,
    (by intro e he; cases he), once_V (by decide), by decide +kernel⟩

/-- A window of the core lies where a lock cannot stand. -/
theorem witness_LockInstructions_window : lockable ⟨windowBase 0, 0, 0, 0⟩ = false := by decide +kernel

def unlockWait (reg : Bool) : StoreWait := (demoV vtHolds).storesComplete .dev (if reg then heldLock.binds else fun _ => true)

theorem witness_UnlockAndStatus :
    (OnceReady (demoV vtHolds) vtHolds .any ∧
      vtHolds.held.find? (fun e => decide (e.range.1 ≤ (vtHolds.s 1).toNat ∧ (vtHolds.s 1).toNat < e.range.1 + e.range.2)) = some heldLock ∧
      heldLock.regionLen ≠ 0 ∧
      (∀ reg, unlockWait reg = .done (doneOf (unlockWait reg)) ∧
        (doneOf (unlockWait reg)).team? (doneOf (unlockWait reg)).cur = some vtHolds ∧
        (doneOf (unlockWait reg)).fenced.contains (sliceDie ((doneOf (unlockWait reg)).homeOf lockObj)) = false)) ∧
    lockAcc vtHolds = (.ok place, (lockAcc vtHolds).2) :=
  ⟨⟨once_V (by decide), by decide +kernel, by decide,
      fun reg => by cases reg <;> exact ⟨done_of (by decide +kernel), by decide +kernel, by decide +kernel⟩⟩,
    pair_of (by decide +kernel)⟩

/-- A waiter of the team, and machines in which it asks for a free lock or for one that team 302 holds. -/
def waiter : Waiter := ⟨301, 1, 5000, 0, 0, 0, 0, 1, .dev, 0x10000, 0⟩
def asking (ltry : Bool) : State := { demo 1 with lockReqs := [⟨301, lockObj, false, ltry, none, waiter⟩] }
def lockHeld : LockRec := { LockRec.fresh false with next := 1, holder := some 302 }

theorem witness_LockRequestHandled (ltry : Bool) : (asking ltry).team? (0, 1) = some vt ∧
    (asking ltry).lockReqs.find? (fun q => q.team == vt.uid) = some ⟨301, lockObj, false, ltry, none, waiter⟩ ∧
    (demo 1).poisoned (lockLine lockObj false waiter.va.toNat) = false ∧ tabGet? (asking ltry).locks lockObj = none ∧
    (demo 1).sliceRecords ((demo 1).homeOf lockObj) < 4096 ∧
    tabGet? ({ asking ltry with locks := [(lockObj, lockHeld)] } : State).locks lockObj = some lockHeld ∧ lockHeld.holder.isSome = true ∧
    (demo 1).sliceWaiters ((demo 1).homeOf lockObj) < 16384 ∧ lockHeld.transit = none := by
  cases ltry <;> decide +kernel

/-- Records of a lock: one waiter behind the holder, and the waiter in transit with its window open. -/
def lockWaited : LockRec := { lockHeld with queue := [waiter], next := 2 }
def behind : Waiter := { waiter with team := 303, ticket := 2 }
def lockPassing (passed : Nat) (queue : List Waiter) : LockRec :=
  { LockRec.fresh false with next := 3, transit := some { waiter with passed := passed }, windowEnd := some 60000, queue := queue }
def withLock (r : LockRec) : State := { demo 1 with locks := [(lockObj, r)] }
/-- The waiter's block is being swapped out. -/
def awayLock (r : LockRec) : State := (withLock r).mapBlock 0 300 (fun b => { b with swapping := true })
def granted : State :=
  ((withLock (lockPassing 0 [behind])).setLock lockObj
    { lockPassing 0 [behind] with transit := none, windowEnd := none, holder := some 301, inFlight := some waiter,
                                   abandoned := false, lastAbandoned := false }).recallLock lockObj false

theorem witness_LockHandOff :
    ((LockRec.fresh false).queue = [] ∧ lockWaited.queue = waiter :: [] ∧ (withLock lockWaited).absent 301 = false ∧
      (awayLock lockWaited).absent 301 = true ∧
      tabGet? (withLock lockHeld).locks lockObj = some lockHeld ∧ (withLock lockHeld).holdsOrWaits 302 lockObj = false ∧
      (tabGet? (withLock (lockPassing 0 [behind])).locks lockObj = some (lockPassing 0 [behind]) ∧
        (withLock (lockPassing 0 [behind])).absent 301 = false ∧ (withLock (lockPassing 0 [behind])).recallHeld lockObj false = false ∧
        (lockPassing 0 [behind]).abandoned = false ∧ granted.findTeam 301 = some (0, 1)) ∧
      ((lockPassing 0 [behind]).windowEnd = some 60000 ∧ (awayLock (lockPassing 0 [behind])).absent 301 = true ∧
        (lockPassing 0 []).queue = [] ∧ (lockPassing 0 [behind]).queue = behind :: [] ∧
        (lockPassing 0 [behind]).transit = some waiter ∧ (lockPassing 1 [behind]).transit = some { waiter with passed := 1 })) ∧
    (lockWaited.waiters.find? (fun w => w.team == 301) = some waiter ∧ waiter.deadline ≠ 0 ∧
      (withLock lockWaited).waitsOn 301 = some (lockObj, waiter) ∧ (withLock lockWaited).waitsOn 302 = none ∧
      (withLock lockWaited).probes = []) := by decide +kernel

/-- Two locks whose holders wait on each other, and a probe of team 301 that has come to the lock that team 302 waits on, or is at its
first hop. -/
def waiter2 : Waiter := { waiter with team := 302, since := 7 }
def lock2 : Nat := lockObj + 128
def probeAt (obj hops : Nat) (first : Bool) : Probe := ⟨301, lockObj, 0, 0, 1, obj, hops, [(lockObj, 301)], first⟩
def cycle (p : Probe) : State :=
  { demo 1 with
    locks := [(lockObj, lockWaited), (lock2, { lockHeld with holder := some 301, queue := [waiter2] })], probes := [p] }

theorem witness_LockHandOff_probe :
    (cycle (probeAt lockObj 0 true)).probes[0]? = some (probeAt lockObj 0 true) ∧
    tabGet? (cycle (probeAt lockObj 0 true)).locks lockObj = some lockWaited ∧ lockWaited.transit = none ∧ lockWaited.holder = some 302 ∧
    ((cycle (probeAt lockObj 0 true)).waitsOn 302 = some (lock2, waiter2) ∧ 302 ≠ (probeAt lockObj 0 true).origin ∧
      (probeAt lockObj 0 true).hops < 15) ∧
    (tabGet? (cycle (probeAt lock2 1 true)).locks lock2 = some { lockHeld with holder := some 301, queue := [waiter2] } ∧
      (cycle (probeAt lock2 1 true)).waitsOn 301 = some (lockObj, waiter) ∧ waiter.rank lockObj = (probeAt lock2 1 true).rank) := by
  decide +kernel

/-- Process 5 with generation 3 open and generation 1 complete. -/
def demoProc : State := { demo 1 with procs := [(5, { (demo 1).proc 5 with gen := 3, completed := 1 })] }
def vtGen (g : W64) : Team := { vt with sreg := [(4, g)] }

theorem witness_GraceInstructions : OnceReady (demo 1) vt .any ∧ Released (demo 1) vt true .dev demoRel vt ∧
    (demoRel.proc (demoRel.procOf demoRel.cur vt)).deferred.length < 65536 ∧ demoProc.procOf demoProc.cur vt = 5 ∧
    (demoProc.proc 5).gen.toNat < ((vtGen 4).s 4).toNat ∧ ((vtGen 1).s 4).toNat ≤ (demoProc.proc 5).completed.toNat ∧
    ((vtGen 2).s 4).toNat ≤ (demoProc.proc 5).gen.toNat ∧ (demoProc.proc 5).completed.toNat < ((vtGen 2).s 4).toNat :=
  ⟨once_v, rel_demo, by decide +kernel, by decide +kernel, by decide +kernel, by decide +kernel, by decide +kernel, by decide +kernel⟩

/-- An object freed at generation 0, and the team that waits for generation 2. -/
def freed : Deferred := ⟨0x5000, 64, 1, 0, 0⟩
def demoRing : State := { demo 1 with procs := [(5, { (demo 1).proc 5 with deferred := [freed], gen := 3, completed := 1 })] }
def vtWaits : Team := { vt with wait := { WaitRec.idle with kind := 8, object := 2 } }

def ringVa : W64 := wide (BitVec.ofNat 57 (demoRing.freeRing 5).1)
def ringTail : Except LaneFault Nat × State := demoRing.unitRead (demoRing.graceAgent 5) ringVa 8
def ringEntry : Except LaneFault Unit × State :=
  ringTail.2.unitWords (demoRing.graceAgent 5) (ringVa + BitVec.ofNat 64 (0x40 + 0 % 2 ^ (demoRing.freeRing 5).2 * 32))
    [freed.addr.toNat, freed.tag.toNat * 2 ^ 32 + freed.len.toNat, freed.ticket.toNat, (demoRing.proc 5).completed.toNat]
/-- The same with a full ring, and where the process has no page for it. -/
def fullRing : State := { demoRing with procs := [(5, { demoRing.proc 5 with headSeen := 2 ^ 64 - 2 ^ (demoRing.freeRing 5).2 })] }
def lostRing : State := demoRing.setCore 0 { demoRing.core 0 with tlb := [] }

theorem witness_GraceUnit :
    ((demoRing.proc 5).deferred = freed :: [] ∧ (demoRing.proc 5).stopped = false ∧ freed.ticket.toNat ≤ (demoRing.proc 5).completed.toNat ∧
      ringTail.1 = .ok 0 ∧ (0 + 2 ^ 64 - (demoRing.proc 5).headSeen) % 2 ^ 64 < 2 ^ (demoRing.freeRing 5).2 ∧
      ringEntry.1 = .ok () ∧ (ringEntry.2.unitWrite (demoRing.graceAgent 5) ringVa 8 ((0 + 1) % 2 ^ 64)).1 = .ok ()) ∧
    (ringTail.2.unitRead (demoRing.graceAgent 5) (ringVa + 8) 8).1 = .ok 0 ∧
    (2 ^ (fullRing.freeRing 5).2 ≤ (0 + 2 ^ 64 - (fullRing.proc 5).headSeen) % 2 ^ 64 ∧
      (fullRing.unitRead (fullRing.graceAgent 5) ringVa 8).1 = .ok 0) ∧
    (match (lostRing.unitRead (lostRing.graceAgent 5) ringVa 8).1 with
      | .error f => !f.held
      | .ok _ => false) = true ∧
    waitsFor (demoProc.proc 5) ((demoProc.proc 5).completed.toNat + 1) vtWaits = true ∧
    (demoProc.proc 5).completed.toNat < (demoProc.proc 5).gen.toNat := by decide +kernel

/-- A block whose barrier 0 is open and holds the bit of team 0. -/
def barBlock : Block := { demoBlock with barriers := [⟨4, 3, 1, true, false, 1⟩, ⟨0, 0, 0, false, false, 0⟩] }
def demoBar (t : Team) : State :=
  { withTeams [(0, Team.supervisor 0), (1, t), (2, mt), (3, ct)] 1 with
    cores := [(0, { demoCore [(0, Team.supervisor 0), (1, t), (2, mt), (3, ct)] with blocks := [(0, barBlock)] })] }
def vtBar : Team := { vt with wait := { WaitRec.idle with kind := 2, param := 0, object := 3, p1 := [wide (demo 1).latch.start] } }
def barWait : StoreWait := (demo 1).storesComplete .blk allStores
def arrived : W32 × State := (doneOf barWait).arriveAt vt demoBlock 1 false 3 ⟨4, 0, 0, false, false, 0⟩
def arrivedLast : W32 × State := (doneOf barWait).arriveAt vt demoBlock 1 false 1 ⟨4, 0, 0, false, false, 0⟩

theorem witness_BarrierInstructions :
    (OnceReady (demo 1) vt .any ∧ (demo 1).blockOf (demo 1).cur.1 vt = some demoBlock ∧ demoBlock.barrier 1 = some ⟨4, 0, 0, false, false, 0⟩ ∧
      (demo 1).otherScope demoBlock 1 false = false ∧ (⟨4, 0, 0, false, false, 0⟩ : Barrier).has vt.tindex = false ∧
      3 ≤ demoBlock.teamCount * 1 ∧ vt.wait.kind ≠ 2 ∧ barWait = .done (doneOf barWait) ∧
      (doneOf barWait).team? (doneOf barWait).cur = some vt ∧ arrived.2.team? arrived.2.cur = some vt ∧ arrived.2.latch = (demo 1).latch ∧
      ((arrived.2.blockOf 0 vt).bind (fun b => b.barrier 1)).map (·.phase) = some arrived.1 ∧
      arrivedLast.2.team? arrivedLast.2.cur = some vt ∧ arrivedLast.2.latch = (demo 1).latch ∧
      ((arrivedLast.2.blockOf 0 vt).bind (fun b => b.barrier 1)).map (fun y => decide (y.phase ≠ arrivedLast.1)) = some true) ∧
    (OnceReady (demoBar vt) vt .any ∧ (demoBar vt).blockOf (demoBar vt).cur.1 vt = some barBlock ∧
      (demoBar vt).otherScope barBlock 0 false = false ∧
      barBlock.barrier 0 = some ⟨4, 3, 1, true, false, 1⟩ ∧ (⟨4, 3, 1, true, false, 1⟩ : Barrier).has vt.tindex = true) ∧
    (OnceReady (demoBar vtBar) vtBar .any ∧ vtBar.wait.kind = 2 ∧ vtBar.wait.param = 0 ∧ vtBar.wait.p1 = [wide (demoBar vtBar).latch.start] ∧
      (4 : W32) ≠ vtBar.wait.object.setWidth 32) :=
  ⟨⟨once_v, by decide +kernel, rfl, by decide +kernel, by decide, by decide, by decide, done_of (by decide +kernel), by decide +kernel,
      by decide +kernel, by decide +kernel, by decide +kernel, by decide +kernel, by decide +kernel, by decide +kernel⟩,
    ⟨⟨by decide +kernel, rfl, by decide +kernel⟩, by decide +kernel, by decide +kernel, rfl, by decide⟩,
    ⟨by decide +kernel, rfl, by decide +kernel⟩, by decide, by decide, by decide +kernel, by decide⟩

/-- A phase that its count ends. -/
def doneBar : Block := { demoBlock with barriers := [⟨4, 1, 1, true, false, 1⟩] }
def demoDone : State :=
  { withTeams [] 1 with cores := [(0, { demoCore [(0, Team.supervisor 0), (1, vt), (2, mt), (3, ct)] with blocks := [(0, doneBar)] })] }

/-- The last arrival, an open barrier of another scope or count, and a number the block does not have. -/
def gangBar : Block := { demoBlock with gang := 2, barriers := [⟨4, 3, 1, true, false, 1⟩] }
def demoGangBar : State :=
  { withTeams [] 1 with cores := [(0, { demoCore [(0, Team.supervisor 0), (1, vt), (2, mt), (3, ct)] with blocks := [(0, gangBar)] })] }

theorem witness_Barriers :
    (((demoBar vt).blockByUid barBlock.uid).bind (fun b => b.barrier 0) = some ⟨4, 3, 1, true, false, 1⟩ ∧
      (demoBar vt).phaseDone barBlock 0 ⟨4, 3, 1, true, false, 1⟩ = false ∧       ((demoDone.blockByUid doneBar.uid).bind (fun b => b.barrier 0) = some ⟨4, 1, 1, true, false, 1⟩ ∧
        demoDone.phaseDone doneBar 0 ⟨4, 1, 1, true, false, 1⟩ = true ∧ doneBar.groupWith doneBar = true)) ∧
    ((demoBar vt).blockOf (demoBar vt).cur.1 vt = some barBlock ∧ vt.wait.kind ≠ 2 ∧ barBlock.barrier 2 = none ∧
      barBlock.teamCount < 4 ∧ (⟨4, 3, 1, true, false, 1⟩ : Barrier).isOpen = true ∧ (⟨4, 3, 1, true, false, 1⟩ : Barrier).expect ≠ 2) ∧
    (demoGangBar.blockOf demoGangBar.cur.1 vt = some gangBar ∧ (true && decide (1 < gangBar.gang)) = true ∧
      demoGangBar.otherScope gangBar 0 true = true) := by
  decide +kernel

/-! ### Hypotheses of the statements are met: system instructions, supervisors and faults -/

theorem witness_SystemRegisters : OnceReady (demo 1) vt .any ∧ (demo 1).blockOf (demo 1).cur.1 vt = some demoBlock ∧ (demo 1).cur.2 ≠ 0 ∧
    OnceReady (demo 0) (Team.supervisor 0) .any ∧ (demo 0).cur.2 = 0 := ⟨once_v, by decide +kernel, by decide, once_s, rfl⟩

/-- A debug agent is attached to the process. -/
def demoDebug : State := { demo 1 with dbg := [(0, 0x100007)] }

/-- An operation of the matrix team in flight. -/
def flightOp : MatOp :=
  { id := 400, issue := 400, team := 302, blk := 300, kind := .mma, acc := 0, entries := [0], srcA := .slot 0, srcB := .slot 1, strideA := 128,
    strideB := 128, fmtA := 0, fmtB := 0, cls := 2, shape := 0, blkLen := 0, slayout := false, gang := false, member := 0, ksteps := 2, kstep := 0,
    group := none, anvils := 1, iflush := false, rflush := false, scaleA := 0, scaleB := 0, dstPa := [], scaleDst := 0, running := true, pins := [], fault := none,
    reported := false }
def withOps (ops : List MatOp) (tiles : Tab TileEntry) (t : Team) (slot : Nat) : State :=
  { State.reset with
    cores := [(0, { demoCore [(0, Team.supervisor 0), (1, vt), (2, t), (3, ct)] with ops := ops, tiles := tiles })], cur := (0, slot) }

theorem witness_TrapBreakHalt :
    (OnceReady (demo 1) vt .any ∧ (demo 1).latch.stuffed = false ∧ (demo 1).storesComplete .sys allStores = .done (demo 1) ∧
      (demo 1).attached (pasidOf ((demo 1).blockOf (demo 1).cur.1 vt)) = false ∧
      OnceReady demoDebug vt .any ∧ demoDebug.attached (pasidOf (demoDebug.blockOf demoDebug.cur.1 vt)) = true) ∧
    (OnceReady (demo 0) (Team.supervisor 0) .any ∧ (Team.supervisor 0).stepArm = false ∧ (Team.supervisor 0).parked = false ∧
      (demo 0).latch.rep = false) ∧
    (OnceReady (demoV vtHolds) vtHolds .any ∧ vtHolds.held ≠ []) ∧
    (vt.held = [] ∧ (demo 1).reportDue vt (fun _ _ => true) (fun y => !y.cancelled) = none ∧ (demo 1).hasWork vt.uid = false ∧
      (demo 1).storesComplete .pod allStores = .done (demo 1)) ∧
    (OnceReady (withOps [flightOp] [] mt 2) mt .any ∧ (withOps [flightOp] [] mt 2).reportDue mt (fun _ _ => true) (fun y => !y.cancelled) = none ∧
      (withOps [flightOp] [] mt 2).hasWork mt.uid = true) :=
  ⟨⟨once_v, rfl, by decide +kernel, by decide +kernel, ⟨by decide +kernel, rfl, by decide +kernel⟩, by decide +kernel⟩,
    ⟨once_s, rfl, rfl, rfl⟩, ⟨once_V (by decide +kernel), by decide⟩,
    ⟨rfl, by decide +kernel, by decide +kernel, by decide +kernel⟩,
    ⟨by decide +kernel, rfl, by decide +kernel⟩, by decide +kernel, by decide +kernel⟩

def frameRead (s : State) : Loaded := s.loadWords (s.agentOf s.cur vt) (vt.s 1) vt.frameWords
def wordsOf : Loaded → List Nat
  | .ok ws _ => ws
  | _ => []
def stateOf : Loaded → State
  | .ok _ s => s
  | _ => State.reset
theorem loaded_of {x : Loaded} (h : wordsOf x ≠ []) : x = .ok (wordsOf x) (stateOf x) := by cases x <;> first | rfl | exact absurd rfl h

/-- A frame of zeros, which is well-formed, and one whose saved PC is odd. -/
def oddFrame : State := (demo 1).memWrite 0x10008 [1]

theorem witness_SignalReturn :
    (OnceReady (demo 1) vt .any ∧ (vt.s 7).toNat % 128 ≠ 0) ∧
    ((vt.s 1).toNat % 128 = 0 ∧ frameRead (demo 1) = .ok (wordsOf (frameRead (demo 1))) (stateOf (frameRead (demo 1))) ∧
      frameBad (fun i => ((wordsOf (frameRead (demo 1)))[i]?).getD 0) = false ∧
      (stateOf (frameRead (demo 1))).acquire.team? (stateOf (frameRead (demo 1))).acquire.cur = some vt) ∧
    (frameRead oddFrame = .ok (wordsOf (frameRead oddFrame)) (stateOf (frameRead oddFrame)) ∧
      frameBad (fun i => ((wordsOf (frameRead oddFrame))[i]?).getD 0) = true) :=
  ⟨⟨once_v, by decide +kernel⟩, ⟨by decide +kernel, loaded_of (by decide +kernel), by decide +kernel, by decide +kernel⟩,
    loaded_of (by decide +kernel), by decide +kernel⟩

/-- A supervisor whose `s1` is a handle of slot 1 and whose `s2` names no slot, with its registers at EPC and a doorbell. -/
def supT : Team := { Team.supervisor 0 with sreg := [(1, 1), (2, 0), (3, 0x8000000000000000)] }
def demoSup (epc : W64) (even : Bool) (t : Team) : State :=
  { State.reset with
    cores := [(0, { demoCore [(0, supT), (1, t), (2, mt), (3, ct)] with epc := epc, even := even, doorbell := true })] }

theorem witness_SupervisorEvents (even : Bool) :
    (demoSup 0 even vt).team? (0, 0) = some supT ∧
    ((demoSup 0 even vt).core 0).nextEvent 0 = some (2, { (demoSup 0 even vt).core 0 with doorbell := false }) ∧
    (supT.parked = false ∧ supT.done = 0 ∧ supT.rep.remain = 0 ∧ supT.pwords = 0) ∧
    (canonical 0x1000 = true ∧ canonical 0x1001 = true ∧ canonical 0x1000000000000000 = false ∧
      ((demoSup 0x1000 even vt).core 0).epc = 0x1000) := by cases even <;> decide +kernel

def vtParked : Team := { vt with parked := true, record := { FaultRec.empty with code := 0x30 } }

theorem witness_ParkAndResume :
    (OnceReady (demoSup 0 false vt) supT .any ∧ (demoSup 0 false vt).cur.2 = 0 ∧ (supT.s 1).toNat < 32 ∧ (supT.s 1).toNat ≠ 0 ∧
      (demoSup 0 false vt).team? (0, (supT.s 1).toNat) = some vt ∧ vt.parked = false ∧ vt.halted = false ∧
      vt.canIssue ((demoSup 0 false vt).blockOf 0 vt) = true) ∧
    ((demoSup 0 false vtParked).findTeam 301 = some (0, 1) ∧ (demoSup 0 false vtParked).team? (0, 1) = some vtParked ∧ vtParked.parked = true ∧
      (((demoSup 0 false vtParked).setTeam (0, 1) { vtParked with parked := false, record := .empty, stepArm := true }).restartReported
        301).findTeam 301 = some (0, 1)) ∧
    (2 ≤ (supT.s 3).toNat / 2 ^ 62 ∧ (supT.s 2).toNat / 2 ^ 62 = 0 ∧ (supT.s 2).toNat % 32 = 0) :=
  ⟨⟨⟨by decide +kernel, rfl, by decide +kernel⟩, by decide +kernel⟩, by decide +kernel, by decide +kernel⟩

theorem witness_PrivilegeAndRole :
    ((demo 1).team? (demo 1).cur = some vt ∧ vt.markedOnce = false ∧ (demo 1).cur.2 ≠ 0) ∧
    ((demo 2).team? (demo 2).cur = some mt ∧ mt.done = 0 ∧ mt.marked = none ∧ mt.role ≠ .vector) ∧ (vt.role = .vector ∧ vt.nreg ≤ 64 ∧ vt.active ≠ 0) := by
  decide +kernel

theorem witness_TakingAFault : (faultOf 0x0A 0 0x10001 1).code ≠ 0x28 ∧ (faultOf 0x0A 0 0x10001 1).code ≠ 0x29 := by decide

/-! ### Hypotheses of the statements are met: tile memory, matrix operations and copies -/

def slotOf (st len off : Nat) : TileEntry := { TileEntry.free with state := st, length := len, offset := off }
def accOf (st : Nat) (wide : Bool) : TileEntry := { TileEntry.free with state := st, wide := wide }

/-- A team on a core with some tile entries; `s10` asks for a range of 4096 bytes at 0x1000. -/
def withTiles (tiles : Tab TileEntry) (t : Team) (slot : Nat) : State :=
  { State.reset with
    cores := [(0, { demoCore [(0, Team.supervisor 0), (1, vt), (2, mt), (3, ct)] with teams := [(0, Team.supervisor 0), (slot, t)], tiles := tiles })],
    cur := (0, slot) }
def vtBind : Team := { vt with sreg := [(10, 0x0000100000001000)] }

/-- The team's reportable faults on some entries of core 0. -/
def dueAt (s : State) (t : Team) (es : List (Nat × Nat)) : Option (State × FaultInfo) :=
  let onOne (c : Nat) (k : Core) (o : MatOp) : Bool := !o.isQuant && (o.phys k).any (fun e => es.contains (c, e))
  let issues : List Nat := s.cores.flatMap (fun d => (d.2.ops.filter (onOne d.1 d.2)).map (·.issue))
  s.reportDue t (fun _ o => !o.isQuant && issues.contains o.issue)
    (fun y => !y.cancelled && (y.entry? (s.core s.cur.1)).any (fun e => es.contains (s.cur.1, e)))

theorem clear_of {s : State} {t : Team} {es : List (Nat × Nat)} (h1 : dueAt s t es = none)
    (h2 : ∀ e ∈ es, ((s.core e.1).tile e.2).faulted = false) : EntriesClearAt s t es := ⟨h1, h2⟩

theorem named_of {s : State} {t : Team} {need : RoleNeed} {b : Block} {slot : Bool} {n e : Nat} (h1 : s.team? s.cur = some t)
    (h2 : need.ok t.role = true) (h3 : t.markedOnce = false) (h4 : s.blockOf s.cur.1 t = some b) (h5 : b.entry? slot n = some e)
    (h6 : EntriesClear s t [e]) : TileNamed s t need b slot n e := ⟨⟨h1, h2, h3⟩, h4, h5, h6⟩

theorem clear_one {s : State} {t : Team} {e : Nat} (h1 : dueAt s t [(s.cur.1, e)] = none) (h2 : ((s.core s.cur.1).tile e).faulted = false) :
    EntriesClear s t [e] := clear_of h1 (by intro x hx; cases hx with | head => exact h2 | tail _ h => cases h)

theorem named_slot (tiles : Tab TileEntry) (h : (tabGet TileEntry.free tiles 32).faulted = false) (t : Team) (ht : t.blk = 300)
    (hp : t.place = 0) (hd : t.markedOnce = false) : TileNamed (withTiles tiles t 1) t .any demoBlock true 0 32 :=
  named_of rfl rfl hd (by cases t; subst ht hp; rfl) rfl (clear_one rfl h)

theorem named_acc (st : Nat) (wide : Bool) (need : RoleNeed) (hn : need.ok Role.matrix = true) (n e : Nat) (he : demoBlock.entry? false n = some e)
    (rest : Tab TileEntry) (h : (tabGet TileEntry.free ((0, accOf st wide) :: rest) e).faulted = false) :
    TileNamed (withTiles ((0, accOf st wide) :: rest) mt 2) mt need demoBlock false n e :=
  named_of rfl hn (by decide +kernel) rfl he (clear_one rfl h)

theorem witness_TileInstructions :
    (TileNamed (withTiles [(32, slotOf 0 0 0)] vtBind 1) vtBind .any demoBlock true 0 32 ∧
      ((vtBind.s 10).toNat % 2 ^ 19 = 0x1000 ∧ (vtBind.s 10).toNat / 2 ^ 32 % 2 ^ 20 = 0x1000 ∧ 0x2000 ≤ demoBlock.spList.length * 1024)) ∧
    (TileNamed (withTiles [(32, slotOf 2 64 0)] vt 1) vt .any demoBlock true 0 32 ∧
      (∀ e ∈ [32], ((withTiles [(32, slotOf 2 64 0)] vt 1).core 0).tileReaders demoBlock true 0 e = false) ∧ vt.wait.kind = 0 ∧
      (slotOf 2 64 0).localNo = 0) ∧
    TileNamed (withTiles [(0, accOf 2 false)] mt 2) mt .matrix demoBlock false 0 0 ∧
    (OnceReady (withTiles [(0, accOf 0 false)] mt 2) mt .matrix ∧ demoBlock.entry? false 0 = some 0 ∧ demoBlock.entry? false 1 = some 1 ∧
      EntriesClear (withTiles [(0, accOf 0 false)] mt 2) mt [0, 1]) :=
  ⟨⟨named_slot _ rfl _ rfl rfl (by decide +kernel), by decide +kernel⟩,
    ⟨named_slot _ rfl _ rfl rfl (by decide +kernel), by decide +kernel, rfl, rfl⟩,
    named_acc 2 false .matrix rfl 0 0 rfl [] rfl,
    ⟨rfl, rfl, by decide +kernel⟩, rfl, rfl, clear_of (by decide +kernel) (by decide +kernel)⟩

/-- The words of a format block of class 1 and one k-step at offset 0 of the scratchpad, with slots 0 and 1 ready. -/
def demoMat : State :=
  { withTiles [(32, slotOf 2 8192 0x1000), (33, slotOf 2 8192 0x4000)] mt 2 with mem := memSetAll [] (spAddr 0 demoBlock 0) (leBytes 32 (0x10001 * 2 ^ 64)) }
def matWords : List W64 := (List.range 4).map (fun i => BitVec.ofNat 64 (demoMat.spRead 0 demoBlock (8 * i) 8))
def matFmt : FormatBlock := FormatBlock.ofWords matWords

theorem witness_MatrixStart : OnceReady demoMat mt .matrix ∧ demoMat.blockOf demoMat.cur.1 mt = some demoBlock ∧ (mt.s 9).toNat = 0 ∧
    (mt.captured = none ∧ 32 ≤ demoBlock.spSize ∧ demoMat.spPoison 0 demoBlock 0 32 = none ∧ demoMat.spBusy 0 demoBlock 0 32 = none ∧
      demoMat.matChecks 0 demoBlock false 0 (.slot 0) (.slot 1) matFmt = none) ∧
    EntriesClearAt demoMat mt (demoMat.matNamed demoBlock false 0 [32, 33] matFmt) ∧
    (((demoMat.core 0).tile 32).state = 2 ∧ ((demoMat.core 0).tile 33).state = 2 ∧ ((demoMat.core 0).tile 0).state = 0 ∧
      (demoMat.core 0).takeAnvils matFmt.shape ≠ none ∧ (demoMat.core 0).anvilWaiters = [] ∧ opEntries matFmt.shape matFmt.cls = 1) :=
  ⟨⟨rfl, rfl, by decide +kernel⟩, rfl, by decide +kernel, by decide +kernel, clear_of (by decide +kernel) (by decide +kernel),
    by decide +kernel⟩

/-- A gang of one block is refused; a block of a gang of two on two cores starts both parts. -/
def gangBlock (uid rank x : Nat) : Block := { demoBlock with uid := uid, rank := rank, gang := 2, x := x, gx := 2, gy := 1, gz := 1, y := 0, z := 0, accList := [0, 1, 2, 3] }
def mtGang : Team := { mt with sreg := [(4, 0x20000), (5, 0x30000)] }
def demoGang : State :=
  { withTiles [] mtGang 2 with
    cores := [(0, { demoCore [(2, mtGang)] with blocks := [(0, gangBlock 300 0 0)] }), (1, { Core.reset 1 with blocks := [(0, gangBlock 310 1 1)] })],
    mem := memSetAll [] (spAddr 0 demoBlock 0) (leBytes 32 (0x210001 * 2 ^ 64 + 128 * 2 ^ 192 + 128 * 2 ^ 224)) }
def gangFmt : FormatBlock := FormatBlock.ofWords ((List.range 4).map (fun i => BitVec.ofNat 64 (demoGang.spRead 0 demoBlock (8 * i) 8)))

theorem witness_MatrixStart_gang : OnceReady demoGang mtGang .matrix ∧ demoGang.blockOf 0 mtGang = some (gangBlock 300 0 0) ∧
    (demoGang.groupOf (gangBlock 300 0 0)).map (·.1) = [0, 1] ∧ gangFmt.shape = 2 ∧
    demoGang.matChecks 0 (gangBlock 300 0 0) true 0 (.addr 0x20000) (.addr 0x30000) gangFmt = none ∧
    (∀ p ∈ demoGang.groupOf (gangBlock 300 0 0), (demoGang.core p.1).takeAnvils gangFmt.shape ≠ none ∧ (demoGang.core p.1).anvilWaiters = []) ∧
    EntriesClearAt demoGang mtGang (demoGang.matNamed (gangBlock 300 0 0) true 0 [] gangFmt) :=
  ⟨⟨rfl, rfl, by decide +kernel⟩, by decide +kernel, by decide +kernel, by decide +kernel, by decide +kernel, by decide +kernel,
    clear_of (by decide +kernel) (by decide +kernel)⟩

/-- Accumulator 0 ready, slot 0 bound and empty: a drain to the slot, and a `quant` whose format of `s11` has four bits. -/
def mtDrain : Team := { mt with sreg := [(11, 0x0000000100000134)] }
def demoDrain (wide : Bool) : State := withTiles [(0, accOf 2 wide), (1, accOf 2 false), (32, slotOf 0 65536 0)] mtDrain 2

theorem witness_DrainStart (wide : Bool) :
    TileNamed (demoDrain wide) mtDrain .matrix demoBlock false 0 0 ∧ (MatSrc.slot 0).notHeld demoBlock = false ∧
    EntriesClear (demoDrain wide) mtDrain [0, 32] ∧ EntriesClear (demoDrain wide) mtDrain [0, 1] ∧ EntriesClear (demoDrain wide) mtDrain [0] ∧
    (mtDrain.captured = none ∧ ((demoDrain wide).core 0).tiles.length = 3 ∧ (((demoDrain wide).core 0).tile 0).state = 2 ∧
      (((demoDrain wide).core 0).tile 0).pair = false ∧ (((demoDrain wide).core 0).tile 0).wide = wide ∧
      (((demoDrain wide).core 0).tile 32).state ≠ 1 ∧ (((demoDrain wide).core 0).tile 1).state = 2 ∧ demoBlock.entry? false 1 = some 1 ∧
      (nfValid (BitVec.ofNat 32 (mtDrain.s 11).toNat) = true ∧ (mtDrain.s 11).toNat / 2 ^ 32 % 4 = 1 ∧ (mtDrain.s 11).toNat / 2 ^ 48 = 0 ∧
        0 + 64 * (64 / (8 * 2 ^ 1)) ≤ demoBlock.spSize)) := by
  cases wide <;>
    exact ⟨named_of (by decide +kernel) rfl rfl (by decide +kernel) rfl (clear_of (by decide +kernel) (by decide +kernel)), by decide +kernel,
      clear_of (by decide +kernel) (by decide +kernel), clear_of (by decide +kernel) (by decide +kernel),
      clear_of (by decide +kernel) (by decide +kernel), by decide +kernel⟩

/-- The destination of a drain to a slot passes its checks, whatever follows. -/
theorem witness_DrainStart_dest (k : State → Team → List Nat → State) :
    ∃ s1 t1 pas, (demoDrain false).drainDest mtDrain demoBlock (.slot 0) 256 256 false k = k s1 t1 pas ∧ s1 = demoDrain false :=
  ⟨_, _, _, rfl, rfl⟩

/-- Teams with three groups or copies issued and one done; the token in `s12` is 2. -/
def mtTok (issued drained tok : Nat) : Team :=
  { mt with
    issued := BitVec.ofNat 16 issued, drained := BitVec.ofNat 16 drained, sreg := [(12, BitVec.ofNat 64 tok)] }
def ctTok (issued done tok : Nat) : Team :=
  { ct with
    copyIssued := BitVec.ofNat 16 issued, copyDone := BitVec.ofNat 16 done, sreg := [(12, BitVec.ofNat 64 tok)] }
def withCopies (cs : List Copy) (tiles : Tab TileEntry) (t : Team) : State :=
  { State.reset with
    cores := [(0, { demoCore [(0, Team.supervisor 0), (1, vt), (2, mt), (3, t)] with copies := cs, tiles := tiles })], cur := (0, 3) }

/-- The layout record of a gather of sixteen elements of four bytes at 0x20000. -/
def record : List W64 := [0x20000, 0x10200, 0x0000100F00000000] ++ List.replicate 9 0
def demoCopy : Copy :=
  { id := 500, team := 303, blk := 300, token := 2, record := record, dense := .slot 2, bitmap := 0, nbox := 1, boxes := [], denseOff := 0x8000,
    fault := none, fbox := 0, reported := false, cancelled := false, complete := false, frozen := false }

theorem witness_Tokens :
    (OnceReady (withTiles [] (mtTok 3 1 2) 2) (mtTok 3 1 2) .matrix ∧ (mtTok 3 1 2).issued - (mtTok 3 1 2).drained ≠ 64 ∧
      (mtTok 65 1 2).issued - (mtTok 65 1 2).drained = 64 ∧
      (2 ^ 15 ≤ ((2 : BitVec 16) - (mtTok 3 1 2).issued).toNat ∧ (withTiles [] (mtTok 3 1 2) 2).reportDue (mtTok 3 1 2)
        (fun _ o => o.group.any (fun g => decide (((2 : BitVec 16) - g).toNat < 2 ^ 15))) (fun _ => false) = none) ∧
      ((3 - 2 : BitVec 16).toNat ≤ (3 - 2 : BitVec 16).toNat) ∧ ((3 - 2 : BitVec 16).toNat < (3 - 1 : BitVec 16).toNat) ∧
      (1 ≤ ((4 : BitVec 16) - 3).toNat ∧ ((4 : BitVec 16) - 3).toNat ≤ 2 ^ 15 - 1)) ∧
    (OnceReady (withCopies [demoCopy] [] (ctTok 3 1 2)) (ctTok 3 1 2) .copy ∧
      ((withCopies [demoCopy] [] (ctTok 3 1 2)).core 0).copies.find? (fun y => y.team == 303 && y.token == 2) = some demoCopy ∧
      (withCopies [demoCopy] [] (ctTok 3 1 2)).reportDue (ctTok 3 1 2) (fun _ _ => false)
        (fun y => decide (((2 : BitVec 16) - y.token).toNat < 2 ^ 15)) = none) := by
  unfold OnceReady
  decide +kernel

def demoTcopy : State :=
  { withCopies [] [(34, slotOf 0 64 0x8000)] ct with mem := memSetAll [] (spAddr 0 demoBlock 0) (record.flatMap (fun w => leBytes 8 w.toNat)) }
def demoWords : List W64 := (List.range 12).map (fun i => BitVec.ofNat 64 (demoTcopy.spRead 0 demoBlock (8 * i) 8))

theorem witness_CopyStart : OnceReady demoTcopy ct .copy ∧ demoTcopy.blockOf demoTcopy.cur.1 ct = some demoBlock ∧
    EntriesClear demoTcopy ct [34] ∧
    ((ct.denseSide (.src (.slot 2))).local? = some (true, 2) ∧ demoBlock.entry? true 2 = some 34 ∧
      ((demoTcopy.core 0).tile 34).pair = false ∧ ct.captured = none ∧ (ct.s 9).toNat = 0 ∧ 96 ≤ demoBlock.spSize ∧
      demoTcopy.spPoison 0 demoBlock 0 96 = none ∧ demoTcopy.spBusy 0 demoBlock 0 96 = none ∧
      demoTcopy.copyChecks 0 0 (.slot 2) (some 34) demoWords = none ∧ (Layout.of demoWords).scatter = false ∧
      (demoTcopy.core 0).copies.length < 32 ∧ ((demoTcopy.core 0).tile 34).state = 0) :=
  ⟨⟨rfl, rfl, rfl⟩, rfl, clear_of (by decide +kernel) (by decide +kernel), by decide +kernel⟩

/-- An operation of class 2 with one k-step on slots 0 and 1, a drain and a `quant` of accumulator 0. -/
def stepOp : MatOp := { flightOp with ksteps := 1 }
def drainOp0 : MatOp := { flightOp with kind := .drain false, dstPa := [0x20000, 0x20008] }
def quantOp0 : MatOp := { flightOp with kind := .quant false, fmtA := 0x134, blkLen := 1, dstPa := [0x20000] }
def demoOp (o : MatOp) : State := withOps [o] [(0, accOf 1 false), (32, slotOf 2 8192 0x1000), (33, slotOf 2 8192 0x4000)] mt 2

def stepPart : Part := ⟨0, stepOp, demoBlock⟩
def fetchedOf (x : Except (Option FlightFault) (FetchedRows × FetchedRows) × State) : Option (Nat × Nat) :=
  match x.1 with
  | .ok (rows, cols) => some (rows.rows.length, cols.rows.length)
  | .error _ => none

/-- The same operation stopped, or from an address that no process maps; and a block that is being swapped out. -/
def restOp : MatOp := { stepOp with running := false, anvils := 0 }
def farOp : MatOp := { stepOp with srcA := .addr 0x80000000 }
def awayOp (o : MatOp) : State := (demoOp o).mapBlock 0 300 (fun b => { b with swapping := true })
/-- A destination that a box of a copy owns. -/
def ownedOp (o : MatOp) : State :=
  let s := demoOp o
  s.setCore 0 { s.core 0 with copies := [{ demoCopy with boxes := [⟨0, false, [0x20000 / 128], [0x20000], 8, 0, [], none⟩] }] }
def quantFlags (s : State) (o : MatOp) : Flags :=
  ((List.range 64).map (fun i => quantRow (NFmt.of o.fmtA) o.fmtB (blkLength o.blkLen)
    ((List.range 64).map (fun j => leRead (memGet s.mem) (tileAddr 0 [0] ((64 * i + j) * 4)) 4)))).foldl
      (fun r row => row.foldl (fun r x => r ||| x.2.2) r) 0
/-- A `quant` under traps, of a tile that holds a NaN. -/
def trapOp : MatOp := { quantOp0 with fmtB := 0x001F0000 }
def nanTile : State := (demoOp trapOp).memWrite (tileAddr 0 [0] 0) (leBytes 4 0x7FC00000)
def isFault (x : Except (Option FlightFault) (FetchedRows × FetchedRows) × State) : Bool :=
  match x.1 with
  | .error (some _) => true
  | _ => false

theorem witness_MatrixSteps :
    ((demoOp stepOp).findOp 400 = some (0, stepOp) ∧ stepOp.fault = none ∧ (demoOp stepOp).partsOf 400 = [stepPart] ∧
      stepOp.running = true ∧ (demoOp stepOp).accPoison stepPart = none ∧ fetchedOf ((demoOp stepOp).kstepFetch stepPart) = some (64, 64) ∧
      isFault ((demoOp farOp).kstepFetch ⟨0, farOp, demoBlock⟩) = true) ∧
    ((demoOp restOp).partsOf 400 = [⟨0, restOp, demoBlock⟩] ∧ demoBlock.engines = true ∧
      ((demoOp restOp).takeParts [⟨0, restOp, demoBlock⟩]).isSome = true ∧
      (((awayOp restOp).partsOf 400).map (fun q => q.blk.engines)) = [false]) ∧
    (dotExact [.nan false] [.fin false 1 0] = none ∧ (dotExact [.fin false 1 0] [.fin false 1 0]).isSome = true ∧ (f32.dec 0x3F800000).isNan = false) ∧
    ((demoOp drainOp0).findOp 400 = some (0, drainOp0) ∧ (demoOp drainOp0).engineWait 0 302 drainOp0 = none ∧
      ((ownedOp drainOp0).engineWait 0 302 drainOp0).isSome = true) ∧
    ((demoOp quantOp0).findOp 400 = some (0, quantOp0) ∧ ((demoOp quantOp0).core 0).blockUid 300 = some demoBlock ∧ quantOp0.fault = none ∧
      (demoOp quantOp0).engineWait 0 302 quantOp0 = none ∧
      (demoOp quantOp0).spBusy 0 demoBlock 0 (64 * (64 / (8 * 2 ^ 1))) = none ∧ ((ownedOp quantOp0).engineWait 0 302 quantOp0).isSome = true) ∧
    (([0x7FC00000].map (f32.decIn false)).any FVal.isNan = true) := by decide +kernel

theorem witness_MatrixSteps_quant : quantFlags (demoOp quantOp0) quantOp0 &&& quantOp0.fmtB.extractLsb' 16 5 = 0 ∧
    quantFlags nanTile trapOp &&& trapOp.fmtB.extractLsb' 16 5 ≠ 0 := by decide +kernel

/-- The copy with a box in flight. -/
def box0 : Box :=
  ⟨0, false, [0x20000 / 128], [0x20000, 0x20008, 0x20010, 0x20018, 0x20020, 0x20028, 0x20030, 0x20038], 8, 0, [], none⟩
def boxed (x : Box) : Copy := { demoCopy with boxes := [x] }
def demoBox (y : Copy) : State := withCopies [y] [(34, slotOf 1 64 0x8000)] ct
def unitsOf : Engine → Option (List Nat × Bool × Option Nat)
  | .ok l s => some (l, s.boxHeld 0 demoCopy 8 l, s.partSector 8 l)
  | _ => none

def stopOf (e : BoxEnd) : Nat :=
  match e.stop with
  | none => 0
  | some .pause => 1
  | some (.fault _) => 2
  | some .held => 3

/-- A gather at an address that no process maps: the box faults. A box that comes to another page while a shootdown is pending. -/
def badBox : Copy := { boxed box0 with record := [0x80000000, 0x10200, 0x0000100F00000000] ++ List.replicate 9 0 }
def box1 : Box := { box0 with page := some 0x1F }
def downBox (y : Copy) : State := { demoBox y with shootdowns := [⟨7, 0, 12, false⟩] }

theorem witness_BoxSteps :
    (demoCopy.openBoxes = [0] ∧ (demoBox demoCopy).copyRuns demoCopy demoBlock = true ∧
      (unitsOf ((demoBox demoCopy).engineUnits 0 303 (blockAgent 0 demoBlock) 8 (demoCopy.boxDst 0 demoBlock 0))).map
        (fun e => (e.1.length, e.2)) = some (8, false, none)) ∧
    ((demoBox (boxed box0)).liveBox 500 0 = some (0, boxed box0, demoBlock, box0) ∧
      stopOf ((demoBox (boxed box0)).runBox 0 (boxed box0) demoBlock box0) = 0) ∧
    ((demoBox badBox).liveBox 500 0 = some (0, badBox, demoBlock, box0) ∧
      stopOf ((demoBox badBox).runBox 0 badBox demoBlock box0) = 2) ∧
    ((downBox (boxed box1)).liveBox 500 0 = some (0, boxed box1, demoBlock, box1) ∧
      stopOf ((downBox (boxed box1)).runBox 0 (boxed box1) demoBlock box1) = 1) ∧
    ((demoBox (boxed box0)).findBlock 300 = some (0, 0) ∧ demoBlock.engines = true ∧
      ((tabGet? (((demoBox (boxed box0)).mapBlock 0 300 (fun b => { b with stopped := true })).core 0).blocks 0).map Block.engines) = some false) ∧
    ((Layout.of record).elem 0 16 = none ∧ (Layout.of record).elem 0 15 ≠ none ∧ (Layout.of record).bank < 4) :=
  ⟨by decide +kernel, by decide +kernel, by decide +kernel, by decide +kernel, by decide +kernel, by decide +kernel⟩


/-! ### Hypotheses of the statements are met: the front end, the dispatcher and the mailbox -/

/-- A state whose memory lists some words. -/
def poke (ws : List (Nat × Nat)) (s : State) : State := ws.foldl (fun s e => s.memWrite e.1 (leBytes 8 e.2)) s

/-- Queue 0 of process context 5 with a ring of sixteen slots at 0x50000, its turn, and a packet in slot 0. -/
def packetState (type : Nat) (ws : List (Nat × Nat)) : State :=
  poke ([(0x40000, 0x50004), (0x40008, 0x500007), (0x40010, 1), (0x60000, 5), (0x500F8, (0x5A * 2 ^ 24 + type) * 2 ^ 32)] ++
    ws.map (fun e => (0x50000 + e.1, e.2)))
    { demo 1 with fe := { FrontEnd.reset with qtab := 0x40000, runlist := BitVec.ofNat 64 (2 ^ 52 + 0x60000) } }
def slotAcc (s : State) : AccRes × State := s.consume.slotPlace 0
def slotPlace : Phys := ⟨0x50000, 0, 32, 0x50000⟩
def slotRaw (s : State) : Nat := (slotAcc s).2.agentRead slotPlace 256

theorem packetRead_of {s : State} {type : Nat} (h1 : s.queueRuns 0 = true) (h2 : (slotAcc s).1 = .ok slotPlace)
    (h3 : (let tr := fld (slotRaw s) 2016 32
      fld tr 24 8 = (slotAcc s).2.slotValid 0 (s.queueHead 0) ∧ tr % 256 = type ∧ fld tr 16 8 = 0 ∧ fld tr 12 4 = 0 ∧ fld tr 8 4 = 0))
    (h4 : s.queueHeld 0 = false) :
    PacketRead s 0 type (slotAcc s).2 (slotRaw s) :=
  ⟨h1, h4, ⟨slotPlace, pair_of h2, rfl⟩, h3.1, h3.2.1, h3.2.2.1, .inl h3.2.2.2.1, .inl h3.2.2.2.2⟩

def okOf (x : Except (Option Nat) Phys × State) : Bool :=
  match x.1 with
  | .ok _ => true
  | .error _ => false

/-- A launch of one block of one team of 32 lanes and four registers, by the packet of the state. -/
def launchWords : List (Nat × Nat) := [(0, 0x1000), (8, 0x70000), (0x10, 0x100010001)]
def launchState : State := poke [(0x70000, 1), (0x70008, 0x10000)] (packetState 1 launchWords)
def launchDesc : Option (List Nat) := ((slotAcc launchState).2.descWords ((slotAcc launchState).2.queueAgent 0) 0x70000 17).1.toOption
def launchMade : Launch := (slotAcc launchState).2.launchOf 0 (slotRaw launchState) (launchDesc.getD [])
def addrState (type : Nat) : State := packetState type [(0, 0x20000), (8, 3)]

theorem witness_FrontEndSteps :
    PacketRead (packetState 5 []) 0 5 (slotAcc (packetState 5 [])).2 (slotRaw (packetState 5 [])) ∧
    (PacketRead (addrState 2) 0 2 (slotAcc (addrState 2)).2 (slotRaw (addrState 2)) ∧
      okOf ((slotAcc (addrState 2)).2.packetAddr 0 (BitVec.ofNat 64 (packetWord (slotRaw (addrState 2)) 0)) true) = true) ∧
    PacketRead (addrState 4) 0 4 (slotAcc (addrState 4)).2 (slotRaw (addrState 4)) ∧
    (PacketRead (addrState 3) 0 3 (slotAcc (addrState 3)).2 (slotRaw (addrState 3)) ∧
      okOf ((slotAcc (addrState 3)).2.packetAddr 0 (BitVec.ofNat 64 (packetWord (slotRaw (addrState 3)) 0)) false) = true) ∧
    (PacketRead launchState 0 1 (slotAcc launchState).2 (slotRaw launchState) ∧
      (packetWord (slotRaw launchState) 0 = 0x1000 ∧ packetWord (slotRaw launchState) 8 = 0x70000 ∧
        packetWord (slotRaw launchState) 0x10 = 0x100010001 ∧ packetWord (slotRaw launchState) 0x58 = 0 ∧ fld (slotRaw launchState) 0x300 0x4E0 = 0) ∧
      launchDesc = some [1, 0x10000, 0, 0, 0, 0, 0, 0, 0, 0, 0, 0, 0, 0, 0, 0, 0] ∧
      descRsvBad (launchDesc.getD []) = false ∧ descRangeBad (launchDesc.getD []) = false ∧ shapeFits launchMade.shape = true ∧
      launchMade.total % launchMade.gang = 0) ∧
    ((packetState 5 []).queueOn 0 = true ∧ State.reset.queueOn 0 = false) :=
  ⟨packetRead_of (by decide +kernel) (by decide +kernel) (by decide +kernel) (by decide +kernel),
    ⟨packetRead_of (by decide +kernel) (by decide +kernel) (by decide +kernel) (by decide +kernel), by decide +kernel⟩,
    packetRead_of (by decide +kernel) (by decide +kernel) (by decide +kernel) (by decide +kernel),
    ⟨packetRead_of (by decide +kernel) (by decide +kernel) (by decide +kernel) (by decide +kernel), by decide +kernel⟩,
    ⟨packetRead_of (by decide +kernel) (by decide +kernel) (by decide +kernel) (by decide +kernel), by decide +kernel⟩, by decide +kernel⟩

/-- Queue 0 waits for the word at 0x20000, which is 0. -/
def waitFor (v : W64) : InFlight := ⟨0, 0, 0, none, some (0x20000, v)⟩
def waitState (v : W64) : State :=
  { packetState 5 [] with fe := { (packetState 5 []).fe with inFlight := [waitFor v] } }
def waitPlace (v : W64) : Except (Option Nat) Phys × State := (waitState v).packetAddr 0 0x20000 false
def waitValue (v : W64) : Option Nat :=
  match (waitPlace v).1 with
  | .ok p => some ((waitPlace v).2.agentRead p 8)
  | .error _ => none

theorem witness_FrontEndSteps_wait : (waitState 0).fe.inFlight.filter (fun x => x.queue == 0) = [] ++ waitFor 0 :: [] ∧
    waitValue 0 = some 0 ∧ waitValue 3 = some 0 ∧ (waitState 3).tryWait 0 (waitFor 3) = none ∧
    (packetState 5 []).cxlHole ((packetState 5 []).queueAddr 0 2) = false ∧ State.reset.cxlHole (State.reset.queueAddr 0 2) = false ∧
    (let s : State := { demo 1 with fe := { FrontEnd.reset with standby := true, updating := true } }
     s.fe.recovery = false ∧ s.fe.table.runEntry = 0 ∧ (packetState 5 []).runCount = 1) := by decide +kernel

/-- A launch whose blocks have 31 teams, and a device in which every core of die 0 has a team already, the other dies are fenced, and
the first core's block has its team in a long wait. -/
def askLaunch : Launch :=
  { id := 700, queue := 0, pasid := 7, ctx := 5, launchNo := 0, entry := 0x1000, args := [], gx := 1, gy := 1, gz := 1, gang := 1, stagger := 0,
    prio := .normal, spKib := 0, accs := 0, sts := 0, bars := 0, shape := List.replicate 31 ⟨.vector, 32, 4, false⟩, nextIx := 0, cancelled := [],
    live := [], rounds := 0 }
def oneBlock : Block := { demoBlock with uid := 1000, launch := 1600 }
def waitTeam : Team := { vt with blk := 1000, wait := { WaitRec.idle with kind := 8, object := 2 } }
def fullCore (c : Nat) : Core :=
  { Core.reset c with teams := [(0, Team.supervisor c), (1, waitTeam)], blocks := if c = 0 then [(0, oneBlock)] else [] }
def dieState (first : Core) : State :=
  { State.reset with
    cores := (0, first) :: (List.range 63).map (fun c => (c + 1, fullCore (c + 1))), fenced := [1, 2, 3], time := 1000000,
    fe := { FrontEnd.reset with launches := [askLaunch] } }
def fullState : State := poke [(0x288, 7), (0x2A0, 4)] (dieState (fullCore 0))
def emptyState : State := dieState (Core.reset 0)

/-- Two placed blocks on die 0; the one on core 1 was decided first. -/
def startState : State :=
  let b : Block := { demoBlock with started := false }
  { demo 1 with
    cores := [(0, { demoCore [] with blocks := [(0, b)] }), (1, { demoCore [] with blocks := [(0, { b with uid := 299, launch := 77 })] })],
    fe := { FrontEnd.reset with starting := [299, 300] } }

/-- The block on its way out, with an operation whose k-step is in flight. -/
def awayState (o : Option MatOp) : State :=
  let s := fullState.mapBlock 0 1000 (fun b => { b with swapping := true })
  s.setCore 0 { s.core 0 with ops := (o.map (fun o => { o with blk := 1000 })).toList }
def readyIn (s : State) : List Bool :=
  match s.blockByUid 1000 with
  | none => []
  | some b =>
    let s1 := (s.groupOf b).foldl (fun s m => s.drainBlock m.1 m.2.2) s
    (s1.groupOf b).map (fun m => s1.saveReady m.1 m.2.2)

theorem witness_DispatcherSteps :
    emptyState.items = [askLaunch.item] ∧
    (emptyState.placeFor askLaunch.item = some 0 ∧ emptyState.lostSaved askLaunch.item = [] ∧ 0 < askLaunch.item.gang) ∧
    (startState.findBlock 300 = some (0, 0) ∧ startState.startsNext 0 { demoBlock with started := false } = false ∧
      startState.startsNext 1 { demoBlock with uid := 299, launch := 77, started := false } = true) ∧
    (fullState.eligibleAt oneBlock = some 50001 ∧ fullState.items = [askLaunch.item] ∧ fullState.placeFor askLaunch.item = none ∧
      fullState.swapBusy askLaunch.item = false ∧ fullState.victimFor askLaunch.item = some oneBlock ∧ oneBlock.groupWith oneBlock = true) ∧
    (((awayState none).blockByUid 1000).map Block.swapping = some true ∧ (awayState none).findBlock 1000 = some (0, 0) ∧
      readyIn (awayState none) = [true] ∧ readyIn (awayState (some flightOp)) = [false]) ∧
    (((fullState.groupOf oneBlock).map (fun m => (fullState.drainBlock m.1 m.2.2).saveReady m.1 m.2.2)) = [true] ∧
      fullState.freeSaveSlots 5 = [0, 1, 2, 3]) :=
  ⟨rfl, ⟨by decide +kernel, by decide +kernel, by decide⟩, by decide +kernel,
    ⟨by decide +kernel, rfl, by decide +kernel, by decide +kernel, by decide +kernel, by decide⟩, by decide +kernel, by decide +kernel, by decide +kernel⟩

/-- A parked supervisor and the record that resumes it in its inbound ring; a halted team a port reaches by its handle. -/
def demoMail : State :=
  { demoSup 0 false { vt with halted := true } with
    mgt := [(0x2000, 0x80001), (0x2008, 0x90001)], mailOut := [[1, 2]], ports := [(0, { Port.initial with ctl := 1, off := 0 })] }
def demoFull : State := poke [(demoMail.outRing.1, demoMail.outRing.2)] demoMail
def demoIn : State := poke [((demoMail.inRing 0).1 + 0x40, 1), ((demoMail.inRing 0).1 + 0x78, 0x5A * 2 ^ 56)] demoMail
def demoFrame : State :=
  { demoSup 0 false vtParked with ports := [(0, { Port.initial with ctl := 1, stack := 0x30000, entry := 0x1000, signal := 9 })] }
def frameAt : W64 := wide ((0x30000 : W64).setWidth 57) - BitVec.ofNat 64 vtParked.frameSize
def checked2 : Except LaneFault Unit × State := demoFrame.unitCheck (demoFrame.frameAgent 0 vtParked) frameAt (vtParked.frame 9).length

theorem witness_SupervisorPort :
    (demoIn.memWord ((demoIn.inRing 0).1 + 0x40 + demoIn.memWord ((demoIn.inRing 0).1 + 8) % (demoIn.inRing 0).2 * 64 + 56) / 2 ^ 56 =
        validByte (demoIn.memWord ((demoIn.inRing 0).1 + 8)) (demoIn.inRing 0).2 ∧
      demoIn.memWord ((demoIn.inRing 0).1 + 0x40 + demoIn.memWord ((demoIn.inRing 0).1 + 8) % (demoIn.inRing 0).2 * 64) % 2 ^ 16 = 0 * 2 ^ 8 + 1) ∧
    (demoMail.mailOut = [1, 2] :: [] ∧
      decide ((demoMail.mailNo.getD (demoMail.memWord demoMail.outRing.1) + 2 ^ 64 - demoMail.memWord (demoMail.outRing.1 + 8)) % 2 ^ 64 <
        demoMail.outRing.2) = true ∧
      demoFull.mailOut = [1, 2] :: [] ∧
      decide ((demoFull.mailNo.getD (demoFull.memWord demoFull.outRing.1) + 2 ^ 64 - demoFull.memWord (demoFull.outRing.1 + 8)) % 2 ^ 64 <
        demoFull.outRing.2) = false) ∧
    (demoMail.dataTeam (demoMail.port 0) = some { vt with halted := true } ∧ demoMail.dataTeam (demoMail.port 1) = none ∧
      demoMail.findTeam 301 = some (0, 1)) ∧
    (demoFrame.portTeam (demoFrame.port 0) = some 301 ∧ demoFrame.teamByUid 301 = some vtParked ∧
      vtParked.parked = true ∧ checked2.1 = .ok () ∧
      (checked2.2.frameWrite (demoFrame.frameAgent 0 vtParked) frameAt (vtParked.frame 9)).1 = .ok ()) ∧
    (((demoMail.blockByUid 300).map Block.swapping).getD false = false) := by decide +kernel

/-! ### Hypotheses of the statements are met: debug, trace and the fleet -/

/-- A machine in which words stand at address 0, where every team's PC is. -/
def codeState (w slot : Nat) : State := (demo slot).memWrite 0 (leBytes 4 w)

/-- The words of `iadd.i32 v9, v9, v2` and of an `mma`. -/
def addWord : Nat := 0x00848901
def mmaWord : Nat := ((encode (.mma 0 (.slot 0) (.slot 1) 9)).getD 0)

/-- A stopped block with a halted team under an attached agent, its next word a `nop`, and a buffer of one `nop`. -/
def haltT : Team := { vt with halted := true }
def demoHalt : State :=
  { demo 1 with
    cores := [(0, { demoCore [(0, Team.supervisor 0), (1, haltT), (2, mt), (3, ct)] with blocks := [(0, { demoBlock with stopped := true })] })],
    mem := memSetAll [] 0 (leBytes 4 0xC0000077), dbg := [(0, 0x100007), (0x40, 0xC0000077)] }
def stepEnd : Result :=
  ((demoHalt.setTeam (0, 1) { haltT with halted := false, brkHalt := false }).mapBlock 0 300 (fun b => { b with stopped := false })).issueWhole (0, 1) 65
def execEnd : ExecEnd :=
  (({ demoHalt with cur := (0, 1) } : State).setTeam (0, 1) { haltT.setAside with brkHalt := false }).execWords (0, 1) 0 (min 15 0) 16

/-- What a unit is: 1 one that can issue, of a vector instruction or one that starts an operation; 2 a fault of its fetch; 3 words that
make no unit. -/
def kindOf (u : UnitRes) : Nat :=
  match u with
  | .ok u _ => if wordIsVector u.word.w || startsOperation u.instr then 1 else 0
  | .fault _ _ => 2
  | .bad _ _ _ => 3
  | .hold _ _ => 0
def unitOf (x : Option (Team × UnitRes)) : Option (Nat × Nat) := x.map (fun e => (e.1.uid, kindOf e.2))
def isMore : ExecEnd → Bool
  | .more _ => true
  | _ => false

/-- The team stands before a vector instruction and the supervisor has halted. -/
def passState : State := (codeState addWord 1).setTeam (0, 0) { sup with halted := true }

/-- The vector team with a PC that no process maps, or before a word that decodes to nothing. -/
def farState : State := demoV { vt with pc := 0x80000000 }
def illState : State := codeState 0xE0000023 1
def refetch (s : State) (t : Team) : UnitRes := (({ s with cur := (0, 1) } : State).setTeam (0, 1) { t with hold := none }).fetchUnit (0, 1) { t with hold := none }
def demoTrace (ctl : W64) (paused : Bool) : State := (demo 1).setCore 0 { (demo 1).core 0 with trace := { Trace.initial with ctl := ctl, paused := paused } }
/-- A stopped block whose operation has a k-step in flight. -/
def busyStop : State :=
  let s := demoHalt
  s.setCore 0 { s.core 0 with ops := [flightOp] }
def vtYield : Team := { vt with yielded := true }

theorem witness_DebugAndTrace_issue :
    (unitOf (passState.nextUnit (0, 1)) = some (301, 1) ∧ passState.fe.recovery = false ∧
      firstRanked (passState.candidates 0 vt.datapath) = some 1 ∧
      (after (passState.issueAt (0, 1) (some 1)) (fun s => (s.team? (0, 1)).isSome)) = some true) ∧
    (mt.canIssue ((codeState mmaWord 2).blockOf 0 mt) = true ∧ kindOf ((codeState mmaWord 2).fetchUnit (0, 2) mt) = 1) ∧
    (unitOf (farState.nextUnit (0, 1)) = some (301, 2) ∧ kindOf (refetch farState { vt with pc := 0x80000000 }) = 2 ∧
      farState.fe.recovery = false) ∧
    (unitOf (illState.nextUnit (0, 1)) = some (301, 3) ∧ kindOf (refetch illState vt) = 3 ∧ vt.marked = none) ∧
    (passState.isReady (0, 1) vt = true ∧ vt.boost = none ∧ (demoHalt.team? (0, 1)).map (demoHalt.isReady (0, 1)) = some false ∧
      (demoV vtYield).team? (0, 1) = some vtYield) := by decide +kernel

theorem witness_DebugAndTrace :
    ((demo 1).debugBlock 0 0 = none ∧ (demo 1).debugTeam 0 1 = none) ∧
    (demoHalt.debugBlock 0 0 = some { demoBlock with stopped := true } ∧ demoHalt.debugTeam 0 1 = some (haltT, { demoBlock with stopped := true }) ∧
      haltT.steppable { demoBlock with stopped := true } = true ∧ haltT.steppable demoBlock = false ∧
      (after stepEnd (fun s => (s.team? (0, 1)).isSome)) = some true ∧ isMore execEnd = true) ∧
    (((busyStop.stoppedBlocks).map (fun m => m.2.uid) = [300] ∧ flightOp.running = true ∧ flightOp.fault = none) ∧
      (demoHalt.stoppedBlocks).map (fun m => m.2.uid) = [300]) ∧
    (((demoTrace 0x100007 false).core 0).trace.on = true ∧ (((demoTrace 0x100007 false).core 0).trace.counter 0).event = 0) ∧
    (((demoTrace 0x100007 true).core 0).trace.paused = true ∧ (demoTrace 0x100007 true).shootdowns = [] ∧
      ((demoTrace 0x100007 true).core 0).trace.held = [] ∧ ((demoTrace 0x100007 true).core 0).trace.dropped = 0) := by decide +kernel

/-- A core at the end of its logical time. -/
def lateState : State := (demo 1).setCore 0 { (demo 1).core 0 with ltime := 0xFFFF0000 }
/-- An access whose home waits for the host, or for die 2 over a link that has failed. -/
def awaitState (holder : Nat) (down : List Nat) : State :=
  { (demo 1) with awaited := [⟨0x10000, holder, none⟩], fenced := down }
def ctxState : State := poke [(640, 1), (648, 7)] (demo 1)
def addRead : Except LaneFault Nat × State := ctxState.unitRead (unitAgent 0 7 5 none) 0x20000 8
/-- A shootdown while a store waits for its home. -/
def downStore : State := { demoStore with shootdowns := [⟨7, 0, 12, false⟩], fenced := [101, 102, 103, 106, 107, 111], dirs := [(0x10000 / 32, ⟨0, 32, 15, false⟩)] }

theorem witness_FleetSteps :
    (lateState.epochDue = true ∧ regionOf (0x8000000000000 / 128 * 128) = .host ∧ (demo 1).lineOwned (0x8000000000000 / 128) = false ∧
      (demo 1).epochDue = false) ∧
    (regionOf 0x10000 = .hbm ∧ regionOf 0x1000000000000 = .cxl 1 ∧ (demo 1).lineOwned (0x10000 / 128) = false ∧
      (demo 1).poisoned (0x10000 / 128) = false ∧ ((demo 1).setHostBit 0x10000 false).unreachable 1024 0x10000 = none ∧
      (demoCut.setHostBit 0x10000 false).unreachable 1024 0x10000 ≠ none ∧ demoCut.lineOwned (0x10000 / 128) = false ∧
      demoCut.poisoned (0x10000 / 128) = false ∧ demoCut.epochDue = false) ∧
    ((demo 1).fenced = [] ∧ (demo 1).awaited = [] ∧ (awaitState 16 []).awaited = ⟨0x10000, 16, none⟩ :: [] ∧
      ((awaitState 2 [106]).retryRoute (sliceDie ((awaitState 2 [106]).homeOf 0x10000)) 2).isSome = true ∧
      (awaitState 2 [102, 106, 111]).retryRoute (sliceDie ((awaitState 2 [102, 106, 111]).homeOf 0x10000)) 2 = none) ∧
    (ctxState.ctxOf 7 = some 5 ∧ addRead.1 = .ok 0) ∧
    ((demo 1).pendingShootdowns < 16 ∧ (demo 1).shootdownReady ⟨7, 0, 12, false⟩ = true ∧
      (downStore.cores.foldl (fun s k => s.drainCore k.1 (fun _ => true)) downStore).shootdownReady ⟨7, 0, 12, false⟩ = false) ∧
    ((demo 1).fe.ckpt = false ∧ (((demo 1).setMgt 0 1).mgtReg 0).getLsbD 0 = true ∧ (demo 1).cutOpen = false) ∧
    (regionOf (fld 0x10000 7 45 * 128) = .hbm) ∧
    ((demo 1).withheld = 0 ∧ 1025 ≤ (demo 1).clock ∧ (1700 : Nat) + 25 ≤ 1750) :=
  ⟨by decide +kernel, by decide +kernel, by decide +kernel, by decide +kernel, by decide +kernel, by decide +kernel, by decide +kernel,
    by decide +kernel⟩

/-! ### One step of each family, by hand -/

/-- Lanes with 1.0, half a unit in the last place of 1.0, and just above that. -/
def vtFloat : Team := { vt with v := [(2, [(0, 0x3F800000)]), (3, [(0, 0x33800000)]), (4, [(0, 0x33800001)])] }

theorem test_isub_wraps : teamAfter (exec (.isubI32 4 (.reg 2) (.reg 3) false) (demo 1)) 1 (fun t => (t.vreg 4 0, t.vreg 4 1)) =
    some (0xFFFFFFF9, 0xFFFFFFF9) := by decide +kernel
theorem test_irem : teamAfter (exec (.iremI32 4 (.reg 3) (.reg 2) false) (demo 1)) 1 (fun t => (t.vreg 4 0, t.vreg 4 1)) = some (1, 2) := by
  decide +kernel
/-- A tie rounds to even, and what lies above it up (R200). -/
theorem test_fadd_rounds : teamAfter (exec (.faddF32 5 (.reg 2) (.reg 3) false) (demoV vtFloat)) 1 (fun t => t.vreg 5 0) = some 0x3F800000 ∧
    teamAfter (exec (.faddF32 5 (.reg 2) (.reg 4) false) (demoV vtFloat)) 1 (fun t => t.vreg 5 0) = some 0x3F800001 := by decide +kernel
/-- A signalling NaN gives the canonical NaN. -/
theorem test_fadd_nan : teamAfter (exec (.faddF32 5 (.reg 6) (.reg 2) false) (demo 1)) 1 (fun t => t.vreg 5 0) = some 0x7FC00000 := by
  decide +kernel
theorem test_reduce : teamAfter (exec (.reduceAddI32 4 (.reg 2)) (demo 1)) 1 (fun t => t.s 4) = some 8 := by decide +kernel
theorem test_mpop : teamAfter (exec (.mpop 4 0) (demo 1)) 1 (fun t => t.s 4) = some 2 := by decide +kernel
theorem test_icmp : teamAfter (exec (.icmpLtI32 1 (.reg 2) (.reg 3)) (demo 1)) 1 (fun t => (t.mreg 1).toNat) = some 3 := by decide +kernel
theorem test_call : teamAfter (exec (.call 0x20) (demo 1)) 1 (fun t => (t.s 63, t.pc)) = some (4, 0x40) := by decide +kernel
theorem test_store : after (exec (.stS 2 .b1 1 (.disp 3)) (demo 1)) (fun s => (s.coreByte 0 301 0x10003, s.coreByte 0 301 0x10004)) = some (5, 0) := by
  decide +kernel
theorem test_atomic : after (exec (.atomAddI64 2 1 0 .rlx .dev) (demo 1)) (fun s => memGet s.mem 0x10000) = some 5 ∧
    teamAfter (exec (.atomAddI64 2 1 0 .rlx .dev) (demo 1)) 1 (fun t => t.s 2) = some 0 := by decide +kernel
theorem test_sysrd_place : teamAfter (exec (.sysrd 4 2) (demo 1)) 1 (fun t => t.s 4) = some 0x100 := by decide +kernel
theorem test_privilege : teamAfter (exec .eret (demo 1)) 1 (fun t => (t.parked, t.record.code, t.pc)) = some (true, 2, 0) := by decide +kernel
/-- R264: zeros of one sign keep it, and zeros of two signs give +0 in RNE, of the operands as they stand. -/
def vtZero : Team := { vt with v := [(2, [(0, 0x80000000)])] }
theorem test_fsub_zero : teamAfter (exec (.fsubF32 5 (.reg 2) (.reg 2) false) (demoV vtZero)) 1 (fun t => t.vreg 5 0) = some 0x80000000 ∧
    teamAfter (exec (.fsubF32 5 (.reg 2) (.reg 3) false) (demoV vtZero)) 1 (fun t => t.vreg 5 0) = some 0 := by decide +kernel
/-- R245: a scalar form ignores the done mask. -/
theorem test_scalar_ignores_done : teamAfter (exec (.iaddI64S 4 2 2) (demoV { vt with done := 1 })) 1 (fun t => t.s 4) = some 10 := by
  decide +kernel

/-! ### Hypotheses of the statements are met: excuses, held writers, links and the cut -/

/-- The team before the word that decodes to nothing, its fault excused by the lanes that are marked done; and one that a step is due for. -/
def vtExcused : Team := { vt with marked := some ⟨0xFFFFFFFF, 1, 3⟩, done := 0xFFFFFFFF }
def excusedState : State := illState.setTeam (0, 1) vtExcused
def vtDue : Team := { vt with pc := 0x80000000, stepDue := true }
/-- Port 0 is down; a checkpoint with a lasting error; a freeze whose region is due. -/
def hostDown : State := { demo 1 with fenced := [116] }
def failState : State := { demo 1 with fe := { FrontEnd.reset with ckpt := true, ckptFail := true } }
def dueState : State := { demo 1 with fe := { FrontEnd.reset with regionDue := true } }
def goState : State := { demo 1 with mgt := tabSet (demo 1).mgt 0x30 7 }
def addAtomic : AccRes × State := ctxState.access (unitAgent 0 7 5 none) 0x20000 8 8 .atomic

theorem witness_DebugAndTrace_excused :
    ((unitOf (excusedState.nextUnit (0, 1))).isSome = true ∧ vtExcused.stepDue = false ∧ kindOf (refetch excusedState vtExcused) = 3 ∧
      ([3, 2, 1, 0].map (fun n => vtExcused.excused (faultOf 1 n 0 0))) = [true, false, false, false] ∧ vt.excused (faultOf 1 3 0 0) = false) ∧
    ((unitOf ((demoV vtDue).nextUnit (0, 1))).map (fun e => e.2) = some 2 ∧ vtDue.stepDue = true) ∧
    (demoHalt.debugRun = none ∧ ({ demoHalt with debugRun := some ⟨(0, 1), 0, none⟩ } : State).debugTeam 0 1 = demoHalt.debugTeam 0 1) := by
  decide +kernel

theorem queueEntry_of {s : State} {q : Nat} (h1 : regionOf (s.queueAddr q 2) = .hbm) (h2 : s.cxlHole (s.queueAddr q 2) = false)
    (h3 : s.poisoned (s.queueAddr q 2 / 128) = false) : QueueEntryThere s q :=
  ⟨by rw [h1]; trivial, h2, h3⟩

theorem witness_FrontEndSteps_held : QueueEntryThere (packetState 5 []) 0 ∧ (packetState 5 []).queueHeld 0 = false ∧
    QueueEntryThere State.reset 0 ∧ State.reset.queueHeld 0 = false ∧ lateState.queueHeld 0 = true :=
  ⟨queueEntry_of (by decide +kernel) (by decide +kernel) (by decide +kernel), by decide +kernel, queueEntry_of (by decide +kernel) (by decide +kernel) (by decide +kernel),
    by decide +kernel, by decide +kernel⟩

theorem witness_FleetSteps_more :
    ((demo 1).hostReaches = true ∧ hostDown.hostReaches = false) ∧
    (failState.fe.ckptFail = true ∧ failState.cutOpen = false ∧ dueState.fe.regionDue = true ∧ dueState.cutOpen = false) ∧
    ((demo 1).slotBusy = false ∧ goState.slotBusy = true) ∧
    (ctxState.fe.recovery = false ∧ (match addAtomic.1 with | .ok p => p.pa == 0x20000 | _ => false) = true) := by decide +kernel

end Sys2Proof.Tests
end

section
/-! The statements on teams and their units: the state after reset, completion and prefixes, what the lanes of a vector instruction
write, the faults of single lanes, and what an instruction over registers leaves alone. -/

namespace Sys2Proof.Machine

/-! ### The state after reset -/

/-- Every core is at reset as `Core.reset` has it. -/
theorem core_reset (c : Nat) : State.reset.core c = Core.reset c := rfl

theorem team?_reset_supervisor (c : Nat) : State.reset.team? (c, 0) = some (Team.supervisor c) := rfl

theorem team?_reset_other {c slot : Nat} (h : slot ≠ 0) : State.reset.team? (c, slot) = none := by
  simp [State.team?, core_reset, Core.reset, tabGet?, h.symm]

theorem supervisor_s (c k : Nat) : (Team.supervisor c).s k = 0 := by
  unfold Team.s
  split <;> rfl

theorem supervisor_mreg_zero (c : Nat) : (Team.supervisor c).mreg 0 = lanesBelow 32 := by
  show BitVec.ofNat 1024 0xFFFFFFFF = BitVec.ofNat 1024 (2 ^ 32 - 1)
  norm_num

/-- Settles O25: each clause reads a field of the reset values. -/
theorem resetState : Obligations.ResetState := by
  refine ⟨reset_memoryInv, fun _ => rfl, rfl, rfl, fun c => ⟨Team.supervisor c, team?_reset_supervisor c, ?_, ?_⟩⟩
  · exact fun _ => team?_reset_other
  · exact ⟨rfl, rfl, rfl, rfl, rfl, supervisor_mreg_zero c, supervisor_s c, rfl, rfl, rfl, rfl, rfl, rfl, rfl, rfl, rfl, rfl, rfl⟩

/-! ### Completion and prefixes -/

/-- A unit of a program in memory with a repeat to come counts it down (R180). -/
theorem complete_repeat {s : State} {t : Team} (hb : s.latch.stuffed = false) (hr : s.latch.rep = true ∧ 1 < t.rep.remain) :
    s.complete t = s.setTeam s.cur { t with
      done := 0, marked := none, heldSince := none, wait := t.wait.kept, rep := { t.rep with remain := t.rep.remain - 1 } } := by
  simp [State.complete, hb, hr]

/-- A unit of a program in memory with no repeat to come goes on in sequence, with the loop-end step (R288). -/
theorem complete_next {s : State} {t : Team} (hb : s.latch.stuffed = false) (hr : ¬(s.latch.rep = true ∧ 1 < t.rep.remain)) :
    s.complete t = s.setTeam s.cur { t with
      done := 0, marked := none, heldSince := none, wait := t.wait.kept, rep := .idle,
      pc := (loopEnd s.latch.start s.latch.next t.loops).1, loops := (loopEnd s.latch.start s.latch.next t.loops).2,
      stepDue := t.stepArm } := by
  simp only [State.complete, hb, Bool.false_eq_true, if_false, if_neg hr]
  rfl

/-- `rep` on a unit whose repeats pass their checks sets the repeat state that governs the unit (R222). -/
theorem execRep_ok {s : State} {t : Team} {i : Instr} {sb sa sd cnt : Nat} (ht : s.team? s.cur = some t) (hi : s.latch.instr = some i)
    (hc : repCheck t i (t.repOf sb sa sd cnt) = none) :
    execRep sb sa sd cnt s = .next (s.setTeam s.cur { t with rep := t.repOf sb sa sd cnt }) := by
  simp [execRep, ht, State.repFault, hi, hc]

/-- Settles O19: the two ways a unit completes, and the two meanings of `rep` by whether a unit is in progress. -/
theorem completionAndPrefixes : Obligations.CompletionAndPrefixes := by
  refine ⟨fun s t hb => ?_, fun _ _ => rfl, fun s t i sb sa sd cnt ht hi => ⟨fun h0 hc => ?_, fun h0 hc => ?_⟩⟩
  · dsimp only
    split
    · next hr => exact complete_repeat hb hr
    · next hr => exact complete_next hb hr
  · have hof : t.repOf sb sa sd cnt = ⟨cnt + 1, cnt + 1, sd, sa, sb⟩ := if_pos h0
    rw [exec_rep, execRep_ok ht hi (hof ▸ hc), hof]
  · have hof : t.repOf sb sa sd cnt = t.rep := if_neg h0
    rw [exec_rep, execRep_ok ht hi (hof ▸ hc), hof]

/-! ### Bits of lane masks -/

theorem getLsbD_laneBit (j l : Nat) : (BitVec.ofNat 1024 (2 ^ j)).getLsbD l = (decide (l < 1024) && decide (l = j)) := by
  rw [BitVec.getLsbD_ofNat, Nat.testBit_two_pow, decide_eq_decide.2 eq_comm]

theorem getLsbD_lanesBelow (n l : Nat) : (lanesBelow n).getLsbD l = (decide (l < 1024) && decide (l < n)) := by
  rw [lanesBelow, BitVec.getLsbD_ofNat, Nat.testBit_two_pow_sub_one]

theorem getLsbD_foldl_laneBit (ls : List Nat) (x : LaneMask) (l : Nat) :
    (ls.foldl (fun x l => x ||| BitVec.ofNat 1024 (2 ^ l)) x).getLsbD l = (x.getLsbD l || (decide (l < 1024) && decide (l ∈ ls))) := by
  induction ls generalizing x with
  | nil => simp
  | cons j ls ih =>
    rw [List.foldl_cons, ih, BitVec.getLsbD_or, getLsbD_laneBit]
    grind

/-- The bits of a mask of lanes are the lanes. -/
theorem getLsbD_maskOf (ls : List Nat) (l : Nat) : (maskOf ls).getLsbD l = (decide (l < 1024) && decide (l ∈ ls)) := by
  rw [maskOf, getLsbD_foldl_laneBit]
  simp

/-! ### The result of one lane -/

@[simp] theorem Team.lanes_put (t : Team) (dst : VDst) (l : Nat) (x : W64) : (t.put dst l x).lanes = t.lanes := by
  cases dst <;> simp only [Team.put] <;> split <;> rfl

/-- The registers a lane's 32-bit result reaches (R31, R217). -/
theorem Team.vreg_put_v (t : Team) (d : Nat) (nw : Bool) (l : Nat) (x : W64) (r l' : Nat) :
    (t.put (.v d nw) l x).vreg r l' = if nw = false ∧ r = d ∧ l' = l then x.setWidth 32 else t.vreg r l' := by
  cases nw
  · exact (Team.vreg_setV t d l r l' _).trans (by simp)
  · simp only [Bool.true_eq_false, false_and, if_false]
    rfl

/-- The registers a lane's 64-bit result reaches (R216, R217). -/
theorem Team.vreg_put_w (t : Team) (d : Nat) (nw : Bool) (l : Nat) (x : W64) (r l' : Nat) :
    (t.put (.w d nw) l x).vreg r l' =
      if nw = false ∧ r = d + 1 ∧ l' = l then x.extractLsb' 32 32 else if nw = false ∧ r = d ∧ l' = l then x.setWidth 32 else t.vreg r l' := by
  cases nw
  · refine (Team.vreg_setV (t.setV d l _) (d + 1) l r l' _).trans ?_
    simp [Team.vreg_setV]
  · simp only [Bool.true_eq_false, false_and, if_false]
    rfl

/-- The low half of a lane's result enters `bp0` of its lane, whether the registers take it or not (R31, R216, R217). -/
theorem Team.latches_put_regs (t : Team) {dst : VDst} (hd : ∀ d, dst ≠ .m d) (l : Nat) (x : W64) (l' : Nat) :
    (t.put dst l x).latches l' = if l' = l then ⟨x.setWidth 32, t.latch 0 l, t.latch 1 l, t.latch 2 l⟩ else t.latches l' := by
  cases dst with
  | v _ nw => cases nw <;> exact Team.latches_shiftLatch ..
  | w _ nw => cases nw <;> exact Team.latches_shiftLatch ..
  | m d => exact absurd rfl (hd d)

/-- A comparison shifts no latch. -/
theorem Team.latches_put_m (t : Team) (d l : Nat) (x : W64) (l' : Nat) : (t.put (.m d) l x).latches l' = t.latches l' := rfl

/-- A lane's comparison writes its own bit of the mask and no other bit below the lane count (R18, R253). -/
theorem Team.getLsbD_mreg_put_m (t : Team) (d l : Nat) (x : W64) {l' : Nat} (hl : l' < t.lanes) :
    ((t.put (.m d) l x).mreg d).getLsbD l' = if l' = l ∧ l' < 1024 then x.getLsbD 0 else (t.mreg d).getLsbD l' := by
  have hm : ((t.put (.m d) l x).mreg d) = (if x.getLsbD 0 then t.mreg d ||| BitVec.ofNat 1024 (2 ^ l)
      else t.mreg d &&& ~~~BitVec.ofNat 1024 (2 ^ l)) &&& lanesBelow t.lanes := by
    simp [Team.put, Team.mreg_setM, Team.allLanes]
  rw [hm, BitVec.getLsbD_and, getLsbD_lanesBelow]
  by_cases hk : l' < 1024
  · split <;> simp only [BitVec.getLsbD_or, BitVec.getLsbD_and, BitVec.getLsbD_not, getLsbD_laneBit] <;> grind
  · simp [hk, BitVec.getLsbD_of_ge _ _ (Nat.le_of_not_lt hk)]

/-! ### The results of all lanes -/

section
variable {α : Type} {view : Team → α} {dst : VDst} {n l : Nat}

/-- What of a team the results of other lanes leave alone is left alone by all of them. -/
theorem foldl_put_other (f : Nat → LaneOut) (hother : ∀ u j x, u.lanes = n → j ≠ l → view (u.put dst j x) = view u) (ls : List Nat)
    (u : Team) (hu : u.lanes = n) (hl : l ∉ ls) : view (ls.foldl (fun u j => u.put dst j (f j).val) u) = view u := by
  induction ls generalizing u with
  | nil => rfl
  | cons j ls ih =>
    obtain ⟨hj, hl⟩ := List.ne_and_not_mem_of_not_mem_cons hl
    rw [List.foldl_cons, ih _ (by rw [Team.lanes_put, hu]) hl, hother u j _ hu (Ne.symm hj)]

/-- What of a team only the result of lane l reaches is, after all lanes, as that result makes it. -/
theorem foldl_put_lane (f : Nat → LaneOut) {upd : α → α} (hself : ∀ u, u.lanes = n → view (u.put dst l (f l).val) = upd (view u))
    (hother : ∀ u j x, u.lanes = n → j ≠ l → view (u.put dst j x) = view u) (ls : List Nat) (u : Team) (hu : u.lanes = n)
    (hnd : ls.Nodup) (hl : l ∈ ls) : view (ls.foldl (fun u j => u.put dst j (f j).val) u) = upd (view u) := by
  induction ls generalizing u with
  | nil => cases hl
  | cons j ls ih =>
    obtain ⟨hj, hnd⟩ := List.nodup_cons.1 hnd
    have hu' : (u.put dst j (f j).val).lanes = n := by rw [Team.lanes_put, hu]
    rw [List.foldl_cons]
    obtain rfl | hl := List.mem_cons.1 hl
    · rw [foldl_put_other f hother ls _ hu' hj, hself u hu]
    · rw [ih _ hu' hnd hl, hother u j _ hu (fun e => hj (e ▸ hl))]

/-- A view of a team that only the result of lane l reaches, after a commit with a result for lane l. -/
theorem Team.commit_lane {t : Team} {ls : List Nat} (f : Nat → LaneOut) {upd : α → α}
    (hself : ∀ u, u.lanes = t.lanes → view (u.put dst l (f l).val) = upd (view u))
    (hother : ∀ u j x, u.lanes = t.lanes → j ≠ l → view (u.put dst j x) = view u)
    (hdone : ∀ u m fl, view { u with done := m, sticky := fl } = view u) (hnd : ls.Nodup) (hl : l ∈ ls) :
    view (t.commit dst (ls.map (fun j => (j, f j)))) = upd (view t) := by
  refine (hdone _ _ _).trans ?_
  rw [List.foldl_map]
  exact foldl_put_lane f hself hother ls t rfl hnd hl

end

/-- A commit sets the done bit of each lane with a result (R30). -/
theorem Team.getLsbD_done_commit (t : Team) (dst : VDst) (good : List (Nat × LaneOut)) (l : Nat) :
    (t.commit dst good).done.getLsbD l = (t.done.getLsbD l || (decide (l < 1024) && decide (l ∈ good.map Prod.fst))) := by
  simp only [Team.commit, BitVec.getLsbD_or, getLsbD_maskOf]

section
variable {t : Team} {ls : List Nat} {l : Nat} (f : Nat → LaneOut) (d : Nat) (nw : Bool) (hnd : ls.Nodup) (hl : l ∈ ls)
include hnd hl

theorem Team.vreg_commit_v (r : Nat) : (t.commit (.v d nw) (ls.map (fun j => (j, f j)))).vreg r l =
    if nw = false ∧ r = d then (f l).val.setWidth 32 else t.vreg r l :=
  Team.commit_lane (view := fun u => u.vreg r l) (upd := fun x => if nw = false ∧ r = d then (f l).val.setWidth 32 else x) f
    (fun u _ => by simp [Team.vreg_put_v]) (fun u j x _ hj => by simp [Team.vreg_put_v, hj.symm]) (fun _ _ _ => rfl) hnd hl

theorem Team.vreg_commit_w (r : Nat) : (t.commit (.w d nw) (ls.map (fun j => (j, f j)))).vreg r l =
    if nw = false ∧ r = d + 1 then (f l).val.extractLsb' 32 32 else if nw = false ∧ r = d then (f l).val.setWidth 32 else t.vreg r l :=
  Team.commit_lane (view := fun u => u.vreg r l)
    (upd := fun x => if nw = false ∧ r = d + 1 then (f l).val.extractLsb' 32 32 else if nw = false ∧ r = d then (f l).val.setWidth 32 else x) f
    (fun u _ => by simp [Team.vreg_put_w]) (fun u j x _ hj => by simp [Team.vreg_put_w, hj.symm]) (fun _ _ _ => rfl) hnd hl

theorem Team.latches_commit_regs {dst : VDst} (hd : ∀ d, dst ≠ .m d) :
    (t.commit dst (ls.map (fun j => (j, f j)))).latches l = ⟨(f l).val.setWidth 32, t.latch 0 l, t.latch 1 l, t.latch 2 l⟩ :=
  Team.commit_lane (view := fun u => u.latches l) (upd := fun k => ⟨(f l).val.setWidth 32, k.b0, k.b1, k.b2⟩) f
    (fun u _ => by rw [Team.latches_put_regs u hd, if_pos rfl]; rfl)
    (fun u j x _ hj => by rw [Team.latches_put_regs u hd, if_neg hj.symm]) (fun _ _ _ => rfl) hnd hl

theorem Team.latches_commit_m : (t.commit (.m d) (ls.map (fun j => (j, f j)))).latches l = t.latches l :=
  Team.commit_lane (view := fun u => u.latches l) (upd := id) f (fun _ _ => rfl) (fun _ _ _ _ _ => rfl) (fun _ _ _ => rfl) hnd hl

theorem Team.getLsbD_mreg_commit_m (hn : l < t.lanes) (hk : l < 1024) :
    ((t.commit (.m d) (ls.map (fun j => (j, f j)))).mreg d).getLsbD l = (f l).val.getLsbD 0 :=
  Team.commit_lane (view := fun u => (u.mreg d).getLsbD l) (upd := fun _ => (f l).val.getLsbD 0) f
    (fun u hu => by rw [Team.getLsbD_mreg_put_m u d l _ (hu ▸ hn), if_pos ⟨rfl, hk⟩])
    (fun u j x hu hj => by rw [Team.getLsbD_mreg_put_m u d j x (hu ▸ hn), if_neg (fun h => hj h.1.symm)])
    (fun _ _ _ => rfl) hnd hl

end

/-- Settles O26: each part of the commit is read by the lemma on its kind of destination. -/
theorem laneResults : Obligations.LaneResults := by
  intro t ls f d l nw hnd hl
  refine ⟨?_, Team.latches_commit_regs f hnd hl nofun, ?_, ?_, Team.latches_commit_regs f hnd hl nofun,
    Team.getLsbD_mreg_commit_m f d hnd hl, Team.latches_commit_m f d hnd hl, fun dst hk => ?_⟩
  · exact (Team.vreg_commit_v f d nw hnd hl d).trans (by cases nw <;> simp)
  · exact (Team.vreg_commit_w f d nw hnd hl d).trans (by cases nw <;> simp)
  · exact (Team.vreg_commit_w f d nw hnd hl (d + 1)).trans (by cases nw <;> simp)
  · rw [Team.getLsbD_done_commit]
    simp [hk, hl]

/-! ### Lanes that fault -/

section
variable {ls : List Nat} (bad : Nat → Bool) (o : Nat → LaneOut) (e : Nat → LaneFault)

theorem badLanes_split : badLanes (ls.map (fun l => (l, (if bad l then .error (e l) else .ok (o l) : LaneRes)))) =
    (ls.filter bad).map (fun l => (l, e l)) := by
  induction ls with
  | nil => rfl
  | cons l ls ih => cases hb : bad l <;> simpa [badLanes, hb] using ih

theorem goodLanes_split : goodLanes (ls.map (fun l => (l, (if bad l then .error (e l) else .ok (o l) : LaneRes)))) =
    (ls.filter (fun l => !bad l)).map (fun l => (l, o l)) := by
  induction ls with
  | nil => rfl
  | cons l ls ih => cases hb : bad l <;> simpa [goodLanes, hb] using ih

end

/-- Of the lanes that fault, those with the code and subcode of the lowest are reported with its address (R176). -/
theorem laneFaultInfo_lanes (e : Nat → LaneFault) (l0 : Nat) (rest : List Nat) :
    laneFaultInfo ((l0 :: rest).map (fun l => (l, e l))) = some (faultOf (e l0).code (e l0).sub (e l0).addr
      (maskOf ((l0 :: rest).filter (fun l => (e l).code == (e l0).code && (e l).sub == (e l0).sub)))) := by
  simp [laneFaultInfo, List.filter_map, Function.comp_def]

section
variable {s : State} {t : Team} {dst : VDst} {bad : Nat → Bool} {o : Nat → LaneOut} {e : Nat → LaneFault} {l0 : Nat} {rest : List Nat}

/-- `vecAlu` when some active lanes fault: the others have their results, then the fault of R176 is taken (R32). -/
theorem vecAlu_fault {f : Nat → LaneRes} (hp : s.latch.passLimit = none)
    (hf : ∀ l ∈ lanesOf t.active t.lanes, f l = if bad l then .error (e l) else .ok (o l))
    (hb : (lanesOf t.active t.lanes).filter bad = l0 :: rest) :
    s.vecAlu t dst f = s.unitFault (t.commit dst (((lanesOf t.active t.lanes).filter (fun l => !bad l)).map (fun l => (l, o l))))
      (faultOf (e l0).code (e l0).sub (e l0).addr
        (maskOf ((l0 :: rest).filter (fun l => (e l).code == (e l0).code && (e l).sub == (e l0).sub)))) := by
  have hl : s.passLanes t = lanesOf t.active t.lanes := by simp [State.passLanes, hp]
  have hm : (lanesOf t.active t.lanes).map (fun l => (l, f l)) =
      (lanesOf t.active t.lanes).map (fun l => (l, (if bad l then .error (e l) else .ok (o l) : LaneRes))) :=
    List.map_congr_left (fun l h => by rw [hf l h])
  simp only [State.vecAlu, hl, ite_self, hm, badLanes_split, goodLanes_split, hb, laneFaultInfo_lanes]

/-- A vector instruction whose registers are in the window and not poisoned, and of which some active lanes fault. -/
theorem vecOp_fault {regs : List Nat} {f : Team → Nat → LaneRes} (h : VecReady s t dst regs)
    (hf : ∀ l ∈ lanesOf t.active t.lanes, f t l = if bad l then .error (e l) else .ok (o l))
    (hb : (lanesOf t.active t.lanes).filter bad = l0 :: rest) :
    s.vecOp dst regs f =
      .next (s.unitFault (t.commit dst (((lanesOf t.active t.lanes).filter (fun l => !bad l)).map (fun l => (l, o l))))
        (faultOf (e l0).code (e l0).sub (e l0).addr
          (maskOf ((l0 :: rest).filter (fun l => (e l).code == (e l0).code && (e l).sub == (e l0).sub))))) := by
  obtain ⟨ht, hr, hv, hq, hp⟩ := h
  rw [State.vecOp, State.vecOpWith, issue_body ht (by simp [hr, RoleNeed.ok]) (by simpa using hv) (Or.inl rfl),
    vecAlu_fault hp (fun l hl => ?_) hb]
  rw [guardPoison_clean hq, hf l hl]

end

/-- Lanes with a zero divisor fault together with `F.DIVZ`; the others have their results (R32, R176, R249). -/
theorem vecDiv_fault {s : State} {t : Team} {d : Nat} {a b : VSrc} {nw : Bool} (h : VecReady s t (.v d nw) (vregsOf a ++ vregsOf b))
    (hz : ∃ l ∈ lanesOf t.active t.lanes, t.src b l = 0) (sub : Nat) (f : W32 → W32 → W32) :
    s.vecDiv d nw a b sub f = .next (s.unitFault
      (t.commit (.v d nw) (((lanesOf t.active t.lanes).filter (fun l => t.src b l != 0)).map
        (fun l => (l, (⟨(f (t.src a l) (t.src b l)).zeroExtend 64, 0⟩ : LaneOut)))))
      (faultOf 0x10 sub 0 (maskOf ((lanesOf t.active t.lanes).filter (fun l => t.src b l == 0))))) := by
  obtain ⟨l0, rest, hb⟩ : ∃ l0 rest, (lanesOf t.active t.lanes).filter (fun l => t.src b l == 0) = l0 :: rest := by
    obtain ⟨l, hl, h0⟩ := hz
    exact List.exists_cons_of_ne_nil (List.ne_nil_of_mem (List.mem_filter.2 ⟨hl, by simp [h0]⟩))
  rw [State.vecDiv, vecOp_fault (e := fun _ => ⟨0x10, sub, 0⟩) (o := fun l => ⟨(f (t.src a l) (t.src b l)).zeroExtend 64, 0⟩) h
    (fun l _ => ?_) hb, hb]
  · simp only [beq_self_eq_true, Bool.and_self, List.filter_true]
    rfl
  · by_cases h0 : t.src b l = 0 <;> simp [divLane, laneVal32, h0]

/-! ### The quotients and remainders of R249 -/

theorem sdiv_eq_ofInt : (BitVec.sdiv : W32 → W32 → W32) = fun x y => BitVec.ofInt 32 (x.toInt.tdiv y.toInt) := by
  funext x y
  exact BitVec.eq_of_toInt_eq (by rw [BitVec.toInt_sdiv, BitVec.toInt_ofInt])

theorem udiv_eq_ofNat : (BitVec.udiv : W32 → W32 → W32) = fun x y => BitVec.ofNat 32 (x.toNat / y.toNat) :=
  funext fun _ => funext fun _ => BitVec.udiv_def

theorem srem_eq_ofInt : (BitVec.srem : W32 → W32 → W32) = fun x y => BitVec.ofInt 32 (x.toInt - y.toInt * x.toInt.tdiv y.toInt) := by
  funext x y
  rw [← Int.tmod_def, ← BitVec.toInt_srem, BitVec.ofInt_toInt]

theorem umod_eq_ofNat : (BitVec.umod : W32 → W32 → W32) = fun x y => BitVec.ofNat 32 (x.toNat % y.toNat) :=
  funext fun _ => funext fun _ => BitVec.umod_def

/-! ### Exceptions that are trapped -/

/-- Lanes that raise an exception the mode word traps fault with `F.FPE`, those with the exceptions of the lowest together; the
others have their results (R176, R182). -/
theorem vecOp_fpLane_fault {s : State} {t : Team} {dst : VDst} {regs : List Nat} {r : Team → Nat → FRes} {l0 : Nat} {rest : List Nat}
    (h : VecReady s t dst regs) (hb : (lanesOf t.active t.lanes).filter (fun l => (r t l).flags &&& t.traps != 0) = l0 :: rest) :
    s.vecOp dst regs (fun t l => t.fpLane (r t l)) = .next (s.unitFault
      (t.commit dst (((lanesOf t.active t.lanes).filter (fun l => (r t l).flags &&& t.traps == 0)).map (fun l => (l, fpOut (r t l)))))
      (faultOf 0x11 (r t l0).flags.toNat 0
        (maskOf ((l0 :: rest).filter (fun l => (r t l).flags.toNat == (r t l0).flags.toNat))))) := by
  rw [vecOp_fault (e := fun l => ⟨0x11, (r t l).flags.toNat, 0⟩) (o := fun l => fpOut (r t l)) h (fun l _ => ?_) hb]
  · simp only [bne, Bool.not_not, beq_self_eq_true, Bool.true_and]
  · by_cases h0 : (r t l).flags &&& t.traps = 0 <;> simp [Team.fpLane, fpOut, h0]

/-- Settles O3: the divisions by their one lemma, `fadd.f32` by the one on trapped lanes. -/
theorem laneFaults : Obligations.LaneFaults := by
  refine ⟨fun s t d a b nw h hz => ?_, fun s t d a b nw h => ?_⟩
  · have hdiv := vecDiv_fault h hz
    refine ⟨?_, ?_, ?_, ?_⟩
    · exact sdiv_eq_ofInt ▸ hdiv 1 BitVec.sdiv
    · exact udiv_eq_ofNat ▸ hdiv 1 BitVec.udiv
    · exact srem_eq_ofInt ▸ hdiv 2 BitVec.srem
    · exact umod_eq_ofNat ▸ hdiv 2 BitVec.umod
  · intro r ls bad good l0 rest hb
    rw [hb]
    exact vecOp_fpLane_fault (r := fun t l => f32.add t.rm (t.rflush .c32) (t.f32src a l) (t.f32src b l)) h hb

/-! ### What an instruction over registers leaves alone -/

/-- A 64-bit comparison is a scalar form: it writes its truth value to scalar register d (R253). -/
theorem exec_icmpEqI64_scalarDone {s : State} {t : Team} (h : OnceReady s t .any) (d a b : Nat) :
    exec (.icmpEqI64 d a b) s = .next (scalarDone s t d (truth (t.s a == t.s b))) := scalarOp_done h

/-- Completion keeps the scalar registers of the team. -/
theorem s_of_team?_complete {s : State} {t t' : Team} (h : (s.complete t).team? s.cur = some t') (k : Nat) : t'.s k = t.s k := by
  simp only [State.complete, State.afterUnit] at h
  split at h
  · rw [team?_setTeam] at h; cases h; rfl
  · split at h <;> rw [team?_setTeam] at h <;> cases h <;> rfl

/-- Refutes O27: its `destOf` lists the 64-bit comparisons among those that write a mask, and they write a scalar register. At reset
the supervisor of core 0 runs `icmp.eq.i64 s1, s0, s0`, which leaves 1 in `s1`, where the statement has `s1` unchanged, 0. -/
theorem not_registerFrame : ¬ Obligations.RegisterFrame := by
  intro h
  have ht : State.reset.team? State.reset.cur = some (Team.supervisor 0) := rfl
  obtain ⟨-, t', ht', hs, -⟩ := h (.icmpEqI64 1 0 0) _ _ _ _ _ rfl ht (exec_icmpEqI64_scalarDone ⟨ht, rfl, rfl⟩ 1 0 0)
  have hkept : t'.s 1 = 0 := (hs 1 (by decide)).trans (supervisor_s 0 1)
  have hwritten : t'.s 1 = 1 := (s_of_team?_complete ht' 1).trans (by simp [Team.s_setS, truth])
  exact absurd (hkept.symm.trans hwritten) (by decide)

end Sys2Proof.Machine
end

section
/-! The statement on the dispatcher: where an item is placed, when a block starts, how a swap-out begins and ends, and the turns of the
run list. -/

namespace Sys2Proof.Machine

/-! ### Where an item is placed (R43) -/

/-- The cores from which an item can stand: the multiples of its group size at which it fits. -/
def State.spots (s : State) (i : Item) : List Nat :=
  ((List.range (256 / max 1 i.gang)).map (fun j => j * max 1 i.gang)).filter (s.fitsAt i)

/-- The better of the best spot so far, with its stack group's load and number, and spot c. -/
def State.betterSpot (s : State) (r : Option (Nat × Nat × Nat)) (c : Nat) : Option (Nat × Nat × Nat) :=
  match r with
  | none => some (s.loadOf (stackGroupOf c), stackGroupOf c, c)
  | some (l, g, c') =>
    if s.loadOf (stackGroupOf c) < l ∨ (s.loadOf (stackGroupOf c) = l ∧ stackGroupOf c < g) then
      some (s.loadOf (stackGroupOf c), stackGroupOf c, c)
    else some (l, g, c')

theorem placeFor_eq_foldl_betterSpot (s : State) (i : Item) :
    s.placeFor i = ((s.spots i).foldl s.betterSpot none).map (fun b => b.2.2) := rfl

theorem mem_spots {s : State} {i : Item} {c : Nat} (hg : 0 < i.gang) :
    c ∈ s.spots i ↔ (∃ j < 256 / i.gang, j * i.gang = c) ∧ s.fitsAt i c = true := by
  simp [State.spots, Nat.max_eq_right hg]

/-- What the search keeps: the spot it holds is one of those seen, in a stack group no more loaded than that of any other seen. -/
def State.BestOf (s : State) (seen : List Nat) (r : Option (Nat × Nat × Nat)) : Prop :=
  match r with
  | none => seen = []
  | some (l, _, c) => c ∈ seen ∧ l = s.loadOf (stackGroupOf c) ∧ ∀ c1 ∈ seen, l ≤ s.loadOf (stackGroupOf c1)

theorem bestOf_betterSpot {s : State} {seen : List Nat} {r : Option (Nat × Nat × Nat)} (h : s.BestOf seen r) (c : Nat) :
    s.BestOf (seen ++ [c]) (s.betterSpot r c) := by
  match r, h with
  | none, h => simp [State.BestOf, State.betterSpot, show seen = [] from h]
  | some (l, g, c'), ⟨hmem, hl, hmin⟩ =>
    unfold State.betterSpot
    dsimp only
    split
    · next hbetter =>
      have hle : s.loadOf (stackGroupOf c) ≤ l := by omega
      refine ⟨by simp, rfl, fun c1 h1 => ?_⟩
      obtain h1 | h1 := List.mem_append.1 h1
      · exact hle.trans (hmin c1 h1)
      · rw [List.mem_singleton.1 h1]
    · next hworse =>
      refine ⟨List.mem_append_left _ hmem, hl, fun c1 h1 => ?_⟩
      obtain h1 | h1 := List.mem_append.1 h1
      · exact hmin c1 h1
      · rw [List.mem_singleton.1 h1]; omega

theorem bestOf_foldl_betterSpot {s : State} (cs : List Nat) {seen : List Nat} {r : Option (Nat × Nat × Nat)} (h : s.BestOf seen r) :
    s.BestOf (seen ++ cs) (cs.foldl s.betterSpot r) := by
  induction cs generalizing seen r with
  | nil => simpa using h
  | cons c cs ih => simpa using ih (bestOf_betterSpot h c)

/-- The place an item gets is one of its spots, and no spot is in a less loaded stack group (R43). -/
theorem placeFor_least {s : State} {i : Item} {c0 : Nat} (h : s.placeFor i = some c0) :
    c0 ∈ s.spots i ∧ ∀ c1 ∈ s.spots i, s.loadOf (stackGroupOf c0) ≤ s.loadOf (stackGroupOf c1) := by
  have hbest : s.BestOf (s.spots i) ((s.spots i).foldl s.betterSpot none) := by
    simpa using bestOf_foldl_betterSpot (s := s) (seen := []) (r := none) (s.spots i) rfl
  rw [placeFor_eq_foldl_betterSpot, Option.map_eq_some_iff] at h
  obtain ⟨⟨l, g, c⟩, hfold, rfl⟩ := h
  rw [hfold] at hbest
  obtain ⟨hmem, rfl, hmin⟩ := hbest
  exact ⟨hmem, hmin⟩

/-! ### A swap-out begins (R54) -/

/-- A table whose values have all changed lists the changed values under the same keys. -/
theorem tabGet?_mapValues {α β : Type} (t : Tab α) (f : α → β) {g : Nat × α → Nat × β} (hg : ∀ e, g e = (e.1, f e.2)) (j : Nat) :
    tabGet? (t.map g) j = (tabGet? t j).map f := by
  induction t with
  | nil => rfl
  | cons e t ih =>
    simp only [List.map_cons, hg, tabGet?, ih]
    split <;> rfl

/-- The core with b's group changed, as `State.mapGroup` changes every core. -/
def Core.mapGroup (b : Block) (f : Block → Block) (k : Core) : Core :=
  { k with blocks := k.blocks.map (fun e => if e.2.groupWith b then (e.1, f e.2) else e) }

theorem core_mapGroup (s : State) (b : Block) (f : Block → Block) (c : Nat) :
    (s.mapGroup b f).core c = (s.core c).mapGroup b f := by
  change (tabGet? (s.cores.map (fun k => (k.1, Core.mapGroup b f k.2))) c).getD _ = _
  rw [tabGet?_mapValues s.cores (Core.mapGroup b f) (fun _ => rfl)]
  unfold State.core tabGet
  cases tabGet? s.cores c <;> rfl

theorem block_mapGroup (s : State) (b : Block) (f : Block → Block) (c pl : Nat) :
    tabGet? ((s.mapGroup b f).core c).blocks pl =
      (tabGet? (s.core c).blocks pl).map (fun y => if y.groupWith b then f y else y) := by
  rw [core_mapGroup]
  refine tabGet?_mapValues _ _ (fun e => ?_) pl
  split <;> rfl

/-- After a change of b's group, a block that belongs to the group has been changed. -/
theorem changed_of_mapGroup {s : State} {b x : Block} {f : Block → Block} {c pl : Nat}
    (h : tabGet? ((s.mapGroup b f).core c).blocks pl = some x) (hx : x.groupWith b = true) : ∃ y, x = f y := by
  rw [block_mapGroup, Option.map_eq_some_iff] at h
  obtain ⟨y, -, rfl⟩ := h
  split at hx
  · next hy => exact ⟨y, if_pos hy⟩
  · next hy => exact absurd hx hy

/-! ### What the storage of an image leaves unchanged (R392) -/

theorem foldl_view {α β : Type} (view : State → β) {f : State → α → State} (h : ∀ s a, view (f s a) = view s) (l : List α) (s : State) :
    view (l.foldl f s) = view s :=
  List.foldlRecOn (motive := fun s' => view s' = view s) l f rfl fun s' hs a _ => (h s' a).trans hs

/-- What no write to memory touches: the front end, the time and the saved blocks. -/
def State.besideMemory (s : State) : FrontEnd × Nat × List Saved := (s.fe, s.time, s.saved)

theorem storeWords_besideMemory (s : State) (pa : Nat) (ws : List Nat) : (s.storeWords pa ws).besideMemory = s.besideMemory := rfl

theorem storeTeam_besideMemory (s : State) (base : Nat) (ts : List Team) (b : Block) (t : Team) :
    (s.storeTeam base ts b t).besideMemory = s.besideMemory :=
  (storeWords_besideMemory ..).trans (storeWords_besideMemory ..)

theorem copyRange_besideMemory (s : State) (src dst n : Nat) : (s.copyRange src dst n).besideMemory = s.besideMemory := rfl

theorem storeBlock_besideMemory (s : State) (c : Nat) (b : Block) (base : Nat) :
    (s.storeBlock c b base).besideMemory = s.besideMemory := by
  unfold State.storeBlock
  dsimp only
  rw [foldl_view _ (fun s _ => copyRange_besideMemory s _ _ _), foldl_view _ (fun s _ => copyRange_besideMemory s _ _ _),
    foldl_view _ (fun s t => storeTeam_besideMemory s base _ b t)]
  rfl

/-! ### A swap-out completes (R394) -/

/-- The stores of all blocks of b's group are performed (R98). -/
def State.drainGroup (s : State) (b : Block) : State := (s.groupOf b).foldl (fun s m => s.drainBlock m.1 m.2.2) s

/-- A block of a group goes to the lowest free save slot of its context, with what ends before (R104, R142). -/
def State.saveMember (ctx : Nat) (s : State) (m : Nat × Nat × Block) : State :=
  match ((s.parkLosers m.1 m.2.2).passDue m.1 m.2.2).freeSaveSlots ctx with
  | [] => (s.parkLosers m.1 m.2.2).passDue m.1 m.2.2
  | i :: _ => ((s.parkLosers m.1 m.2.2).passDue m.1 m.2.2).saveAway m i m.2.2.metAt

/-- The state in which every block of b's group has gone to its save slot. -/
def State.saveGroup (s : State) (b : Block) : State := (s.groupOf b).foldl (State.saveMember b.ctx) s

section
variable {s : State} {blk : Nat} {b : Block} {p : Nat × Nat}

/-- The swap-out of a block that leaves ends when nothing of its group is left to finish, and else its group's stores are performed. -/
theorem execSwapOutComplete_swapping (hb : s.blockByUid blk = some b) (hp : s.findBlock blk = some p) (hs : b.swapping = true) :
    execSwapOutComplete blk s = .next (
      if ((s.drainGroup b).groupOf b).any (fun m => !(s.drainGroup b).saveReady m.1 m.2.2) then s.drainGroup b
      else ((s.drainGroup b).saveGroup b).queueSaved
        (fun x t => x.groupWith b && ((s.drainGroup b).saveGroup b).savedMet b.swapFor.isSome x t)) := by
  unfold execSwapOutComplete
  rw [hb, hp]
  simp only [hs, Bool.true_eq_false, false_or]
  rfl

theorem execSwapOutComplete_ready (hb : s.blockByUid blk = some b) (hp : s.findBlock blk = some p) (hs : b.swapping = true)
    (h : ∀ m ∈ (s.drainGroup b).groupOf b, (s.drainGroup b).saveReady m.1 m.2.2 = true) :
    execSwapOutComplete blk s = .next (((s.drainGroup b).saveGroup b).queueSaved
      (fun x t => x.groupWith b && ((s.drainGroup b).saveGroup b).savedMet b.swapFor.isSome x t)) := by
  rw [execSwapOutComplete_swapping hb hp hs, if_neg]
  simpa using fun c pl x hm => h (c, pl, x) hm

theorem execSwapOutComplete_notReady (hb : s.blockByUid blk = some b) (hp : s.findBlock blk = some p) (hs : b.swapping = true)
    {m : Nat × Nat × Block} (hm : m ∈ (s.drainGroup b).groupOf b) (h : (s.drainGroup b).saveReady m.1 m.2.2 = false) :
    execSwapOutComplete blk s = .next (s.drainGroup b) := by
  rw [execSwapOutComplete_swapping hb hp hs, if_pos]
  exact List.any_eq_true.2 ⟨m, hm, by simp [h]⟩

end

/-- The saved blocks after a block is saved are those before it, and it: its operations stand still, without anvils (R155, R394). -/
theorem saveBlock_saved (s : State) (c pl : Nat) (b : Block) (i : Nat) (r : Option Nat) :
    ∃ x, (s.saveBlock c pl b i r).saved = (s.freezeCopies c b.uid).saved ++ [x] ∧ x.blk.uid = b.uid ∧ x.slotIx = i ∧
      x.readmit = r ∧ x.preempted = b.preempt ∧ x.teams.length = (((s.freezeCopies c b.uid).core c).teamsOf b.uid).length ∧
      ∀ o ∈ x.ops, o.running = false ∧ o.anvils = 0 := by
  have hsaved : ((s.freezeCopies c b.uid).storeBlock c b ((s.freezeCopies c b.uid).saveSlot b.ctx i)).saved =
      (s.freezeCopies c b.uid).saved := congrArg (·.2.2) (storeBlock_besideMemory ..)
  refine ⟨_, congrArg (· ++ [_]) hsaved, rfl, rfl, rfl, rfl, List.length_map _, fun o ho => ?_⟩
  obtain ⟨_, -, rfl⟩ := List.mem_map.1 ho
  exact ⟨rfl, rfl⟩

/-! ### What a pre-emption leaves of the turn (R395) -/

/-- The turn's place: the entry of the run list whose turn it is, the run list, and the time. -/
def State.turnPlace (s : State) : Nat × W64 × Nat := (s.fe.runEntry, s.fe.runlist, s.time)

theorem turnPlace_of_besideMemory {s s' : State} (h : s'.besideMemory = s.besideMemory) : s'.turnPlace = s.turnPlace := by
  simp only [State.besideMemory, Prod.mk.injEq] at h
  obtain ⟨hfe, htime, -⟩ := h
  simp only [State.turnPlace, hfe, htime]

@[simp] theorem setCore_turnPlace (s : State) (c : Nat) (k : Core) : (s.setCore c k).turnPlace = s.turnPlace := rfl

@[simp] theorem modLaunch_turnPlace (s : State) (id : Nat) (f : Launch → Launch) : (s.modLaunch id f).turnPlace = s.turnPlace := rfl

@[simp] theorem mapGroup_turnPlace (s : State) (b : Block) (f : Block → Block) : (s.mapGroup b f).turnPlace = s.turnPlace := rfl

@[simp] theorem modTiles_turnPlace (s : State) (c : Nat) (es : List Nat) (f : TileEntry → TileEntry) :
    (s.modTiles c es f).turnPlace = s.turnPlace :=
  foldl_view _ (fun s _ => setCore_turnPlace s c _) es s

@[simp] theorem unmarkScatter_turnPlace (s : State) (c : Nat) (y : Copy) : (s.unmarkScatter c y).turnPlace = s.turnPlace := by
  unfold State.unmarkScatter
  dsimp only
  split
  · rfl
  · exact modTiles_turnPlace ..

@[simp] theorem modUid_turnPlace (s : State) (uid : Nat) (f : Team → Team) : (s.modUid uid f).turnPlace = s.turnPlace := by
  unfold State.modUid
  split
  · simp [State.turnPlace, State.modTeam_fe, State.modTeam_time]
  · rfl

@[simp] theorem advanceCopies_turnPlace (s : State) (c uid n : Nat) : (s.advanceCopies c uid n).turnPlace = s.turnPlace := by
  induction n generalizing s with
  | zero => rfl
  | succ n ih =>
    unfold State.advanceCopies
    split
    · rfl
    · split
      · rfl
      · dsimp only
        split
        · rfl
        · simp [ih, apply_ite State.turnPlace, State.modCopy]

@[simp] theorem endBoxes_turnPlace (s : State) (c blk : Nat) (sel : Copy → Box → Bool) : (s.endBoxes c blk sel).turnPlace = s.turnPlace :=
  foldl_view _ (fun s u => advanceCopies_turnPlace s c u _) _ _

@[simp] theorem freezeCopies_turnPlace (s : State) (c blk : Nat) : (s.freezeCopies c blk).turnPlace = s.turnPlace :=
  endBoxes_turnPlace s c blk _

@[simp] theorem swapEnter_turnPlace (s : State) (ctx : Nat) (t : Team) : (s.swapEnter ctx t).turnPlace = s.turnPlace := by
  unfold State.swapEnter
  split
  · dsimp only
    split <;> rfl
  · rfl

@[simp] theorem saveBlock_turnPlace (s : State) (c pl : Nat) (b : Block) (i : Nat) (r : Option Nat) :
    (s.saveBlock c pl b i r).turnPlace = s.turnPlace :=
  (turnPlace_of_besideMemory (storeBlock_besideMemory (s.freezeCopies c b.uid) c b _)).trans (freezeCopies_turnPlace s c b.uid)

@[simp] theorem saveAway_turnPlace (s : State) (m : Nat × Nat × Block) (i : Nat) (r : Option Nat) :
    (s.saveAway m i r).turnPlace = s.turnPlace :=
  (foldl_view _ (fun s t => swapEnter_turnPlace s _ t) _ _).trans (saveBlock_turnPlace ..)

@[simp] theorem cancelPlacement_turnPlace (s : State) (b : Block) : (s.cancelPlacement b).turnPlace = s.turnPlace := by
  unfold State.cancelPlacement
  dsimp only
  split
  · rw [modLaunch_turnPlace]
    exact foldl_view State.turnPlace (by intros; rfl) _ _
  · exact foldl_view _ (fun s m => saveAway_turnPlace s m _ _) _ _

@[simp] theorem beginSwap_turnPlace (s : State) (b : Block) (item : Option (Nat × Nat)) (why : Option Preempt) :
    (s.beginSwap b item why).turnPlace = s.turnPlace :=
  (mapGroup_turnPlace ..).trans (foldl_view State.turnPlace (by intros; rfl) _ _)

@[simp] theorem preempt_turnPlace (s : State) (why : Preempt) (b : Block) : (s.preempt why b).turnPlace = s.turnPlace := by
  unfold State.preempt
  split
  · simp [apply_ite State.turnPlace]
  · rfl

@[simp] theorem preemptAll_turnPlace (s : State) (why : Preempt) (sel : Block → Bool) : (s.preemptAll why sel).turnPlace = s.turnPlace :=
  foldl_view _ (fun s b => preempt_turnPlace s why b) _ _

@[simp] theorem queueReadmit_turnPlace (s : State) (blk : Nat) : (s.queueReadmit blk).turnPlace = s.turnPlace := by
  unfold State.queueReadmit
  dsimp only
  split <;> rfl

@[simp] theorem readmitPreempted_turnPlace (s : State) (why : Preempt) (sel : Block → Bool) :
    (s.readmitPreempted why sel).turnPlace = s.turnPlace :=
  foldl_view _ queueReadmit_turnPlace _ _

/-- The state in which the turn after the one of `s` begins: that turn's time is over, and the captured writes are consumed (R379). -/
def State.afterTurn (s : State) : State :=
  ({ s with time := max s.time (s.fe.turnAt + s.fe.turnLen) }.consume).beginTurn (s.fe.runEntry + 1)

theorem beginTurn_turnPlace {s : State} (h : s.runCount ≠ 0) (e : Nat) :
    (s.beginTurn e).turnPlace = (e % s.runCount, s.fe.runlist, s.time) := by
  unfold State.beginTurn
  rw [if_neg h]
  rfl

theorem afterTurn_turnPlace {s : State} (h : s.runCount ≠ 0) :
    s.afterTurn.turnPlace = ((s.fe.runEntry + 1) % s.runCount, s.fe.runlist, max s.time (s.fe.turnAt + s.fe.turnLen)) := by
  unfold State.afterTurn
  rw [beginTurn_turnPlace (by exact h)]
  rfl

/-- A turn of the run list ends in the place where the next begins, whatever it pre-empts (R379, R395). -/
theorem execRunListTurnEnd_turnPlace {s : State} (hn : s.runCount ≠ 0) (hr : s.fe.recovery = false) :
    ∃ s', execRunListTurnEnd s = .next s' ∧ s'.turnPlace = s.afterTurn.turnPlace := by
  refine ⟨_, rfl, ?_⟩
  rw [if_neg (by simp [hn, hr])]
  dsimp only
  split
  · rfl
  · rw [apply_ite State.turnPlace, preemptAll_turnPlace, ite_self, readmitPreempted_turnPlace]
    rfl

/-! ### The steps -/

theorem execPlacementDecision_place {s : State} {i : Item} {c0 : Nat} (hi : s.items.find? (fun i => (s.placeFor i).isSome) = some i)
    (hc : s.placeFor i = some c0) (hl : s.lostSaved i = []) : execPlacementDecision s = .next (s.placeItem i c0) := by
  simp only [execPlacementDecision, hi, hc, hl]

theorem execBlockStart_unstarted {s : State} {blk : Nat} {b : Block} {p : Nat × Nat} (hb : s.blockByUid blk = some b)
    (hp : s.findBlock blk = some p) (hs : b.started = false) :
    execBlockStart blk s = .next (if s.startsNext p.1 b = false then s else
      let s1 : State := { s with time := s.startTime p.1 b, fe := { s.fe with dieLast := tabSet s.fe.dieLast (dieOf p.1) (s.startTime p.1 b) } }
      (s1.groupOf b).foldl (fun s m => s.startBlock m.1 m.2.1 m.2.2) s1) := by
  simp only [execBlockStart, hb, hp, hs, Bool.false_eq_true, false_or]

/-- Settles O57: the search for a place keeps the least loaded spot seen, a change of a group reaches each of its blocks, an image is stored
beside the saved blocks, and no pre-emption moves the turn; the other clauses are branches of the steps. -/
theorem dispatcherSteps : Obligations.DispatcherSteps := by
  refine ⟨fun s i c0 hi hc hl => execPlacementDecision_place hi hc hl, fun s i c0 hc hg => ?place, fun s blk b p hb hp hs => ?start,
    fun s blk b p t hb hp ht => ?threshold, fun s blk x i b hi hx hg => ?begin, fun s b item why c pl x hx hg => ?swapping,
    fun s blk b p hb hp hs => ⟨execSwapOutComplete_ready hb hp hs, fun m hm h => execSwapOutComplete_notReady hb hp hs hm h⟩,
    saveBlock_saved, fun s => ⟨fun h => ?noTurn, fun hn hr => ?turn⟩⟩
  case place =>
    obtain ⟨hmem, hmin⟩ := placeFor_least hc
    obtain ⟨⟨j, hj, rfl⟩, hfits⟩ := (mem_spots hg).1 hmem
    have hlt : j * i.gang < 256 := (Nat.mul_lt_mul_of_pos_right hj hg).trans_le (Nat.div_mul_le_self 256 i.gang)
    refine ⟨hfits, hlt, Nat.mul_mod_left j i.gang, fun c1 _ hmod hdiv hfit => hmin c1 ((mem_spots hg).2 ⟨?_, hfit⟩)⟩
    exact ⟨c1 / i.gang, hdiv, Nat.div_mul_cancel (Nat.dvd_of_mod_eq_zero hmod)⟩
  case start =>
    rw [exec_blockStart, execBlockStart_unstarted hb hp hs]
    exact ⟨fun h => by rw [if_pos h], fun h => by rw [if_neg (by simp [h])]; rfl⟩
  case threshold => simp only [exec_swapThresholdExpiry, execSwapThresholdExpiry, hb, hp, ht]
  case begin => simp only [exec_swapOutBegin, execSwapOutBegin, hi, hx, hg, if_true]
  case swapping =>
    obtain ⟨_, rfl⟩ := changed_of_mapGroup hx hg
    exact ⟨rfl, rfl, rfl⟩
  case noTurn => exact congrArg Host.Outcome.next (if_pos h)
  case turn =>
    obtain ⟨s', hexec, hplace⟩ := execRunListTurnEnd_turnPlace hn hr
    rw [afterTurn_turnPlace hn] at hplace
    simp only [State.turnPlace, Prod.mk.injEq] at hplace
    obtain ⟨hentry, hlist, htime⟩ := hplace
    exact ⟨s', hexec, hentry, hlist, htime ▸ Nat.le_max_right _ _⟩

end Sys2Proof.Machine
end

section
/-! The statement on the bytes a core sees: what a load answers, who sees a store before it is performed, and what its performing writes. -/

namespace Sys2Proof.Machine

/-! ### Cells of a store -/

theorem cellsAt_cons (a : Nat) (b : Byte) (bs : List Byte) : cellsAt a (b :: bs) = (a, b) :: cellsAt (a + 1) bs := by
  simp [cellsAt, List.zipIdx_cons, List.zipIdx_succ, Function.comp_def, Nat.add_comm, Nat.add_left_comm]

theorem tabGet?_cellsAt_outside {a x : Nat} {bs : List Byte} (h : x < a ∨ a + bs.length ≤ x) : tabGet? (cellsAt a bs) x = none := by
  induction bs generalizing a with
  | nil => rfl
  | cons b bs ih =>
    rw [List.length_cons] at h
    rw [cellsAt_cons, tabGet?, if_neg (by omega), ih (by omega)]

theorem tabGet?_cellsAt_inside {a i : Nat} {bs : List Byte} {b : Byte} (h : bs[i]? = some b) : tabGet? (cellsAt a bs) (a + i) = some b := by
  induction bs generalizing a i with
  | nil => simp at h
  | cons b' bs ih =>
    rw [cellsAt_cons, tabGet?]
    cases i with
    | zero => simpa using h
    | succ i => rw [if_neg (by omega), ← ih (a := a + 1) (by simpa using h), Nat.add_right_comm, Nat.add_assoc]

theorem tabGet?_overCells_cellsAt_outside {old : List Host.Cell} {a x : Nat} {bs : List Byte} (h : x < a ∨ a + bs.length ≤ x) :
    tabGet? (overCells old (cellsAt a bs)) x = tabGet? old x := by
  induction bs generalizing old a with
  | nil => rfl
  | cons b bs ih =>
    rw [List.length_cons] at h
    rw [cellsAt_cons]
    exact (ih (old := tabSet old a b) (by omega)).trans (tabGet?_tabSet_other _ _ (by omega))

theorem tabGet?_overCells_cellsAt_inside {old : List Host.Cell} {a i : Nat} {bs : List Byte} {b : Byte} (h : bs[i]? = some b) :
    tabGet? (overCells old (cellsAt a bs)) (a + i) = some b := by
  induction bs generalizing old a i with
  | nil => simp at h
  | cons b' bs ih =>
    rw [cellsAt_cons]
    cases i with
    | zero =>
      refine (tabGet?_overCells_cellsAt_outside (by omega)).trans ?_
      simpa using h
    | succ i =>
      rw [Nat.add_comm i, ← Nat.add_assoc]
      exact ih (old := tabSet old a b') (by simpa using h)

/-! ### Bytes as a core's port serves them (R89) -/

/-- Where a core's port takes the bytes of a line that no pending access of the team gives: its L1 copy, or else memory. -/
def State.portCells (s : State) (c line : Nat) : List Host.Cell := ((s.l1Hit c line).map (·.data)).getD s.mem

theorem coreByte_eq (s : State) (c uid a : Nat) :
    s.coreByte c uid a = (pendByte (s.core c).stores uid a).getD (memGet (s.portCells c (a / 128)) a) := by
  unfold State.coreByte State.portCells servedByte
  cases s.l1Hit c (a / 128) <;> cases pendByte (s.core c).stores uid a <;> rfl

/-- The port of a core serves alike in two states with the same memory and epoch, where its L1 and its logical time are the same. -/
theorem portCells_congr {s s' : State} {c : Nat} (hm : s'.mem = s.mem) (he : s'.epoch = s.epoch) (hl : (s'.core c).l1 = (s.core c).l1)
    (ht : (s'.core c).ltime = (s.core c).ltime) (line : Nat) : s'.portCells c line = s.portCells c line := by
  simp only [State.portCells, State.l1Hit, hm, he, hl, ht]

/-! ### Loads -/

theorem leRead_congr {f g : Nat → Byte} {a n : Nat} (h : ∀ x, a ≤ x → x < a + n → f x = g x) : leRead f a n = leRead g a n := by
  induction n generalizing a with
  | zero => rfl
  | succ n ih => rw [leRead, leRead, h a (by omega) (by omega), ih (fun x h1 h2 => h x (by omega) (by omega))]

theorem memGet_lineCells {m : List Host.Cell} {line a : Nat} (h : a / 128 = line) : memGet (lineCells m line) a = memGet m a := by
  rw [lineCells, memGet_filter m (fun x => x / 128 == line), if_pos (by simpa using h)]

@[simp] theorem share_mem (s : State) (d line : Nat) : (s.share d line).mem = s.mem := by
  unfold State.share
  split
  · rfl
  · exact foldl_mem _ (fun s a => modDir_mem s a _) _ _

@[simp] theorem l1Fill_mem (s : State) (c line : Nat) : (s.l1Fill c line).1.mem = s.mem := share_mem ..

/-- A cached access goes to memory that an L1 may hold (R61). -/
theorem cached_region {p : Phys} (h : p.cached = true) : regionOf p.pa = .hbm ∨ (∃ port, regionOf p.pa = .cxl port) ∨ regionOf p.pa = .host := by
  unfold Phys.cached at h
  cases hr : regionOf p.pa <;> simp_all

theorem doLoad_cached {s : State} {c uid n : Nat} {p : Phys} (h : p.cached = true) : s.doLoad c uid p n = s.loadCached c uid p.pa n := by
  obtain hr | ⟨port, hr⟩ | hr := cached_region h <;> simp only [State.doLoad, hr, h, if_true]

theorem doStore_cached {s : State} {c uid : Nat} {p : Phys} {bs : List Byte} {tag : Option Scope} (h : p.cached = true) :
    s.doStore c uid p bs tag = s.acceptStore c (s.pendOf c uid p bs.length (cellsAt p.pa bs) tag) := by
  obtain hr | ⟨port, hr⟩ | hr := cached_region h <;> simp only [State.doStore, hr, h, if_true]

/-- Before a cached load of a team: the stores of other teams of its core to the line, and updates, are performed (R94, R302). -/
def State.loadReady (s : State) (c uid line : Nat) : State :=
  if (s.core c).stores.any (fun q => q.pa / 128 == line && q.homeFirst uid) then s.drainLine c line else s

section
variable {s : State} {c uid a : Nat}

theorem loadCached_hit (n : Nat) {l : L1Line} (h : (s.loadReady c uid (a / 128)).l1Hit c (a / 128) = some l) :
    s.loadCached c uid a n =
      (leRead (servedByte ((s.loadReady c uid (a / 128)).core c).stores uid l.data) a n, l.wts, s.loadReady c uid (a / 128)) := by
  unfold State.loadReady at *
  simp only [State.loadCached, h]

theorem loadCached_miss (n : Nat) (h : (s.loadReady c uid (a / 128)).l1Hit c (a / 128) = none) :
    ∃ w s', s.loadCached c uid a n =
      (leRead (servedByte ((s.loadReady c uid (a / 128)).core c).stores uid (lineCells (s.loadReady c uid (a / 128)).mem (a / 128))) a n,
        w, s') ∧ s'.mem = (s.loadReady c uid (a / 128)).mem := by
  unfold State.loadReady at *
  simp only [State.loadCached, h]
  exact ⟨_, _, rfl, l1Fill_mem _ c (a / 128)⟩

theorem servedByte_lineCells (st : List PendStore) {m : List Host.Cell} {line x : Nat} (h : x / 128 = line) :
    servedByte st uid (lineCells m line) x = servedByte st uid m x := by
  simp only [servedByte, memGet_lineCells h]

/-- A cached load within a line answers the bytes that its team sees, from the L1 copy or from the line that it fetches. -/
theorem loadCached_value {n : Nat} (h : a % 128 + n ≤ 128) :
    (s.loadCached c uid a n).1 = leRead ((s.loadReady c uid (a / 128)).coreByte c uid) a n ∧
      (s.loadCached c uid a n).2.2.mem = (s.loadReady c uid (a / 128)).mem := by
  have hline : ∀ x, a ≤ x → x < a + n → x / 128 = a / 128 := fun x _ _ => by omega
  cases hh : (s.loadReady c uid (a / 128)).l1Hit c (a / 128) with
  | some l =>
    rw [loadCached_hit n hh]
    exact ⟨leRead_congr fun x h1 h2 => by simp only [State.coreByte, hline x h1 h2, hh], rfl⟩
  | none =>
    obtain ⟨w, s', he, hm⟩ := loadCached_miss n hh
    rw [he]
    refine ⟨leRead_congr fun x h1 h2 => ?_, hm⟩
    rw [servedByte_lineCells _ (hline x h1 h2)]
    simp only [State.coreByte, hline x h1 h2, hh]

end

/-! ### Stores that a core has accepted (R89, R99) -/

/-- A pending access leaves a byte at an address, or may (R302): the byte is among its data, or it is an update that covers it. -/
def PendStore.touches (p : PendStore) (a : Nat) : Bool := (tabGet? p.data a).isSome || p.covers a

theorem pendByte_append (st : List PendStore) (e : PendStore) (uid a : Nat) :
    pendByte (st ++ [e]) uid a =
      if e.team = uid then (tabGet? e.data a).or (if e.covers a then none else pendByte st uid a) else pendByte st uid a := by
  simp [pendByte, List.foldl_append]

/-- Accesses that are younger, but of other teams or at other addresses, leave the byte of the older ones. -/
theorem pendByte_append_of_untouched (st post : List PendStore) {uid a : Nat} (h : ∀ q ∈ post, q.team = uid → q.touches a = false) :
    pendByte (st ++ post) uid a = pendByte st uid a := by
  induction post using List.reverseRecOn with
  | nil => rw [List.append_nil]
  | append_singleton post q ih =>
    rw [← List.append_assoc, pendByte_append, ih (fun r hr => h r (List.mem_append_left _ hr))]
    split
    · next hq =>
      have ht := h q (by simp) hq
      rw [PendStore.touches, Bool.or_eq_false_iff, Option.isSome_eq_false_iff, Option.isNone_iff_eq_none] at ht
      rw [ht.1, ht.2]
      rfl
    · rfl

theorem pendByte_append_other (st post : List PendStore) {uid a : Nat} (h : ∀ q ∈ post, q.team ≠ uid) :
    pendByte (st ++ post) uid a = pendByte st uid a :=
  pendByte_append_of_untouched st post fun q hq he => absurd he (h q hq)

/-- A young access of a team that gives the byte at an address decides what its team sees there. -/
theorem pendByte_of_youngest (pre post : List PendStore) {e : PendStore} {uid a : Nat} {b : Byte} (ht : e.team = uid)
    (hb : tabGet? e.data a = some b) (h : ∀ q ∈ post, q.team = uid → q.touches a = false) : pendByte (pre ++ e :: post) uid a = some b := by
  rw [List.append_cons, pendByte_append_of_untouched _ _ h, pendByte_append, if_pos ht, hb]
  rfl

/-- Two queues that differ in one access, of one place and with one byte at an address, leave one byte there. -/
theorem pendByte_replace (pre post : List PendStore) {e e' : PendStore} {uid a : Nat} (ht : e'.team = e.team)
    (hd : e.team = uid → tabGet? e'.data a = tabGet? e.data a) (hc : e'.covers a = e.covers a) :
    pendByte (pre ++ e' :: post) uid a = pendByte (pre ++ e :: post) uid a := by
  simp only [pendByte, List.foldl_append, List.foldl_cons, ht, hc]
  congr 1
  split
  · next h => rw [hd h]
  · rfl

theorem mem_of_tabGet? {α : Type} {t : Tab α} {k : Nat} {v : α} (h : tabGet? t k = some v) : (k, v) ∈ t := by
  induction t with
  | nil => cases h
  | cons e t ih =>
    rw [tabGet?] at h
    split at h
    · next he => exact List.mem_cons.2 (.inl (by rw [← he, ← Option.some.inj h]))
    · exact List.mem_cons_of_mem _ (ih h)

/-- An access that a store of bytes within a sector shares no sector with touches none of the bytes. -/
theorem touches_of_not_sameSector {q p : PendStore} {bs : List Byte} (hd : p.data = cellsAt p.pa bs) (hs : p.size = bs.length)
    (h : q.sameSector p = false) {i : Nat} {b : Byte} (hb : bs[i]? = some b) :
    q.touches (p.pa + i) = false := by
  have hi : i < bs.length := (List.getElem?_eq_some_iff.1 hb).1
  rw [PendStore.sameSector, Bool.or_eq_false_iff, List.any_eq_false] at h
  obtain ⟨hcells, hrange⟩ := h
  have hcov : q.covers (p.pa + i) = false := by
    simp only [PendStore.covers, Bool.and_eq_false_iff, decide_eq_false_iff_not, hs] at hrange ⊢
    omega
  have hdata : tabGet? q.data (p.pa + i) = none := by
    by_contra hne
    obtain ⟨b', hb'⟩ := Option.ne_none_iff_exists'.1 hne
    have hp : tabGet? p.data (p.pa + i) = some b := hd ▸ tabGet?_cellsAt_inside hb
    exact hcells _ (mem_of_tabGet? hb') (List.any_eq_true.2 ⟨_, mem_of_tabGet? hp, by simp⟩)
  rw [PendStore.touches, hdata, hcov]
  rfl

/-- Where a store may merge: into the youngest access of its team that shares a sector with it (R99). -/
theorem mergePoint_some {st : List PendStore} {p : PendStore} {i : Nat} (h : mergePoint st p = some i) :
    ∃ pre w post, st = pre ++ w :: post ∧ pre.length = i ∧ w.team = p.team ∧ ∀ q ∈ post, q.team = p.team → q.sameSector p = false := by
  unfold mergePoint at h
  split at h
  · next w j hlast =>
    split at h
    · obtain rfl : j = i := Option.some.inj h
      obtain ⟨ys, hys⟩ := List.getLast?_eq_some_iff.1 hlast
      obtain ⟨l1, l2, hst, -, hl2⟩ := List.filter_eq_append_iff.1 hys
      obtain ⟨m1, m2, rfl, -, hw, hm2⟩ := List.filter_eq_cons_iff.1 hl2
      rw [← List.append_assoc, List.zipIdx_eq_append_iff] at hst
      obtain ⟨pre, rest, rfl, -, hrest⟩ := hst
      obtain ⟨w', post, rfl, hwj, rfl⟩ := List.zipIdx_eq_cons_iff.1 hrest.symm
      obtain ⟨rfl, rfl⟩ := Prod.mk.inj hwj
      refine ⟨pre, w, post, rfl, (Nat.zero_add _).symm, by simp_all, fun q hq hteam => ?_⟩
      rw [← List.zipIdx_map_fst (0 + pre.length + 1) post] at hq
      obtain ⟨e, he, rfl⟩ := List.mem_map.1 hq
      simpa [hteam] using List.filter_eq_nil_iff.1 hm2 e he
    · cases h
  · cases h

/-- The queue in which access i holds, over its own, the data of a store that merged into it. -/
theorem mergedQueue_eq (pre post : List PendStore) (w p : PendStore) :
    ((pre ++ w :: post).zipIdx).map (fun e => if e.2 = pre.length then { e.1 with data := overCells e.1.data p.data } else e.1) =
      pre ++ { w with data := overCells w.data p.data } :: post := by
  apply List.ext_getElem?
  intro j
  simp only [List.getElem?_map, List.getElem?_zipIdx, List.getElem?_append, List.getElem?_cons]
  grind

@[simp] theorem core_draw (s : State) (c : Nat) : s.draw.core c = s.core c := rfl

/-- A store that core c accepts becomes the youngest of its queue, or its data go into the youngest access of its team that shares a sector
with it (R99, R100). Nothing else that the port serves bytes from changes. -/
theorem acceptStore_core (s : State) (c : Nat) (p : PendStore) :
    ((s.acceptStore c p).core c).l1 = (s.core c).l1 ∧ ((s.acceptStore c p).core c).ltime = (s.core c).ltime ∧
      (((s.acceptStore c p).core c).stores = (s.core c).stores ++ [{ p with no := (s.core c).storeNo }] ∨
        ∃ pre w post, (s.core c).stores = pre ++ w :: post ∧ w.team = p.team ∧ (∀ q ∈ post, q.team = p.team → q.sameSector p = false) ∧
          ((s.acceptStore c p).core c).stores = pre ++ { w with data := overCells w.data p.data } :: post) := by
  unfold State.acceptStore
  dsimp only
  split
  · simp
  · next i hi =>
    split
    · obtain ⟨pre, w, post, hst, rfl, hw, hpost⟩ := mergePoint_some hi
      simp only [core_draw, core_setCore, hst, mergedQueue_eq]
      exact ⟨trivial, trivial, .inr ⟨pre, w, post, rfl, hw, hpost, rfl⟩⟩
    · simp

theorem acceptStore_core_other (s : State) {c c' : Nat} (p : PendStore) (h : c' ≠ c) : (s.acceptStore c p).core c' = s.core c' := by
  unfold State.acceptStore
  dsimp only
  split
  · exact core_setCore_other s _ h
  · split <;> exact core_setCore_other s _ h

section
variable {s : State} {c uid : Nat} {p : PendStore} {bs : List Byte} (hd : p.data = cellsAt p.pa bs)
include hd

theorem pendByte_acceptStore_inside (hs : p.size = bs.length) {i : Nat} {b : Byte} (hb : bs[i]? = some b) :
    pendByte ((s.acceptStore c p).core c).stores p.team (p.pa + i) = some b := by
  obtain ⟨-, -, hlast | ⟨pre, w, post, -, hw, hpost, hmerged⟩⟩ := acceptStore_core s c p
  · rw [hlast]
    exact pendByte_of_youngest _ [] rfl (hd ▸ tabGet?_cellsAt_inside hb) nofun
  · rw [hmerged]
    refine pendByte_of_youngest _ _ hw ?_ fun q hq ht => touches_of_not_sameSector hd hs (hpost q hq ht) hb
    exact hd ▸ tabGet?_overCells_cellsAt_inside hb

theorem pendByte_acceptStore_outside (hs : p.size = bs.length) {a : Nat} (ha : a < p.pa ∨ p.pa + bs.length ≤ a) :
    pendByte ((s.acceptStore c p).core c).stores uid a = pendByte (s.core c).stores uid a := by
  obtain ⟨-, -, hlast | ⟨pre, w, post, hst, hw, -, hmerged⟩⟩ := acceptStore_core s c p
  · rw [hlast]
    refine pendByte_append_of_untouched _ _ fun q hq _ => ?_
    rw [List.mem_singleton.1 hq]
    simp only [PendStore.touches, PendStore.covers, hd, tabGet?_cellsAt_outside ha, hs]
    simp only [Option.isSome_none, Bool.false_or, Bool.and_eq_false_iff, decide_eq_false_iff_not]
    omega
  · rw [hmerged, hst]
    exact pendByte_replace pre post rfl (fun _ => hd ▸ tabGet?_overCells_cellsAt_outside ha) rfl

end

theorem pendByte_acceptStore_other (s : State) (c : Nat) {p : PendStore} {u : Nat} (h : u ≠ p.team) (a : Nat) :
    pendByte ((s.acceptStore c p).core c).stores u a = pendByte (s.core c).stores u a := by
  obtain ⟨-, -, hlast | ⟨pre, w, post, hst, hw, -, hmerged⟩⟩ := acceptStore_core s c p
  · rw [hlast]
    exact pendByte_append_other _ _ (by simpa using h.symm)
  · rw [hmerged, hst]
    exact pendByte_replace pre post rfl (fun hu => absurd (hu.symm.trans hw) h) rfl

theorem portCells_acceptStore (s : State) (c c' : Nat) (p : PendStore) (line : Nat) :
    (s.acceptStore c p).portCells c' line = s.portCells c' line := by
  obtain ⟨hl, ht, -⟩ := acceptStore_core s c p
  by_cases hc : c' = c
  · subst hc
    exact portCells_congr (s.acceptStore_mem ..) (s.acceptStore_epoch ..) hl ht line
  · have hk := acceptStore_core_other s p hc
    exact portCells_congr (s.acceptStore_mem ..) (s.acceptStore_epoch ..) (by rw [hk]) (by rw [hk]) line

/-- The team of an accepted store sees its bytes (R89). -/
theorem coreByte_acceptStore_inside {s : State} {c : Nat} {p : PendStore} {bs : List Byte} (hd : p.data = cellsAt p.pa bs)
    (hs : p.size = bs.length) {i : Nat} {b : Byte} (hb : bs[i]? = some b) : (s.acceptStore c p).coreByte c p.team (p.pa + i) = b := by
  rw [coreByte_eq, pendByte_acceptStore_inside hd hs hb]
  rfl

/-- The bytes outside an accepted store are seen as before. -/
theorem coreByte_acceptStore_outside {s : State} {c uid : Nat} {p : PendStore} {bs : List Byte} (hd : p.data = cellsAt p.pa bs)
    (hs : p.size = bs.length) {a : Nat} (ha : a < p.pa ∨ p.pa + bs.length ≤ a) :
    (s.acceptStore c p).coreByte c uid a = s.coreByte c uid a := by
  rw [coreByte_eq, coreByte_eq, portCells_acceptStore, pendByte_acceptStore_outside hd hs ha]

/-- Another core, or another team of the core, does not see an accepted store (R94). -/
theorem coreByte_acceptStore_other (s : State) {c c' u : Nat} {p : PendStore} (h : c' ≠ c ∨ u ≠ p.team) (a : Nat) :
    (s.acceptStore c p).coreByte c' u a = s.coreByte c' u a := by
  rw [coreByte_eq, coreByte_eq, portCells_acceptStore]
  by_cases hc : c' = c
  · rw [hc, pendByte_acceptStore_other s c (h.resolve_left (absurd hc))]
  · rw [acceptStore_core_other s _ hc]

/-! ### A store is performed (R100, R302) -/

theorem performStore_done {s : State} {c i : Nat} {p : PendStore} (hp : (s.core c).stores[i]? = some p) (hstuck : p.stuck = none)
    (hfirst : ∀ q ∈ (s.core c).stores.take i, p.after q = false) (hown : s.lineOwned (p.pa / 128) = false) (he : s.epochDue = false)
    (hpoison : s.poisoned (p.pa / 128) = false) (hreach : s.unreachable c p.pa = none) :
    s.performStore c i = (s.setCore c { s.core c with stores := (s.core c).stores.eraseIdx i }).performAt c p := by
  have hany : ((s.core c).stores.take i).any (fun q => p.after q) = false := List.any_eq_false.2 fun q hq => by simp [hfirst q hq]
  simp [State.performStore, hp, hstuck, hany, hown, he, hpoison, hreach]

theorem stampStore_stores (s : State) (c line : Nat) : ((s.stampStore c line).core c).stores = (s.core c).stores := by
  simp [State.stampStore]

theorem refreshL1_stores (s : State) (c line : Nat) : ((s.refreshL1 c line).core c).stores = (s.core c).stores := by
  simp [State.refreshL1, Core.updateLine]

@[simp] theorem core_invalidate (s : State) (c pa c' : Nat) : (s.invalidate c pa).core c' = s.core c' := by
  simp [State.core]

@[simp] theorem core_memWrite (s : State) (a : Nat) (bs : List Byte) (c : Nat) : (s.memWrite a bs).core c = s.core c := rfl

theorem putCells_core (s : State) (cs : List Host.Cell) (c : Nat) : (s.putCells cs).core c = s.core c := by
  unfold State.putCells
  refine foldl_view (fun s => s.core c) (fun _ _ => ?_) cs s
  rfl

theorem putCells_mem (s : State) (cs : List Host.Cell) : (s.putCells cs).mem = cs.foldl (fun m c => memSet m c.1 c.2) s.mem := by
  induction cs generalizing s with
  | nil => rfl
  | cons c cs ih => exact ih (s.memWrite c.1 [c.2])

theorem performAt_stores (s : State) (c : Nat) (p : PendStore) : ((s.performAt c p).core c).stores = (s.core c).stores := by
  unfold State.performAt
  split
  · rfl
  · rw [refreshL1_stores, stampStore_stores]
    split
    · simp
    · rw [putCells_core, core_invalidate]

theorem performAt_mem_store {s : State} {c : Nat} {p : PendStore} (hr : regionOf p.pa ≠ .pod) (hp : p.red = none) :
    (s.performAt c p).mem = p.data.foldl (fun m c => memSet m c.1 c.2) s.mem := by
  rw [State.performAt, if_neg hr, hp]
  exact (putCells_mem _ _).trans (by rw [invalidate_mem])

theorem performAt_mem_red {s : State} {c x : Nat} {p : PendStore} (hr : regionOf p.pa ≠ .pod) (hp : p.red = some x) :
    (s.performAt c p).mem = memSetAll s.mem p.pa (leBytes 4 ((leRead (memGet s.mem) p.pa 4 + x) % 2 ^ 32)) := by
  rw [State.performAt, if_neg hr, hp]
  simp only [State.memWrite, refreshL1_mem, invalidate_mem]
  rfl

theorem memGet_foldl_memSet_other (m : List Host.Cell) {cs : List Host.Cell} {a : Nat} (h : a ∉ cs.map (·.1)) :
    memGet (cs.foldl (fun m c => memSet m c.1 c.2) m) a = memGet m a := by
  induction cs generalizing m with
  | nil => rfl
  | cons c cs ih =>
    rw [List.map_cons, List.mem_cons, not_or] at h
    rw [List.foldl_cons, ih _ h.2, memGet_memSet, if_neg h.1]

theorem memGet_foldl_memSet_mem (m : List Host.Cell) {cs : List Host.Cell} (hn : (cs.map (·.1)).Nodup) {x : Host.Cell} (h : x ∈ cs) :
    memGet (cs.foldl (fun m c => memSet m c.1 c.2) m) x.1 = x.2 := by
  induction cs generalizing m with
  | nil => cases h
  | cons c cs ih =>
    rw [List.map_cons, List.nodup_cons] at hn
    rw [List.foldl_cons]
    obtain rfl | h := List.mem_cons.1 h
    · rw [memGet_foldl_memSet_other _ hn.1, memGet_memSet, if_pos rfl]
    · exact ih _ hn.2 h

@[simp] theorem leBytes_length (n x : Nat) : (leBytes n x).length = n := by
  induction n generalizing x with
  | zero => rfl
  | succ n ih => rw [leBytes, List.length_cons, ih]

/-- n bytes written little-endian read back as the number, modulo what n bytes hold (R10). -/
theorem leRead_memSetAll_leBytes (m : List Host.Cell) (a n x : Nat) : leRead (memGet (memSetAll m a (leBytes n x))) a n = x % 256 ^ n := by
  induction n generalizing m a x with
  | zero => rw [leRead, Nat.pow_zero, Nat.mod_one]
  | succ n ih =>
    have hlow : (BitVec.ofNat 8 (x % 256)).toNat = x % 256 := by rw [BitVec.toNat_ofNat, Nat.mod_mod_of_dvd _ (by decide)]
    rw [leBytes, leRead, memSetAll, ih, memGet_memSetAll_outside _ _ _ _ (.inl (by omega)), memGet_memSet, if_pos rfl, hlow,
      Nat.pow_succ', Nat.mod_mul]

/-! ### The statement -/

/-- Settles O32: a load reads through its core's port, an accepted store changes the queue at its own bytes alone, and performing an access
writes its cells or its sum. -/
theorem coreSeesItsStores : Obligations.CoreSeesItsStores := by
  refine ⟨fun s c uid p n hc hn => ?load, fun s c uid p bs tag hc _ => ?store, fun s c i p hp hstuck hfirst hown he hpoison hreach hr => ?perform⟩
  case load =>
    dsimp only
    rw [doLoad_cached hc]
    exact loadCached_value hn
  case store =>
    dsimp only
    rw [doStore_cached hc]
    exact ⟨s.acceptStore_mem .., fun i b hb => coreByte_acceptStore_inside rfl rfl hb, fun a ha => coreByte_acceptStore_outside rfl rfl ha,
      fun c' u a h => coreByte_acceptStore_other s h a⟩
  case perform =>
    have hdone := performStore_done hp hstuck hfirst hown he hpoison hreach
    dsimp only
    rw [exec_storePerformed, execStorePerformed]
    refine ⟨rfl, ?_, fun hred => ?_, fun x hred => ?_⟩
    · rw [hdone, performAt_stores, core_setCore]
    · rw [hdone, performAt_mem_store hr hred]
      exact ⟨fun a ha => memGet_foldl_memSet_other _ ha, fun hn x hx => memGet_foldl_memSet_mem _ hn hx⟩
    · rw [hdone, performAt_mem_red hr hred]
      refine ⟨(leRead_memSetAll_leBytes ..).trans (Nat.mod_mod ..), fun a ha => memGet_memSetAll_outside _ _ _ _ (by simpa using ha)⟩

end Sys2Proof.Machine
end

section
/-! The statement on the checks of an access: what an access that fails them does to its team, and what checking writes. -/

namespace Sys2Proof.Machine

/-! ### The first checks (R60, R295) -/

/-- Step 1 of R295 decides before anything is read. -/
theorem access_stepForm {s : State} {a : Agent} {va : W64} {n m : Nat} {k : AKind} {code sub : Nat} (he : s.epochDue = false)
    (hf : stepForm a va = some (accFault code sub va)) : s.access a va n m k = (.fault ⟨code, sub, va⟩, s) := by
  simp only [State.access, State.access0, he, hf, Option.some_or, Bool.false_eq_true, if_false]
  rfl

theorem stepForm_notCanonical {a : Agent} {va : W64} (h : canonical va = false) : stepForm a va = some (accFault 0x09 1 va) := by
  rw [stepForm, if_pos h]

theorem stepForm_supervisorHalf {a : Agent} {va : W64} (hc : canonical va = true) (hp : a.priv = false) (h : va.getLsbD 56 = true) :
    stepForm a va = some (accFault 0x09 2 va) := by
  rw [stepForm, if_neg (by simp [hc]), if_pos ⟨hp, h⟩]

/-- In HBM the alignment check is the first of the checks behind translation (R295). -/
theorem physCheck_misaligned {s : State} {a : Agent} {va : W64} {p : Phys} {n m : Nat} {k : AKind} (hr : regionOf p.pa = .hbm)
    (hm : va.toNat % m ≠ 0) : s.physCheck a va p n m k = .fault ⟨0x0A, 0, va⟩ := by
  simp only [State.physCheck, State.regionCheck, State.alignPoison, hr, hm, ne_eq, not_false_eq_true, true_or, if_true]
  rfl

/-! ### A scalar access that fails its checks (R175) -/

section
variable {s s1 : State} {t t1 : Team} {f : LaneFault} {n : Nat} (h : OnceReady s t .any) (ht : s1.team? s1.cur = some t1)
include ht

theorem scalarAccess_fault {va : W64} {k : AKind} (body : State → Phys → State)
    (ha : s.access (s.agentOf s.cur t) va n n k = (.fault f, s1)) :
    s.scalarAccess t va n k body = s1.onceFault t1 f.code f.sub f.addr := by
  simp only [State.scalarAccess, ha, ht]

include h

theorem scalarLoad_fault {addr : Team → W64} (d : Nat) (acq : Bool)
    (ha : s.access (s.agentOf s.cur t) (addr t) n n .load = (.fault f, s1)) :
    s.scalarLoad d n acq addr = .next (s1.onceFault t1 f.code f.sub f.addr) := by
  rw [State.scalarLoad, once_body h (.inl rfl), scalarAccess_fault ht _ ha]

theorem scalarAtomic_fault {ord : Order} {sb x : Nat} (hrel : Order.rel ord = false) (d : Nat) (scope : Scope)
    (g : Team → Nat → Option Nat) (ha : s.access (s.agentOf s.cur t) (t.s sb + t.s x) 8 8 .atomic = (.fault f, s1)) :
    s.scalarAtomic d sb x ord scope g = .next (s1.onceFault t1 f.code f.sub f.addr) := by
  rw [State.scalarAtomic, once_body h (.inl rfl), State.releaseFirst, hrel, if_neg Bool.false_ne_true, scalarAccess_fault ht _ ha]

theorem execStS_fault {sb d : Nat} {ix : SIndex} {z : MemSize}
    (ha : s.access (s.agentOf s.cur t) (t.saddr sb ix (sizeBytes z)) (sizeBytes z) (sizeBytes z) .store = (.fault f, s1)) :
    execStS d z sb ix s = .next (s1.onceFault t1 f.code f.sub f.addr) := by
  rw [execStS, once_body h (.inl rfl), State.scalarStoreNow, scalarAccess_fault ht _ ha]

end

/-! ### What checking an access changes (R386) -/

/-- From s to s' no team changes, and no byte of memory but those of the 64-bit words at ls. -/
def WritesWords (s s' : State) (ls : List Nat) : Prop :=
  (∀ p, s'.team? p = s.team? p) ∧ ∀ b, (∀ x ∈ ls, b < x ∨ x + 8 ≤ b) → memGet s'.mem b = memGet s.mem b

theorem WritesWords.trans {s s' s'' : State} {ls ls' : List Nat} (h : WritesWords s s' ls) (h' : WritesWords s' s'' ls') :
    WritesWords s s'' (ls ++ ls') := by
  obtain ⟨ht, hm⟩ := h
  obtain ⟨ht', hm'⟩ := h'
  refine ⟨fun p => (ht' p).trans (ht p), fun b hb => (hm' b fun x hx => ?_).trans (hm b fun x hx => ?_)⟩
  · exact hb x (List.mem_append_right _ hx)
  · exact hb x (List.mem_append_left _ hx)

theorem WritesWords.none {s s' : State} (ht : ∀ p, s'.team? p = s.team? p) (hm : s'.mem = s.mem) : WritesWords s s' [] :=
  ⟨ht, fun _ _ => by rw [hm]⟩

theorem WritesWords.refl (s : State) : WritesWords s s [] := .none (fun _ => rfl) rfl

theorem team?_of_cores {s s' : State} (h : s'.cores = s.cores) (p : Nat × Nat) : s'.team? p = s.team? p := by
  simp only [State.team?, State.core, h]

theorem team?_setCore_of_teams (s : State) {c : Nat} {k : Core} (h : k.teams = (s.core c).teams) (p : Nat × Nat) :
    (s.setCore c k).team? p = s.team? p := by
  unfold State.team?
  by_cases hc : p.1 = c
  · rw [hc, core_setCore, h]
  · rw [core_setCore_other s k hc]

theorem team?_stampStore (s : State) (c line : Nat) (p : Nat × Nat) : (s.stampStore c line).team? p = s.team? p :=
  team?_setCore_of_teams (k := { s.core c with ltime := max (s.core c).ltime ((s.stampOf line).rts + 1) }) (s.setStamp line _ _) rfl p

theorem team?_refreshL1 (s : State) (c line : Nat) (p : Nat × Nat) : (s.refreshL1 c line).team? p = s.team? p :=
  team?_setCore_of_teams (k := (s.core c).updateLine line (s.stampOf line).wts (s.stampOf line).rts s.mem) s rfl p

theorem storeHome_writesWords (s : State) (c a x : Nat) : WritesWords s (s.storeHome c a (leBytes 8 x)) [a] := by
  refine ⟨fun p => ?_, fun b hb => ?_⟩
  · exact (team?_refreshL1 _ c _ p).trans (team?_stampStore (s.memWrite a (leBytes 8 x)) c _ p)
  · rw [storeHome_mem]
    exact memGet_memSetAll_outside _ _ _ _ (by simpa using hb a (List.mem_singleton_self a))

theorem invalidate_writesWords (s : State) (c a : Nat) : WritesWords s (s.invalidate c a) [] :=
  .none (team?_of_cores (s.invalidate_cores c a)) (s.invalidate_mem c a)

theorem await_writesWords (s : State) (c a : Nat) (e : Option Nat) : WritesWords s (s.await c a e) [] := by
  refine .none (team?_of_cores ?_) (await_mem s c a e)
  unfold State.await
  split
  · rfl
  · split <;> rfl

theorem walkKeep_writesWords (s : State) (d pasid va : Nat) (h : WalkHit) : WritesWords s (s.walkKeep d pasid va h) [] := by
  unfold State.walkKeep
  dsimp only
  split
  · exact .refl s
  · exact .none (team?_of_cores rfl) rfl

theorem tlbKeep_writesWords (s : State) (c : Nat) (e : TlbEntry) : WritesWords s (s.tlbKeep c e) [] :=
  .none (team?_setCore_of_teams (k := { s.core c with tlb := tlbAdd 128 (s.core c).tlb e }) s rfl) rfl

theorem raiseTime_writesWords (s : State) (c w : Nat) : WritesWords s (s.setCore c { s.core c with ltime := max (s.core c).ltime w }) [] :=
  .none (team?_setCore_of_teams s rfl) rfl

theorem touchDir_writesWords (s : State) (leaf pa : Nat) : WritesWords s (s.touchDir leaf pa) [] := by
  unfold State.touchDir
  split
  iterate 2
    split
    · exact .refl s
    · exact .none (team?_of_cores rfl) rfl
  exact .refl s

theorem taken_writesWords (s : State) (p : Phys) (leaf : Option Nat) : WritesWords s (s.taken p leaf).2 [] := by
  cases leaf with
  | none => exact .refl s
  | some e => exact touchDir_writesWords s e p.pa

/-- A translation sets the accessed and dirty bits of the leaf that its walk finds, if it sets any (R384, R386). -/
theorem translate_writesWords (s : State) (a : Agent) (va : Nat) (n : Need) :
    ∃ ls, ls.length ≤ 1 ∧ (∀ x ∈ ls, ∃ h, s.walkFor a va n = .ok h ∧ x = h.at_) ∧ WritesWords s (s.translate a va n).2 ls := by
  have nothing : ∀ s', WritesWords s s' [] →
      ∃ ls, ls.length ≤ 1 ∧ (∀ x ∈ ls, ∃ h, s.walkFor a va n = .ok h ∧ x = h.at_) ∧ WritesWords s s' ls :=
    fun s' hs => ⟨[], Nat.zero_le _, nofun, hs⟩
  unfold State.translate
  split
  · dsimp only
    split
    · exact nothing _ (tlbKeep_writesWords ..)
    · exact nothing _ (.refl s)
  · split
    · exact nothing _ (.refl s)
    · next h hw =>
      split
      · exact nothing _ (.refl s)
      · split
        · exact nothing _ (.refl s)
        · dsimp only
          split
          · exact nothing _ (await_writesWords ..)
          · have kept : ∀ s1, WritesWords s1 _ [] := fun s1 =>
              ((walkKeep_writesWords s1 (dieOf a.core) a.pasid va h).trans (tlbKeep_writesWords _ a.core
                ⟨a.pasid, va / 2 ^ h.log2 * 2 ^ h.log2, h.log2, BitVec.ofNat 64 (leafUsed h.leaf n)⟩)).trans
                (raiseTime_writesWords _ a.core h.w)
            split
            · exact nothing _ (kept s)
            · exact ⟨[h.at_], Nat.le_refl _, fun x hx => ⟨h, hw, List.mem_singleton.1 hx⟩,
                ((invalidate_writesWords s a.core h.at_).trans (storeHome_writesWords _ a.core h.at_ _)).trans (kept _)⟩

/-- Step 2 of R295 writes what its translation writes. -/
theorem locate_writesWords (s : State) (a : Agent) (size : Nat) (k : AKind) (va : W64) :
    ∃ ls, ls.length ≤ 1 ∧ (∀ x ∈ ls, ∃ h, s.walkFor a (va.toNat % 2 ^ 57) k.need = .ok h ∧ x = h.at_) ∧
      WritesWords s (s.locate a size k va).2 ls := by
  unfold State.locate
  split
  · refine ⟨[], Nat.zero_le _, nofun, ?_⟩
    split
    · exact .refl s
    · split <;> exact .refl s
  · obtain ⟨ls, hlen, hat, hw⟩ := translate_writesWords s a (va.toNat % 2 ^ 57) k.need
    refine ⟨ls, hlen, hat, ?_⟩
    split
    · next he =>
      rw [he] at hw
      exact hw
    · next he =>
      rw [he] at hw
      split <;> exact hw

theorem secondPage_state (s : State) (a : Agent) (k : AKind) (first : Option AccRes) (va : W64) :
    (s.secondPage a k first va).2 = (s.locate a 1 k va).2 := by
  unfold State.secondPage
  split <;> next h => rw [h]

/-- The state that the checks leave: that of step 2 in the page of the address, and in the second page where the access reaches into one. -/
theorem access0_state (s : State) (a : Agent) (va : W64) (n m : Nat) (k : AKind) :
    (s.access0 a va n m k).2.2 = s ∨ (s.access0 a va n m k).2.2 = (s.locate a n k va).2 ∨
      ∃ v, pageCross va n = some v ∧ (s.access0 a va n m k).2.2 = ((s.locate a n k va).2.locate a 1 k v).2 := by
  unfold State.access0
  split
  · exact .inl rfl
  · split
    · exact .inl rfl
    · split
      · next h => exact .inr (.inl (by rw [h]))
      · next p leaf s1 h =>
        cases hc : pageCross va n with
        | none => exact .inr (.inl (by rw [h]; rfl))
        | some v =>
          refine .inr (.inr ⟨v, rfl, ?_⟩)
          rw [h, ← secondPage_state s1 a k (s1.regionCheck a va p k) v, Option.map_some]
          split <;> simp_all

/-- Behind the checks an access only makes its directory entry. -/
theorem access_writesWords (s : State) (a : Agent) (va : W64) (n m : Nat) (k : AKind) :
    WritesWords (s.access0 a va n m k).2.2 (s.access a va n m k).2 [] := by
  unfold State.access
  split
  · next p leaf s1 h =>
    rw [h]
    dsimp only
    split
    · exact .refl s1
    · exact taken_writesWords s1 p leaf
  · next h => rw [h]; exact .refl _

/-! ### The statement -/

/-- Settles O33: an access that fails its checks is one fault of its team, and what checking writes is the word of the leaf of each
translation it makes. -/
theorem accessFaultsAndFrame : Obligations.AccessFaultsAndFrame := by
  refine ⟨⟨fun s a va n m k he hc => access_stepForm he (stepForm_notCanonical hc),
    fun s a va n m k he hc hp hh => access_stepForm he (stepForm_supervisorHalf hc hp hh),
    fun s a va p n m k hr hm => physCheck_misaligned hr hm, fun s t f s1 t1 d sb x ord sc h ht => ?faults⟩, fun s a va n m k => ?frame⟩
  case faults =>
    refine ⟨fun ix z ha => (exec_ldS s).trans (scalarLoad_fault h ht d false ha), fun ix z ha => (exec_stS s).trans (execStS_fault h ht ha),
      fun ha => (exec_ldOrdS s).trans (scalarLoad_fault h ht d _ ha), fun hord ha => ?_⟩
    have hrel : Order.rel ord = false := by rcases hord with rfl | rfl <;> rfl
    exact ⟨(exec_atomAddI64 s).trans (scalarAtomic_fault h ht hrel d sc _ ha),
      (exec_atomExchI64 s).trans (scalarAtomic_fault h ht hrel d sc _ ha), (exec_casI64 s).trans (scalarAtomic_fault h ht hrel d sc _ ha)⟩
  case frame =>
    dsimp only
    have haccess := access_writesWords s a va n m k
    obtain ⟨ls1, hlen1, hat1, hw1⟩ := locate_writesWords s a n k va
    obtain hs | hs | ⟨v, hv, hs⟩ := access0_state s a va n m k
    · rw [hs] at haccess
      exact ⟨haccess.1, [], Nat.zero_le _, nofun, haccess.2⟩
    · rw [hs] at haccess
      obtain ⟨hteam, hmem⟩ := hw1.trans haccess
      rw [List.append_nil] at hmem
      exact ⟨hteam, ls1, by split <;> omega, fun x hx => .inl (hat1 x hx), hmem⟩
    · obtain ⟨ls2, hlen2, hat2, hw2⟩ := locate_writesWords (s.locate a n k va).2 a 1 k v
      rw [hs] at haccess
      obtain ⟨hteam, hmem⟩ := (hw1.trans hw2).trans haccess
      rw [List.append_nil] at hmem
      refine ⟨hteam, ls1 ++ ls2, ?_, fun x hx => ?_, hmem⟩
      · rw [hv, List.length_append, Option.isSome_some, if_pos rfl]
        omega
      · obtain hx | hx := List.mem_append.1 hx
        · exact .inl (hat1 x hx)
        · obtain ⟨h, hh⟩ := hat2 x hx
          exact .inr ⟨v, h, hv, hh⟩

end Sys2Proof.Machine
end

section
/-! What the operations on memory, teams and locks leave of the list of the fenced dies and links (R103, R434): all of it. -/

namespace Sys2Proof.Machine

/-! ### The fenced dies and links: memory, the directory and the queues -/

@[simp] theorem State.await_fenced (s : State) (c a : Nat) (e : Option Nat) : (s.await c a e).fenced = s.fenced := by
  unfold State.await
  split
  · rfl
  · split <;> rfl

@[simp] theorem State.awaitLine_fenced (s : State) (c line : Nat) (e : Option Nat) : (s.awaitLine c line e).fenced = s.fenced :=
  foldl_view State.fenced (fun s a => s.await_fenced c a e) _ s

@[simp] theorem State.invalidateLine_fenced (s : State) (c line : Nat) : (s.invalidateLine c line).fenced = s.fenced :=
  foldl_view State.fenced (fun s a => s.invalidate_fenced c a) _ s

@[simp] theorem State.putCells_fenced (s : State) (cs : List Host.Cell) : (s.putCells cs).fenced = s.fenced := by
  refine foldl_view State.fenced (fun _ _ => ?_) cs s
  rfl

@[simp] theorem State.performAt_fenced (s : State) (c : Nat) (p : PendStore) : (s.performAt c p).fenced = s.fenced := by
  unfold State.performAt
  split
  · rfl
  · cases p.red with
    | none => exact (State.putCells_fenced _ _).trans (s.invalidate_fenced c p.pa)
    | some x => exact s.invalidate_fenced c p.pa

@[simp] theorem State.performStore_fenced (s : State) (c i : Nat) : (s.performStore c i).fenced = s.fenced := by
  unfold State.performStore
  dsimp only
  split
  · rfl
  · split
    · rfl
    · split
      · rfl
      · split
        · exact State.await_fenced ..
        · exact State.performAt_fenced ..

theorem State.drainBy_fenced (s : State) (c : Nat) (sel : PendStore → Bool) (n i : Nat) : (s.drainBy c sel n i).fenced = s.fenced := by
  induction n generalizing s i with
  | zero => rfl
  | succ n ih =>
    unfold State.drainBy
    split
    · rfl
    · rw [ih, apply_ite State.fenced, performStore_fenced, ite_self]

@[simp] theorem State.drainCore_fenced (s : State) (c : Nat) (sel : PendStore → Bool) : (s.drainCore c sel).fenced = s.fenced :=
  s.drainBy_fenced c sel _ _

/-! ### The fenced dies and links: teams, faults and locks -/

@[simp] theorem State.modUid_fenced (s : State) (uid : Nat) (f : Team → Team) : (s.modUid uid f).fenced = s.fenced := by
  unfold State.modUid
  split
  · exact s.modTeam_fenced _ f
  · rfl

@[simp] theorem State.queueReadmit_fenced (s : State) (blk : Nat) : (s.queueReadmit blk).fenced = s.fenced := by
  unfold State.queueReadmit
  dsimp only
  split <;> rfl

@[simp] theorem State.readmitTeam_fenced (s : State) (uid : Nat) : (s.readmitTeam uid).fenced = s.fenced := by
  unfold State.readmitTeam
  split
  · split
    · exact s.queueReadmit_fenced _
    · rfl
  · rfl

@[simp] theorem State.parkAt_fenced (s : State) (p : Nat × Nat) (t : Team) (pc : W57) (f : FaultInfo) :
    (s.parkAt p t pc f).fenced = s.fenced := by
  unfold State.parkAt
  dsimp only
  split <;> rfl

@[simp] theorem State.recordStop_fenced (s : State) (cause watch core slot seq : Nat) :
    (s.recordStop cause watch core slot seq).fenced = s.fenced := rfl

@[simp] theorem State.stopBlock_fenced (s : State) (c blk : Nat) : (s.stopBlock c blk).fenced = s.fenced := rfl

@[simp] theorem State.debugHalt_fenced (s : State) (p : Nat × Nat) (t : Team) (pc : W57) (f : FaultInfo) :
    (s.debugHalt p t pc f).fenced = s.fenced := by
  unfold State.debugHalt
  dsimp only
  simp only [apply_ite State.fenced, recordStop_fenced, stopBlock_fenced, setTeam_fenced, ite_self]

@[simp] theorem State.takeFault_fenced (s : State) (p : Nat × Nat) (t : Team) (pc : W57) (f : FaultInfo) :
    (s.takeFault p t pc f).fenced = s.fenced := by
  unfold State.takeFault
  split
  · exact s.debugHalt_fenced p t pc f
  · exact s.parkAt_fenced p t pc f

theorem State.storeWords_fenced (s : State) (pa : Nat) (ws : List Nat) : (s.storeWords pa ws).fenced = s.fenced := rfl

theorem State.storeTeam_fenced (s : State) (base : Nat) (ts : List Team) (b : Block) (t : Team) :
    (s.storeTeam base ts b t).fenced = s.fenced :=
  (storeWords_fenced ..).trans (storeWords_fenced ..)

@[simp] theorem State.syncSaved_fenced (s : State) (uid : Nat) : (s.syncSaved uid).fenced = s.fenced := by
  unfold State.syncSaved
  split
  · rfl
  · exact foldl_view State.fenced (fun s t => s.storeTeam_fenced _ _ _ t) _ s

@[simp] theorem State.parkWaiter_fenced (s : State) (uid : Nat) (f : FaultInfo) : (s.parkWaiter uid f).fenced = s.fenced := by
  unfold State.parkWaiter
  split
  · rfl
  · split
    · rfl
    · split
      · rw [readmitTeam_fenced, modUid_fenced]
      · split
        · exact s.takeFault_fenced _ _ _ f
        · exact (State.syncSaved_fenced ..).trans (s.modUid_fenced uid _)

@[simp] theorem State.setLock_fenced (s : State) (o : Nat) (r : LockRec) : (s.setLock o r).fenced = s.fenced := by
  unfold State.setLock
  split <;> rfl

@[simp] theorem State.recallLock_fenced (s : State) (o : Nat) (g : Bool) : (s.recallLock o g).fenced = s.fenced :=
  foldl_view State.fenced (fun s line => s.invalidateLine_fenced 1024 line) _ s

@[simp] theorem State.stampLock_fenced (s : State) (c o : Nat) (g : Bool) : (s.stampLock c o g).fenced = s.fenced := by
  refine foldl_view State.fenced (fun _ _ => ?_) _ s
  rfl

@[simp] theorem State.reportAbandon_fenced (s : State) (uid obj : Nat) : (s.reportAbandon uid obj).fenced = s.fenced := by
  unfold State.reportAbandon
  split
  · rfl
  · unfold State.postReport
    dsimp only
    split <;> rfl

@[simp] theorem State.passOn_fenced (s : State) (o : Nat) (r : LockRec) (a : Bool) : (s.passOn o r a).fenced = s.fenced := by
  unfold State.passOn
  split
  · exact s.setLock_fenced ..
  · split
    · rw [readmitTeam_fenced, setLock_fenced]
    · simp only [apply_ite State.fenced, reportAbandon_fenced, recallLock_fenced, setLock_fenced, ite_self,
        foldl_view State.fenced (fun s line => s.awaitLine_fenced 1024 line none)]

@[simp] theorem State.releaseLock_fenced (s : State) (c o : Nat) (a : Bool) : (s.releaseLock c o a).fenced = s.fenced := by
  unfold State.releaseLock
  split
  · rfl
  · rw [passOn_fenced, stampLock_fenced]

@[simp] theorem State.dropWaiter_fenced (s : State) (o uid : Nat) : (s.dropWaiter o uid).fenced = s.fenced := by
  unfold State.dropWaiter
  split
  · rfl
  · split
    · split
      · exact s.passOn_fenced ..
      · exact s.setLock_fenced ..
    · exact s.setLock_fenced ..

@[simp] theorem State.forgetLock_fenced (s : State) (uid : Nat) (w : WaitRec) : (s.forgetLock uid w).fenced = s.fenced := by
  unfold State.forgetLock
  split
  · exact State.dropWaiter_fenced ..
  · rfl

@[simp] theorem State.dropLocks_fenced (s : State) (c : Nat) (t : Team) : (s.dropLocks c t).fenced = s.fenced := by
  unfold State.dropLocks
  dsimp only
  rw [foldl_view State.fenced (fun s (e : Nat × LockRec) => s.dropWaiter_fenced e.1 t.uid),
    foldl_view State.fenced (fun s (e : Nat × LockRec) => s.releaseLock_fenced c e.1 _)]

/-! ### The fenced dies and links: the end of a team -/

theorem State.mapGroup_fenced (s : State) (b : Block) (f : Block → Block) : (s.mapGroup b f).fenced = s.fenced := rfl

@[simp] theorem State.clearArrivals_fenced (s : State) (t : Team) : (s.clearArrivals t).fenced = s.fenced := by
  unfold State.clearArrivals
  split
  · rfl
  · exact s.mapGroup_fenced ..

@[simp] theorem State.evalBarrier_fenced (s : State) (b : Block) (n : Nat) : (s.evalBarrier b n).fenced = s.fenced := by
  unfold State.evalBarrier
  split
  · rfl
  · split
    · exact s.mapGroup_fenced ..
    · rfl

@[simp] theorem State.evalBarriers_fenced (s : State) (b : Block) : (s.evalBarriers b).fenced = s.fenced := by
  unfold State.evalBarriers
  refine foldl_view State.fenced (fun s m => ?_) _ s
  exact foldl_view State.fenced (fun s n => s.evalBarrier_fenced m.1 n) _ s

@[simp] theorem State.packetRelease_fenced (s : State) (scope : Nat) (blk : Option Nat) : (s.packetRelease scope blk).fenced = s.fenced := by
  unfold State.packetRelease
  split
  · rfl
  · exact foldl_view State.fenced (fun s (k : Nat × Core) => s.drainCore_fenced k.1 _) _ s

@[simp] theorem State.blockGone_fenced (s : State) (launch uid : Nat) : (s.blockGone launch uid).fenced = s.fenced := by
  unfold State.blockGone
  dsimp only
  split <;> exact s.packetRelease_fenced _ _

@[simp] theorem State.endTeam_fenced (s : State) (p : Nat × Nat) (t : Team) : (s.endTeam p t).fenced = s.fenced := by
  unfold State.endTeam
  split
  · rfl
  · next b _ =>
    have hlast : ∀ s1 : State, s1.fenced = s.fenced → ((s1.freeBlock p.1 t.place b).blockGone b.launch b.uid).fenced = s.fenced :=
      fun s1 h => (State.blockGone_fenced ..).trans h
    have hleft : ∀ k, ((((s.forgetLock t.uid t.wait).clearArrivals t).dropWork t.uid).setCore p.1 k |>.evalBarriers b).fenced = s.fenced :=
      fun k => (State.evalBarriers_fenced ..).trans (((s.forgetLock t.uid t.wait).clearArrivals_fenced t).trans (s.forgetLock_fenced ..))
    dsimp only
    split
    · exact hlast _ (hleft _)
    · exact hleft _

@[simp] theorem State.fenceTeam_fenced (s : State) (p : Nat × Nat) (t : Team) : (s.fenceTeam p t).fenced = s.fenced := by
  unfold State.fenceTeam
  dsimp only
  split
  · exact State.dropLocks_fenced ..
  · exact (State.endTeam_fenced ..).trans (State.dropLocks_fenced ..)

@[simp] theorem State.fenceLocks_fenced (s : State) (d : Nat) : (s.fenceLocks d).fenced = s.fenced :=
  foldl_view State.fenced (fun s (t : Team) => s.parkWaiter_fenced t.uid _) _ _

@[simp] theorem State.failCkpt_fenced (s : State) : s.failCkpt.fenced = s.fenced := by
  unfold State.failCkpt
  split <;> rfl

end Sys2Proof.Machine
end

section
/-! The error log, and what follows a link that has failed: its record, the retry over it and the loss of its holder (R103, R105, R430). -/

namespace Sys2Proof.Machine

/-! ### What a record of the error log leaves unchanged -/

/-- The errors of a state: the fenced dies and links, the errors in retry, and SEQ. -/
def State.faultLog (s : State) : List Nat × List (List W64) × Nat := (s.fenced, s.errs, s.seq)

theorem State.await_faultLog (s : State) (c pa : Nat) (e : Option Nat) : (s.await c pa e).faultLog = s.faultLog := by
  unfold State.await
  split
  · rfl
  · split <;> rfl

theorem State.invalidate_faultLog (s : State) (c pa : Nat) : (s.invalidate c pa).faultLog = s.faultLog := by
  simp only [State.faultLog, invalidate_fenced, invalidate_errs, invalidate_seq]

theorem State.winSetByte_faultLog (s : State) (c off : Nat) (b : Byte) : (s.winSetByte c off b).faultLog = s.faultLog := by
  unfold State.winSetByte
  dsimp only
  split
  · split <;> rfl
  all_goals rfl

theorem State.winWrite_faultLog (s : State) (c off : Nat) (bs : List Byte) : (s.winWrite c off bs).faultLog = s.faultLog := by
  induction bs generalizing s off with
  | nil => rfl
  | cons b bs ih => exact (ih ..).trans (s.winSetByte_faultLog c off b)

/-- A write of a unit to a physical address is none, a write to memory, or one through a window. -/
theorem State.unitPut_cases {P : State → Prop} {s : State} {pa : Nat} {bs : List Byte} (hnone : P s)
    (hmem : P ((s.invalidate 1024 pa).storeAgent pa bs)) (hwin : ∀ c off, P ((s.winWrite c off bs).stampAgent (pa / 128))) :
    P (s.unitPut pa bs) := by
  unfold State.unitPut
  split
  case h_5 => exact hnone
  case h_4 => exact iteInduction (fun _ => hnone) (fun _ => hwin _ _)
  all_goals exact iteInduction (fun _ => hnone) (fun _ => hmem)

theorem State.unitPut_faultLog (s : State) (pa : Nat) (bs : List Byte) : (s.unitPut pa bs).faultLog = s.faultLog :=
  State.unitPut_cases (P := fun s' => s'.faultLog = s.faultLog) rfl (s.invalidate_faultLog 1024 pa) (fun c off => s.winWrite_faultLog c off bs)

theorem State.unitStore_faultLog (s : State) (src : LateSrc) (pa : Nat) (bs : List Byte) :
    (s.unitStore src pa bs).faultLog = s.faultLog := by
  unfold State.unitStore
  split
  · exact s.await_faultLog ..
  · exact s.unitPut_faultLog ..

theorem State.logError_faultLog (s : State) (src unit cls action addr : Nat) (ident : W64) :
    (s.logError src unit cls action addr ident).faultLog = (s.fenced, s.errs, s.seq + 1) :=
  State.unitStore_faultLog ..

@[simp] theorem State.logError_fenced (s : State) (src unit cls action addr : Nat) (ident : W64) :
    (s.logError src unit cls action addr ident).fenced = s.fenced := congrArg (·.1) (State.logError_faultLog ..)

@[simp] theorem State.logError_errs (s : State) (src unit cls action addr : Nat) (ident : W64) :
    (s.logError src unit cls action addr ident).errs = s.errs := congrArg (·.2.1) (State.logError_faultLog ..)

@[simp] theorem State.logError_seq (s : State) (src unit cls action addr : Nat) (ident : W64) :
    (s.logError src unit cls action addr ident).seq = s.seq + 1 := congrArg (·.2.2) (State.logError_faultLog ..)

/-! ### The stores that wait in the queues -/

/-- Every store that waits in s' waits in s. -/
def State.StoresWithin (s' s : State) : Prop := ∀ k ∈ s'.cores, ∀ p ∈ k.2.stores, ∃ j ∈ s.cores, p ∈ j.2.stores

theorem State.StoresWithin.of_cores {s' s : State} (h : s'.cores = s.cores) : s'.StoresWithin s :=
  fun k hk _ hp => ⟨k, h ▸ hk, hp⟩

theorem State.StoresWithin.trans {s'' s' s : State} (h' : s''.StoresWithin s') (h : s'.StoresWithin s) : s''.StoresWithin s := by
  intro k hk p hp
  obtain ⟨j, hj, hpj⟩ := h' k hk p hp
  exact h j hj p hpj

theorem mem_tabSet {α : Type} {t : Tab α} {k : Nat} {v : α} {e : Nat × α} (h : e ∈ tabSet t k v) : e = (k, v) ∨ e ∈ t := by
  induction t with
  | nil => exact .inl (List.mem_singleton.1 h)
  | cons d t ih =>
    simp only [tabSet] at h
    split at h
    · grind
    · split at h <;> grind

theorem State.setTeam_storesWithin (s : State) (p : Nat × Nat) (t : Team) : (s.setTeam p t).StoresWithin s := by
  intro k hk q hq
  rcases mem_tabSet hk with rfl | hk
  · have hq : q ∈ (s.core p.1).stores := hq
    unfold State.core tabGet at hq
    cases hc : tabGet? s.cores p.1 with
    | none => rw [hc] at hq; exact absurd hq List.not_mem_nil
    | some j => rw [hc] at hq; exact ⟨(p.1, j), mem_of_tabGet? hc, hq⟩
  · exact ⟨k, hk, hq⟩

theorem State.winSetByte_storesWithin (s : State) (c off : Nat) (b : Byte) : (s.winSetByte c off b).StoresWithin s := by
  unfold State.winSetByte
  dsimp only
  split
  · split
    · exact s.setTeam_storesWithin _ _
    · exact .of_cores rfl
  all_goals exact .of_cores rfl

theorem State.winWrite_storesWithin (s : State) (c off : Nat) (bs : List Byte) : (s.winWrite c off bs).StoresWithin s := by
  induction bs generalizing s off with
  | nil => exact .of_cores rfl
  | cons b bs ih => exact .trans (ih _ _) (s.winSetByte_storesWithin c off b)

@[simp] theorem State.await_cores (s : State) (c pa : Nat) (e : Option Nat) : (s.await c pa e).cores = s.cores := by
  unfold State.await
  split
  · rfl
  · split <;> rfl

theorem State.unitPut_storesWithin (s : State) (pa : Nat) (bs : List Byte) : (s.unitPut pa bs).StoresWithin s :=
  State.unitPut_cases (P := fun s' => s'.StoresWithin s) (.of_cores rfl) (.of_cores (s.invalidate_cores 1024 pa))
    (fun c off => s.winWrite_storesWithin c off bs)

theorem State.logError_storesWithin (s : State) (src unit cls action addr : Nat) (ident : W64) :
    (s.logError src unit cls action addr ident).StoresWithin s := by
  unfold State.logError State.unitStore
  dsimp only
  split
  · exact .of_cores (State.await_cores ..)
  · exact State.unitPut_storesWithin _ _ _

/-! ### Links and ports fail (R103, R105) -/

@[simp] theorem State.failCkpt_seq (s : State) : s.failCkpt.seq = s.seq := by
  unfold State.failCkpt
  split <;> rfl

@[simp] theorem State.modUid_seq (s : State) (uid : Nat) (f : Team → Team) : (s.modUid uid f).seq = s.seq := by
  unfold State.modUid
  split
  · exact s.modTeam_seq _ f
  · rfl

theorem execDieLinkFailure_up {s : State} {d1 d2 : Nat} (hne : d1 ≠ d2) (h1 : d1 < 4) (h2 : d2 < 4)
    (hup : s.fenced.contains (100 + 4 * min d1 d2 + max d1 d2) = false) :
    execDieLinkFailure d1 d2 s = .next { s with
      fenced := s.fenced ++ [100 + 4 * min d1 d2 + max d1 d2],
      errs := s.errs ++ [[6, BitVec.ofNat 64 (max d1 d2), 0, 0, BitVec.ofNat 64 (100 + 4 * min d1 d2 + max d1 d2)]] } := by
  unfold execDieLinkFailure
  dsimp only
  rw [if_neg]
  · rfl
  · simp only [hup, Bool.false_eq_true, or_false]
    omega

theorem execCxlPortFailure_up {s : State} {port : Nat} (h : port < 4) (hup : s.fenced.contains (116 + port) = false) :
    execCxlPortFailure port s = .next { s with
      fenced := s.fenced ++ [116 + port],
      errs := s.errs ++ [[7, BitVec.ofNat 64 port, 0, 0, BitVec.ofNat 64 (116 + port)]] } := by
  unfold execCxlPortFailure
  rw [if_neg]
  · rfl
  · simp only [hup, Bool.false_eq_true, or_false]
    omega

theorem execUalinkPortFailure_fenced {s : State} {port : Nat} (h : port < 12) (hdown : s.fenced.contains (130 + port) = true) :
    execUalinkPortFailure port s = .next (s.logError 8 port 2 2 0 0) := by
  unfold execUalinkPortFailure
  rw [if_neg (by omega), if_pos hdown]

/-- The first failure of a port fences it off, after one record of the error log. -/
theorem execUalinkPortFailure_up {s : State} {port : Nat} (h : port < 12) (hup : s.fenced.contains (130 + port) = false) :
    ∃ s', execUalinkPortFailure port s = .next s' ∧ s'.fenced = s.fenced ++ [130 + port] ∧ s'.seq = s.seq + 1 := by
  unfold execUalinkPortFailure
  rw [if_neg (by omega), if_neg (by rw [hup]; decide)]
  refine ⟨_, rfl, ?_, ?_⟩
  · rw [State.logError_fenced]
    refine (foldl_view State.fenced (fun s k => ?_) _ _).trans rfl
    exact foldl_view State.fenced (fun s e => s.modUid_fenced _ _) _ _
  · rw [State.logError_seq]
    refine congrArg (· + 1) ((foldl_view State.seq (fun s k => ?_) _ _).trans s.failCkpt_seq)
    exact foldl_view State.seq (fun s e => s.modUid_seq _ _) _ _

/-! ### The retry of an invalidation (R103) -/

@[simp] theorem State.post_fenced (s : State) (ty core : Nat) (nc : Bool) (ws : List W64) : (s.post ty core nc ws).fenced = s.fenced := rfl

theorem State.mem_fenceDie_fenced (s : State) (d addr : Nat) (ident : W64) : d ∈ (s.fenceDie d addr ident).fenced := by
  unfold State.fenceDie
  dsimp only
  split
  · next h =>
    rw [logError_fenced, failCkpt_fenced]
    exact List.contains_iff_mem.1 h
  · have hteams (s : State) (c : Nat) : ((s.core c).teams.foldl (fun s e => s.fenceTeam (c, e.1) e.2) s).fenced = s.fenced :=
      foldl_view State.fenced (fun s (e : Nat × Team) => s.fenceTeam_fenced (c, e.1) e.2) _ s
    rw [post_fenced, foldl_view State.fenced (fun s c => s.setCore_fenced c _), foldl_view State.fenced hteams, fenceLocks_fenced]
    exact List.mem_cons_self

theorem State.mem_linkLost_fenced {s : State} {h : Nat} (addr : Nat) (ident : W64) :
    (if h = 16 then 120 else h) ∈ (s.linkLost h addr ident).fenced := by
  unfold State.linkLost
  dsimp only
  split
  · rw [logError_fenced]
    dsimp only
    split
    · next hc => exact List.contains_iff_mem.1 hc
    · exact List.mem_cons_self
  · exact State.mem_fenceDie_fenced ..

/-- The home of an address is given by the interleave bound. -/
theorem homeOf_congr {s s' : State} (h : s'.xlt = s.xlt) (pa : Nat) : s'.homeOf pa = s.homeOf pa := by
  have hib : s'.ib = s.ib := by rw [State.ib, State.ib, State.xltReg, State.xltReg, h]
  have hstack : s'.stackOf pa = s.stackOf pa := by rw [State.stackOf, State.stackOf, hib]
  rw [State.homeOf, State.homeOf, hstack]

/-- What a link that works again leaves: its code goes from the list, and no store waits for a holder over it any more. -/
theorem State.linkRestored_fenced (s : State) (src unit addr : Nat) (ident : W64) {code : Nat} (hc : code ≠ 0) :
    (s.linkRestored src unit addr ident code).fenced = s.fenced.filter (fun x => x != code) := by
  unfold State.linkRestored
  dsimp only
  rw [logError_fenced]
  exact if_neg hc

theorem State.linkRestored_errs (s : State) (src unit addr : Nat) (ident : W64) (code : Nat) :
    (s.linkRestored src unit addr ident code).errs = s.errs := State.logError_errs ..

theorem State.linkRestored_seq (s : State) (src unit addr : Nat) (ident : W64) (code : Nat) :
    (s.linkRestored src unit addr ident code).seq = s.seq + 1 := State.logError_seq ..

theorem State.linkRestored_stuck (s : State) (src unit addr : Nat) (ident : W64) (code : Nat) {k : Nat × Core} {p : PendStore} {h : Nat}
    (hk : k ∈ (s.linkRestored src unit addr ident code).cores) (hp : p ∈ k.2.stores) (hstuck : p.stuck = some h) :
    linkCode (sliceDie (s.homeOf p.pa)) h ≠ code := by
  obtain ⟨j, hj, hpj⟩ := State.logError_storesWithin _ _ _ _ _ _ _ k hk p hp
  obtain ⟨j, -, rfl⟩ := List.mem_map.1 hj
  obtain ⟨q, -, rfl⟩ := List.mem_map.1 hpj
  intro hcode
  split at hstuck
  · exact absurd hstuck (by simp)
  · next hfree =>
    rw [if_neg hfree] at hcode
    exact hfree (by simp [hstuck, hcode])

/-- The link between a home and another die names the home, seen from the other end. -/
theorem linkCode_otherEnd {home h : Nat} (hh : h < 4) (hhome : home < 4) (hne : h ≠ home) :
    (if (linkCode home h - 100) / 4 = h then (linkCode home h - 100) % 4 else (linkCode home h - 100) / 4) = home := by
  rw [show linkCode home h = 100 + 4 * min home h + max home h from if_neg (by omega)]
  rcases Nat.lt_or_gt_of_ne hne with hlt | hlt
  · rw [Nat.min_eq_right hlt.le, Nat.max_eq_left hlt.le, if_pos (by omega)]
    omega
  · rw [Nat.min_eq_left hlt.le, Nat.max_eq_right hlt.le, if_neg (by omega)]
    omega

theorem linkCode_ne_zero (home h : Nat) : linkCode home h ≠ 0 := by
  unfold linkCode
  split <;> omega

/-- The code of the link that a home waits over. -/
def State.awaitCode (s : State) (w : Await) : Nat := linkCode (sliceDie (s.homeOf w.pa)) w.holder

theorem State.awaitCode_ne_zero (s : State) (w : Await) : s.awaitCode w ≠ 0 := linkCode_ne_zero _ _

/-- The state without the error of the link that a home waits over. -/
def State.settleError (s : State) (w : Await) : State :=
  { s with errs := s.errs.filter (fun e => ((e[4]?).getD 0).toNat != s.awaitCode w) }

theorem State.settleError_fenced (s : State) (w : Await) : (s.settleError w).fenced = s.fenced := rfl

theorem State.settleError_xlt (s : State) (w : Await) : (s.settleError w).xlt = s.xlt := rfl

theorem State.settleError_homeOf (s : State) (w : Await) (pa : Nat) : (s.settleError w).homeOf pa = s.homeOf pa :=
  homeOf_congr (s.settleError_xlt w) pa

theorem State.settleError_seq (s : State) (w : Await) : (s.settleError w).seq = s.seq := rfl

theorem State.settleError_errs (s : State) (w : Await) :
    (s.settleError w).errs = s.errs.filter (fun e => ((e[4]?).getD 0).toNat != s.awaitCode w) := rfl

section
variable {s : State} {w : Await} {rest : List Await} (hw : s.awaited = w :: rest)
include hw

theorem execInvalidationRetry_cons (ok : Bool) :
    execInvalidationRetry ok s = .next ((s.settleError w).linkRetry ok (if w.holder = 16 then 7 else 6)
      (if w.holder = 16 then 0 else w.holder) w.pa (s.awaitIdent w) (s.awaitCode w)) := by
  unfold execInvalidationRetry
  split
  · next h => exact absurd (hw.symm.trans h) (List.cons_ne_nil w rest)
  · next h =>
    obtain ⟨rfl, rfl⟩ := List.cons.inj (hw.symm.trans h)
    rfl

theorem execInvalidationRetry_host_true (h16 : w.holder = 16) :
    execInvalidationRetry true s = .next ((s.settleError w).linkRestored 7 0 w.pa (s.awaitIdent w) (s.awaitCode w)) := by
  rw [execInvalidationRetry_cons hw, h16]
  rfl

theorem execInvalidationRetry_host_false (h16 : w.holder = 16) :
    execInvalidationRetry false s = .next ((s.settleError w).linkLost 16 w.pa (s.awaitIdent w)) := by
  rw [execInvalidationRetry_cons hw, h16]
  rfl

/-- The retry toward another die needs a third die over which it goes. -/
theorem execInvalidationRetry_die (hh : w.holder < 4) (hhome : sliceDie (s.homeOf w.pa) < 4) (hne : w.holder ≠ sliceDie (s.homeOf w.pa))
    (ok : Bool) :
    execInvalidationRetry ok s = .next (
      if (ok && (s.retryRoute (sliceDie (s.homeOf w.pa)) w.holder).isSome) = true then
        (s.settleError w).linkRestored 6 w.holder w.pa (s.awaitIdent w) (s.awaitCode w)
      else (s.settleError w).linkLost w.holder w.pa (s.awaitIdent w)) := by
  have hroute : ((s.settleError w).retryRoute (sliceDie (s.homeOf w.pa)) w.holder) = s.retryRoute (sliceDie (s.homeOf w.pa)) w.holder := rfl
  have hcode : (s.awaitCode w == 0) = false := beq_false_of_ne (s.awaitCode_ne_zero w)
  rw [execInvalidationRetry_cons hw, if_neg (by omega), if_neg (by omega)]
  unfold State.linkRetry
  dsimp only
  rw [State.awaitCode, linkCode_otherEnd hh hhome hne, ← State.awaitCode, hroute, hcode, Nat.mod_eq_of_lt hh]
  rfl

/-- The home waits for the host, or for a die other than its own. -/
def State.awaitsOther (s : State) (w : Await) : Prop :=
  w.holder = 16 ∨ w.holder < 4 ∧ sliceDie (s.homeOf w.pa) < 4 ∧ w.holder ≠ sliceDie (s.homeOf w.pa)

theorem execInvalidationRetry_restored (hk : s.awaitsOther w)
    (hroute : w.holder = 16 ∨ (s.retryRoute (sliceDie (s.homeOf w.pa)) w.holder).isSome = true) :
    ∃ src unit, execInvalidationRetry true s =
      .next ((s.settleError w).linkRestored src unit w.pa (s.awaitIdent w) (s.awaitCode w)) := by
  rcases hk with h16 | ⟨hh, hhome, hne⟩
  · exact ⟨7, 0, execInvalidationRetry_host_true hw h16⟩
  · have hroute := hroute.resolve_left (by omega)
    exact ⟨6, w.holder, by rw [execInvalidationRetry_die hw hh hhome hne, hroute]; rfl⟩

theorem execInvalidationRetry_lost (hk : s.awaitsOther w) :
    execInvalidationRetry false s = .next ((s.settleError w).linkLost w.holder w.pa (s.awaitIdent w)) := by
  rcases hk with h16 | ⟨hh, hhome, hne⟩
  · rw [execInvalidationRetry_host_false hw h16, h16]
  · rw [execInvalidationRetry_die hw hh hhome hne]
    rfl

theorem execInvalidationRetry_noRoute (hk : s.awaitsOther w) (h16 : w.holder ≠ 16)
    (hroute : s.retryRoute (sliceDie (s.homeOf w.pa)) w.holder = none) :
    execInvalidationRetry true s = execInvalidationRetry false s := by
  obtain ⟨hh, hhome, hne⟩ := hk.resolve_left h16
  rw [execInvalidationRetry_die hw hh hhome hne, execInvalidationRetry_die hw hh hhome hne, hroute]
  rfl

end

theorem execInvalidationRetry_none {s : State} (h : s.awaited = []) (ok : Bool) : execInvalidationRetry ok s = .next s := by
  unfold execInvalidationRetry
  split
  · rfl
  · next hcons => exact absurd (h.symm.trans hcons) (List.cons_ne_nil _ _).symm

/-- After a retry that succeeds, the link is up, its error is settled and logged, and no store waits over it. -/
theorem invalidationRetry_restores {s : State} {w : Await} {rest : List Await} (hw : s.awaited = w :: rest) (hk : s.awaitsOther w)
    (hroute : w.holder = 16 ∨ (s.retryRoute (sliceDie (s.homeOf w.pa)) w.holder).isSome = true) :
    ∃ s', execInvalidationRetry true s = .next s' ∧ s'.fenced = s.fenced.filter (fun y => y != s.awaitCode w) ∧ s'.seq = s.seq + 1 ∧
      s'.errs = s.errs.filter (fun e => ((e[4]?).getD 0).toNat != s.awaitCode w) ∧
      ∀ k ∈ s'.cores, ∀ p ∈ k.2.stores, p.stuck = some w.holder → linkCode (sliceDie (s.homeOf p.pa)) w.holder ≠ s.awaitCode w := by
  obtain ⟨src, unit, hstep⟩ := execInvalidationRetry_restored hw hk hroute
  refine ⟨_, hstep, ?_, ?_, ?_, fun k hk p hp h => ?_⟩
  · rw [State.linkRestored_fenced _ _ _ _ _ (s.awaitCode_ne_zero w), State.settleError_fenced]
  · rw [State.linkRestored_seq, State.settleError_seq]
  · rw [State.linkRestored_errs, State.settleError_errs]
  · rw [← State.settleError_homeOf s w]
    exact State.linkRestored_stuck _ _ _ _ _ _ hk hp h

end Sys2Proof.Machine
end

section
/-! Logical time, epochs, retention, and what the host does to the device's lines (R78, R81 to R83, R85, R101). -/

namespace Sys2Proof.Machine

/-! ### The directory entry that covers an address (R79, R80) -/

/-- The first value that a search finds still has a property after a change: what was found keeps the property, and what is new has it. -/
theorem findSome?_of_changed {α β : Type} {P : β → Prop} {f g : α → Option β} {l : List α}
    (hnew : ∀ a ∈ l, f a = none → ∀ b, g a = some b → P b) (hold : ∀ a ∈ l, ∀ b, f a = some b → P b → ∃ b', g a = some b' ∧ P b')
    (h : ∃ b, l.findSome? f = some b ∧ P b) : ∃ b, l.findSome? g = some b ∧ P b := by
  induction l with
  | nil => obtain ⟨b, hb, -⟩ := h; exact absurd hb (by simp)
  | cons a l ih =>
    obtain ⟨b, hb, hP⟩ := h
    simp only [List.findSome?_cons] at hb ⊢
    cases hf : f a with
    | some b0 =>
      rw [hf] at hb
      obtain rfl := Option.some.inj hb
      obtain ⟨b', hb', hP'⟩ := hold a List.mem_cons_self b0 hf hP
      exact ⟨b', by rw [hb'], hP'⟩
    | none =>
      rw [hf] at hb
      cases hg : g a with
      | some b' => exact ⟨b', rfl, hnew a List.mem_cons_self hf b' hg⟩
      | none =>
        exact ih (fun a ha => hnew a (List.mem_cons_of_mem _ ha)) (fun a ha => hold a (List.mem_cons_of_mem _ ha)) ⟨b, hb, hP⟩

/-- The entry at a sector, if it covers an address. -/
def coveringEntry (dirs : Tab DirEntry) (pa k : Nat) : Option (Nat × DirEntry) :=
  ((tabGet? dirs k).filter (fun d => d.covers k pa)).map (fun d => (k, d))

theorem dirAt_eq (s : State) (pa : Nat) : s.dirAt pa = (dirKeys pa).findSome? (coveringEntry s.dirs pa) := by
  unfold State.dirAt
  congr 1
  funext k
  unfold coveringEntry
  cases tabGet? s.dirs k with
  | none => rfl
  | some d => cases hc : d.covers k pa <;> simp [hc]

theorem coveringEntry_eq_some {dirs : Tab DirEntry} {pa k : Nat} {e : Nat × DirEntry} :
    coveringEntry dirs pa k = some e ↔ e.1 = k ∧ tabGet? dirs k = some e.2 ∧ e.2.covers k pa = true := by
  unfold coveringEntry
  obtain ⟨j, d⟩ := e
  simp only [Option.map_eq_some_iff, Option.filter_eq_some_iff, Prod.mk.injEq]
  grind

theorem coveringEntry_tabModify {f : DirEntry → DirEntry} (hf : ∀ d, (f d).grain = d.grain) (dirs : Tab DirEntry) (pa k0 k : Nat) :
    coveringEntry (tabModify dirs k0 f) pa k =
      (coveringEntry dirs pa k).map (fun e => if e.1 = k0 then (e.1, f e.2) else e) := by
  have hcov (d : DirEntry) : (f d).covers k pa = d.covers k pa := by simp [DirEntry.covers, hf]
  unfold coveringEntry
  rw [tabGet?_tabModify]
  cases tabGet? dirs k with
  | none => split <;> rfl
  | some d =>
    by_cases hk : k = k0 <;> cases hc : d.covers k pa <;> simp_all [Option.filter]

/-- A change of holders reaches the covering entry of its address alone. -/
theorem dirAt_modDir {s : State} {pa k0 : Nat} {d0 : DirEntry} {f : DirEntry → DirEntry} (hf : ∀ d, (f d).grain = d.grain)
    (h : s.dirAt pa = some (k0, d0)) (x : Nat) :
    (s.modDir pa f).dirAt x = (s.dirAt x).map (fun e => if e.1 = k0 then (e.1, f e.2) else e) := by
  rw [show s.modDir pa f = { s with dirs := tabModify s.dirs k0 f } by unfold State.modDir; rw [h], dirAt_eq, dirAt_eq]
  exact (congrArg (List.findSome? · (dirKeys x)) (funext (coveringEntry_tabModify hf s.dirs x k0))).trans (List.map_findSome? ..).symm

/-! ### The host bit (R78, R80) -/

/-- The host holds a copy of the sector of an address. -/
def State.HostHolds (s : State) (pa : Nat) : Prop := ∃ e, s.dirAt pa = some e ∧ e.2.host = true

/-- The host holds no copy of the sector of an address. -/
def State.HostFree (s : State) (pa : Nat) : Prop := ∀ e, s.dirAt pa = some e → e.2.host = false

theorem hostFree_modDir {s : State} {pa : Nat} {f : DirEntry → DirEntry} (hf : ∀ d, (f d).grain = d.grain) (hoff : ∀ d, (f d).host = false)
    {x : Nat} (hx : x = pa ∨ s.HostFree x) : (s.modDir pa f).HostFree x := by
  cases hd : s.dirAt pa with
  | none =>
    rw [show s.modDir pa f = s by unfold State.modDir; rw [hd]]
    rcases hx with rfl | hx
    · intro e he
      exact absurd (hd.symm.trans he) (by simp)
    · exact hx
  | some e0 =>
    intro e he
    rw [dirAt_modDir hf hd, Option.map_eq_some_iff] at he
    obtain ⟨e', he', rfl⟩ := he
    split
    · exact hoff _
    · next hk =>
      rcases hx with rfl | hx
      · obtain rfl := Option.some.inj (hd.symm.trans he')
        exact absurd rfl hk
      · exact hx e' he'

theorem hostFree_setHostBit {s : State} {pa x : Nat} (hx : x = pa ∨ s.HostFree x) : (s.setHostBit pa false).HostFree x := by
  unfold State.setHostBit
  split
  · exact hostFree_modDir (f := fun d => { d with host := false }) (fun _ => rfl) (fun _ => rfl) hx
  · next hd =>
    rcases hx with rfl | hx
    · intro e he
      exact absurd (hd.symm.trans he) (by simp)
    · exact hx

theorem hostHolds_modDir {s : State} {pa x : Nat} (hd : (s.dirAt pa).isSome) (hx : x = pa ∨ s.HostHolds x) :
    (s.modDir pa (fun d => { d with host := true })).HostHolds x := by
  obtain ⟨e0, he0⟩ := Option.isSome_iff_exists.1 hd
  have hat := dirAt_modDir (f := fun d => { d with host := true }) (fun _ => rfl) he0 x
  rcases hx with rfl | ⟨e, he, hhost⟩
  · exact ⟨_, by rw [hat, he0]; rfl, by simp⟩
  · refine ⟨_, by rw [hat, he]; rfl, ?_⟩
    dsimp only
    split
    · rfl
    · exact hhost

theorem newGrain_line (s : State) (pa : Nat) : s.newGrain pa 128 = 128 ∨ s.newGrain pa 128 = 32 := by
  unfold State.newGrain
  simp only [List.find?_cons, List.find?_nil]
  cases s.dirTaken (pa / 128 * 128 / 32) 128 <;> simp

/-- The host's new entry: a line, or the sector of the address. -/
theorem hostHolds_newEntry {s : State} {pa g x : Nat} (hg : g = 128 ∨ g = 32) (hd : s.dirAt pa = none)
    (hx : x = pa ∨ s.HostHolds x ∧ x / 128 = pa / 128 ∧ x < pa / 32 * 32) :
    ({ s with dirs := tabSet s.dirs (pa / g * g / 32) ⟨0, g, 0, true⟩ } : State).HostHolds x := by
  have hnew (k : Nat) (e : Nat × DirEntry) (h : coveringEntry (tabSet s.dirs (pa / g * g / 32) ⟨0, g, 0, true⟩) x k = some e)
      (hnone : coveringEntry s.dirs x k = none) : e.2.host = true := by
    obtain ⟨h1, h2, h3⟩ := coveringEntry_eq_some.1 h
    rw [tabGet?_tabSet] at h2
    split at h2
    · rw [← Option.some.inj h2]
    · rw [coveringEntry_eq_some.2 ⟨h1, h2, h3⟩] at hnone
      exact absurd hnone (by simp)
  unfold State.HostHolds
  rw [dirAt_eq]
  rcases hx with rfl | ⟨⟨e, he, hhost⟩, hline, hlt⟩
  · rw [dirAt_eq, List.findSome?_eq_none_iff] at hd
    have hcov : coveringEntry (tabSet s.dirs (x / g * g / 32) ⟨0, g, 0, true⟩) x (x / g * g / 32) =
        some (x / g * g / 32, ⟨0, g, 0, true⟩) := by
      rw [coveringEntry_eq_some]
      refine ⟨rfl, tabGet?_tabSet_same .., ?_⟩
      simp only [DirEntry.covers, Bool.and_eq_true, decide_eq_true_eq]
      rcases hg with rfl | rfl <;> omega
    have hmem : x / g * g / 32 ∈ dirKeys x := by
      rcases hg with rfl | rfl <;> simp only [dirKeys, List.mem_cons] <;> omega
    cases hfind : (dirKeys x).findSome? (coveringEntry (tabSet s.dirs (x / g * g / 32) ⟨0, g, 0, true⟩) x) with
    | none => rw [List.findSome?_eq_none_iff.1 hfind _ hmem] at hcov; exact absurd hcov (by simp)
    | some e =>
      obtain ⟨k, hk, hek⟩ := List.exists_of_findSome?_eq_some hfind
      exact ⟨e, rfl, hnew k e hek (hd k hk)⟩
  · rw [dirAt_eq] at he
    refine findSome?_of_changed (fun k _ hnone e h => hnew k e h hnone) (fun k _ e h hP => ?_) ⟨e, he, hhost⟩
    obtain ⟨rfl, h2, h3⟩ := coveringEntry_eq_some.1 h
    by_cases hkey : e.1 = pa / g * g / 32
    · refine ⟨(e.1, ⟨0, g, 0, true⟩), coveringEntry_eq_some.2 ⟨rfl, by rw [hkey]; exact tabGet?_tabSet_same .., ?_⟩, rfl⟩
      simp only [DirEntry.covers, Bool.and_eq_true, decide_eq_true_eq] at h3 ⊢
      rcases hg with rfl | rfl <;> omega
    · exact ⟨e, coveringEntry_eq_some.2 ⟨rfl, by rw [tabGet?_tabSet_other _ _ hkey]; exact h2, h3⟩, hP⟩

theorem hostHolds_setHostBit {s : State} {pa x : Nat} (hx : x = pa ∨ s.HostHolds x ∧ x / 128 = pa / 128 ∧ x < pa / 32 * 32) :
    (s.setHostBit pa true).HostHolds x := by
  unfold State.setHostBit
  split
  · next hd => exact hostHolds_modDir (by rw [hd]; rfl) (hx.imp_right (·.1))
  · next hd => exact hostHolds_newEntry (newGrain_line s pa) hd hx

/-- Once the host bits of a line's sectors are set, the host holds each sector. -/
theorem hostHolds_line (s : State) (line : Nat) : ∀ a ∈ lineSectors line,
    ((lineSectors line).foldl (fun s a => s.setHostBit a true) s).HostHolds a := by
  simp only [lineSectors, List.foldl_cons, List.foldl_nil, List.mem_cons, List.not_mem_nil, or_false]
  have hkeep {s : State} {x pa : Nat} (h : s.HostHolds x) (hline : x / 128 = pa / 128) (hlt : x < pa / 32 * 32) :
      (s.setHostBit pa true).HostHolds x := hostHolds_setHostBit (.inr ⟨h, hline, hlt⟩)
  rintro a (rfl | rfl | rfl | rfl)
  · exact hkeep (hkeep (hkeep (hostHolds_setHostBit (.inl rfl)) (by omega) (by omega)) (by omega) (by omega)) (by omega) (by omega)
  · exact hkeep (hkeep (hostHolds_setHostBit (.inl rfl)) (by omega) (by omega)) (by omega) (by omega)
  · exact hkeep (hostHolds_setHostBit (.inl rfl)) (by omega) (by omega)
  · exact hostHolds_setHostBit (.inl rfl)

theorem hostFree_foldl (l : List Nat) (s : State) {a : Nat} (h : a ∈ l ∨ s.HostFree a) :
    (l.foldl (fun s a => s.setHostBit a false) s).HostFree a := by
  induction l generalizing s with
  | nil => exact h.resolve_left List.not_mem_nil
  | cons b l ih =>
    refine ih _ ?_
    rcases h with h | h
    · rcases List.mem_cons.1 h with rfl | h
      · exact .inr (hostFree_setHostBit (.inl rfl))
      · exact .inl h
    · exact .inr (hostFree_setHostBit (.inr h))

/-! ### Logical time, epochs and retention (R81 to R83) -/

theorem execLogicalTimeAdvance_ltime (core n : Nat) (s : State) : ∃ s', execLogicalTimeAdvance core n s = .next s' ∧
    (s'.core core).ltime = max (s.core core).ltime (min ((s.core core).ltime + max 1 n) 0xFFFFFFFF) ∧ s'.mem = s.mem :=
  ⟨_, rfl, by rw [core_setCore], rfl⟩

theorem execL1RetentionSleep_awake {s : State} {core : Nat} (h : (s.core core).retention = false) :
    execL1RetentionSleep core s = .next (s.setCore core { s.core core with retention := true, slept := 0 }) :=
  congrArg _ (if_neg (by rw [h]; decide))

theorem execL1RetentionSleep_asleep {s : State} {core : Nat} (h : (s.core core).retention = true) :
    execL1RetentionSleep core s = .next s := congrArg _ (if_pos h)

theorem execRetentionWake_core (core : Nat) (s : State) : ∃ s', execRetentionWake core s = .next s' ∧ (s'.core core).retention = false ∧
    (s'.core core).teams = (s.core core).teams ∧ ∀ l ∈ (s'.core core).l1, l ∈ (s.core core).l1 ∧ l.2.epoch = s.epoch := by
  refine ⟨_, rfl, ?_⟩
  rw [core_setCore]
  exact ⟨rfl, rfl, fun l hl => ⟨List.mem_of_mem_filter hl, beq_iff_eq.1 (List.mem_filter.1 hl).2⟩⟩

/-- A core of the new epoch has the time 0, and L1 lines only where its retention goes on. -/
theorem execEpochChange_due {s : State} (hdue : s.epochDue = true) : ∃ s', execEpochChange s = .next s' ∧ s'.epoch = (s.epoch + 1) % 4 ∧
    s'.stamps = [] ∧ s'.floors = [] ∧ s'.mem = s.mem ∧
    s'.cores.map (fun k => k.2.retention) = s.cores.map (fun k => k.2.retention && decide (k.2.slept < 3)) ∧
    ∀ k ∈ s'.cores, k.2.ltime = 0 ∧ (k.2.retention = false → k.2.l1 = []) := by
  unfold execEpochChange
  rw [if_neg (by rw [hdue]; decide)]
  refine ⟨_, rfl, rfl, rfl, rfl, rfl, ?_, fun k hk => ?_⟩
  · rw [List.map_map]
    rfl
  · obtain ⟨j, -, rfl⟩ := List.mem_map.1 hk
    exact ⟨rfl, fun hold => if_neg (by rw [show (j.2.retention && decide (j.2.slept < 3)) = false from hold]; decide)⟩

/-! ### The host (R78, R85) -/

theorem execHostSnoop_unreached {s : State} (h : s.hostReaches = false) (line : Nat) : execHostSnoop line s = .next s := by
  unfold execHostSnoop
  split
  · rw [if_pos (.inl h)]
  · rfl

theorem execHostCxlMemAccess_unreached {s : State} (h : s.hostReaches = false) (addr : Nat) (req : HostReq) :
    execHostCxlMemAccess addr req s = .next s := by
  unfold execHostCxlMemAccess
  dsimp only
  rw [if_pos (.inr (.inl h))]

theorem mem_dropL1 {s : State} {line : Nat} {k : Nat × Core} (hk : k ∈ (s.dropL1 line).cores) {e : Nat × L1Line} (he : e ∈ k.2.l1) :
    e.1 ≠ line := by
  obtain ⟨j, -, rfl⟩ := List.mem_map.1 hk
  exact bne_iff_ne.1 (List.mem_filter.1 he).2

@[simp] theorem freeBytes_length (t n : Nat) : (freeBytes t n).length = n := by simp [freeBytes]

/-- What a request of the host to an address of the device's memory does once it is served. -/
def State.hostAccess (s : State) (addr : Nat) : HostReq → State
  | .read =>
    let st := s.stampOf (addr / 128)
    let s1 := (lineSectors (addr / 128)).foldl (fun s a => s.setHostBit a true) s
    { s1.setStamp (addr / 128) st.wts (max st.rts (max st.wts s.agentTime)) with agentTime := max s.agentTime st.wts }
  | .write val =>
    let s1 := s.setHostBit addr false
    if (s1.unreachable 1024 addr).isSome then s1.await 1024 addr none
    else (s1.invalidate 1024 addr).storeAgent (addr / 8 * 8) (leBytes 8 val.toNat)
  | .release => (lineSectors (addr / 128)).foldl (fun s a => s.setHostBit a false) s

section
variable {s : State} (hreach : s.hostReaches = true)
include hreach

theorem execHostSnoop_reached {line : Nat} (hr : regionOf (line * 128) = .host) (ho : s.lineOwned line = false) (he : s.epochDue = false) :
    execHostSnoop line s =
      .next ((({ s with tick := s.tick + 128 } : State).storeAgent (line * 128) (freeBytes s.tick 128)).dropL1 line) := by
  unfold execHostSnoop
  rw [hr]
  simp only [hreach, ho, he, Bool.true_eq_false, Bool.false_eq_true, or_false, if_false]

theorem hostSnoop_taken {line : Nat} (hr : regionOf (line * 128) = .host) (ho : s.lineOwned line = false) (he : s.epochDue = false) :
    ∃ s', execHostSnoop line s = .next s' ∧ (∀ k ∈ s'.cores, ∀ e ∈ k.2.l1, e.1 ≠ line) ∧
      ∀ a, a / 128 ≠ line → memGet s'.mem a = memGet s.mem a := by
  refine ⟨_, execHostSnoop_reached hreach hr ho he, fun k hk e he => mem_dropL1 hk he, fun a ha => ?_⟩
  exact memGet_memSetAll_outside _ _ _ _ (by rw [freeBytes_length]; omega)

variable {addr : Nat} (hr : regionOf addr = .hbm ∨ (∃ p, regionOf addr = .cxl p) ∧ s.cxlHole addr = false)
  (ho : s.lineOwned (addr / 128) = false) (hp : s.poisoned (addr / 128) = false) (he : s.epochDue = false)
include hr ho hp he

/-- A request of the host that nothing holds back does what it asks for. -/
theorem execHostCxlMemAccess_reached (req : HostReq) : execHostCxlMemAccess addr req s = .next (s.hostAccess addr req) := by
  cases req
  all_goals
    refine congrArg _ (if_neg ?_)
    rcases hr with hr | ⟨⟨p, hr⟩, hhole⟩
    · simp [hr, hreach, ho, hp, he]
    · simp [hr, hhole, hreach, ho, hp, he]

end

@[simp] theorem setHostBit_mem (s : State) (a : Nat) (on : Bool) : (s.setHostBit a on).mem = s.mem := by
  unfold State.setHostBit
  split
  · exact s.modDir_mem a _
  · split <;> rfl

section
variable {s : State} (hreach : s.hostReaches = true) {addr : Nat}
  (hr : regionOf addr = .hbm ∨ (∃ p, regionOf addr = .cxl p) ∧ s.cxlHole addr = false)
  (ho : s.lineOwned (addr / 128) = false) (hp : s.poisoned (addr / 128) = false) (he : s.epochDue = false)
include hreach hr ho hp he

theorem hostRead_holds : ∃ s', execHostCxlMemAccess addr .read s = .next s' ∧ s'.mem = s.mem ∧
    ∀ a ∈ lineSectors (addr / 128), (s'.dirAt a).map (fun e => e.2.host) = some true := by
  refine ⟨_, execHostCxlMemAccess_reached hreach hr ho hp he .read, foldl_mem _ (fun s a => setHostBit_mem s a true) _ s, fun a ha => ?_⟩
  obtain ⟨e, hdir, hhost⟩ := hostHolds_line s (addr / 128) a ha
  exact Option.map_eq_some_iff.2 ⟨e, hdir, hhost⟩

theorem hostWrite_stores (val : W64) (hun : (s.setHostBit addr false).unreachable 1024 addr = none) :
    ∃ s', execHostCxlMemAccess addr (.write val) s = .next s' ∧
      s'.mem = (s.memWrite (addr / 8 * 8) (leBytes 8 val.toNat)).mem ∧ ∀ e, s'.dirAt addr = some e → e.2.host = false := by
  refine ⟨_, (execHostCxlMemAccess_reached hreach hr ho hp he (.write val)).trans (congrArg _ (if_neg (by rw [hun]; decide))), ?_, ?_⟩
  · rw [State.storeAgent_mem, State.invalidate_mem, setHostBit_mem]
    rfl
  · exact hostFree_modDir (s := s.setHostBit addr false) (pa := addr)
      (f := fun d => { d with sharers := d.sharers &&& BitVec.ofNat 4 (2 ^ dieOf 1024), host := false }) (fun _ => rfl) (fun _ => rfl) (.inl rfl)

theorem hostWrite_waits (val : W64) (hun : (s.setHostBit addr false).unreachable 1024 addr ≠ none) :
    ∃ s', execHostCxlMemAccess addr (.write val) s = .next s' ∧ s'.mem = s.mem := by
  refine ⟨_, (execHostCxlMemAccess_reached hreach hr ho hp he (.write val)).trans
    (congrArg _ (if_pos (Option.isSome_iff_ne_none.2 hun))), ?_⟩
  rw [await_mem, setHostBit_mem]

theorem hostRelease_frees : ∃ s', execHostCxlMemAccess addr .release s = .next s' ∧ s'.mem = s.mem ∧
    ∀ a ∈ lineSectors (addr / 128), ∀ e, s'.dirAt a = some e → e.2.host = false :=
  ⟨_, execHostCxlMemAccess_reached hreach hr ho hp he .release, foldl_mem _ (fun s a => setHostBit_mem s a false) _ s,
    fun _ ha => hostFree_foldl _ s (.inl ha)⟩

end

end Sys2Proof.Machine
end

section
/-! Shootdowns, checkpoints, poison, errors, firmware, attestation, register writes and reset (R378, R387, R388, R396, R430 to R441). -/

namespace Sys2Proof.Machine

/-! ### What the beginning of a shootdown leaves (R168, R387) -/

/-- The memory, the `XLT_` registers and the shootdowns in progress. -/
def State.shootdownView (s : State) : List Host.Cell × Tab W64 × List Shootdown := (s.mem, s.xlt, s.shootdowns)

theorem setCore_shootdownView (s : State) (c : Nat) (k : Core) : (s.setCore c k).shootdownView = s.shootdownView := rfl

theorem modTiles_shootdownView (s : State) (c : Nat) (es : List Nat) (f : TileEntry → TileEntry) :
    (s.modTiles c es f).shootdownView = s.shootdownView :=
  foldl_view _ (fun s _ => setCore_shootdownView s c _) es s

theorem unmarkScatter_shootdownView (s : State) (c : Nat) (y : Copy) : (s.unmarkScatter c y).shootdownView = s.shootdownView := by
  unfold State.unmarkScatter
  dsimp only
  split
  · rfl
  · exact modTiles_shootdownView ..

theorem modUid_shootdownView (s : State) (uid : Nat) (f : Team → Team) : (s.modUid uid f).shootdownView = s.shootdownView := by
  unfold State.modUid
  split
  · simp only [State.shootdownView, State.modTeam_mem, State.modTeam_xlt, State.modTeam_shootdowns]
  · rfl

theorem advanceCopies_shootdownView (s : State) (c uid n : Nat) : (s.advanceCopies c uid n).shootdownView = s.shootdownView := by
  induction n generalizing s with
  | zero => rfl
  | succ n ih =>
    unfold State.advanceCopies
    split
    · rfl
    · split
      · rfl
      · dsimp only
        split
        · rfl
        · simp only [ih, modUid_shootdownView, apply_ite State.shootdownView, unmarkScatter_shootdownView, modTiles_shootdownView,
            State.modCopy, setCore_shootdownView, ite_self]

theorem endBoxes_shootdownView (s : State) (c blk : Nat) (sel : Copy → Box → Bool) :
    (s.endBoxes c blk sel).shootdownView = s.shootdownView :=
  foldl_view _ (fun s u => advanceCopies_shootdownView s c u _) _ _

theorem abortBoxes_shootdownView (s : State) (x : Shootdown) : (s.abortBoxes x).shootdownView = s.shootdownView := by
  refine foldl_view _ (fun s k => ?_) _ s
  exact foldl_view _ (fun s b => endBoxes_shootdownView s _ _ _) _ s

theorem beginShootdown_shootdownView (s : State) (x : Shootdown) :
    (s.beginShootdown x).shootdownView = (s.mem, s.xlt, s.shootdowns ++ [x]) :=
  abortBoxes_shootdownView _ x

@[simp] theorem beginShootdown_mem (s : State) (x : Shootdown) : (s.beginShootdown x).mem = s.mem :=
  congrArg (·.1) (beginShootdown_shootdownView s x)

@[simp] theorem beginShootdown_xlt (s : State) (x : Shootdown) : (s.beginShootdown x).xlt = s.xlt :=
  congrArg (·.2.1) (beginShootdown_shootdownView s x)

@[simp] theorem beginShootdown_shootdowns (s : State) (x : Shootdown) : (s.beginShootdown x).shootdowns = s.shootdowns ++ [x] :=
  congrArg (·.2.2) (beginShootdown_shootdownView s x)

theorem xltReg_beginShootdown (s : State) (x : Shootdown) (off : Nat) : (s.beginShootdown x).xltReg off = s.xltReg off := by
  unfold State.xltReg
  rw [beginShootdown_xlt]

theorem xltReg_tabSet (s : State) (off : Nat) (v : W64) : ({ s with xlt := tabSet s.xlt off v } : State).xltReg off = v :=
  tabGet_tabSet_same ..

/-! ### Shootdowns (R387, R388) -/

theorem execShootdownSubmit_taken {s : State} (val : W64) (h : s.pendingShootdowns < 16) : ∃ s', execShootdownSubmit val s = .next s' ∧
    s'.pendingShootdowns = s.pendingShootdowns + 1 ∧
    (s'.xltReg 0x20).toNat / 2 ^ 32 = ((s.xltReg 0x20).toNat / 2 ^ 32 + 1) % 2 ^ 32 ∧ s'.mem = s.mem := by
  unfold execShootdownSubmit
  rw [if_neg (by omega)]
  refine ⟨_, rfl, ?_, ?_, beginShootdown_mem ..⟩
  · simp only [State.pendingShootdowns, beginShootdown_shootdowns, List.filter_append, List.length_append]
    rfl
  · rw [xltReg_beginShootdown, xltReg_tabSet, BitVec.toNat_ofNat]
    omega

theorem execAtsInvalidation_uncounted (s : State) (pasid : Nat) (va : W64) (log2 : Nat) :
    ∃ s', execAtsInvalidation pasid va log2 s = .next s' ∧ s'.pendingShootdowns = s.pendingShootdowns ∧
      s'.shootdowns.length = s.shootdowns.length + 1 := by
  refine ⟨_, rfl, ?_, ?_⟩
  · simp only [State.pendingShootdowns, beginShootdown_shootdowns, List.filter_append, List.length_append]
    rfl
  · rw [beginShootdown_shootdowns, List.length_append]
    rfl

section
variable {s : State} {x : Shootdown} {rest : List Shootdown} (hx : s.shootdowns = x :: rest)
include hx

/-- The state in which every store of every core has been performed, as far as it can be. -/
def State.drainAll (s : State) : State := s.cores.foldl (fun s k => s.drainCore k.1 (fun _ => true)) s

theorem execShootdownComplete_waits (hready : s.drainAll.shootdownReady x = false) : execShootdownComplete s = .next s.drainAll := by
  unfold execShootdownComplete
  rw [hx]
  exact congrArg _ (if_pos hready)

theorem execShootdownComplete_ends (hready : s.drainAll.shootdownReady x = true) : ∃ s', execShootdownComplete s = .next s' ∧
    s'.shootdowns = rest ∧
    (∀ k ∈ s'.cores, ∀ e ∈ k.2.tlb, e.pasid = x.pasid → rangesMeet e.base e.log2 x.base x.log2 = false) ∧
    (∀ g ∈ s'.gtlb, ∀ e ∈ g.2, e.pasid = x.pasid → rangesMeet e.base e.log2 x.base x.log2 = false) ∧
    ∀ d ∈ s'.walkCache, ∀ e ∈ d.2, e.pasid = x.pasid → rangesMeet e.base e.log2 x.base x.log2 = false := by
  have hkeep {p base log2 : Nat} (h : (p != x.pasid || !rangesMeet base log2 x.base x.log2) = true) (hp : p = x.pasid) :
      rangesMeet base log2 x.base x.log2 = false := by simpa [hp] using h
  unfold execShootdownComplete
  rw [hx]
  refine ⟨_, congrArg _ (if_neg (fun hwait => absurd (hready.symm.trans hwait) (by decide))), rfl, ?_, ?_, ?_⟩
  · intro k hk e he
    obtain ⟨j, -, rfl⟩ := List.mem_map.1 hk
    exact hkeep (List.mem_filter.1 he).2
  all_goals
    intro g hg e he
    obtain ⟨j, -, rfl⟩ := List.mem_map.1 hg
    exact hkeep (List.mem_filter.1 he).2

end

/-! ### Checkpoints and the freeze (R396, R437) -/

/-- The `MGT_` registers and the image on the safe tier. -/
def State.tierView (s : State) : Tab W64 × List Host.Cell := (s.mgt, s.safeTier)

theorem queueReadmit_tierView (s : State) (blk : Nat) : (s.queueReadmit blk).tierView = s.tierView := by
  unfold State.queueReadmit
  dsimp only
  split <;> rfl

theorem endCut_tierView (s : State) : s.endCut.tierView = s.tierView :=
  foldl_view State.tierView (fun s u => queueReadmit_tierView s u) _ _

theorem mgtReg_of_tierView {s s' : State} {off : Nat} {v : W64} {t : List Host.Cell} (h : s'.tierView = (tabSet s.mgt off v, t)) :
    s'.mgtReg off = v := by
  unfold State.mgtReg
  rw [show s'.mgt = tabSet s.mgt off v from congrArg (·.1) h, tabGet_tabSet_same]

theorem execCheckpoint_begins {s : State} (val : W64) (h : s.fe.ckpt = false) : execCheckpoint val s = .next ({ s with
    mgt := tabSet s.mgt 0x1000 (BitVec.ofNat 64 (fld val.toNat 22 30 * 2 ^ 22 + fld val.toNat 1 1 * 2)),
    fe := { s.fe with ckpt := true, ckptFail := false } } : State).beginCut := by
  unfold execCheckpoint
  rw [if_neg (by rw [h]; decide)]

theorem execFreeze_begins {s : State} (h : s.fe.ckpt = false) :
    execFreeze s = .next ({ s with mgt := tabSet s.mgt 0 1, fe := { s.fe with regionDue := true } } : State).beginCut :=
  congrArg _ (if_neg (by rw [h]; decide))

theorem execFreeze_later {s : State} (h : s.fe.ckpt = true) : execFreeze s = .next { s with mgt := tabSet s.mgt 0 1 } :=
  congrArg _ (if_pos h)

theorem execUnfreeze_ends {s : State} (h : s.fe.ckpt = false) (hf : (s.mgtReg 0).getLsbD 0 = true) :
    execUnfreeze s = .next ({ s with mgt := tabSet s.mgt 0 0 } : State).endCut :=
  congrArg _ (if_neg (by rw [h, hf]; decide))

theorem execCheckpointDone_waits {s : State} (hf : s.fe.ckptFail = false) (ho : s.cutOpen = true) : execCheckpointDone true s = .next s :=
  congrArg _ (if_pos (.inr ⟨by rw [hf]; rfl, ho⟩))

section
variable {s : State} (h : s.fe.ckpt = true)
include h

/-- A checkpoint ends with its bit in MGT_CKPT, and with the image that its result leaves on the safe tier. -/
theorem execCheckpointDone_ends {ok : Bool} (hopen : (ok && !s.fe.ckptFail) = true → s.cutOpen = false) :
    ∃ s', execCheckpointDone ok s = .next s' ∧
      s'.tierView = (tabSet s.mgt 0x1000 (s.mgtReg 0x1000 ||| BitVec.ofNat 64 (if (ok && !s.fe.ckptFail) = true then 2 ^ 63 else 2 ^ 62)),
        if (ok && !s.fe.ckptFail) = true then s.writeRegion.copyToTier.safeTier else s.safeTier) := by
  unfold execCheckpointDone
  dsimp only
  rw [if_neg]
  · refine ⟨_, rfl, ?_⟩
    rw [apply_ite State.tierView, endCut_tierView, ite_self, ← apply_ite State.safeTier]
    rfl
  · rw [h]
    rintro (hc | ⟨hgood, hc⟩)
    · exact absurd hc (by decide)
    · rw [hopen hgood] at hc
      exact absurd hc (by decide)

theorem execCheckpointDone_fails {ok : Bool} (hbad : (ok && !s.fe.ckptFail) = false) :
    ∃ s', execCheckpointDone ok s = .next s' ∧ (s'.mgtReg 0x1000).getLsbD 62 = true ∧ s'.safeTier = s.safeTier := by
  obtain ⟨s', hs', hv⟩ := execCheckpointDone_ends h (ok := ok) (fun hg => absurd (hg.symm.trans hbad) (by decide))
  rw [hbad] at hv
  refine ⟨s', hs', ?_, congrArg (·.2) hv⟩
  rw [mgtReg_of_tierView hv, BitVec.getLsbD_or]
  simp

theorem execCheckpointDone_succeeds (hf : s.fe.ckptFail = false) (ho : s.cutOpen = false) :
    ∃ s', execCheckpointDone true s = .next s' ∧ (s'.mgtReg 0x1000).getLsbD 63 = true ∧
      s'.safeTier = s.writeRegion.mem.filter (fun c => decide (regionOf c.1 = .hbm)) := by
  obtain ⟨s', hs', hv⟩ := execCheckpointDone_ends h (ok := true) (fun _ => ho)
  rw [hf] at hv
  refine ⟨s', hs', ?_, congrArg (·.2) hv⟩
  rw [mgtReg_of_tierView hv, BitVec.getLsbD_or]
  simp

end

theorem finishCut_due {s : State} (hd : s.fe.regionDue = true) (ho : s.cutOpen = false) :
    s.finishCut = ({ s with fe := { s.fe with regionDue := false } } : State).writeRegion := if_pos ⟨hd, ho⟩

theorem finishCut_notDue {s : State} (h : s.fe.regionDue = false ∨ s.cutOpen = true) : s.finishCut = s := by
  refine if_neg fun hc => ?_
  obtain ⟨hd, ho⟩ := hc
  rcases h with h | h
  · exact absurd (hd.symm.trans h) (by decide)
  · exact absurd (h.symm.trans ho) (by decide)

/-! ### Poison and errors (R430 to R433) -/

theorem poisonLine_mem (s : State) (line : Nat) : (s.poisonLine line).mem = s.mem :=
  foldl_mem _ (fun s a => s.modDir_mem a _) _ _

/-- No L1 holds a line that has just been poisoned. -/
theorem poisonLine_l1 {s : State} {line : Nat} {k : Nat × Core} (hk : k ∈ (s.poisonLine line).cores) {e : Nat × L1Line} (he : e ∈ k.2.l1) :
    e.1 ≠ line := by
  unfold State.poisonLine State.dropCopies at hk
  exact mem_dropL1 hk he

/-- The state in which a line is marked no more, and is restored where the die of its home is fenced. -/
def State.clearPoison (s : State) (line : Nat) : State :=
  { s with
    poison := s.poison.filter (fun x => x != line),
    restored := if s.fenced.contains (sliceDie (s.homeOf (line * 128))) then line :: s.restored else s.restored }

theorem cores_clearPoison (s : State) (line : Nat) : (s.clearPoison line).cores = s.cores := rfl

theorem mem_clearPoison (s : State) (line : Nat) : (s.clearPoison line).mem = s.mem := rfl

theorem fenced_clearPoison (s : State) (line : Nat) : (s.clearPoison line).fenced = s.fenced := rfl

theorem xlt_clearPoison (s : State) (line : Nat) : (s.clearPoison line).xlt = s.xlt := rfl

theorem not_mem_poison_clearPoison (s : State) (line : Nat) : line ∉ (s.clearPoison line).poison := by
  simp [State.clearPoison]

theorem mem_restored_clearPoison {s : State} {line : Nat} (h : sliceDie (s.homeOf (line * 128)) ∈ s.fenced) :
    line ∈ (s.clearPoison line).restored := by
  simp [State.clearPoison, h]

theorem poisoned_clearPoison (s : State) (line : Nat) : (s.clearPoison line).poisoned line = false := by
  rw [State.poisoned, homeOf_congr (xlt_clearPoison s line), fenced_clearPoison, Bool.or_eq_false_iff]
  refine ⟨by simpa using not_mem_poison_clearPoison s line, ?_⟩
  by_cases hf : sliceDie (s.homeOf (line * 128)) ∈ s.fenced
  · split <;> simp [mem_restored_clearPoison hf]
  · split <;> simp [hf]

/-- A line that UNPOISON names is zero and clear, on a fenced die too, and no L1 holds it. -/
theorem execUnpoison_clears {s : State} {val : W64}
    (hr : regionOf (fld val.toNat 7 45 * 128) = .hbm ∨ ∃ p, regionOf (fld val.toNat 7 45 * 128) = .cxl p) :
    ∃ s', execUnpoison val s = .next s' ∧ s'.poisoned (fld val.toNat 7 45) = false ∧
      s'.mem = (s.memWrite (fld val.toNat 7 45 * 128) (List.replicate 128 0)).mem ∧
      ∀ k ∈ s'.cores, ∀ e ∈ k.2.l1, e.1 ≠ fld val.toNat 7 45 := by
  generalize hline : fld val.toNat 7 45 = line at hr
  have hstep : execUnpoison val s = .next (((s.poisonLine line).storeAgent (line * 128) (List.replicate 128 0)).clearPoison line) := by
    unfold execUnpoison
    dsimp only
    rw [hline]
    rcases hr with hr | ⟨p, hr⟩ <;> rw [hr] <;> rfl
  refine ⟨_, hstep, poisoned_clearPoison _ line, ?_, fun k hk e he => ?_⟩
  · rw [mem_clearPoison, State.storeAgent_mem, poisonLine_mem, State.memWrite_mem]
  · rw [cores_clearPoison, State.storeAgent_cores] at hk
    exact poisonLine_l1 hk he

theorem execErrorRetry_none {s : State} (h : s.errs = []) (ok : Bool) : execErrorRetry ok s = .next s := by
  unfold execErrorRetry
  rw [h]

/-- The retry of the oldest error, by its source. -/
theorem execErrorRetry_cons {s : State} {src unit addr code : Nat} {ident : W64} {rest : List (List W64)} (hsrc : src < 2 ^ 64)
    (hunit : unit < 2 ^ 64) (haddr : addr < 2 ^ 64) (hcode : code < 2 ^ 64)
    (h : s.errs = [BitVec.ofNat 64 src, BitVec.ofNat 64 unit, BitVec.ofNat 64 addr, ident, BitVec.ofNat 64 code] :: rest) (ok : Bool) :
    execErrorRetry ok s = .next (
      if src = 6 ∨ src = 7 then ({ s with errs := rest } : State).linkRetry ok src unit addr ident code
      else if ok = true then ({ s with errs := rest } : State).logError src unit 1 0 addr ident
      else ({ s with errs := rest } : State).lastingError src unit addr ident) := by
  have hnat {n : Nat} (hn : n < 2 ^ 64) : (BitVec.ofNat 64 n).toNat = n := by rw [BitVec.toNat_ofNat, Nat.mod_eq_of_lt hn]
  unfold execErrorRetry
  split
  · next hnil => exact absurd (h.symm.trans hnil) (List.cons_ne_nil _ _)
  · next hcons =>
    obtain ⟨rfl, rfl⟩ := List.cons.inj (h.symm.trans hcons)
    simp only [List.getElem?_cons_zero, List.getElem?_cons_succ, Option.getD_some, hnat hsrc, hnat hunit, hnat haddr, hnat hcode]

section
variable {s : State} {src unit addr code : Nat} {ident : W64} {rest : List (List W64)} (hsrc : src < 2 ^ 64)
  (hunit : unit < 2 ^ 64) (haddr : addr < 2 ^ 64) (hcode : code < 2 ^ 64)
  (h : s.errs = [BitVec.ofNat 64 src, BitVec.ofNat 64 unit, BitVec.ofNat 64 addr, ident, BitVec.ofNat 64 code] :: rest)
include hsrc hunit haddr hcode h

theorem execErrorRetry_link (hlink : src = 6 ∨ src = 7) (ok : Bool) :
    execErrorRetry ok s = .next (({ s with errs := rest } : State).linkRetry ok src unit addr ident code) := by
  rw [execErrorRetry_cons hsrc hunit haddr hcode h, if_pos hlink]

theorem execErrorRetry_transient (h6 : src ≠ 6) (h7 : src ≠ 7) :
    execErrorRetry true s = .next (({ s with errs := rest } : State).logError src unit 1 0 addr ident) := by
  rw [execErrorRetry_cons hsrc hunit haddr hcode h, if_neg (by omega), if_pos rfl]

theorem execErrorRetry_lasting (h6 : src ≠ 6) (h7 : src ≠ 7) :
    execErrorRetry false s = .next (({ s with errs := rest } : State).lastingError src unit addr ident) := by
  rw [execErrorRetry_cons hsrc hunit haddr hcode h, if_neg (by omega), if_neg Bool.false_ne_true]

end

section
variable (s : State) (unit addr : Nat) (ident : W64)

theorem lastingError_line {src : Nat} (h : src = 1 ∨ src = 2) :
    s.lastingError src unit addr ident = (s.failCkpt.logError src unit 2 1 addr ident).poisonLine (addr / 128) := if_pos h

theorem lastingError_unit {src : Nat} (h : src = 3 ∨ src = 4 ∨ src = 5) :
    s.lastingError src unit addr ident = (s.failCkpt.logError src unit 2 1 addr ident).poisonUnit addr :=
  (if_neg (by omega)).trans (if_pos h)

theorem lastingError_port :
    execUalinkPortFailure (unit % 12) s.failCkpt = .next (s.lastingError 8 unit addr ident) := rfl

theorem lastingError_complex {src : Nat} (h : src = 0 ∨ 8 < src) : s.lastingError src unit addr ident =
    if unit % 2 = s.failCkpt.fe.active then
      (if s.failCkpt.fe.standby = true then (s.failCkpt.logError src unit 2 3 addr ident).takeOver
        else s.failCkpt.logError src unit 2 3 addr ident)
    else { s.failCkpt.logError src unit 2 3 addr ident with
      fe := { (s.failCkpt.logError src unit 2 3 addr ident).fe with standby := false } } :=
  (if_neg (by omega)).trans ((if_neg (by omega)).trans (if_neg (by omega)))

end

/-! ### Power (R438) -/

theorem execClockStep_up {s : State} (hw : s.withheld = 0) (hc : s.clock + 25 ≤ 1750) :
    execClockStep true s = .next { s with clock := s.clock + 25 } := by
  unfold execClockStep
  rw [if_pos rfl, if_pos ⟨hw, hc⟩]

theorem execClockStep_down {s : State} (hc : 1025 ≤ s.clock) : execClockStep false s = .next { s with clock := s.clock - 25 } :=
  congrArg _ (if_pos hc)

theorem execWithholdStep_step {s : State} {k : Nat} (hc : s.clock = 1000) (hk : k ≤ 12) (hstep : k ≤ s.withheld + 1) :
    execWithholdStep k s = .next { s with withheld := k } := congrArg _ (if_pos ⟨hc, hk, hstep⟩)

/-! ### Remote requests (R439) -/

theorem execRemoteRequest_unserved {s : State} {pasid : Nat} (h : s.fe.recovery = true ∨ s.ctxOf pasid = none) (va : W64) (req : RemoteReq) :
    execRemoteRequest pasid va req s = .next s := by
  unfold execRemoteRequest
  split
  · rfl
  · next i hi => rw [if_pos (h.resolve_right (by rw [hi]; simp))]

section
variable {s : State} {pasid i : Nat} (hi : s.ctxOf pasid = some i) (hf : s.fe.recovery = false) (va : W64)
include hi hf

theorem execRemoteRequest_read (n : Nat) : execRemoteRequest pasid va (.read n) s =
    .next (if 7 < n then s else (s.unitRead (unitAgent 0 pasid i none) va (2 ^ n)).2) := by
  unfold execRemoteRequest
  rw [hi]
  exact congrArg _ (if_neg (by rw [hf]; decide))

theorem execRemoteRequest_write (n : Nat) (v : BitVec 1024) : execRemoteRequest pasid va (.write n v) s =
    .next (if 7 < n then s else (s.unitWrite (unitAgent 0 pasid i none) va (2 ^ n) (v.toNat % 2 ^ (8 * 2 ^ n))).2) := by
  unfold execRemoteRequest
  rw [hi]
  exact congrArg _ (if_neg (by rw [hf]; decide))

theorem execRemoteRequest_atomic (op : RemoteOp) (wide : Bool) (x y : W64) : execRemoteRequest pasid va (.atomic op wide x y) s =
    .next (s.unitUpdate (unitAgent 0 pasid i none) va (if wide = true then 8 else 4)
      (remoteResult op (8 * (if wide = true then 8 else 4)) x.toNat y.toNat)).2 := by
  unfold execRemoteRequest
  rw [hi]
  exact congrArg _ (if_neg (by rw [hf]; decide))

end

theorem unitUpdate_ok {s s1 : State} {a : Agent} {va : W64} {n : Nat} {p : Phys} (h : s.access a va n n .atomic = (.ok p, s1))
    (f : Nat → Option Nat) :
    (s.unitUpdate a va n f).2 = (f (s1.agentRead p n)).elim s1 (fun x => s1.agentWrite p (leBytes n x)) := by
  unfold State.unitUpdate
  rw [h]
  cases hf : f (s1.agentRead p n) <;> simp [hf]

theorem remoteResult_values (n x y old : Nat) :
    let a := x % 2 ^ n
    remoteResult .add n x y old = some ((old + a) % 2 ^ n) ∧ remoteResult .exch n x y old = some a ∧
    remoteResult .max n x y old = some (if signed n old < signed n a then a else old) ∧
    remoteResult .min n x y old = some (if signed n a < signed n old then a else old) ∧
    remoteResult .cas n x y a = some (y % 2 ^ n) ∧ (old ≠ a → remoteResult .cas n x y old = none) :=
  ⟨rfl, rfl, rfl, rfl, if_pos rfl, fun h => if_neg h⟩

/-! ### Firmware, attestation, reset (R363, R378, R440, R441) -/

theorem execSlotWrite_idle {s : State} (h : s.slotBusy = false) (val : W64) : execSlotWrite val s = .next s := congrArg _ (if_pos h)

theorem execSlotWrite_busy {s : State} (h : s.slotBusy = true) (val : W64) : ∃ s' r, execSlotWrite val s = .next s' ∧ r ∈ [1, 2] ∧
    s'.cores = s.cores ∧ s'.mem = s.mem ∧ s'.mgtReg 0x30 = BitVec.ofNat 64 (fld val.toNat 12 40 * 4096 + r * 2) := by
  unfold execSlotWrite
  rw [if_neg (by rw [h]; decide)]
  refine ⟨_, if Config.freeBool s.tick = true then 1 else 2, rfl, ?_, rfl, rfl, tabGet_tabSet_same ..⟩
  split <;> decide

theorem execSpdmMeasurement_blocks (n : Nat) (s : State) : ∃ s', execSpdmMeasurement n s = .next s' ∧ s'.cores = s.cores ∧ s'.mem = s.mem ∧
    s'.certOut = s.certs ∧
    s'.spdmOut.map (fun b => (b.index, b.words)) = (if 1 ≤ n ∧ n ≤ 4 then [n] else [1, 2, 3, 4]).map (fun i => (i, s.measure i)) :=
  ⟨_, rfl, rfl, rfl, rfl, List.map_map ..⟩

theorem execReset_state (s : State) : ∃ s', execReset s = .next s' ∧ s'.cores = State.reset.cores ∧ s'.powered = true ∧
    s'.seq = State.reset.seq ∧ s'.fe.recovery = (!s.slotOk) ∧ s'.fuses = s.fuses ∧ s'.certs = s.certs ∧ s'.slotDigest = s.slotDigest ∧
    ∀ a, regionOf a = .host → memGet s'.mem a = memGet s.mem a := by
  refine ⟨_, rfl, rfl, rfl, rfl, rfl, rfl, rfl, rfl, fun a ha => ?_⟩
  rw [memGet_filter, if_pos]
  unfold keptOverReset
  rw [ha]

/-! ### Register writes (R12, R435) -/

theorem replaceByte_lt {old sh n : Nat} (b : Byte) (hold : old < 2 ^ n) (hsh : sh + 8 ≤ n) :
    old - old / 2 ^ sh % 256 * 2 ^ sh + b.toNat * 2 ^ sh < 2 ^ n := by
  obtain ⟨r, rfl⟩ := Nat.exists_eq_add_of_le hsh
  have hpow : 2 ^ (sh + 8 + r) = 2 ^ sh * (256 * 2 ^ r) := by ring
  rw [hpow] at hold ⊢
  generalize 2 ^ sh = p at hold ⊢
  have hq : old / p < 256 * 2 ^ r := Nat.div_lt_of_lt_mul hold
  have hb := b.isLt
  have hp : old % p < p := Nat.mod_lt _ (Nat.pos_of_ne_zero (by rintro rfl; simp at hold))
  have hdiv := Nat.div_add_mod old p
  generalize old / p = q at hq hdiv ⊢
  have hnew : q - q % 256 + b.toNat + 1 ≤ 256 * 2 ^ r := by
    generalize 2 ^ r = u at hq ⊢
    omega
  calc old - q % 256 * p + b.toNat * p
      = p * (q - q % 256 + b.toNat) + old % p := by
        have hle : q % 256 * p ≤ p * q := by
          rw [Nat.mul_comm]
          exact Nat.mul_le_mul_left _ (Nat.mod_le _ _)
        rw [Nat.mul_add, Nat.mul_sub, Nat.mul_comm p (q % 256), Nat.mul_comm p b.toNat]
        omega
    _ < p * (q - q % 256 + b.toNat + 1) := by
        rw [Nat.mul_add _ _ 1]
        omega
    _ ≤ p * (256 * 2 ^ r) := Nat.mul_le_mul_left _ hnew

theorem mergeWord_lt {old sh n : Nat} {bs : List Byte} (hold : old < 2 ^ n) (hsh : sh + 8 * bs.length ≤ n) : mergeWord old sh bs < 2 ^ n := by
  induction bs generalizing old sh with
  | nil => exact hold
  | cons b bs ih =>
    rw [List.length_cons] at hsh
    exact ih (replaceByte_lt b hold (by omega)) (by omega)

theorem mergedWord_lt (s : State) {off : Nat} {bs : List Byte} (h : off % 8 + bs.length ≤ 8) : s.mergedWord off bs < 2 ^ 64 :=
  mergeWord_lt (lt_of_le_of_lt (Nat.and_le_right (m := 2 ^ 64 - 1 - w1cBits (off / 8 * 8))) (by omega)) (by omega)

theorem execRegisterWrite_word {s : State} {off : Nat} (val : W64) (hoff : off < windowsAt) :
    execRegisterWrite off (.word val) s = .next (if off % 8 = 0 then s.wordWrite off val.toNat else s) :=
  congrArg _ (if_neg (by omega))

theorem execRegisterWrite_half {s : State} {off : Nat} (x : W32) (hoff : off < windowsAt) :
    execRegisterWrite off (.half x) s =
      .next (if off % 4 = 0 then s.wordWrite (off / 8 * 8) (s.mergedWord off (leBytes 4 x.toNat)) else s) :=
  congrArg _ (if_neg (by omega))

/-- A write of four bytes is a write of its register with those bytes replaced. -/
theorem execRegisterWrite_half_word {s : State} {off : Nat} (x : W32) (hoff : off < windowsAt) (h4 : off % 4 = 0) :
    execRegisterWrite off (.half x) s =
      execRegisterWrite (off / 8 * 8) (.word (BitVec.ofNat 64 (s.mergedWord off (leBytes 4 x.toNat)))) s := by
  rw [execRegisterWrite_half x hoff, execRegisterWrite_word _ (by omega), if_pos h4, if_pos (by omega), BitVec.toNat_ofNat,
    Nat.mod_eq_of_lt (mergedWord_lt s (by rw [leBytes_length]; omega))]

end Sys2Proof.Machine
end

section
/-! The statement on the steps of the fleet. -/

namespace Sys2Proof.Machine

/-- Settles O60, step by step, from what each step does to the state: what it changes is read off its meaning, and what it leaves unchanged
from the lemmas on the operations it uses. -/
theorem fleetSteps : Obligations.FleetSteps := by
  unfold Obligations.FleetSteps
  refine ⟨fun s core n => ⟨execLogicalTimeAdvance_ltime core n s, execL1RetentionSleep_awake, execL1RetentionSleep_asleep,
      execRetentionWake_core core s⟩,
    fun s => execEpochChange_due,
    fun s h => ⟨execHostSnoop_unreached h, execHostCxlMemAccess_unreached h⟩,
    fun s line hreach hr ho he => hostSnoop_taken hreach hr ho he,
    fun s addr val hreach hr ho hp he => ⟨hostRead_holds hreach hr ho hp he,
      ⟨hostWrite_stores hreach hr ho hp he val, hostWrite_waits hreach hr ho hp he val⟩, hostRelease_frees hreach hr ho hp he⟩,
    fun s path core => rfl,
    fun s d1 d2 hne h1 h2 hup => execDieLinkFailure_up hne h1 h2 hup,
    fun s port => ⟨execCxlPortFailure_up, execUalinkPortFailure_up, execUalinkPortFailure_fenced⟩,
    fun s h ok => execInvalidationRetry_none h ok,
    fun s w rest hw hk => ⟨invalidationRetry_restores hw hk, execInvalidationRetry_noRoute hw hk,
      _, execInvalidationRetry_lost hw hk, State.mem_linkLost_fenced ..⟩,
    fun s pasid va req h => execRemoteRequest_unserved h va req,
    fun s pasid va i hi hf => ⟨fun n hn => ?_, fun n v hn => ?_, fun n v hn => ⟨?_, ?_⟩, fun op wide x y p s1 hacc => ?_⟩,
    remoteResult_values,
    fun s val h => execShootdownSubmit_taken val h,
    execAtsInvalidation_uncounted,
    fun s x rest hx hready => execShootdownComplete_ends hx hready,
    fun s x rest hx hready => execShootdownComplete_waits hx hready,
    fun s val h => ⟨execCheckpoint_begins val h, execFreeze_begins h, execUnfreeze_ends h⟩,
    fun s h => ⟨execFreeze_later h, execCheckpointDone_fails h rfl, fun hf => execCheckpointDone_fails h (by rw [hf]; rfl),
      execCheckpointDone_waits, execCheckpointDone_succeeds h⟩,
    fun s => ⟨finishCut_due, finishCut_notDue⟩,
    fun s val hr => execUnpoison_clears hr,
    fun s src unit addr ident => rfl,
    fun ok s h => execErrorRetry_none h ok,
    fun s src unit addr ident code rest hsrc hunit haddr hcode h => ?_,
    fun s => ⟨execClockStep_up, execClockStep_down, fun k => execWithholdStep_step⟩,
    fun s val h => execSlotWrite_idle h val,
    fun s val h => execSlotWrite_busy h val,
    fun s n => ⟨execSpdmMeasurement_blocks n s, ⟨_, _, rfl, rfl, rfl, rfl⟩⟩,
    fun s val => ⟨rfl, rfl, rfl, fun off x hoff => ⟨fun h8 => (execRegisterWrite_word val hoff).trans (congrArg _ (if_neg h8)),
      fun h4 => (execRegisterWrite_half x hoff).trans (congrArg _ (if_neg h4)), execRegisterWrite_half_word x hoff⟩⟩,
    fun s => ⟨_, rfl, rfl, rfl, rfl⟩,
    execReset_state⟩
  · rw [exec_remoteRequest, execRemoteRequest_read hi hf, if_neg (by omega)]
  · rw [exec_remoteRequest, execRemoteRequest_write hi hf, if_neg (by omega)]
  · rw [exec_remoteRequest, execRemoteRequest_read hi hf, if_pos hn]
  · rw [exec_remoteRequest, execRemoteRequest_write hi hf, if_pos hn]
  · rw [exec_remoteRequest, execRemoteRequest_atomic hi hf, unitUpdate_ok hacc]
    cases remoteResult op (8 * if wide = true then 8 else 4) x.toNat y.toNat (s1.agentRead p (if wide = true then 8 else 4)) <;> rfl
  · refine ⟨execErrorRetry_link hsrc hunit haddr hcode h, fun h6 h7 => ⟨execErrorRetry_transient hsrc hunit haddr hcode h h6 h7, ?_⟩⟩
    rw [exec_errorRetry, execErrorRetry_lasting hsrc hunit haddr hcode h h6 h7]
    refine ⟨fun hs => ?_, fun hs => ?_, fun hs => ?_, fun hs => ?_⟩
    · rw [lastingError_line _ unit addr ident hs]
    · rw [lastingError_unit _ unit addr ident hs]
    · subst hs
      exact (lastingError_port _ unit addr ident).symm
    · rw [lastingError_complex _ unit addr ident hs]

end Sys2Proof.Machine
end

section
/-! The tile table: what a change of an entry leaves of its core, the names and faults of entries before an instruction's first phase, and
the release that a start or a hand-over of a tile is (R73, R97, R315, R316, R319). -/

namespace Sys2Proof.Machine

/-! ### A change of an entry (R319) -/

theorem tile_setTile (s : State) (c e j : Nat) (x : TileEntry) :
    ((s.setTile c e x).core c).tile j = if j = e then x else (s.core c).tile j := by
  rw [State.setTile, core_setCore]
  exact tabGet_tabSet ..

theorem tile_setTile_other (s : State) (c : Nat) {e j : Nat} (x : TileEntry) (h : j ≠ e) :
    ((s.setTile c e x).core c).tile j = (s.core c).tile j := by
  rw [tile_setTile, if_neg h]

@[simp] theorem setTile_cur (s : State) (c e : Nat) (x : TileEntry) : (s.setTile c e x).cur = s.cur := rfl

@[simp] theorem ops_setTile (s : State) (c e : Nat) (x : TileEntry) : ((s.setTile c e x).core c).ops = (s.core c).ops := by
  rw [State.setTile, core_setCore]

/-- A change of several entries leaves the operations of their core. -/
@[simp] theorem ops_modTiles (s : State) (c : Nat) (es : List Nat) (f : TileEntry → TileEntry) :
    ((s.modTiles c es f).core c).ops = (s.core c).ops :=
  foldl_view (fun s : State => (s.core c).ops) (fun s e => ops_setTile s c e _) es s

/-- What the change of several entries gives every entry, each of them has. -/
theorem tile_modTiles {P : TileEntry → Prop} {f : TileEntry → TileEntry} (hf : ∀ x, P (f x)) (s : State) (c : Nat) {es : List Nat}
    {e : Nat} (he : e ∈ es ∨ P ((s.core c).tile e)) : P (((s.modTiles c es f).core c).tile e) := by
  induction es generalizing s with
  | nil => exact he.resolve_left List.not_mem_nil
  | cons d es ih =>
    refine ih _ ?_
    rw [tile_setTile]
    by_cases hd : e = d
    · exact .inr (by rw [if_pos hd]; exact hf _)
    · rw [if_neg hd]
      exact he.imp_left (fun h => (List.mem_cons.1 h).resolve_left hd)

/-! ### An entry's bytes (R321) -/

@[simp] theorem core_zeroTile (s : State) (c e c' : Nat) : (s.zeroTile c e).core c' = s.core c' := rfl

@[simp] theorem zeroTile_cur (s : State) (c e : Nat) : (s.zeroTile c e).cur = s.cur := rfl

/-- The bytes of an entry become zero, and no other byte changes. -/
theorem memGet_zeroTile (s : State) (c e a : Nat) : memGet (s.zeroTile c e).mem a =
    if windowBase c + 0x600000 + e * 0x4000 ≤ a ∧ a < windowBase c + 0x600000 + e * 0x4000 + 0x4000 then 0 else memGet s.mem a := by
  have hbase : tileAddr c [e] 0 = windowBase c + 0x600000 + e * 0x4000 := by simp [tileAddr]
  have hkept := memGet_filter s.mem (fun x => decide (x < tileAddr c [e] 0) || decide (tileAddr c [e] 0 + 0x4000 ≤ x)) a
  rw [hbase] at hkept
  refine hkept.trans ?_
  by_cases hin : windowBase c + 0x600000 + e * 0x4000 ≤ a ∧ a < windowBase c + 0x600000 + e * 0x4000 + 0x4000
  · rw [if_pos hin, if_neg (by simp only [Bool.or_eq_true, decide_eq_true_eq]; omega)]
  · rw [if_neg hin, if_pos (by simp only [Bool.or_eq_true, decide_eq_true_eq]; omega)]

/-! ### Entries that an instruction names (R315, R316) -/

section
variable {s : State} {t : Team}

/-- With nothing to report of the entries it names, an instruction goes on to its first phase. -/
theorem namedAt_clear {es : List (Nat × Nat)} (h : EntriesClearAt s t es) (k : State → Team → State) : s.namedAt t es k = k s t := by
  obtain ⟨hdue, hmark⟩ := h
  have hown (own : Nat × Nat → Bool) : ¬es.any (fun e => ((s.core e.1).tile e.2).faulted && !own e) = true := by
    simp only [List.any_eq_true, not_exists, not_and]
    exact fun e he => by simp [hmark e he]
  unfold State.namedAt
  dsimp only at hdue ⊢
  rw [hdue]
  exact if_neg (hown _)

theorem named_clear {es : List Nat} (h : EntriesClear s t es) (k : State → Team → State) : s.named t es k = k s t :=
  namedAt_clear h k

/-- An instruction on an entry that it may name, and that is not the second of a pair where that is a fault. -/
theorem tileOp_named {need : RoleNeed} {b : Block} {slot pairBad : Bool} {n e : Nat} (h : TileNamed s t need b slot n e)
    (hp : pairBad = true → ((s.core s.cur.1).tile e).pair = false) (k : State → Team → Block → Nat → TileEntry → State) :
    s.tileOp need slot n pairBad k = .next (k s t b e ((s.core s.cur.1).tile e)) := by
  obtain ⟨hready, hb, he, hclear⟩ := h
  simp only [State.tileOp, once_body hready (.inl rfl), hb, he, named_clear hclear]
  cases pairBad with
  | false => rfl
  | true => rw [hp rfl]; rfl

/-- What follows a wait for the team's stores, when the wait is over. -/
theorem afterStores_done {scope : Scope} {sel : PendStore → Bool} {s0 : State} {t0 : Team} (h : s.storesComplete scope sel = .done s0)
    (ht : s0.team? s0.cur = some t0) (vec : Bool) (k : State → Team → State) : s.afterStores scope vec sel k = k s0 t0 := by
  simp only [State.afterStores, h, ht]

/-! ### `twait` (R319) -/

/-- The wait of a team that is not marked done by its lane 0 is met or not as its record says. -/
theorem tileWaitMet_of_team {need : RoleNeed} (h : OnceReady s t need) (p : Nat) :
    s.tileWaitMet p = (t.wait.kind == 1 && t.wait.param == p && t.wait.met) := by
  obtain ⟨ht, -, hd⟩ := h
  simp [State.tileWaitMet, ht, hd]

/-- A wait record on an entry shows the condition and the phase that are waited for (R444). -/
theorem tileParam_eq_iff {slot p q : Bool} {n i j : Nat} (hi : i < 4) (hj : j < 4) :
    tileParam slot n i p = tileParam slot n j q ↔ i = j ∧ p = q := by
  cases p <;> cases q <;> simp only [tileParam, bit, reduceCtorEq, if_true, if_false, and_true, and_false, iff_false] <;> omega

/-- An entry meets a wait for a phase and a condition, ready or empty, when it has both. -/
theorem tileMet_iff {x : TileEntry} {slot want phase : Bool} {w : WaitRec} (hk : w.kind = 1)
    (hw : w.param = tileParam slot x.localNo (bit want) phase) :
    tileMet x slot w = true ↔ x.phase = phase ∧ x.state = (if want then 2 else 0) := by
  cases want <;> simp [tileMet, hk, hw, tileParam_eq_iff, bit, @eq_comm _ phase]

theorem forgetLock_noLock (s : State) (uid : Nat) {w : WaitRec} (h : w.kind = 0) : s.forgetLock uid w = s := by
  simp [State.forgetLock, WaitRec.ofLock, h]

/-- A team that has waited for nothing begins to wait: its record alone changes. -/
theorem waitWith_first (h : t.wait.kind = 0) (w : WaitRec) : s.waitWith t w = s.setTeam s.cur { t with wait := { w with since := s.time } } := by
  unfold State.waitWith
  rw [forgetLock_noLock _ _ h]
  simp [h]

end

end Sys2Proof.Machine
end

section
/-! The statement on the instructions of the tile table (R317 to R321). -/

namespace Sys2Proof.Machine

section
variable {s : State} {t : Team} {b : Block} {n e : Nat}

/-- `tbind` of an aligned range in the scratchpad to an empty slot leaves the range in its entry (R317). -/
theorem execTbind_bound (h : TileNamed s t .any b true n e) (d : Nat) (hoff : (t.s d).toNat % 2 ^ 19 % 128 = 0)
    (hlen : 0 < (t.s d).toNat / 2 ^ 32 % 2 ^ 20) (hmax : (t.s d).toNat / 2 ^ 32 % 2 ^ 20 ≤ 524288)
    (hsize : (t.s d).toNat % 2 ^ 19 + (t.s d).toNat / 2 ^ 32 % 2 ^ 20 ≤ b.spSize)
    (hst : ((s.core s.cur.1).tile e).state = 0) :
    execTbind n d s = .next ((s.setTile s.cur.1 e { (s.core s.cur.1).tile e with
      length := (t.s d).toNat / 2 ^ 32 % 2 ^ 20, offset := (t.s d).toNat % 2 ^ 19 }).completeWith id) := by
  rw [execTbind, tileOp_named h (absurd · Bool.false_ne_true)]
  dsimp only
  rw [if_neg (not_not.2 hoff), if_neg (by omega), if_neg (Nat.not_lt.2 hsize), if_neg (not_not.2 hst)]
  rfl

/-- `tstate` acquires and shows the word of its entry (R318). -/
theorem tileState_word {slot : Bool} (h : TileNamed s t .any b slot n e) (d : Nat) : s.tileState slot n d =
    .next (s.acquire.completeWith (fun t => t.setS d (BitVec.ofNat 64 (((s.core s.cur.1).tile e).word slot)))) :=
  tileOp_named h (absurd · Bool.false_ne_true) _

section
variable {slot want phase : Bool}

/-- A `twait` that a change of its entry met completes, whatever the entry is by then (R319). -/
theorem tileAwait_met (h : OnceReady s t .any) (hk : t.wait.kind = 1) (hp : t.wait.param = tileParam slot n (bit want) phase)
    (hm : t.wait.met = true) : s.tileAwait slot n want phase = .next (s.acquire.completeWith id) :=
  if_pos (by rw [tileWaitMet_of_team h]; simp [hk, hp, hm])

variable (h : TileNamed s t .any b slot n e) (hp : ((s.core s.cur.1).tile e).pair = false)
  (hn : ((s.core s.cur.1).tile e).localNo = n)
include h hp hn

/-- A `twait` whose entry has the phase and the state it names completes (R319). -/
theorem tileAwait_holds (hph : ((s.core s.cur.1).tile e).phase = phase)
    (hst : ((s.core s.cur.1).tile e).state = if want then 2 else 0) :
    s.tileAwait slot n want phase = .next (s.acquire.completeWith id) := by
  have hmet := (tileMet_iff (x := (s.core s.cur.1).tile e) (w := { WaitRec.idle with kind := 1, param := tileParam slot n (bit want) phase })
    rfl (by rw [hn])).2 ⟨hph, hst⟩
  rw [State.tileAwait, tileOp_named h (fun _ => hp)]
  dsimp only
  rw [if_pos hmet]
  exact ite_self _

/-- A `twait` whose entry lacks the phase or the state waits for a change of it (R319). -/
theorem tileAwait_waits (hnot : ((s.core s.cur.1).tile e).phase ≠ phase ∨ ((s.core s.cur.1).tile e).state ≠ if want then 2 else 0)
    (hk : t.wait.kind = 0) : s.tileAwait slot n want phase = .next (s.setTeam s.cur { t with
      wait := { WaitRec.idle with kind := 1, param := tileParam slot n (bit want) phase, since := s.time } }) := by
  have hmet := mt (tileMet_iff (x := (s.core s.cur.1).tile e)
    (w := { WaitRec.idle with kind := 1, param := tileParam slot n (bit want) phase }) rfl (by rw [hn])).1
    (fun hboth => hnot.elim (· hboth.1) (· hboth.2))
  rw [State.tileAwait, tileOp_named h (fun _ => hp)]
  dsimp only
  rw [if_neg hmet, waitWith_first hk, if_neg]
  rw [tileWaitMet_of_team h.1]
  simp [hk]

end

section
variable {slot : Bool} (h : TileNamed s t .any b slot n e) (hp : ((s.core s.cur.1).tile e).pair = false) {s0 : State} {t0 : Team}
  (hdone : s.storesComplete .blk allStores = .done s0) (ht0 : s0.team? s0.cur = some t0)
include h hp hdone ht0

/-- `tready` of an empty entry makes it ready once the stores of its team are over (R97, R320). -/
theorem tileReady_empty (hst : ((s.core s.cur.1).tile e).state = 0) : s.tileReady slot n =
    .next ((s0.setTile s0.cur.1 e { (s0.core s0.cur.1).tile e with state := 2, wide := false, pair := false }).completeWith id) := by
  rw [State.tileReady, tileOp_named h (fun _ => hp)]
  dsimp only
  rw [if_neg (not_not.2 hst), afterStores_done hdone ht0]
  rfl

/-- `trel` of entries that nothing fills, drains or reads empties them in their next phase, once the stores of its team are over
(R97, R320). -/
theorem tileRelease_unused {es : List Nat} (hes : es = if ((s.core s.cur.1).tile e).wide then e :: (b.entry? slot (n + 1)).toList else [e])
    (hst : ((s.core s.cur.1).tile e).state ≠ 0)
    (hfree : ∀ e ∈ es, ((s.core s.cur.1).tile e).state ≠ 1 ∧ ((s.core s.cur.1).tile e).state ≠ 3 ∧
      (s.core s.cur.1).tileReaders b slot ((s.core s.cur.1).tile e).localNo e = false) :
    s.tileRelease slot n = .next ((s0.modTiles s0.cur.1 es (fun y =>
      { y with state := 0, phase := !y.phase, wide := false, pair := false })).completeWith id) := by
  rw [State.tileRelease, tileOp_named h (fun _ => hp)]
  dsimp only
  rw [if_neg hst, ← hes, if_neg, afterStores_done hdone ht0]
  · rfl
  · rw [List.any_eq_true]
    rintro ⟨x, hx, hbusy⟩
    obtain ⟨h1, h3, hr⟩ := hfree x hx
    simp [h1, h3, hr] at hbusy

end

/-- `mzero` of an entry that nothing fills or drains makes it ready with zero bytes (R321). -/
theorem execMzero_one (h : TileNamed s t .matrix b false n e) (hp : ((s.core s.cur.1).tile e).pair = false)
    (h1 : ((s.core s.cur.1).tile e).state ≠ 1) (h3 : ((s.core s.cur.1).tile e).state ≠ 3) :
    execMzero n false s = .next (((s.zeroTile s.cur.1 e).setTile s.cur.1 e
      { (s.core s.cur.1).tile e with state := 2, wide := false, pair := false }).completeWith id) := by
  obtain ⟨hready, hb, he, hclear⟩ := h
  have hfree : [e].find? (fun e => ((s.core s.cur.1).tile e).state == 1 || ((s.core s.cur.1).tile e).state == 3) = none := by
    simp [h1, h3]
  simp only [execMzero, once_body hready (.inl rfl), hb, he, Bool.false_eq_true, false_and, if_false, named_clear hclear, hp, hfree]
  rfl

/-- `mzero.f64` of a pair of entries that nothing fills or drains makes both ready with zero bytes (R321). -/
theorem execMzero_pair {e2 : Nat} (hready : OnceReady s t .matrix) (hb : s.blockOf s.cur.1 t = some b) (heven : n % 2 = 0)
    (he : b.entry? false n = some e) (he2 : b.entry? false (n + 1) = some e2) (hne : e ≠ e2) (hclear : EntriesClear s t [e, e2])
    (hp : ((s.core s.cur.1).tile e).pair = false)
    (hidle : ∀ x ∈ [e, e2], ((s.core s.cur.1).tile x).state ≠ 1 ∧ ((s.core s.cur.1).tile x).state ≠ 3) :
    execMzero n true s = .next ((((((s.zeroTile s.cur.1 e).zeroTile s.cur.1 e2).setTile s.cur.1 e
      { (s.core s.cur.1).tile e with state := 2, wide := true, pair := false }).setTile s.cur.1 e2
      { (s.core s.cur.1).tile e2 with state := 2, wide := false, pair := true })).completeWith id) := by
  have hfree : [e, e2].find? (fun e => ((s.core s.cur.1).tile e).state == 1 || ((s.core s.cur.1).tile e).state == 3) = none := by
    rw [List.find?_eq_none]
    intro x hx
    simp [hidle x hx]
  have hodd : ¬n % 2 = 1 := by omega
  simp only [execMzero, once_body hready (.inl rfl), hb, he, he2, hodd, and_false, if_true, if_false, named_clear hclear, hp, hfree,
    Bool.false_eq_true, List.foldl_cons, List.foldl_nil, setTile_cur, zeroTile_cur, core_zeroTile, tile_setTile_other _ _ _ hne.symm]
  rfl

end

/-- Settles O49: each instruction on its entry, by whether what it asks of the entry holds. -/
theorem tileInstructions : Obligations.TileInstructions := by
  unfold Obligations.TileInstructions
  refine ⟨⟨fun s t b n e d h hoff hlen hmax hsize hst _ => execTbind_bound h d hoff hlen hmax hsize hst,
    fun s t b slot n e d h => ?word, fun s t b slot n e want phase h => ?await, fun s t b slot n e h hp s0 t0 hdone ht0 => ⟨fun hst => ?ready,
      fun hst hfree => ?release⟩⟩,
    fun s t b n e h hp h1 h3 => execMzero_one h hp h1 h3,
    fun s t b n e e2 hready hb heven he he2 hne hclear hp hidle => execMzero_pair hready hb heven he he2 hne hclear hp hidle,
    fun s c e a => memGet_zeroTile s c e a⟩
  case word => cases slot <;> exact tileState_word h d
  case await =>
    intro x bit' run
    have hrun : run = s.tileAwait slot n want phase := by cases slot <;> rfl
    rw [hrun]
    refine ⟨fun hk hp hm => tileAwait_met h.1 hk hp hm, fun hp hn => ⟨fun hph hst => tileAwait_holds h hp hn hph hst, fun hnot hk => ?_⟩⟩
    exact ⟨_, _, tileAwait_waits h hp hn hnot hk, team?_setTeam .., rfl, rfl, fun _ => rfl, rfl⟩
  case ready => cases slot <;> exact tileReady_empty h hp hdone ht0 hst
  case release => cases slot <;> exact tileRelease_unused h hp hdone ht0 rfl hst hfree

end Sys2Proof.Machine
end

section
/-! The statement on the start of `mma` and `mmag` (R143 to R147, R322). -/

namespace Sys2Proof.Machine

/-! ### One member's part (R322) -/

/-- The physical entries of a part. -/
def partEntries (f : FormatBlock) (acc : Nat) (b : Block) : List Nat :=
  ((List.range (opEntries f.shape f.cls)).map (fun i => acc + i)).filterMap (fun n => b.entry? false n)

/-- The entries of a part that are empty become zero (R322). -/
def State.zeroEmpty (s : State) (c : Nat) (es : List Nat) : State :=
  es.foldl (fun s e => if ((s.core c).tile e).state = 0 then s.zeroTile c e else s) s

@[simp] theorem core_zeroEmpty (s : State) (c : Nat) (es : List Nat) : (s.zeroEmpty c es).core c = s.core c :=
  foldl_view (fun s : State => s.core c) (fun s e => by split <;> rfl) es s

/-- An entry goes to filling, with the marks of its operation's class (R147). -/
def TileEntry.filling (cls : Nat) (x : TileEntry) : TileEntry :=
  { x with state := 1, kstep := 0, wide := cls == 0 && x.localNo % 2 == 0, pair := cls == 0 && x.localNo % 2 == 1 }

/-- A matrix operation as it begins: of a team and a block, with the sources and the format of its format block, running, with no
k-step done, in no group and not faulted (R322). -/
def MatOp.Begins (o : MatOp) (t : Team) (b : Block) (f : FormatBlock) (x y : MatSrc) : Prop :=
  o.team = t.uid ∧ o.blk = b.uid ∧ o.kind = .mma ∧ o.kstep = 0 ∧ o.ksteps = f.ksteps ∧ o.group = none ∧ o.running = true ∧
    o.fault = none ∧ o.srcA = x ∧ o.srcB = y ∧ o.cls = f.cls ∧ o.shape = f.shape

section
variable (s : State) (t : Team) (f : FormatBlock) (acc : Nat) (x y : MatSrc) (gang : Bool) (issue c pl : Nat) (b : Block)

/-- A part that starts leaves its entries filling, and adds one operation to those of its core. -/
theorem startPart_core : ∃ o : MatOp, o.Begins t b f x y ∧ (s.startPart t f acc x y gang issue (c, pl, b)).core c =
    { ((s.zeroEmpty c (partEntries f acc b)).modTiles c (partEntries f acc b) (TileEntry.filling f.cls)).core c with
      ops := (s.core c).ops ++ [o] } := by
  have hops : (((s.zeroEmpty c (partEntries f acc b)).modTiles c (partEntries f acc b) (TileEntry.filling f.cls)).core c).ops =
      (s.core c).ops := by rw [ops_modTiles, core_zeroEmpty]
  rw [← hops]
  exact ⟨_, ⟨rfl, rfl, rfl, rfl, rfl, rfl, rfl, rfl, rfl, rfl, rfl, rfl⟩, core_setCore ..⟩

theorem startPart_ops : ∃ o : MatOp, ((s.startPart t f acc x y gang issue (c, pl, b)).core c).ops = (s.core c).ops ++ [o] ∧
    o.Begins t b f x y := by
  obtain ⟨o, ho, hcore⟩ := startPart_core s t f acc x y gang issue c pl b
  exact ⟨o, by rw [hcore], ho⟩

theorem startPart_tile {i e : Nat} (hi : i < opEntries f.shape f.cls) (he : b.entry? false (acc + i) = some e) :
    (((s.startPart t f acc x y gang issue (c, pl, b)).core c).tile e).state = 1 ∧
    (((s.startPart t f acc x y gang issue (c, pl, b)).core c).tile e).kstep = 0 := by
  obtain ⟨o, -, hcore⟩ := startPart_core s t f acc x y gang issue c pl b
  have hmem : e ∈ partEntries f acc b := List.mem_filterMap.2 ⟨acc + i, List.mem_map_of_mem (List.mem_range.2 hi), he⟩
  have htile := tile_modTiles (P := fun x => x.state = 1 ∧ x.kstep = 0) (f := TileEntry.filling f.cls) (fun _ => ⟨rfl, rfl⟩)
    (s.zeroEmpty c (partEntries f acc b)) c (.inl hmem)
  rw [hcore]
  exact htile

end

/-! ### The start of all parts (R322) -/

section
variable {s : State} {t : Team} {b : Block} {gang : Bool} {acc : Nat} {x y : MatSrc} {ws : List W64} {s0 : State} {t0 : Team}

/-- The parts of an operation: the members of its block's group for `mmag`, and else its own block. -/
def State.matParts (s : State) (t : Team) (b : Block) (gang : Bool) : List (Nat × Nat × Block) :=
  if gang then s.groupOf b else [(s.cur.1, t.place, b)]

/-- With the slots it reads ready, the accumulators empty or ready, anvils free and the release that it is done, an operation starts
all its parts and completes. -/
theorem matStart_starts (hslots : ∀ z ∈ [x, y], ∀ e ∈ z.entry? b, ((s.core s.cur.1).tile e).state = 2)
    (haccs : ∀ p ∈ s.matParts t b gang, ∀ e ∈ partEntries (.ofWords ws) acc p.2.2,
      ((s.core p.1).tile e).state = 0 ∨ ((s.core p.1).tile e).state = 2)
    (hanvils : ∀ p ∈ s.matParts t b gang, (s.core p.1).takeAnvils (FormatBlock.ofWords ws).shape ≠ none ∧ (s.core p.1).anvilWaiters = [])
    (hdone : s.storesComplete .team allStores = .done s0) (ht0 : s0.team? s0.cur = some t0) :
    s.matStart t b gang acc x y ws = ((s.matParts t b gang).foldl
      (fun r p => r.startPart t0 (.ofWords ws) acc x y gang s0.nextUid p) s0).completeWith id := by
  unfold State.matStart
  dsimp only
  split
  case h_1 k _ hslot =>
    obtain ⟨z, hz, hk⟩ := List.mem_filterMap.1 (hslot ▸ List.mem_cons_self)
    split at hk
    · next e he => exact absurd hk (by simp [hslots _ hz e he])
    · cases hk
  case h_2 n _ _ hbusy =>
    obtain ⟨p, hp, hn⟩ := List.mem_flatMap.1 (hbusy ▸ List.mem_cons_self)
    obtain ⟨hn, hstate⟩ := List.mem_filter.1 hn
    obtain ⟨e, he, hstate⟩ := (Option.any_eq_true _ _).1 hstate
    obtain h | h := haccs p hp e (List.mem_filterMap.2 ⟨n, hn, he⟩) <;> simp [h] at hstate
  case h_3 =>
    rw [if_neg, afterStores_done hdone ht0]
    · rfl
    · rw [List.any_eq_true]
      rintro ⟨p, hp, hbusy⟩
      obtain ⟨hfree, hnone⟩ := hanvils p hp
      simp [hfree, hnone] at hbusy

/-- An operation whose format block passes its checks goes on to its start (R143 to R145). -/
theorem matOp_checked {xa xb : TSrc} {c off : Nat} (hready : OnceReady s t .matrix) (hb : s.blockOf s.cur.1 t = some b)
    (hoff : off = (t.s c).toNat % 2 ^ 19) (hws : ws = s.formatWords s.cur.1 b off) (hcap : t.captured = none) (halign : off % 32 = 0)
    (hsize : off + 32 ≤ b.spSize) (hpoison : s.spPoison s.cur.1 b off 32 = none) (hbusy : s.spBusy s.cur.1 b off 32 = none)
    (hchecks : s.matChecks s.cur.1 b gang acc (t.matSrc xa) (t.matSrc xb) (.ofWords ws) = none)
    (hclear : EntriesClearAt s t (s.matNamed b gang acc (((t.matSrc xa).entry? b).toList ++ ((t.matSrc xb).entry? b).toList) (.ofWords ws))) :
    s.matOp gang acc xa xb c = .next (s.matStart t b gang acc (t.matSrc xa) (t.matSrc xb) ws) := by
  subst hoff hws
  simp only [State.matOp, once_body hready (.inl rfl), hb, hcap, Option.getD_none, namedAt_clear hclear, Option.isSome_none,
    Bool.false_eq_true, if_false, halign, ne_eq, not_true_eq_false, Nat.not_lt.2 hsize, hpoison, hbusy, hchecks]

end

/-- Settles O50: the checks pass, every part starts, and what a part's start leaves is read off its operation and its entries. -/
theorem matrixStart : Obligations.MatrixStart := by
  unfold Obligations.MatrixStart
  refine ⟨fun s t b gang acc xa xb c hready hb hcap halign hsize hpoison hbusy hchecks hclear hslots haccs hanvils s0 t0 hdone ht0 => ?_,
    fun s t f acc a b' gang issue c pl b => ⟨startPart_ops s t f acc a b' gang issue c pl b,
      fun i e hi he => startPart_tile s t f acc a b' gang issue c pl b hi he⟩⟩
  have hop := (matOp_checked hready hb rfl rfl hcap halign hsize hpoison hbusy hchecks hclear).trans
    (congrArg _ (matStart_starts hslots haccs hanvils hdone ht0))
  cases gang <;> exact hop

end Sys2Proof.Machine
end

section
/-! What performing the stores of a core leaves of the rest of the device (R81, R100). -/

namespace Sys2Proof.Machine

/-- What performing stores never touches: all of the state but the cores, memory, the stamps, the directory and the acknowledgements that
are waited for. -/
def State.beyondStores (s : State) : State := { s with cores := [], mem := [], stamps := [], dirs := [], awaited := [] }

theorem setCore_beyondStores (s : State) (c : Nat) (k : Core) : (s.setCore c k).beyondStores = s.beyondStores := rfl

theorem await_beyondStores (s : State) (c a : Nat) (e : Option Nat) : (s.await c a e).beyondStores = s.beyondStores := by
  unfold State.await
  split
  · rfl
  · split <;> rfl

theorem invalidate_beyondStores (s : State) (c a : Nat) : (s.invalidate c a).beyondStores = s.beyondStores := by
  unfold State.invalidate State.modDir
  split <;> rfl

theorem putCells_beyondStores (s : State) (cs : List Host.Cell) : (s.putCells cs).beyondStores = s.beyondStores := by
  refine foldl_view State.beyondStores (fun _ _ => ?_) cs s
  rfl

theorem modTeam_beyondStores (s : State) (p : Nat × Nat) (f : Team → Team) : (s.modTeam p f).beyondStores = s.beyondStores := by
  unfold State.modTeam
  split <;> rfl

theorem performAt_beyondStores (s : State) (c : Nat) (p : PendStore) : (s.performAt c p).beyondStores = s.beyondStores := by
  unfold State.performAt
  split
  · rfl
  · cases p.red with
    | none => exact (putCells_beyondStores _ _).trans (invalidate_beyondStores s c p.pa)
    | some x => exact invalidate_beyondStores s c p.pa

theorem performStore_beyondStores (s : State) (c i : Nat) : (s.performStore c i).beyondStores = s.beyondStores := by
  unfold State.performStore
  dsimp only
  repeat' split
  · rfl
  · rfl
  · rfl
  · exact (await_beyondStores ..).trans (setCore_beyondStores ..)
  · exact (performAt_beyondStores ..).trans (setCore_beyondStores ..)

theorem drainBy_beyondStores (s : State) (c : Nat) (sel : PendStore → Bool) (n i : Nat) :
    (s.drainBy c sel n i).beyondStores = s.beyondStores := by
  induction n generalizing s i with
  | zero => rfl
  | succ n ih =>
    unfold State.drainBy
    split
    · rfl
    · rw [ih, apply_ite State.beyondStores, performStore_beyondStores, ite_self]

/-- The wait is over without a report only where no access was lost. -/
theorem eq_of_reportLost_done {s s0 : State} {t : Team} {sel : PendStore → Bool} (h : (s.reportLost t sel).getD (.done s) = .done s0) :
    s0 = s := by
  unfold State.reportLost at h
  split at h <;> cases h
  rfl

/-- A wait for a team's stores that is over has done no more than perform stores. -/
theorem beyondStores_of_storesComplete {s s0 : State} {scope : Scope} {sel : PendStore → Bool} (h : s.storesComplete scope sel = .done s0) :
    s0.beyondStores = s.beyondStores := by
  have hperformed (c uid : Nat) (sel : PendStore → Bool) (f : Team → Team) :
      (((s.sealStores c uid).drainFor c sel).modTeam s.cur f).beyondStores = s.beyondStores :=
    (modTeam_beyondStores ..).trans (drainBy_beyondStores (s.sealStores c uid) ..)
  unfold State.storesComplete at h
  dsimp only at h
  split at h
  · cases h
    rfl
  split at h
  · cases h
  split at h
  · cases h
    split
    · exact (setCore_beyondStores ..).trans (hperformed ..)
    · exact hperformed ..
  · rw [eq_of_reportLost_done h]
    split
    · exact (setCore_beyondStores ..).trans (hperformed ..)
    · exact hperformed ..

/-- The same team issues when the wait is over. -/
theorem cur_of_storesComplete {s s0 : State} {scope : Scope} {sel : PendStore → Bool} (h : s.storesComplete scope sel = .done s0) :
    s0.cur = s.cur := by
  have hcur := congrArg State.cur (beyondStores_of_storesComplete h)
  exact hcur

end Sys2Proof.Machine
end

section
/-! The statement on the start of `tcopy` (R160, R163, R165, R328). -/

namespace Sys2Proof.Machine

/-- A copy of a team that joins its core's queue with the next token, which the instruction writes; a gather's entry goes to filling
(R165, R167, R328). -/
def State.joinCopy (s : State) (t : Team) (b : Block) (d : Nat) (dense : DenseSide) (e : Option Nat) (record : List W64) (off : Nat) : State :=
  let k := s.core s.cur.1
  let tok := t.copyIssued + 1
  let y : Copy :=
    { id := s.nextUid, team := t.uid, blk := b.uid, token := tok, record := record, dense := dense, bitmap := 0,
      nbox := (Layout.of record).nb, boxes := [], denseOff := off,
      fault := none, fbox := 0, reported := false, cancelled := false, complete := false, frozen := false }
  let s2 : State := { s.setCore s.cur.1 { k with copies := k.copies ++ [y] } with nextUid := s.nextUid + 1 }
  let s3 := if (Layout.of record).scatter then s2 else s2.modTiles s2.cur.1 e.toList (fun x => { x with state := 1, kstep := 0 })
  s3.completeWith (fun t => ({ t with copyIssued := tok } : Team).setS d (tok.zeroExtend 64))

section
variable {s : State} {t : Team} {b : Block} {dense : DenseSide} {e : Option Nat} {record : List W64}

/-- With room in the queue, the dense side's entry in the state its direction needs and the release that it is done, a copy joins the
queue with the record and the offset that its first phase read. -/
theorem copyStart_joins {s1 : State} {t1 : Team} (hrecord : record.length = 12) (hroom : (s.core s.cur.1).copies.length < 32)
    (hstate : ∀ e' ∈ e, ((s.core s.cur.1).tile e').state = if (Layout.of record).scatter then 2 else 0)
    (hdone : s.storesComplete .team allStores = .done s1) (ht1 : s1.team? s1.cur = some t1) (d : Nat) (off : W64) :
    s.copyStart t b d dense e (record ++ [off]) = s1.joinCopy t1 b d dense e record off.toNat := by
  have htake : (record ++ [off]).take 12 = record := by rw [← hrecord, List.take_left]
  have hoff : recWord (record ++ [off]) 12 = off.toNat := by simp [recWord, ← hrecord]
  have hcur := cur_of_storesComplete hdone
  have hentry : e.filter (fun e' => ((s.core s.cur.1).tile e').state != if (Layout.of record).scatter then 2 else 0) = none := by
    rw [Option.filter_eq_none_iff]
    intro e' he'
    simp [hstate e' he']
  unfold State.copyStart
  dsimp only
  rw [htake, hoff, hentry, if_neg (show ¬copyLimit ≤ (s.core s.cur.1).copies.length from Nat.not_le.2 hroom), afterStores_done hdone ht1,
    ← hcur]
  cases dense.local? <;> rfl

/-- A copy whose layout record and dense side pass their checks goes on to its start (R160, R163). -/
theorem tcopy_checked {x : DenseArg} {sa off : Nat} {ws : List W64} (hready : OnceReady s t .copy) (hb : s.blockOf s.cur.1 t = some b)
    (hdense : dense = t.denseSide x) (he : e = dense.local?.bind (fun p => b.entry? p.1 p.2)) (hoff : off = (t.s sa).toNat % 2 ^ 19)
    (hws : ws = (List.range 12).map (fun i => BitVec.ofNat 64 (s.spRead s.cur.1 b (off + 8 * i) 8)))
    (hheld : dense.local? ≠ none → e ≠ none) (hclear : EntriesClear s t e.toList)
    (hpair : ∀ e' ∈ e, ((s.core s.cur.1).tile e').pair = false) (hcap : t.captured = none) (halign : off % 32 = 0)
    (hsize : off + 96 ≤ b.spSize) (hpoison : s.spPoison s.cur.1 b off 96 = none) (hbusy : s.spBusy s.cur.1 b off 96 = none)
    (hchecks : s.copyChecks s.cur.1 off dense e ws = none) (d : Nat) :
    s.tcopy d sa x = .next (s.copyStart t b d dense e
      (ws ++ [BitVec.ofNat 64 ((e.map (fun e' => ((s.core s.cur.1).tile e').offset)).getD 0)])) := by
  have hheld' : ¬(dense.local?.isSome = true ∧ e.isNone = true) := by
    rw [Option.isSome_iff_ne_none, Option.isNone_iff_eq_none]
    exact fun h => hheld h.1 h.2
  have hpair' : ¬e.any (fun e' => ((s.core s.cur.1).tile e').pair) = true := by
    rw [Bool.not_eq_true, Option.any_eq_false]
    exact hpair
  unfold State.tcopy
  rw [once_body hready (.inl rfl), hb]
  dsimp only
  rw [← hdense, ← he, if_neg hheld', named_clear hclear, hcap]
  dsimp only
  rw [← hoff, ← hws, if_neg hpair', if_neg (not_not.2 halign), if_neg (Nat.not_lt.2 hsize), hpoison, hbusy, hchecks]

end

/-- Settles O53: the checks pass, and the start joins the copy to the queue. -/
theorem copyStart : Obligations.CopyStart := by
  unfold Obligations.CopyStart
  intro s t b d sa x hready hb dense e off ws scatter hheld hclear hpair hcap halign hsize hpoison hbusy hchecks hroom hstate s1 t1 hdone ht1
  have hop := (tcopy_checked hready hb rfl rfl rfl rfl hheld hclear hpair hcap halign hsize hpoison hbusy hchecks d).trans
    (congrArg _ (copyStart_joins (by rw [List.length_map, List.length_range]) hroom hstate hdone ht1 d _))
  rw [BitVec.toNat_ofNat] at hop
  cases x <;> exact hop

end Sys2Proof.Machine
end

section
/-! The lock directory of the home slices (R107 to R125): what its steps leave of the table of locks. -/

namespace Sys2Proof.Machine

/-! ### What the operations behind a grant leave alone -/

/-- The table of locks, and the place of the team that issues. -/
def State.lockPlace (s : State) : Tab LockRec × (Nat × Nat) := (s.locks, s.cur)

theorem invalidateLine_lockPlace (s : State) (c line : Nat) : (s.invalidateLine c line).lockPlace = s.lockPlace :=
  foldl_view State.lockPlace (fun s a => by simp only [State.lockPlace, State.invalidate_locks, State.invalidate_cur]) _ s

theorem recallLock_lockPlace (s : State) (obj : Nat) (grain : Bool) : (s.recallLock obj grain).lockPlace = s.lockPlace :=
  foldl_view State.lockPlace (fun s line => invalidateLine_lockPlace s 1024 line) _ s

theorem awaitLine_lockPlace (s : State) (c line : Nat) (e : Option Nat) : (s.awaitLine c line e).lockPlace = s.lockPlace := by
  refine foldl_view State.lockPlace (fun s a => ?_) _ s
  unfold State.await
  split
  · rfl
  · split <;> rfl

theorem reportAbandon_lockPlace (s : State) (uid obj : Nat) : (s.reportAbandon uid obj).lockPlace = s.lockPlace := by
  unfold State.reportAbandon
  split
  · rfl
  · unfold State.postReport
    dsimp only
    split <;> rfl

theorem queueReadmit_lockPlace (s : State) (blk : Nat) : (s.queueReadmit blk).lockPlace = s.lockPlace := by
  unfold State.queueReadmit
  dsimp only
  split <;> rfl

theorem readmitTeam_lockPlace (s : State) (uid : Nat) : (s.readmitTeam uid).lockPlace = s.lockPlace := by
  unfold State.readmitTeam
  split
  · split
    · exact queueReadmit_lockPlace ..
    · rfl
  · rfl

theorem modUid_lockPlace (s : State) (uid : Nat) (f : Team → Team) : (s.modUid uid f).lockPlace = s.lockPlace := by
  unfold State.modUid
  split
  · simp only [State.lockPlace, State.modTeam_locks, State.modTeam_cur]
  · rfl

theorem lockReply_lockPlace (s : State) (uid obj : Nat) (st : W64) : (s.lockReply uid obj st).lockPlace = s.lockPlace :=
  (readmitTeam_lockPlace ..).trans (modUid_lockPlace ..)

/-- The home takes the lines of a lock exclusive, or waits for a holder that does not answer (R103, R118). -/
def State.takeLines (s : State) (obj : Nat) (grain : Bool) : State :=
  if s.recallHeld obj grain then (lockLines obj grain).foldl (fun s line => s.awaitLine 1024 line none) s else s.recallLock obj grain

theorem takeLines_lockPlace (s : State) (obj : Nat) (grain : Bool) : (s.takeLines obj grain).lockPlace = s.lockPlace := by
  unfold State.takeLines
  split
  · exact foldl_view State.lockPlace (fun s line => awaitLine_lockPlace s 1024 line none) _ s
  · exact recallLock_lockPlace ..

theorem locks_of_lockPlace {s s' : State} (h : s'.lockPlace = s.lockPlace) : s'.locks = s.locks := congrArg (·.1) h

theorem cur_of_lockPlace {s s' : State} (h : s'.lockPlace = s.lockPlace) : s'.cur = s.cur := congrArg (·.2) h

/-! ### The record of a lock (R110, R116) -/

/-- A lock is FREE when nobody holds it or is on the way to it, and nobody abandoned it (R116). -/
theorem stateCode_eq_zero_iff (r : LockRec) : r.stateCode = 0 ↔ r.transit = none ∧ r.holder = none ∧ r.abandoned = false := by
  unfold LockRec.stateCode
  cases r.transit <;> cases r.holder <;> cases r.abandoned <;> cases r.queue <;> simp

/-- After a write of a lock's record the lock has it, but for a record in state FREE, which goes (R110). -/
theorem tabGet?_setLock_same (s : State) (obj : Nat) (r : LockRec) :
    tabGet? (s.setLock obj r).locks obj = if r.stateCode = 0 then none else some r := by
  unfold State.setLock
  split
  · exact tabGet?_tabErase_same ..
  · exact tabGet?_tabSet_same ..

theorem tabGet?_setLock_kept (s : State) (obj : Nat) {r : LockRec} (h : r.stateCode ≠ 0) :
    tabGet? (s.setLock obj r).locks obj = some r := by
  rw [tabGet?_setLock_same, if_neg h]

theorem stateCode_ne_zero {r : LockRec} (h : r.holder.isSome ∨ r.transit.isSome) : r.stateCode ≠ 0 := by
  rw [Ne, stateCode_eq_zero_iff]
  rintro ⟨htransit, hholder, -⟩
  simp [htransit, hholder] at h

theorem setLock_cur (s : State) (obj : Nat) (r : LockRec) : (s.setLock obj r).cur = s.cur := by
  unfold State.setLock
  split <;> rfl

/-! ### Handing a lock on (R117 to R119) -/

section
variable {s : State} {obj : Nat} {r : LockRec}

/-- Without a waiter the lock goes to nobody. -/
theorem passOn_nobody (hq : r.queue = []) (abandoned : Bool) : s.passOn obj r abandoned =
    s.setLock obj { r with holder := none, transit := none, windowEnd := none, inFlight := none, abandoned := abandoned } := by
  simp only [State.passOn, hq]

variable {w : Waiter} {rest : List Waiter} (hq : r.queue = w :: rest)
include hq

/-- A first waiter that is absent gets the lock in transit, with a window. -/
theorem passOn_absent (hw : s.absent w.team = true) (abandoned : Bool) : s.passOn obj r abandoned =
    (s.setLock obj { r with
      holder := none, transit := some w, queue := rest, inFlight := none, abandoned := abandoned,
      windowEnd := some (s.time + s.lkdTiming.2 * 1000) }).readmitTeam w.team := by
  simp only [State.passOn, hq, hw, if_true]

/-- A first waiter that is there holds the lock, and its grant is on its way. -/
theorem passOn_present_lockPlace (hw : s.absent w.team = false) (abandoned : Bool) : (s.passOn obj r abandoned).lockPlace =
    (s.setLock obj { r with
      holder := some w.team, transit := none, windowEnd := none, queue := rest, inFlight := some w, abandoned := false,
      lastAbandoned := abandoned }).lockPlace := by
  simp only [State.passOn, hq, hw, Bool.false_eq_true, if_false]
  cases abandoned
  · exact takeLines_lockPlace ..
  · exact (reportAbandon_lockPlace ..).trans (takeLines_lockPlace ..)

end

theorem passOn_cur (s : State) (obj : Nat) (r : LockRec) (abandoned : Bool) : (s.passOn obj r abandoned).cur = s.cur := by
  cases hq : r.queue with
  | nil => rw [passOn_nobody hq, setLock_cur]
  | cons w rest =>
    cases hw : s.absent w.team with
    | false => rw [cur_of_lockPlace (passOn_present_lockPlace hq hw abandoned), setLock_cur]
    | true => rw [passOn_absent hq hw, cur_of_lockPlace (readmitTeam_lockPlace ..), setLock_cur]

theorem dropWaiter_cur (s : State) (obj uid : Nat) : (s.dropWaiter obj uid).cur = s.cur := by
  unfold State.dropWaiter
  split
  · rfl
  · split
    · split
      · exact passOn_cur ..
      · exact setLock_cur ..
    · exact setLock_cur ..

theorem forgetLock_cur (s : State) (uid : Nat) (w : WaitRec) : (s.forgetLock uid w).cur = s.cur := by
  unfold State.forgetLock
  split
  · exact dropWaiter_cur ..
  · rfl

end Sys2Proof.Machine
end

section
/-! The statement on the home's answer to a request (R110 to R112, R117). -/

namespace Sys2Proof.Machine

/-! ### A request (R110 to R112) -/

/-- The home handles the request that the team in a slot has sent, and it stands no more. -/
theorem execLockRequest_sent {s : State} {c slot : Nat} {t : Team} {q : LockRequest} (ht : s.team? (c, slot) = some t)
    (hq : s.lockReqs.find? (fun q => q.team == t.uid) = some q) :
    execLockRequest c slot s = .next (({ s with lockReqs := s.lockReqs.filter (fun x => x.team != t.uid) } : State).handleRequest q) := by
  simp only [execLockRequest, ht, hq]

theorem grantNow_locks (s : State) (obj : Nat) (r : LockRec) (w : Waiter) (abandoned : Bool) : (s.grantNow obj r w abandoned).locks =
    (s.setLock obj { r with holder := some w.team, inFlight := some w, abandoned := false, lastAbandoned := abandoned }).locks := by
  unfold State.grantNow
  rw [locks_of_lockPlace (lockReply_lockPlace ..)]
  cases abandoned
  · rfl
  · exact locks_of_lockPlace (reportAbandon_lockPlace ..)

/-- With room at the home, and without a waiter in transit whose window has closed, a waiter joins the end of the queue. -/
theorem enqueue_last_locks {s : State} {obj : Nat} {r : LockRec} (w : Waiter) (hroom : s.sliceWaiters (s.homeOf obj) < 16384)
    (hwindow : r.transit = none ∨ r.windowEnd ≠ none) :
    (s.enqueue obj r w false).locks = (s.setLock obj { r with queue := r.queue ++ [w] }).locks := by
  unfold State.enqueue
  rw [if_neg (Nat.not_le.2 hroom)]
  dsimp only
  split
  · next htransit hend => simp [htransit, hend] at hwindow
  · exact locks_of_lockPlace (modUid_lockPlace ..)

/-- A lock that somebody holds, or that is on its way to somebody, is not given to a new request. -/
theorem notFree_of_taken {r : LockRec} (htaken : r.holder.isSome ∨ r.transit.isSome) : (r.holder.isNone && r.transit.isNone) = false := by
  rcases htaken with h | h <;> simp [Option.isNone_eq_false_iff.2 h]

section
variable {s : State} {q : LockRequest} (hclean : s.poisoned (lockLine q.obj q.grain q.waiter.va.toNat) = false)
include hclean

/-- The first request for a lock takes it, with a new record. -/
theorem handleRequest_free (hnone : tabGet? s.locks q.obj = none) (hroom : s.sliceRecords (s.homeOf q.obj) < 4096) :
    s.handleRequest q =
      s.grantNow q.obj { LockRec.fresh q.grain with next := if q.ltry then 0 else 1 } { q.waiter with ticket := 0 } false := by
  unfold State.handleRequest
  dsimp only
  rw [hclean, hnone, if_neg Bool.false_ne_true]
  dsimp only
  rw [if_neg (Nat.not_le.2 hroom)]
  cases q.ltry <;> rfl

section
variable {r : LockRec} (hr : tabGet? s.locks q.obj = some r) (htaken : r.holder.isSome ∨ r.transit.isSome)
include hr htaken

/-- `ltry` does not wait. -/
theorem handleRequest_busy (hltry : q.ltry = true) :
    s.handleRequest q = s.lockReply q.team q.obj (statusWord 1 0 0 false r.grain false) := by
  simp only [State.handleRequest, hclean, hr, hltry, notFree_of_taken htaken, Bool.false_eq_true, if_false, if_true]

/-- `llock` without a ticket of its own takes the next one, and waits. -/
theorem handleRequest_queues (hltry : q.ltry = false) (hkept : q.kept = none) :
    s.handleRequest q = s.enqueue q.obj { r with next := r.next + 1 } { q.waiter with ticket := r.next } false := by
  simp only [State.handleRequest, hclean, hr, hltry, hkept, notFree_of_taken htaken, Option.filter_none, Bool.false_eq_true,
    if_false]

end

end

/-- Settles O36: the record that each answer of the home leaves. -/
theorem lockRequestHandled : Obligations.LockRequestHandled := by
  unfold Obligations.LockRequestHandled
  intro s c slot t q ht hq s0 run hclean
  have hrun : run = .next (s0.handleRequest q) := (exec_lockRequest s).trans (execLockRequest_sent ht hq)
  refine ⟨fun hnone hroom => ⟨_, hrun, ?granted⟩, fun r hr htaken =>
    ⟨fun hltry => ?busy, fun hltry hkept hroom hwindow => ⟨_, hrun, ?queued⟩⟩⟩
  case granted =>
    rw [handleRequest_free hclean hnone hroom, grantNow_locks, tabGet?_setLock_kept _ _ (stateCode_ne_zero (.inl rfl))]
    rfl
  case busy => rw [hrun, handleRequest_busy hclean hr htaken hltry]
  case queued =>
    rw [handleRequest_queues hclean hr htaken hltry hkept, enqueue_last_locks (r := { r with next := r.next + 1 }) _ hroom hwindow]
    exact tabGet?_setLock_kept _ _ (stateCode_ne_zero htaken)

end Sys2Proof.Machine
end

section
/-! The statement on the hand-off, the deadlines and the probes of locks (R117 to R123). -/

namespace Sys2Proof.Machine

/-! ### Releases, grants and deadlines (R117 to R121) -/

/-- The record of a lock that nobody abandoned, once its waiter holds it and the grant is on its way (R118). -/
def LockRec.givenTo (r : LockRec) (w : Waiter) : LockRec :=
  { r with transit := none, windowEnd := none, holder := some w.team, inFlight := some w, abandoned := false, lastAbandoned := false }

section
variable {s : State} {obj : Nat} {r : LockRec} {w : Waiter}

theorem passOver_alone (hq : r.queue = []) (w : Waiter) : s.passOver obj r w = s.setLock obj { r with windowEnd := none } := by
  simp only [State.passOver, hq]

section
variable {n : Waiter} {rest : List Waiter} (hq : r.queue = n :: rest)
include hq

theorem passOver_first (hw : w.passed = 0) : s.passOver obj r w =
    s.passOn obj { r with transit := none, queue := n :: { w with passed := 1 } :: rest } r.abandoned := by
  simp [State.passOver, hq, hw]

theorem passOver_again (hw : 1 ≤ w.passed) : s.passOver obj r w =
    (s.lockReply w.team obj (statusWord 4 w.ticket 2 false r.grain false)).passOn obj { r with transit := none } r.abandoned := by
  simp only [State.passOver, hq, hw, if_true]

end

section
variable (hr : tabGet? s.locks obj = some r)
include hr

/-- A holder that neither holds the lock in its set nor waits for it gives it back. -/
theorem execLockRelease_gone {u : Nat} (hu : r.holder = some u) (hgone : s.holdsOrWaits u obj = false) :
    execLockRelease obj s = .next (s.passOn obj { r with holder := none, inFlight := none } r.inFlight.isNone) := by
  simp only [execLockRelease, hr, hu, hgone, Bool.false_eq_true, if_false]

/-- A grant that is in flight fills a line of its waiter's L1, and is the answer to its request. -/
theorem deliverGrant_inFlight {p : Nat × Nat} (hw : r.inFlight = some w) (hp : s.findTeam w.team = some p) :
    s.deliverGrant obj =
      (s.l1Fill p.1 (lockLine obj r.grain w.va.toNat)).1.lockReply w.team obj (grantStatus w r.grain r.lastAbandoned) := by
  simp only [State.deliverGrant, hr, hw, hp]

/-- A grant in transit whose waiter is back becomes a grant in flight, which arrives. -/
theorem execGrantDelivery_back (hw : r.transit = some w) (hback : s.absent w.team = false) (hrecall : s.recallHeld obj r.grain = false)
    (habandoned : r.abandoned = false) :
    execGrantDelivery obj s = .next (((s.setLock obj (r.givenTo w)).recallLock obj r.grain).deliverGrant obj) := by
  simp only [execGrantDelivery, hr, hw, hback, hrecall, habandoned, Bool.false_eq_true, or_self, if_false, LockRec.givenTo]

/-- When the window of a grant in transit closes, its waiter is passed over if it is still absent. -/
theorem execGrantWindowClose_open {e : Nat} (hw : r.transit = some w) (he : r.windowEnd = some e) :
    execGrantWindowClose obj s = .next (if s.absent w.team then ({ s with time := max s.time e } : State).passOver obj r w
      else { s with time := max s.time e }) := by
  simp only [execGrantWindowClose, hr, hw, he]
  rfl

/-- A waiter whose deadline has passed waits no more, and is told so. -/
theorem execLockDeadline_passes {team : Nat} (hw : r.waiters.find? (fun w => w.team == team) = some w) (hd : w.deadline ≠ 0) :
    execLockDeadline obj team s = .next ((({ s with time := max s.time w.deadline } : State).dropWaiter obj team).lockReply team obj
      (statusWord 2 w.ticket w.passed false r.grain false)) := by
  simp only [execLockDeadline, hr, hw, hd, if_false]

end

/-! ### Probes (R122, R123) -/

/-- A wait that has no probe on its way sends one. -/
theorem execDeadlockProbe_sends {team : Nat} (hw : s.waitsOn team = some (obj, w))
    (hnone : ∀ p ∈ s.probes, ¬(p.origin = team ∧ p.obj = obj ∧ p.since = w.since)) :
    execDeadlockProbe obj team s = .next (({ s with
      time := max s.time w.probeAt,
      probes := s.probes ++ [⟨team, obj, w.since, w.core, w.slot, obj, 0, [(obj, team)], true⟩] } : State).restartProbe obj team) := by
  have hany : s.probes.any (fun p => p.origin == team && p.obj == obj && p.since == w.since) = false := by
    simpa [and_assoc] using hnone
  simp only [execDeadlockProbe, hw, hany, ne_eq, not_true_eq_false, Bool.false_eq_true, or_self, if_false]

end

section
variable {s : State} {i : Nat} {p : Probe} {r : LockRec} {h : Nat} (hp : s.probes[i]? = some p) (hr : tabGet? s.locks p.at_ = some r)
  (htransit : r.transit = none) (hh : r.holder = some h)
include hp hr htransit hh

/-- A probe at a lock whose holder waits on nothing ends. -/
theorem execProbeHop_ends (hfree : s.waitsOn h = none) : execProbeHop i s = .next { s with probes := s.probes.eraseIdx i } := by
  simp only [execProbeHop, hp, hr, Option.bind_some, htransit, hh, Option.isSome_none, Bool.false_eq_true, if_false, hfree]

section
variable {o : Nat} {w : Waiter} (hw : s.waitsOn h = some (o, w))
include hw

/-- A probe that meets another holder goes on to the lock that the holder waits on. -/
theorem execProbeHop_goes (hother : h ≠ p.origin) (hhops : p.hops < 15) : execProbeHop i s = .next { s with
    probes := s.probes.set i { p with
      at_ := o, hops := p.hops + 1, path := p.path ++ [(o, h)], first := p.first && !rankLt (w.rank o) p.rank } } := by
  simp only [execProbeHop, hp, hr, Option.bind_some, htransit, hh, Option.isSome_none, Bool.false_eq_true, if_false, hw, hother,
    Nat.not_le.2 hhops]

/-- A probe that is back at its origin ends there, and with it the wait it comes from, if that ranks first in the cycle. -/
theorem execProbeHop_back (hback : h = p.origin) : execProbeHop i s = .next (
    if p.first = true ∧ w.rank o = p.rank then
      (({ s with probes := s.probes.eraseIdx i } : State).dropWaiter o p.origin).parkWaiter p.origin
        { faultOf 0x21 0 0 1 with cycle := s.cycleOf p }
    else { s with probes := s.probes.eraseIdx i }) := by
  subst hback
  simp only [execProbeHop, hp, hr, Option.bind_some, htransit, hh, Option.isSome_none, Bool.false_eq_true, if_false, hw, if_true]

end

end

/-- Settles O37: one equation for each way a lock, a waiter and a probe can go. -/
theorem lockHandOff : Obligations.LockHandOff := by
  unfold Obligations.LockHandOff
  refine ⟨⟨fun s obj r hq => ?nobody, fun s obj r w rest hq hw => ?present, fun s obj r w rest hq hw => ?absent,
      fun s obj r u hr hu hgone => execLockRelease_gone hr hu hgone,
      ?delivered, ?window⟩,
    fun s obj team r w hr hw hd => execLockDeadline_passes hr hw hd,
    fun s obj team w hw hnone => execDeadlockProbe_sends hw hnone, ?probe⟩
  case nobody =>
    rw [passOn_nobody hq, tabGet?_setLock_same, if_pos ((stateCode_eq_zero_iff _).2 ⟨rfl, rfl, rfl⟩)]
  case present =>
    rw [locks_of_lockPlace (passOn_present_lockPlace hq hw false)]
    exact tabGet?_setLock_kept _ _ (stateCode_ne_zero (.inl rfl))
  case absent =>
    rw [passOn_absent hq hw, locks_of_lockPlace (readmitTeam_lockPlace ..)]
    exact tabGet?_setLock_kept _ _ (stateCode_ne_zero (.inr rfl))
  case delivered =>
    intro s obj r w p hr hw hback hrecall habandoned s1 hp
    have hgiven : tabGet? s1.locks obj = some (r.givenTo w) := by
      rw [locks_of_lockPlace (recallLock_lockPlace ..)]
      exact tabGet?_setLock_kept _ _ (stateCode_ne_zero (.inl rfl))
    exact (execGrantDelivery_back hr hw hback hrecall habandoned).trans (congrArg _ (deliverGrant_inFlight hgiven rfl hp))
  case window =>
    intro s obj r w e hr hw he s1
    have hclose : exec (.grantWindowClose obj) s = .next (if s.absent w.team then s1.passOver obj r w else s1) :=
      execGrantWindowClose_open hr hw he
    refine ⟨fun hback => ?_, fun haway hq => ?_, fun n rest haway hq hpassed => ?_, fun n rest haway hq hpassed => ?_⟩
    · rw [hclose, hback, if_neg Bool.false_ne_true]
    · rw [hclose, if_pos haway, passOver_alone hq]
    · rw [hclose, if_pos haway, passOver_first hq hpassed]
    · rw [hclose, if_pos haway, passOver_again hq hpassed]
  case probe =>
    intro s i p r h o w hp hr htransit hh gone
    refine ⟨fun hfree => execProbeHop_ends hp hr htransit hh hfree,
      fun hw hother hhops => execProbeHop_goes hp hr htransit hh hw hother hhops, fun hw hback => ?_⟩
    have hhop := execProbeHop_back hp hr htransit hh hw hback
    refine ⟨fun hfirst hrank => hhop.trans (congrArg _ (if_pos ⟨hfirst, hrank⟩)),
      fun hlater => hhop.trans (congrArg _ (if_neg fun hfirst => ?_))⟩
    exact hlater.elim (fun hf => Bool.false_ne_true (hf.symm.trans hfirst.1)) (fun hne => hne hfirst.2)

end Sys2Proof.Machine
end

section
/-! What checking an access leaves of the turn: the same team issues. -/

namespace Sys2Proof.Machine

theorem storeHome_cur (s : State) (c pa : Nat) (bs : List Byte) : (s.storeHome c pa bs).cur = s.cur := rfl

theorem walkKeep_cur (s : State) (d pasid va : Nat) (h : WalkHit) : (s.walkKeep d pasid va h).cur = s.cur := by
  unfold State.walkKeep
  dsimp only
  split <;> rfl

theorem tlbKeep_cur (s : State) (c : Nat) (e : TlbEntry) : (s.tlbKeep c e).cur = s.cur := rfl

theorem translate_cur (s : State) (a : Agent) (va : Nat) (n : Need) : (s.translate a va n).2.cur = s.cur := by
  unfold State.translate
  split
  · dsimp only
    split <;> rfl
  · split
    · rfl
    · next h _ =>
      split
      · rfl
      · split
        · rfl
        · dsimp only
          split
          · have hawait := congrArg State.cur (await_beyondStores s a.core h.at_ none)
            exact hawait
          · rw [State.setCore_cur, tlbKeep_cur, walkKeep_cur]
            split
            · rfl
            · rw [storeHome_cur, State.invalidate_cur]

theorem locate_cur (s : State) (a : Agent) (size : Nat) (k : AKind) (va : W64) : (s.locate a size k va).2.cur = s.cur := by
  have htranslate := translate_cur s a (va.toNat % 2 ^ 57) k.need
  unfold State.locate
  split
  · split
    · rfl
    · split <;> rfl
  · split
    · next he => rw [he] at htranslate; exact htranslate
    · next he =>
      rw [he] at htranslate
      split <;> exact htranslate

theorem taken_cur (s : State) (p : Phys) (leaf : Option Nat) : (s.taken p leaf).2.cur = s.cur := by
  cases leaf with
  | none => rfl
  | some e =>
    show (s.touchDir e p.pa).cur = s.cur
    unfold State.touchDir
    split
    iterate 2 split <;> rfl
    rfl

theorem access_cur (s : State) (a : Agent) (va : W64) (n m : Nat) (k : AKind) : (s.access a va n m k).2.cur = s.cur := by
  have hchecks : (s.access0 a va n m k).2.2.cur = s.cur := by
    obtain h | h | ⟨v, -, h⟩ := access0_state s a va n m k
    · rw [h]
    · rw [h, locate_cur]
    · rw [h, locate_cur, locate_cur]
  unfold State.access
  split
  · next h =>
    rw [h] at hchecks
    dsimp only
    split
    · exact hchecks
    · exact (taken_cur ..).trans hchecks
  · next h => rw [h] at hchecks; exact hchecks

end Sys2Proof.Machine
end

section
/-! The statement on `llock` and `ltry` (R307, R308), and on the faults of the lock instructions (R113). -/

namespace Sys2Proof.Machine

/-! ### A request that has not been sent (R308) -/

/-- A scalar access that passes its checks goes on behind them. -/
theorem scalarAccess_ok {s s1 : State} {t : Team} {va : W64} {n : Nat} {k : AKind} {p : Phys}
    (ha : s.access (s.agentOf s.cur t) va n n k = (.ok p, s1)) (body : State → Phys → State) :
    s.scalarAccess t va n k body = body s1 p := by
  simp only [State.scalarAccess, ha]

/-- The region that a request for a lock names is too long, or does not lie in one half of the address space (R113). -/
abbrev BadRegion (va word : W64) : Prop :=
  8192 < word.toNat / 2 ^ 18 % 2 ^ 14 ∨ regionBad va (word.toNat / 2 ^ 18 % 2 ^ 14 * 128) = true

/-- `ltry` names no region (R307). -/
theorem not_badRegion_zero (va : W64) : ¬BadRegion va 0 := by
  simp [BadRegion, regionBad]

theorem not_badRegion {va word : W64} (hlen : word.toNat / 2 ^ 18 % 2 ^ 14 ≤ 8192)
    (hregion : regionBad va (word.toNat / 2 ^ 18 % 2 ^ 14 * 128) = false) : ¬BadRegion va word := by
  rintro (h | h)
  · exact Nat.not_lt.2 hlen h
  · exact Bool.false_ne_true (hregion.symm.trans h)

theorem lockAsk_team (s : State) (t : Team) (d : Nat) (va word : W64) (ltry : Bool) :
    s.lockAsk t d va word ltry .team = s.onceFault t 0x20 6 va := rfl

section
variable {s s1 : State} {t : Team} {va word : W64} {scope : Scope} (hscope : scope ≠ .team) (d : Nat) (ltry : Bool)
include hscope

theorem lockAsk_badRegion (hbad : BadRegion va word) : s.lockAsk t d va word ltry scope = s.onceFault t 0x20 5 va := by
  unfold State.lockAsk
  dsimp only
  rw [if_neg hscope, if_pos hbad]
  rfl

variable {p : Phys} (hregion : ¬BadRegion va word) (ha : s.access (s.agentOf s.cur t) va 1 1 .lock = (.ok p, s1))
include hregion ha

/-- Behind an access that passes its checks, a request is refused by what its team holds or by the object, or is sent once the team's
stores are complete. -/
theorem lockAsk_accessed : s.lockAsk t d va word ltry scope =
    if 8 ≤ t.held.length then s1.onceFault t 0x20 1 va
    else if t.held.any (fun e => e.obj == lockObject p) then s1.onceFault t 0x20 2 va
    else if lockable p = false ∨ s1.cur.2 = 0 then
      s1.completeWith (fun t => ({ t with wait := t.wait.unsent } : Team).setS d (statusWord 5 0 0 false (p.grain == 512) false))
    else s1.afterStores scope false allStores (fun s t => s.lockSend t va (word.toNat / 2 ^ 18 % 2 ^ 14 * 128) (lockObject p)
      (p.grain == 512) ltry (word.toNat / 2 ^ 17 % 2 = 1) scope (word.toNat / 2 ^ 32)) := by
  unfold State.lockAsk
  dsimp only
  rw [if_neg hscope, if_neg hregion, scalarAccess_ok ha]
  rfl

theorem lockAsk_full (hfull : 8 ≤ t.held.length) : s.lockAsk t d va word ltry scope = s1.onceFault t 0x20 1 va := by
  rw [lockAsk_accessed hscope d ltry hregion ha, if_pos hfull]

variable (hroom : t.held.length < 8)
include hroom

theorem lockAsk_held (hheld : ∃ e ∈ t.held, e.obj = lockObject p) :
    s.lockAsk t d va word ltry scope = s1.onceFault t 0x20 2 va := by
  rw [lockAsk_accessed hscope d ltry hregion ha, if_neg (Nat.not_le.2 hroom), if_pos (by simpa using hheld)]

variable (hnew : ∀ e ∈ t.held, e.obj ≠ lockObject p)
include hnew

/-- What cannot be locked, and what the supervisor asks for, is answered at once (R108, R398). -/
theorem lockAsk_notHome (hno : lockable p = false ∨ s1.cur.2 = 0) : s.lockAsk t d va word ltry scope =
    s1.completeWith (fun t => ({ t with wait := t.wait.unsent } : Team).setS d (statusWord 5 0 0 false (p.grain == 512) false)) := by
  rw [lockAsk_accessed hscope d ltry hregion ha, if_neg (Nat.not_le.2 hroom), if_neg (by simpa using hnew), if_pos hno]

/-- With the team's stores complete, the request is sent. -/
theorem lockAsk_sends {s2 : State} {t2 : Team} (hyes : lockable p = true) (hslot : s1.cur.2 ≠ 0)
    (hdone : s1.storesComplete scope allStores = .done s2) (ht2 : s2.team? s2.cur = some t2) :
    s.lockAsk t d va word ltry scope = s2.lockSend t2 va (word.toNat / 2 ^ 18 % 2 ^ 14 * 128) (lockObject p) (p.grain == 512) ltry
      (word.toNat / 2 ^ 17 % 2 = 1) scope (word.toNat / 2 ^ 32) := by
  rw [lockAsk_accessed hscope d ltry hregion ha, if_neg (Nat.not_le.2 hroom), if_neg (by simpa using hnew),
    if_neg (by simp [hyes, hslot]), afterStores_done hdone ht2]

end

/-- A request is sent in place of the older one of the team, which waits for the reply with the object in its wait record. -/
theorem lockSend_waits (s : State) (t : Team) (va : W64) (len obj : Nat) (grain ltry keep : Bool) (scope : Scope) (timeout : Nat) :
    let sf := s.forgetLock t.uid t.wait
    let s3 := s.lockSend t va len obj grain ltry keep scope timeout
    s3.agenda = .lockRequest s.cur.1 s.cur.2 :: sf.agenda ∧ s3.mem = sf.mem ∧ s3.locks = sf.locks ∧
      (∃ q ∈ s3.lockReqs, q.team = t.uid ∧ q.obj = obj ∧ q.grain = grain ∧ q.ltry = ltry ∧
        q.waiter.deadline = if timeout = 0 then 0 else t.heldSince.getD s.time + timeout * 1000) ∧
      ∃ t3, s3.team? s.cur = some t3 ∧ t3.wait.kind = (if ltry then 12 else 3) ∧ t3.wait.object = BitVec.ofNat 64 obj ∧
        t3.held = t.held := by
  intro sf
  have hplace (u : Team) : (sf.setTeam sf.cur u).team? s.cur = some u := by
    rw [show sf.cur = s.cur from forgetLock_cur ..]
    exact team?_setTeam ..
  unfold State.lockSend
  dsimp only
  rw [waitWith_first rfl]
  exact ⟨rfl, rfl, rfl, ⟨_, List.mem_append_right _ (List.mem_singleton_self _), rfl, rfl, rfl, rfl, rfl⟩,
    _, (team?_of_cores rfl s.cur).trans (hplace _), rfl, rfl, rfl⟩

/-! ### A request that has been sent (R123, R307, R308) -/

section
variable {s : State} {t : Team}

theorem grantOf_inFlight {r : LockRec} {w : Waiter} (hr : tabGet? s.locks t.wait.object.toNat = some r) (hw : r.inFlight = some w)
    (ht : w.team = t.uid) : s.grantOf t = some w := by
  simp [State.grantOf, hr, hw, ht]

section
variable {st : W64} (d : Nat) (scope : Scope)

/-- With `OK` the lock joins the held-lock set with what the request named, and its grant is in flight no more. -/
theorem lockDone_ok (hcode : st.toNat % 256 = 0) {r : LockRec} {w : Waiter} (hr : tabGet? s.locks t.wait.object.toNat = some r)
    (hw : r.inFlight = some w) (ht : w.team = t.uid) :
    let s3 := (s.setTeam s.cur { t with wait := .idle }).setLock t.wait.object.toNat { r with inFlight := none }
    s.lockDone t d scope st =
      (s3.acquireLoad (s3.stampOf (lockLine t.wait.object.toNat (st.getLsbD 9) w.va.toNat)).wts).completeWith (fun u =>
        ({ u with held := u.held ++ [⟨w.va, t.wait.object.toNat, scope, w.regionLen, st.getLsbD 9, false⟩] } : Team).setS d st) := by
  simp only [State.lockDone, hcode, if_true, grantOf_inFlight hr hw ht, Option.map_some, Option.getD_some, State.setTeam_locks, hr]

/-- With `QFULL` the team keeps its ticket. -/
theorem lockDone_ticket (hcode : st.toNat % 256 = 3) :
    s.lockDone t d scope st = (s.setTeam s.cur { t with wait := .idle }).completeWith (fun u => ({ u with wait := { WaitRec.idle with
      kind := 10, scope := scope.code, object := t.wait.object, ticket := st.extractLsb' 32 32 } } : Team).setS d st) := by
  simp only [State.lockDone, hcode, if_true, OfNat.ofNat_ne_zero, if_false]

theorem lockDone_refused (hok : st.toNat % 256 ≠ 0) (hticket : st.toNat % 256 ≠ 3) :
    s.lockDone t d scope st =
      (s.setTeam s.cur { t with wait := .idle }).completeWith (fun u => ({ u with wait := .idle } : Team).setS d st) := by
  simp only [State.lockDone, hok, hticket, if_false]

theorem lockAwait_fault {f : FaultInfo} (hf : t.wait.fault = some f) : s.lockAwait t d scope = s.unitFault { t with wait := .idle } f := by
  simp only [State.lockAwait, hf]

theorem lockAwait_reply (hf : t.wait.fault = none) (hreply : t.wait.reply = some st) :
    s.lockAwait t d scope = s.lockDone t d scope st := by
  simp only [State.lockAwait, hf, hreply]

theorem lockAwait_waits (hf : t.wait.fault = none) (hreply : t.wait.reply = none) : s.lockAwait t d scope = s.setTeam s.cur t := by
  simp only [State.lockAwait, hf, hreply]

end

/-! ### The instructions -/

section
variable (h : OnceReady s t .any)
include h

theorem lockOp_awaits {ltry : Bool} (hkind : t.wait.kind = if ltry then ltryKind else 3) (hkey : t.wait.p1 = t.key s.latch.start)
    (d : Nat) (va word : Team → W64) (scope : Scope) : s.lockOp d va word ltry scope = .next (s.lockAwait t d scope) := by
  rw [State.lockOp, once_body h (.inl rfl), if_pos ⟨hkind, hkey⟩]

theorem lockOp_asks {ltry : Bool} (hnew : ¬(t.wait.kind = (if ltry then ltryKind else 3) ∧ t.wait.p1 = t.key s.latch.start))
    (d : Nat) (va word : Team → W64) (scope : Scope) :
    s.lockOp d va word ltry scope = .next (s.lockAsk t d (va t) (word t) ltry scope) := by
  rw [State.lockOp, once_body h (.inl rfl), if_neg hnew]

theorem lockOp_asks_of_noWait (hwait : t.wait.ofLock = false) (ltry : Bool) (d : Nat) (va word : Team → W64) (scope : Scope) :
    s.lockOp d va word ltry scope = .next (s.lockAsk t d (va t) (word t) ltry scope) := by
  refine lockOp_asks h (fun hsent => ?_) d va word scope
  simp only [WaitRec.ofLock, hsent.1] at hwait
  cases ltry <;> cases hwait

theorem unlockOp_team (sb : Nat) (reg : Bool) : s.unlockOp sb .team reg = .next (s.onceFault t 0x20 6 (t.s sb)) := by
  rw [State.unlockOp, once_body h (.inl rfl)]
  rfl

variable {scope : Scope} (hscope : scope ≠ .team) {sb : Nat}
include hscope

theorem unlockOp_notHeld (hnone : ∀ e ∈ t.held, ¬(e.range.1 ≤ (t.s sb).toNat ∧ (t.s sb).toNat < e.range.1 + e.range.2))
    (reg : Bool) : s.unlockOp sb scope reg = .next (s.onceFault t 0x20 3 (t.s sb)) := by
  have hfind : t.held.find? (fun e => decide (e.range.1 ≤ (t.s sb).toNat ∧ (t.s sb).toNat < e.range.1 + e.range.2)) = none := by
    simpa only [List.find?_eq_none, decide_eq_true_eq] using hnone
  rw [State.unlockOp, once_body h (.inl rfl)]
  dsimp only
  rw [if_neg hscope, hfind]
  rfl

theorem unlockOp_noRegion {e : HeldLock}
    (hfind : t.held.find? (fun e => decide (e.range.1 ≤ (t.s sb).toNat ∧ (t.s sb).toNat < e.range.1 + e.range.2)) = some e)
    (hlen : e.regionLen = 0) : s.unlockOp sb scope true = .next (s.onceFault t 0x20 4 (t.s sb)) := by
  rw [State.unlockOp, once_body h (.inl rfl)]
  dsimp only
  rw [if_neg hscope, hfind]
  dsimp only
  rw [if_pos ⟨rfl, hlen⟩]
  rfl

end

end

/-- `llock` and `ltry` are one operation; the latter has no operand word. -/
theorem exec_lockOp (s : State) (d sb x : Nat) (scope : Scope) (ltry : Bool) :
    exec (if ltry then .ltry d sb scope else .llock d sb x scope) s =
      s.lockOp d (fun t => t.s sb) (fun t => if ltry then 0 else t.s x) ltry scope := by
  cases ltry <;> rfl

/-- Settles O34: a request is sent or refused by its checks, and the reply to one that has been sent completes it. -/
theorem lockInstructions : Obligations.LockInstructions := by
  unfold Obligations.LockInstructions
  refine ⟨fun s t d sb x sc ltry h => ⟨?ask, ?await⟩, fun s t d sb x sc h => ⟨?unlockTeam, ?notHeld, ?noRegion, ?askFaults⟩⟩
  case ask =>
    intro hnew hscope p s1 va w rlen obj grain hlen hregion ha hroom hheld
    have hcur : s1.cur = s.cur := by simpa only [ha] using access_cur s (s.agentOf s.cur t) va 1 1 .lock
    have hrun := (exec_lockOp s d sb x sc ltry).trans (lockOp_asks h hnew d _ _ sc)
    have hword : (if ltry then 0 else t.s x : W64).toNat = w := by cases ltry <;> rfl
    generalize (if ltry then 0 else t.s x : W64) = word at hrun hword
    clear_value w
    subst hword
    have hgood : ¬BadRegion va word := not_badRegion hlen hregion
    refine ⟨fun hno => ?_, fun hyes hslot s2 t2 hdone ht2 => ?_⟩
    · rw [← hcur] at hno
      exact hrun.trans (congrArg _ (lockAsk_notHome hscope d ltry hgood ha hroom hheld hno))
    · rw [← hcur] at hslot
      exact ⟨_, hrun.trans (congrArg _ (lockAsk_sends hscope d ltry hgood ha hroom hheld hyes hslot hdone ht2)), lockSend_waits ..⟩
  case await =>
    intro hkind hkey
    have hrun := (exec_lockOp s d sb x sc ltry).trans (lockOp_awaits h hkind hkey d _ _ sc)
    refine ⟨fun f hf => hrun.trans (congrArg _ (lockAwait_fault d sc hf)),
      fun hf hreply => hrun.trans (congrArg _ (lockAwait_waits d sc hf hreply)), fun hf st hreply => ?_⟩
    have hdone := hrun.trans (congrArg _ (lockAwait_reply d sc hf hreply))
    exact ⟨fun hcode r w hr hw ht => hdone.trans (congrArg _ (lockDone_ok d sc hcode hr hw ht)),
      fun hok hticket => hdone.trans (congrArg _ (lockDone_refused d sc hok hticket)),
      fun hcode => hdone.trans (congrArg _ (lockDone_ticket d sc hcode))⟩
  case unlockTeam => exact ⟨unlockOp_team h sb false, unlockOp_team h sb true⟩
  case notHeld => exact fun hscope hnone => ⟨unlockOp_notHeld h hscope hnone false, unlockOp_notHeld h hscope hnone true⟩
  case noRegion => exact fun hscope e hfind hlen => unlockOp_noRegion h hscope hfind hlen
  case askFaults =>
    intro hwait
    have hllock (scope : Scope) : exec (.llock d sb x scope) s = .next (s.lockAsk t d (t.s sb) (t.s x) false scope) :=
      lockOp_asks_of_noWait h hwait false d _ _ scope
    have hltry (scope : Scope) : exec (.ltry d sb scope) s = .next (s.lockAsk t d (t.s sb) 0 true scope) :=
      lockOp_asks_of_noWait h hwait true d _ _ scope
    refine ⟨(hllock .team).trans (congrArg _ (lockAsk_team ..)), (hltry .team).trans (congrArg _ (lockAsk_team ..)),
      fun hscope hbad => ?region, fun hscope p s1 ha => ⟨?full, ?twice⟩⟩
    case region => exact (hllock sc).trans (congrArg _ (lockAsk_badRegion hscope d false hbad))
    case full =>
      exact fun hfull =>
        ⟨fun hlen hregion => (hllock sc).trans (congrArg _ (lockAsk_full hscope d false (not_badRegion hlen hregion) ha hfull)),
          (hltry sc).trans (congrArg _ (lockAsk_full hscope d true (not_badRegion_zero _) ha hfull))⟩
    case twice =>
      exact fun hroom hheld =>
        ⟨fun hlen hregion => (hllock sc).trans (congrArg _ (lockAsk_held hscope d false (not_badRegion hlen hregion) ha hroom hheld)),
          (hltry sc).trans (congrArg _ (lockAsk_held hscope d true (not_badRegion_zero _) ha hroom hheld))⟩

end Sys2Proof.Machine
end

section
/-! The statement on the grace-period unit (R132, R138 to R141). -/

namespace Sys2Proof.Machine

/-! ### Process records -/

@[simp] theorem proc_setProc_same (s : State) (c : Nat) (p : GraceProc) : (s.setProc c p).proc c = p := tabGet_tabSet_same ..

theorem proc_setProc_other (s : State) {c i : Nat} (p : GraceProc) (h : i ≠ c) : (s.setProc c p).proc i = s.proc i :=
  tabGet_tabSet_other _ _ _ h

/-- What the steps of the grace-period unit account for beside the blocks and the posts: the process records, the last SEQ, the time, the
counts of R141 and memory. -/
def State.graceView (s : State) : Tab GraceProc × Nat × Nat × (Nat × Nat) × List Host.Cell :=
  (s.procs, s.seq, s.time, s.qscCounts, s.mem)

theorem queueReadmit_graceView (s : State) (blk : Nat) : (s.queueReadmit blk).graceView = s.graceView := by
  unfold State.queueReadmit
  dsimp only
  split <;> rfl

theorem queueSaved_graceView (s : State) (sel : Block → Team → Bool) : (s.queueSaved sel).graceView = s.graceView :=
  foldl_view State.graceView queueReadmit_graceView _ _

theorem postReport_graceView (s : State) (c : Nat) (ws : List W64) : (s.postReport c ws).graceView = s.graceView := by
  unfold State.postReport
  dsimp only
  split <;> rfl

theorem proc_of_procs {s s' : State} (h : s'.procs = s.procs) (c : Nat) : s'.proc c = s.proc c :=
  congrArg (tabGet GraceProc.initial · c) h

theorem queueSaved_proc (s : State) (sel : Block → Team → Bool) (c : Nat) : (s.queueSaved sel).proc c = s.proc c :=
  proc_of_procs (congrArg (·.1) (queueSaved_graceView s sel)) c

theorem queueSaved_mem (s : State) (sel : Block → Team → Bool) : (s.queueSaved sel).mem = s.mem :=
  congrArg (·.2.2.2.2) (queueSaved_graceView s sel)

/-! ### The completed generation (R132) -/

theorem minGen_cons (a : Nat) (l : List Nat) : minGen (a :: l) = some (l.foldl min a) := by
  induction l generalizing a with
  | nil => rfl
  | cons b l ih => exact (ih (min b a)).trans (congrArg (fun m => some (l.foldl min m)) (Nat.min_comm b a))

theorem minGen_eq_min? (l : List Nat) : minGen l = l.min? := by
  cases l with
  | nil => rfl
  | cons a l => rw [minGen_cons, List.min?_cons']

/-- The completed generation is the greatest that exceeds neither the open one nor that of a tracked team. -/
theorem le_completedNow_iff (s : State) (c n : Nat) : n ≤ s.completedNow c ↔
    n ≤ (s.proc c).gen.toNat ∧ (∀ e ∈ s.trackedTeams c, n ≤ e.1.qsGen.toNat) ∧ ∀ e ∈ (s.proc c).pairs, n ≤ e.1.toNat := by
  have hall : (∀ x ∈ (s.trackedTeams c).map (fun e => e.1.qsGen.toNat) ++ (s.proc c).pairs.map (fun e => e.1.toNat), n ≤ x) ↔
      (∀ e ∈ s.trackedTeams c, n ≤ e.1.qsGen.toNat) ∧ ∀ e ∈ (s.proc c).pairs, n ≤ e.1.toNat := by
    simp only [List.forall_mem_append, List.forall_mem_map]
  rw [← hall]
  unfold State.completedNow
  dsimp only
  rw [minGen_eq_min?]
  split
  · next hnone => simp [List.min?_eq_none_iff.1 hnone]
  · next g hsome => rw [Nat.le_min, List.le_min?_iff hsome]

/-- GRACE_RECOMPUTE raises the completed generation to what the generations of the tracked teams allow, and never lowers it. -/
theorem execGraceRecompute_completes (s : State) (c : Nat) : ∃ s', execGraceRecompute c s = .next s' ∧
    (s'.proc c).completed.toNat = max (s.proc c).completed.toNat (s.completedNow c) ∧ (s'.proc c).gen = (s.proc c).gen ∧
    s'.mem = s.mem := by
  have hgen : s.completedNow c ≤ (s.proc c).gen.toNat := ((le_completedNow_iff s c _).1 (Nat.le_refl _)).1
  refine ⟨_, rfl, ?_, ?_, ?_⟩
  · rw [queueSaved_proc, proc_setProc_same, BitVec.toNat_ofNat]
    omega
  · rw [queueSaved_proc, proc_setProc_same]
  · exact queueSaved_mem ..

/-! ### The freeable ring (R138, R140)

The proofs name the base and the size of the ring before they open the rest of a step: the kernel would otherwise compare the two by
unfolding the context table they are read from. -/

/-- The entries of a context's freeable ring that are in use as far as the unit knows. -/
abbrev State.ringUsed (s : State) (c tail : Nat) : Nat := (tail + 2 ^ 64 - (s.proc c).headSeen) % 2 ^ 64

/-- A read or write of the ring that faults, and does not wait, stops the unit and posts one record (R140, R405). -/
theorem freeFault_stops {f : LaneFault} (hf : f.held = false) (s : State) (c : Nat) :
    ((s.freeFault c f).proc c).stopped = true ∧ (s.freeFault c f).mailOut.length = s.mailOut.length + 1 := by
  unfold State.freeFault
  rw [if_neg (by simp [hf])]
  exact ⟨congrArg GraceProc.stopped (proc_setProc_same s c _), List.length_append⟩

section
variable {s : State} {c : Nat}

/-- The unit does nothing where no object is deferred, or where a fault stopped it. -/
theorem ringSteps_idle (h : (s.proc c).deferred = [] ∨ (s.proc c).stopped = true) :
    execDeferredMove c s = .next s ∧ execHeadPoll c s = .next s := by
  unfold execDeferredMove execHeadPoll
  obtain ⟨base, k⟩ := s.freeRing c
  dsimp only
  cases hq : (s.proc c).deferred with
  | nil => exact ⟨rfl, rfl⟩
  | cons e rest =>
    have hstop : (s.proc c).stopped = true := h.resolve_left (by simp [hq])
    simp only [hstop, true_or, if_true, and_self]

/-- A head entry whose ticket is complete is not held back by the checks of the unit's record. -/
theorem not_heldBack {e : Deferred} (hrun : (s.proc c).stopped = false) (hdue : e.ticket.toNat ≤ (s.proc c).completed.toNat) :
    ¬((s.proc c).stopped = true ∨ (s.proc c).completed.toNat < e.ticket.toNat) := by
  simp [hrun, hdue]

variable {e : Deferred} {rest : List Deferred} (hq : (s.proc c).deferred = e :: rest)
include hq

/-- The head entry stays while its ticket is not complete. -/
theorem ringSteps_early (h : (s.proc c).completed.toNat < e.ticket.toNat) :
    execDeferredMove c s = .next s ∧ execHeadPoll c s = .next s := by
  unfold execDeferredMove execHeadPoll
  obtain ⟨base, k⟩ := s.freeRing c
  simp only [hq, h, or_true, if_true, and_self]

variable (hrun : (s.proc c).stopped = false) (hdue : e.ticket.toNat ≤ (s.proc c).completed.toNat) {base k : Nat}
  (hring : s.freeRing c = (base, k))
include hrun hdue hring

theorem ringSteps_tailFault {f : LaneFault} {s1 : State}
    (htail : s.unitRead (s.graceAgent c) (wide (BitVec.ofNat 57 base)) 8 = (.error f, s1)) :
    execDeferredMove c s = .next (s1.freeFault c f) ∧ execHeadPoll c s = .next (s1.freeFault c f) := by
  rw [execDeferredMove, execHeadPoll, hring]
  simp only [hq, not_heldBack hrun hdue, if_false, htail, and_self]

variable {tail : Nat} {s1 : State} (htail : s.unitRead (s.graceAgent c) (wide (BitVec.ofNat 57 base)) 8 = (.ok tail, s1))
include htail

theorem execDeferredMove_full (hfull : 2 ^ k ≤ s.ringUsed c tail) : execDeferredMove c s = .next s1 := by
  rw [execDeferredMove, hring]
  simp only [hq, not_heldBack hrun hdue, if_false, htail, hfull, if_true]

theorem execHeadPoll_full (hfull : 2 ^ k ≤ s.ringUsed c tail) {h : Nat} {s2 : State}
    (hhead : s1.unitRead (s.graceAgent c) (wide (BitVec.ofNat 57 base) + 8) 8 = (.ok h, s2)) :
    execHeadPoll c s = .next (s2.setProc c { s2.proc c with headSeen := h }) := by
  rw [execHeadPoll, hring]
  simp only [hq, not_heldBack hrun hdue, if_false, htail, Nat.not_lt.2 hfull, hhead]

theorem execHeadPoll_room (hroom : s.ringUsed c tail < 2 ^ k) : execHeadPoll c s = .next s1 := by
  rw [execHeadPoll, hring]
  simp only [hq, not_heldBack hrun hdue, if_false, htail, hroom, if_true]

/-- The head entry moves: its words are written, TAIL takes the next count, and a saved `dfree` that waits for room is met (R55). -/
theorem execDeferredMove_room (hroom : s.ringUsed c tail < 2 ^ k) {s2 s3 : State}
    (hentry : s1.unitWords (s.graceAgent c) (wide (BitVec.ofNat 57 base) + BitVec.ofNat 64 (0x40 + tail % 2 ^ k * 32))
      [e.addr.toNat, e.tag.toNat * 2 ^ 32 + e.len.toNat, e.ticket.toNat, (s.proc c).completed.toNat] = (.ok (), s2))
    (hcount : s2.unitWrite (s.graceAgent c) (wide (BitVec.ofNat 57 base)) 8 ((tail + 1) % 2 ^ 64) = (.ok (), s3)) :
    execDeferredMove c s = .next
      ((s3.setProc c { s3.proc c with deferred := rest }).queueSaved (fun b t => b.ctx == c && t.wait.kind == 9)) := by
  rw [execDeferredMove, hring]
  simp only [hq, not_heldBack hrun hdue, if_false, htail, Nat.not_le.2 hroom, hentry, hcount]

end

/-! ### The stall report (R139) -/

/-- A resident team waits for the next generation, which the teams that are tracked do not let complete: a stall is reported. -/
theorem execGraceStallReport_reports {s : State} {c core slot : Nat} {k : Core} {t : Team} (hk : (core, k) ∈ s.cores)
    (ht : (slot, t) ∈ k.teams) (hslot : slot ≠ 0) (hctx : (tabGet? k.blocks t.place).map (·.ctx) = some c)
    (hwaits : waitsFor (s.proc c) ((s.proc c).completed.toNat + 1) t = true)
    (hlow : s.completedNow c ≤ (s.proc c).completed.toNat) :
    ∃ s' time, execGraceStallReport c s = .next s' ∧ s.time ≤ time ∧ s'.graceView =
      (tabSet s.procs c { s.proc c with stallAt := time }, s.seq + 1, time, (satAdd1 s.qscCounts.1, s.qscCounts.2), s.mem) := by
  unfold execGraceStallReport
  dsimp only
  rw [if_neg]
  case hnc =>
    rintro (hdone | ⟨hnobody, -⟩)
    · omega
    · simp only [List.isEmpty_iff, List.flatMap_eq_nil_iff, List.filterMap_eq_nil_iff] at hnobody
      have hnone := hnobody (core, k) hk (slot, t) ht
      rw [if_pos ⟨hslot, hctx, hwaits⟩] at hnone
      exact Option.some_ne_none _ hnone
  refine ⟨_, ?time, rfl, ?le, ?view⟩
  case view =>
    split
    · exact postReport_graceView ..
    · rfl
  case le => exact Nat.le_max_left ..

/-! ### The statement -/

/-- Settles O39: the completed generation is a greatest lower bound, and each other step of the unit by the state of the ring. -/
theorem graceUnit : Obligations.GraceUnit := by
  unfold Obligations.GraceUnit
  refine ⟨fun s c => ?recompute, fun s c e rest hq hrun => ?ring, fun s c hidle => ringSteps_idle hidle, fun s => ?resume,
    fun s c core k slot t hk ht hslot hctx hwaits hlow => ?stall⟩
  case recompute =>
    obtain ⟨s', hexec, hcompleted, hgen, hmem⟩ := execGraceRecompute_completes s c
    exact ⟨s', s.completedNow c, hexec, (le_completedNow_iff s c _).1 (Nat.le_refl _), fun m => (le_completedNow_iff s c m).2,
      hcompleted, hgen, hmem⟩
  case ring =>
    rcases hring : s.freeRing c with ⟨base, k⟩
    refine ⟨fun hlt => ringSteps_early hq hlt, fun hdue => ⟨?faults, fun tail s1 htail => ⟨?full, ?room⟩⟩⟩
    case faults =>
      intro f s1 htail hf i hi
      obtain ⟨hmove, hpoll⟩ := ringSteps_tailFault hq hrun hdue hring htail
      have hexec : exec i s = .next (s1.freeFault c f) := by
        obtain rfl | rfl : i = .deferredMove c ∨ i = .headPoll c := by simpa using hi
        · exact hmove
        · exact hpoll
      exact ⟨_, hexec, freeFault_stops hf s1 c⟩
    case full =>
      exact fun hfull => ⟨execDeferredMove_full hq hrun hdue hring htail hfull,
        fun h s2 hhead => execHeadPoll_full hq hrun hdue hring htail hfull hhead⟩
    case room =>
      exact fun hroom => ⟨execHeadPoll_room hq hrun hdue hring htail hroom,
        fun s2 s3 hentry hcount => execDeferredMove_room hq hrun hdue hring htail hroom hentry hcount⟩
  case resume =>
    exact ⟨_, rfl, congrArg GraceProc.stopped (proc_setProc_same ..), fun i hi => proc_setProc_other s _ hi, rfl, rfl⟩
  case stall =>
    obtain ⟨s', time, hexec, htime, hview⟩ := execGraceStallReport_reports hk ht hslot hctx hwaits hlow
    simp only [State.graceView, Prod.mk.injEq] at hview
    obtain ⟨hprocs, hseq, hnow, hcounts, hmem⟩ := hview
    have hproc : s'.proc c = { s.proc c with stallAt := time } := by rw [State.proc, hprocs, tabGet_tabSet_same]
    exact ⟨s', hexec, hseq, hnow ▸ htime, by rw [hproc, hnow], by rw [hcounts], hmem⟩

end Sys2Proof.Machine
end

section
/-! The statement on the grace-period instructions (R128 to R131, R135 to R137, R142). -/

namespace Sys2Proof.Machine

theorem WaitRec.stands_iff (w : WaitRec) (kind : Nat) (pc : W57) : w.stands kind pc = true ↔ w.kind = kind ∧ w.p1 = [wide pc] := by
  simp [WaitRec.stands]

/-- With the team's stores complete, a grace-period instruction goes on with its process's record. -/
theorem graceOp_released {s s0 : State} {t t0 : Team} {rel : Bool} (h : OnceReady s t .any) (hr : Released s t rel .dev s0 t0)
    (k : State → Team → Nat → GraceProc → State) :
    s.graceOp rel k = .next (k s0 t0 (s0.procOf s0.cur t0) (s0.proc (s0.procOf s0.cur t0))) := by
  rw [State.graceOp, once_body h (.inl rfl), State.releaseFirst]
  cases rel with
  | false =>
    obtain ⟨rfl, rfl⟩ := hr
    rfl
  | true =>
    obtain ⟨hdone, ht0⟩ := hr
    rw [if_pos rfl, afterStores_done hdone ht0]

section
variable {s : State} {t : Team} (h : OnceReady s t .any)
include h

/-- One that does not release begins at once. -/
theorem graceOp_unreleased (k : State → Team → Nat → GraceProc → State) :
    s.graceOp false k = .next (k s t (s.procOf s.cur t) (s.proc (s.procOf s.cur t))) :=
  graceOp_released h (show Released s t false .dev s t from ⟨rfl, rfl⟩) k

theorem execQpass_released {s0 : State} {t0 : Team} (hr : Released (s.setTeam s.cur { t with qsDue := true }) t true .dev s0 t0) :
    execQpass s =
      .next (s0.acquireAll.completeWith (fun u => { u with qsGen := (s0.proc (s0.procOf s0.cur t0)).gen, qsDue := false })) := by
  obtain ⟨hdone, ht0⟩ := hr
  rw [execQpass, once_body h (.inl rfl), afterStores_done hdone ht0]

/-- `gpwait` of a generation that is not open (R135). -/
theorem execGpwait_future (d : Nat) {a : Nat} (hg : (s.proc (s.procOf s.cur t)).gen.toNat < (t.s a).toNat) :
    execGpwait d a s = .next (s.completeWith (fun t => t.setS d 1)) := by
  rw [execGpwait, graceOp_unreleased h]
  dsimp only
  rw [if_pos hg]

/-- `gpwait` of an open generation: the quiescent point of a wait that does not stand already, then the end of the wait or the wait
(R128, R135). -/
theorem execGpwait_open (d : Nat) {a : Nat} (hg : (t.s a).toNat ≤ (s.proc (s.procOf s.cur t)).gen.toNat) :
    let p := s.proc (s.procOf s.cur t)
    let t1 : Team := if t.wait.kind = 8 ∧ t.wait.p1 = [wide s.latch.start] then t else { t with qsGen := p.gen }
    execGpwait d a s = .next (if (t.s a).toNat ≤ p.completed.toNat then (s.setTeam s.cur t1).acquireAll.completeWith (fun t => t.setS d 0)
      else s.waitWith t1 { WaitRec.idle with kind := 8, object := t.s a, p1 := [wide s.latch.start] }) := by
  rw [execGpwait, graceOp_unreleased h]
  dsimp only
  rw [if_neg (Nat.not_lt.2 hg), if_congr (t.wait.stands_iff 8 s.latch.start) rfl rfl]

section
variable {s0 : State} {t0 : Team} (hr : Released s t true .dev s0 t0) (d a b : Nat)
include hr

/-- `dfree` appends its object where the deferred-free ring has room (R137). -/
theorem execDfree_room (hroom : (s0.proc (s0.procOf s0.cur t0)).deferred.length < 65536) :
    let c := s0.procOf s0.cur t0
    execDfree d a b s = .next ((s0.setProc c { s0.proc c with deferred := (s0.proc c).deferred ++
      [⟨t0.s d, (t0.s a).setWidth 32, (t0.s a).extractLsb' 32 32, t0.s b, s0.time⟩] }).completeWith id) := by
  rw [execDfree, graceOp_released h hr, if_neg (Nat.not_le.2 hroom)]
  rfl

/-- `dfree` waits where the ring is full, past the quiescent point with which its wait began (R128, R137). -/
theorem execDfree_full (hfull : 65536 ≤ (s0.proc (s0.procOf s0.cur t0)).deferred.length) :
    execDfree d a b s = .next (s0.waitWith
      (if t0.wait.kind = 9 then t0 else { t0 with qsGen := (s0.proc (s0.procOf s0.cur t0)).gen })
      { WaitRec.idle with kind := 9, p1 := [wide s0.latch.start] }) := by
  rw [execDfree, graceOp_released h hr, if_pos hfull]

end
end

/-- Settles O38: each instruction goes on once its stores are complete, and the two that may wait by whether the generation is complete and
whether the ring has room. -/
theorem graceInstructions : Obligations.GraceInstructions := by
  unfold Obligations.GraceInstructions
  refine ⟨fun s t s0 t0 d a b h hr => ⟨?qidle, ?gpstart, ?dfreeRoom, ?dfreeFull⟩, fun s t s0 t0 h hr => execQpass_released h hr,
    fun s t d a h => ⟨?qwake, ?future, ?complete, ?waits⟩⟩
  case qidle => rw [exec_qidle, execQidle, graceOp_released h hr]
  case gpstart =>
    rw [exec_gpstart, execGpstart, graceOp_released h hr]
    rfl
  case dfreeRoom => exact fun hroom => execDfree_room h hr d a b hroom
  case dfreeFull => exact fun hfull => execDfree_full h hr d a b hfull
  case qwake => rw [exec_qwake, execQwake, graceOp_unreleased h]
  case future => exact fun hg => execGpwait_future h d hg
  case complete => exact fun hg hc => (execGpwait_open h d hg).trans (congrArg _ (if_pos hc))
  case waits => exact fun hg hc => (execGpwait_open h d hg).trans (congrArg _ (if_neg (Nat.not_le.2 hc)))

end Sys2Proof.Machine
end

section
/-! The statement on the tokens of commit groups and copies (R152, R165, R172 to R174, R323, R329). -/

namespace Sys2Proof.Machine

/-! ### Tokens (R152, R165) -/

theorem tokenBad_iff {count tok : BitVec 16} : tokenBad count tok = true ↔ 1 ≤ (tok - count).toNat ∧ (tok - count).toNat ≤ 2 ^ 15 - 1 :=
  decide_eq_true_iff

theorem tokenDone_iff {count done tok : BitVec 16} : tokenDone count done tok = true ↔ (count - done).toNat ≤ (count - tok).toNat :=
  decide_eq_true_iff

/-- The newest token and those up to 2^15 behind it are issued ones. -/
theorem not_tokenBad {count tok : BitVec 16} (h : tok = count ∨ 2 ^ 15 ≤ (tok - count).toNat) : ¬tokenBad count tok = true := by
  rw [tokenBad_iff]
  rintro ⟨hlow, hhigh⟩
  obtain rfl | hbehind := h
  · rw [BitVec.sub_self] at hlow
    exact absurd hlow (by decide)
  · omega

/-- What answers by whether the group or copy of a token is complete. -/
theorem next_of_tokenDone {count done tok : BitVec 16} {r : Result} {x y : State}
    (h : r = .next (if tokenDone count done tok then x else y)) :
    ((count - done).toNat ≤ (count - tok).toNat → r = .next x) ∧ ((count - tok).toNat < (count - done).toNat → r = .next y) :=
  ⟨fun hdone => h.trans (congrArg _ (if_pos (tokenDone_iff.2 hdone))),
    fun hopen => h.trans (congrArg _ (if_neg (mt tokenDone_iff.1 (Nat.not_le.2 hopen))))⟩

/-! ### Commit groups (R152, R323) -/

section
variable {s : State} {t : Team} (h : OnceReady s t .matrix)
include h

/-- `mcommit` with fewer than 64 groups open puts the team's operations that are in none into the next group, and writes its token. -/
theorem execMcommit_opens (d : Nat) (hroom : t.issued - t.drained ≠ 64) : execMcommit d s =
    .next ((({ s with cores := s.cores.map (fun k => (k.1, { k.2 with
        ops := k.2.ops.map (fun o => if o.team = t.uid ∧ o.group = none then { o with group := some (t.issued + 1) } else o) })) } : State).completeWith
      (fun t' => ({ t' with issued := t.issued + 1 } : Team).setS d ((t.issued + 1).zeroExtend 64))).advanceGroups t.uid 64) := by
  have hroom' : (t.issued - t.drained).toNat ≠ groupLimit := fun hlimit => hroom (BitVec.eq_of_toNat_eq hlimit)
  rw [execMcommit, once_body h (.inl rfl), if_neg hroom']
  rfl

/-- `mcommit` waits where 64 groups are open. -/
theorem execMcommit_waits (d : Nat) (hfull : t.issued - t.drained = 64) :
    execMcommit d s = .next (s.waitWith t { WaitRec.idle with kind := 6 }) := by
  have hfull' : (t.issued - t.drained).toNat = groupLimit := congrArg BitVec.toNat hfull
  rw [execMcommit, once_body h (.inl rfl), if_pos hfull']

/-- `mwait` on a token that has not been issued faults. -/
theorem execMwait_bad {a : Nat} (hbad : tokenBad t.issued ((t.s a).setWidth 16) = true) :
    execMwait a s = .next (s.onceFault t 0x18 7 0) := by
  rw [execMwait, once_body h (.inl rfl), if_pos hbad, State.tileFault]

/-- `mwait` on an issued token that covers no fault acquires when its group is complete, and waits for that otherwise. -/
theorem execMwait_issued {a : Nat} (hissued : ¬tokenBad t.issued ((t.s a).setWidth 16) = true)
    (hdue : s.reportDue t (fun _ o => o.group.any (tokenCovers ((t.s a).setWidth 16))) (fun _ => false) = none) :
    execMwait a s = .next (if tokenDone t.issued t.drained ((t.s a).setWidth 16) then s.acquire.completeWith id
      else s.waitWith t { WaitRec.idle with kind := 7, param := ((t.s a).setWidth 16 : BitVec 16).toNat }) := by
  rw [execMwait, once_body h (.inl rfl), if_neg hissued, hdue]
  rfl

end

/-! ### Copies (R165, R172, R173, R329) -/

section
variable {s : State} {t : Team} (h : OnceReady s t .copy) {a : Nat}
include h

/-- An instruction on a copy token that has not been issued faults. -/
theorem copyTokenOp_bad (hbad : tokenBad t.copyIssued ((t.s a).setWidth 16) = true) (k : Team → BitVec 16 → State) :
    s.copyTokenOp a k = .next (s.onceFault t 0x18 7 0) := by
  rw [State.copyTokenOp, once_body h (.inl rfl), if_pos hbad, State.tileFault]

variable (hissued : ¬tokenBad t.copyIssued ((t.s a).setWidth 16) = true)
include hissued

theorem copyTokenOp_issued (k : Team → BitVec 16 → State) : s.copyTokenOp a k = .next (k t ((t.s a).setWidth 16)) := by
  rw [State.copyTokenOp, once_body h (.inl rfl), if_neg hissued]

/-- `cwait` on an issued token that covers no fault acquires when its copy is complete, and the covered copies leave the queue; it waits
for that otherwise. -/
theorem execCwait_issued
    (hdue : s.reportDue t (fun _ _ => false) (fun y => tokenCovers ((t.s a).setWidth 16) y.token) = none) :
    execCwait a s = .next (if tokenDone t.copyIssued t.copyDone ((t.s a).setWidth 16) then
        (s.setCore s.cur.1 { s.core s.cur.1 with copies := (s.core s.cur.1).copies.filter (fun y =>
          !(y.team == t.uid && y.complete && tokenCovers ((t.s a).setWidth 16) y.token)) }).acquire.completeWith id
      else s.waitWith t { WaitRec.idle with kind := 5, param := ((t.s a).setWidth 16 : BitVec 16).toNat }) := by
  rw [execCwait, copyTokenOp_issued h hissued, hdue]
  rfl

/-- `ccancel` of a copy that has left the queue does nothing. -/
theorem execCcancel_gone (hnone : s.copyOf t ((t.s a).setWidth 16) = none) : execCcancel a s = .next (s.complete t) := by
  rw [execCcancel, copyTokenOp_issued h hissued, hnone]

/-- `ccancel` of a copy in the queue cancels it where it is not complete. -/
theorem execCcancel_queued {z : Copy} (hz : s.copyOf t ((t.s a).setWidth 16) = some z) :
    execCcancel a s = .next (if z.complete then s.complete t else
      ((s.modCopy s.cur.1 z.id (fun y => { y with cancelled := true })).advanceCopies s.cur.1 t.uid 32).completeWith id) := by
  rw [execCcancel, copyTokenOp_issued h hissued, hz]
  rfl

end

/-- Settles O52: a token is one that was never issued, one whose group or copy is complete, or one that is waited for. -/
theorem tokens : Obligations.Tokens := by
  unfold Obligations.Tokens
  refine ⟨fun s t d h => ⟨fun hroom => execMcommit_opens h d hroom, fun hfull => execMcommit_waits h d hfull,
    fun hlow hhigh => execMwait_bad h (tokenBad_iff.2 ⟨hlow, hhigh⟩), fun hissued hdue => ?mwait⟩,
    fun s t d a h => ⟨fun hlow hhigh => ?bad, fun hissued => ⟨fun hdue => ?cwait, ?cstatMap, ?cstat, ?gone, ?complete, ?cancels⟩⟩⟩
  case mwait => exact next_of_tokenDone (execMwait_issued h (not_tokenBad hissued) hdue)
  case bad =>
    have hbad := copyTokenOp_bad h (tokenBad_iff.2 ⟨hlow, hhigh⟩)
    exact ⟨(exec_cwait s).trans (hbad _), (exec_cstatMap s).trans (hbad _), (exec_cstat s).trans (hbad _), (exec_ccancel s).trans (hbad _)⟩
  case cwait => exact next_of_tokenDone (execCwait_issued h (not_tokenBad hissued) hdue)
  case cstatMap => exact (exec_cstatMap s).trans <| copyTokenOp_issued h (not_tokenBad hissued) _
  case cstat => exact (exec_cstat s).trans <| copyTokenOp_issued h (not_tokenBad hissued) _
  case gone => exact fun hnone => execCcancel_gone h (not_tokenBad hissued) hnone
  case complete => exact fun z hz hc => (execCcancel_queued h (not_tokenBad hissued) hz).trans (congrArg _ (if_pos hc))
  case cancels =>
    exact fun z hz hc => (execCcancel_queued h (not_tokenBad hissued) hz).trans (congrArg _ (if_neg (Bool.not_eq_true _ ▸ hc)))

end Sys2Proof.Machine
end

section
/-! What a fault in flight leaves of the parts of an operation and of their entries (R153). -/

namespace Sys2Proof.Machine

/-- The operation has stopped at a fault. -/
def MatOp.Stopped (o : MatOp) (f : FlightFault) : Prop := o.fault = some f ∧ o.anvils = 0 ∧ o.running = false

/-- An operation stops at a fault, with its anvils free and no line pinned. -/
def MatOp.stop (f : FlightFault) (o : MatOp) : MatOp := { o with fault := some f, anvils := 0, running := false, pins := [] }

/-- The entry bears the mark of a fault. -/
def TileEntry.Marked (x : TileEntry) (f : FlightFault) : Prop := x.faulted = true ∧ x.fault = f.code

/-- One part stops at a fault, and its entries are marked. -/
def State.stopPart (f : FlightFault) (s : State) (e : (Nat × Core) × MatOp) : State :=
  (s.modOp e.1.1 e.2.id (MatOp.stop f)).modTiles e.1.1 (e.2.phys e.1.2)
    (fun y => { y with faulted := true, fault := f.code, kstep := e.2.kstep })

/-- The operations of an issue, each with its core. -/
def State.opsOf (s : State) (issue : Nat) : List ((Nat × Core) × MatOp) :=
  s.cores.flatMap (fun k => (k.2.ops.filter (fun x => x.issue == issue)).map (fun x => (k, x)))

theorem faultOp_eq_foldl (s : State) (o : MatOp) (f : FlightFault) : s.faultOp o f = (s.opsOf o.issue).foldl (State.stopPart f) s := by
  simp only [State.faultOp, State.opsOf, List.foldl_flatMap, List.foldl_map]
  rfl

/-- A core with an operation is one of those that the state lists. -/
theorem mem_opsOf {s : State} {c issue : Nat} {x : MatOp} (hx : x ∈ (s.core c).ops) (hissue : x.issue = issue) :
    ((c, s.core c), x) ∈ s.opsOf issue := by
  have hlisted : (c, s.core c) ∈ s.cores := by
    cases hc : tabGet? s.cores c with
    | none =>
      have hreset : s.core c = Core.reset c := by rw [State.core, tabGet, hc, Option.getD_none]
      rw [hreset] at hx
      exact absurd hx List.not_mem_nil
    | some k =>
      have hk : s.core c = k := by rw [State.core, tabGet, hc, Option.getD_some]
      exact hk ▸ mem_of_tabGet? hc
  exact List.mem_flatMap.2 ⟨_, hlisted, List.mem_map_of_mem (List.mem_filter.2 ⟨hx, beq_iff_eq.2 hissue⟩)⟩

/-! ### One part -/

theorem core_modOp (s : State) (c id : Nat) (f : MatOp → MatOp) :
    (s.modOp c id f).core c = { s.core c with ops := (s.core c).ops.map (fun o => if o.id = id then f o else o) } :=
  core_setCore ..

theorem core_modTiles_other (s : State) {c c' : Nat} (es : List Nat) (f : TileEntry → TileEntry) (h : c' ≠ c) :
    (s.modTiles c es f).core c' = s.core c' :=
  foldl_view (fun s : State => s.core c') (fun s _ => core_setCore_other s _ h) es s

theorem core_stopPart_other (f : FlightFault) (s : State) {e : (Nat × Core) × MatOp} {c : Nat} (h : e.1.1 ≠ c) :
    (s.stopPart f e).core c = s.core c :=
  (core_modTiles_other _ _ _ h.symm).trans (core_setCore_other s _ h.symm)

/-- Each operation stays one of its identity and issue; those of the part's identity stop, and one that has stopped stays so. -/
theorem mem_ops_stopPart {f : FlightFault} {s : State} {e : (Nat × Core) × MatOp} {c : Nat} {z : MatOp}
    (hz : z ∈ ((s.stopPart f e).core c).ops) : ∃ y ∈ (s.core c).ops, z.id = y.id ∧ z.issue = y.issue ∧
      (y.Stopped f ∨ e.1.1 = c ∧ e.2.id = y.id → z.Stopped f) := by
  by_cases hc : e.1.1 = c
  · subst hc
    rw [State.stopPart, ops_modTiles, core_modOp] at hz
    obtain ⟨y, hy, rfl⟩ := List.mem_map.1 hz
    refine ⟨y, hy, ?_⟩
    by_cases hid : y.id = e.2.id
    · rw [if_pos hid]
      exact ⟨rfl, rfl, fun _ => ⟨rfl, rfl, rfl⟩⟩
    · rw [if_neg hid]
      exact ⟨rfl, rfl, fun h => h.resolve_right (fun h => hid h.2.symm)⟩
  · rw [core_stopPart_other f s hc] at hz
    exact ⟨z, hz, rfl, rfl, fun h => h.resolve_right (fun h => hc h.1)⟩

theorem tile_stopPart (f : FlightFault) (s : State) {e : (Nat × Core) × MatOp} {c j : Nat}
    (h : ((s.core c).tile j).Marked f ∨ e.1.1 = c ∧ j ∈ e.2.phys e.1.2) : (((s.stopPart f e).core c).tile j).Marked f := by
  by_cases hc : e.1.1 = c
  · subst hc
    refine tile_modTiles (P := fun x => x.Marked f) (fun _ => ⟨rfl, rfl⟩) _ _ (h.symm.imp And.right fun hmarked => ?_)
    rw [core_modOp]
    exact hmarked
  · rw [core_stopPart_other f s hc]
    exact h.resolve_right (fun h => hc h.1)

/-! ### All parts -/

theorem mem_ops_stopParts {f : FlightFault} {l : List ((Nat × Core) × MatOp)} {s : State} {c : Nat} {z : MatOp}
    (hz : z ∈ ((l.foldl (State.stopPart f) s).core c).ops) : ∃ y ∈ (s.core c).ops, z.id = y.id ∧ z.issue = y.issue ∧
      (y.Stopped f ∨ (∃ e ∈ l, e.1.1 = c ∧ e.2.id = y.id) → z.Stopped f) := by
  induction l generalizing s with
  | nil => exact ⟨z, hz, rfl, rfl, fun h => h.resolve_right (by simp)⟩
  | cons e l ih =>
    obtain ⟨y, hy, hid, hissue, hlater⟩ := ih hz
    obtain ⟨x, hx, hid', hissue', hnow⟩ := mem_ops_stopPart hy
    refine ⟨x, hx, hid.trans hid', hissue.trans hissue', fun h => hlater ?_⟩
    simp only [List.exists_mem_cons_iff, ← or_assoc, hid'] at h ⊢
    exact h.imp_left hnow

theorem tile_stopParts {f : FlightFault} {l : List ((Nat × Core) × MatOp)} {s : State} {c j : Nat}
    (h : ((s.core c).tile j).Marked f ∨ ∃ e ∈ l, e.1.1 = c ∧ j ∈ e.2.phys e.1.2) :
    (((l.foldl (State.stopPart f) s).core c).tile j).Marked f := by
  induction l generalizing s with
  | nil => exact h.resolve_right (by simp)
  | cons e l ih =>
    rw [List.exists_mem_cons_iff, ← or_assoc] at h
    exact ih (h.imp_left (tile_stopPart f s))

/-- A fault stops every part of its operation (R153). -/
theorem stopped_of_mem_faultOp {s : State} {o x : MatOp} {f : FlightFault} {c : Nat} (hx : x ∈ ((s.faultOp o f).core c).ops)
    (hissue : x.issue = o.issue) : x.Stopped f := by
  rw [faultOp_eq_foldl] at hx
  obtain ⟨y, hy, -, hissue', hstops⟩ := mem_ops_stopParts hx
  exact hstops (.inr ⟨_, mem_opsOf hy (hissue'.symm.trans hissue), rfl, rfl⟩)

/-- A fault marks the entries of every part of its operation (R153). -/
theorem tile_faultOp {s : State} {o x : MatOp} {f : FlightFault} {c j : Nat} (hx : x ∈ (s.core c).ops) (hissue : x.issue = o.issue)
    (hj : j ∈ x.phys (s.core c)) : (((s.faultOp o f).core c).tile j).Marked f := by
  rw [faultOp_eq_foldl]
  exact tile_stopParts (.inr ⟨_, mem_opsOf hx hissue, rfl, hj⟩)

end Sys2Proof.Machine
end

section
/-! The statement on the steps of matrix operations (R148 to R157, R207, R208, R324, R327). -/

namespace Sys2Proof.Machine

/-! ### A k-step of an operation (R148, R151, R155) -/

/-- At a k-step boundary, the parts stop where the block of one of them has. -/
theorem stopParts_eq (s : State) (ps : List Part) : s.stopParts ps = if ∀ q ∈ ps, q.blk.engines = true then s
    else s.modParts ps (fun o => { o with anvils := 0, running := false, pins := [] }) :=
  if_congr List.all_eq_true rfl rfl

theorem takeParts_none {s : State} {ps : List Part} {q : Part} (hq : q ∈ ps) (hnone : (s.core q.core).takeAnvils q.op.shape = none) :
    s.takeParts ps = none := by
  refine if_neg (fun hall => ?_)
  have hfound := List.all_eq_true.1 hall q hq
  rw [hnone] at hfound
  exact absurd hfound (by decide)

section
variable {s : State} {op c : Nat} {o : MatOp} {p : Part} {ps : List Part} (hop : s.findOp op = some (c, o)) (hkind : o.kind = .mma)
  (hfault : o.fault = none) (hparts : s.partsOf o.issue = p :: ps)
include hop hkind hfault hparts

/-- A stopped operation whose block has stopped, or that finds no free anvils, takes no k-step. -/
theorem execKstepComplete_stays (hrun : o.running = false)
    (hheld : ∃ q ∈ p :: ps, q.blk.engines = false ∨ (s.core q.core).takeAnvils q.op.shape = none) :
    execKstepComplete op s = .next s := by
  have hmma : ¬(o.kind ≠ .mma ∨ o.fault.isSome = true) := by simp [hkind, hfault]
  simp only [execKstepComplete, hop, hparts, if_neg hmma, hrun, Bool.false_eq_true, if_false]
  obtain ⟨q, hq, hoff | hnone⟩ := hheld
  · rw [if_neg (fun hall => absurd (hoff.symm.trans (List.all_eq_true.1 hall q hq)) (by decide))]
  · rw [takeParts_none hq hnone]
    exact congrArg _ (ite_self _)

/-- An operation that runs, or that takes free anvils, takes its next k-step. -/
theorem execKstepComplete_goes {s0 : State} (hgo : o.running = true ∧ s0 = s ∨
      o.running = false ∧ (∀ q ∈ p :: ps, q.blk.engines = true) ∧ s.takeParts (p :: ps) = some s0) :
    execKstepComplete op s = .next (s0.kstepAll (p :: ps) p) := by
  have hmma : ¬(o.kind ≠ .mma ∨ o.fault.isSome = true) := by simp [hkind, hfault]
  obtain ⟨hrun, rfl⟩ | ⟨hrun, hengines, htake⟩ := hgo
  · simp only [execKstepComplete, hop, hparts, if_neg hmma, hrun, if_true]
  · simp only [execKstepComplete, hop, hparts, if_neg hmma, hrun, Bool.false_eq_true, if_false, List.all_eq_true.2 hengines, if_true, htake]

end

section
variable {s s1 : State} {p : Part} {ps : List Part} (hclean : ∀ q ∈ ps, s.accPoison q = none)
include hclean

theorem kstepAll_fault {f : FlightFault} (hfetch : s.kstepFetch p = (.error (some f), s1)) : s.kstepAll ps p = s1.faultOp p.op f := by
  rw [State.kstepAll, List.findSome?_eq_none_iff.2 hclean, hfetch]

theorem kstepAll_held (hfetch : s.kstepFetch p = (.error none, s1)) : s.kstepAll ps p = s1.stopParts ps := by
  rw [State.kstepAll, List.findSome?_eq_none_iff.2 hclean, hfetch]

theorem kstepAll_fetched {rows cols : FetchedRows} (hfetch : s.kstepFetch p = (.ok (rows, cols), s1)) : s.kstepAll ps p =
    (if p.op.kstep + 1 = p.op.ksteps then
      ps.foldl (fun s q => s.finishOp q.core q.op) (ps.foldl (State.kstepPart rows.rows cols.rows) s1)
     else (ps.foldl (State.kstepPart rows.rows cols.rows) s1).stopParts ps) := by
  rw [State.kstepAll, List.findSome?_eq_none_iff.2 hclean, hfetch]

end

/-- Without scale bytes, a k-step that has read its rows and columns goes on, unless their lines would fill a slice (R148). -/
theorem kstepFetch_unscaled {s s1 s2 : State} {p : Part} {rows cols : FetchedRows} {la lb n : Nat}
    (hla : la = p.op.ks * elemBits p.op.cls p.op.fmtA / 8) (hlb : lb = p.op.ks * elemBits p.op.cls p.op.fmtB / 8)
    (hn : n = if p.op.gang then 128 * p.blk.gang else p.op.dims.2) (hscale : p.op.blkLen = 0)
    (hrows : s.fetchRows p.core p.blk p.op.pins p.op.srcA p.op.strideA (p.op.ksteps * la) (p.op.kstep * la) la 0 p.op.dims.1 =
      (.ok rows, s1))
    (hcols : s1.fetchRows p.core p.blk rows.ls p.op.srcB p.op.strideB (p.op.ksteps * lb) (p.op.kstep * lb) lb 0 n = (.ok cols, s2)) :
    (s.kstepFetch p).1 = .ok (rows, cols) ∨ (s.kstepFetch p).1 = .error none := by
  have hpoison (ic : Nat) (ib : Block) (base n : Nat) : s.scalePoison ic ib p.op base n = none := if_pos (.inl hscale)
  have hbusy (ic : Nat) (ib : Block) (n : Nat) : s.scalesBusy ic ib p.op n = false := by simp [State.scalesBusy, hscale]
  simp only [State.kstepFetch, hpoison, hbusy, Option.or_none, ← hla, ← hlb, ← hn, hrows, hcols, apply_ite Prod.fst]
  exact (ite_eq_or_eq ..).symm

/-! ### One output element (R150) -/

/-- An accumulator that is no NaN takes a sum with one rounding. -/
theorem accStep_value {f : Fmt} {c : Nat} (rflush : Bool) (v : FVal) (hc : (f.dec c).isNan = false) :
    accStep f rflush c (some v) = f.finish .rne rflush (addVal .rne (f.dec c) v) := by
  unfold accStep
  cases hx : f.dec c with
  | nan sig => rw [hx] at hc; cases hc
  | inf neg => rfl
  | fin neg m e => rfl

section
variable {cls : Nat} (hcls : 2 ≤ cls) (rflush : Bool) {a b : List FVal} (c : Nat)
include hcls

theorem elemStep_narrow : elemStep cls rflush a b c = accStep f32 rflush c (dotExact a b) := if_neg (Nat.not_lt.2 hcls)

theorem elemStep_invalid (h : dotExact a b = none) : elemStep cls rflush a b c = f32.nanRes true := by
  rw [elemStep_narrow hcls, h, accStep]

theorem elemStep_sum {v : FVal} (h : dotExact a b = some v) (hc : (f32.dec c).isNan = false) :
    elemStep cls rflush a b c = f32.finish .rne rflush (addVal .rne (f32.dec c) v) := by
  rw [elemStep_narrow hcls, h, accStep_value rflush v hc]

end

theorem eq_nan_of_isNan {x : FVal} (h : x.isNan = true) : ∃ sig, x = .nan sig := by
  cases x with
  | nan sig => exact ⟨sig, rfl⟩
  | inf neg => cases h
  | fin neg m e => cases h

theorem prodVal_nan {x y : FVal} (h : x.isNan = true ∨ y.isNan = true) : prodVal x y = none := by
  obtain h | h := h
  · obtain ⟨sig, rfl⟩ := eq_nan_of_isNan h
    rfl
  · obtain ⟨sig, rfl⟩ := eq_nan_of_isNan h
    cases x <;> rfl

theorem dotExact_nan {x y : FVal} (h : x.isNan = true ∨ y.isNan = true) : dotExact [x] [y] = none := by
  simp [dotExact, prodVal_nan h, sumVal]

/-! ### Drains (R157, R324) -/

section
variable {s : State} {op c : Nat} {o : MatOp} {add : Bool} (hop : s.findOp op = some (c, o)) (hkind : o.kind = .drain add)
include hop hkind

theorem execDrainComplete_writes (hfree : s.engineWait c o.team o = none) :
    let r := s.drainUnits c (o.phys (s.core c)) o add 0 o.dstPa
    execDrainComplete op s = .next (((if add then r.1 else r.1.sectorClears 8 o.dstPa).orSticky o.team r.2).finishOp c o) := by
  simp only [execDrainComplete, hop, hkind, hfree]

theorem execDrainComplete_waits {s1 : State} (hheld : s.engineWait c o.team o = some s1) : execDrainComplete op s = .next s1 := by
  simp only [execDrainComplete, hop, hkind, hheld]

end

/-- A unit of a drain goes to its place with the bytes of the tile. -/
theorem drainUnits_cons {s : State} {c : Nat} {phys : List Nat} {o : MatOp} {u pa : Nat} (t : List Nat)
    (hkept : s.unitDropped c phys false o.dstPa u pa = false) :
    let x := leRead (memGet s.mem) (tileAddr c phys (8 * u)) 8
    let r := (s.engineStore c o.team pa (leBytes 8 x)).drainUnits c phys o false (u + 1) t
    s.drainUnits c phys o false u (pa :: t) = (r.1, 0 ||| r.2) := by
  intro x r
  rw [State.drainUnits, if_neg (by simp [hkept])]
  rfl

/-! ### Quantising (R207, R208, R327) -/

/-- A `quant` that writes nothing leaves its fault pending; its entries are ready again, and its group may be complete. -/
def State.failQuant (s : State) (c : Nat) (o : MatOp) (f : FlightFault) : State :=
  ((s.modOp c o.id (fun o => { o with fault := some f })).modTiles c (o.phys (s.core c)) (fun x => { x with state := 2 })).advanceGroups
    o.team 64

section
variable {s : State} {op c : Nat} {o : MatOp} {b : Block} {bmaj : Bool} (hop : s.findOp op = some (c, o)) (hkind : o.kind = .quant bmaj)
  (hb : (s.core c).blockUid o.blk = some b) (hfault : o.fault = none)
include hop hkind hb hfault

/-- A `quant` whose source has been poisoned since its start leaves that fault pending (log 111). -/
theorem execQuantComplete_poisoned {sec : Nat} (hsec : s.tilePoison c (o.phys (s.core c)) = some sec) :
    execQuantComplete op s = .next (s.failQuant c o ⟨0x0B, 0, BitVec.ofNat 64 (sec * 32)⟩) := by
  simp only [execQuantComplete, hop, hkind, hb, hfault, hsec, Option.isSome_none, Option.isSome_some, Bool.false_eq_true, if_false, if_true]
  rfl

variable (hclean : s.tilePoison c (o.phys (s.core c)) = none)
include hclean

/-- A `quant` that raises an exception its mode traps leaves it pending. -/
theorem execQuantComplete_trapped (htrap : (s.quantRows c o).2 &&& o.fmtB.extractLsb' 16 5 ≠ 0) :
    execQuantComplete op s = .next (s.failQuant c o ⟨0x11, (s.quantRows c o).2.toNat, 0⟩) := by
  simp only [execQuantComplete, hop, hkind, hb, hfault, hclean, if_pos htrap, Option.isSome_none, Option.isSome_some, Bool.false_eq_true,
    if_false, if_true]
  rfl

variable (hquiet : (s.quantRows c o).2 &&& o.fmtB.extractLsb' 16 5 = 0)
include hquiet

theorem execQuantComplete_writes (hfree : s.engineWait c o.team o = none)
    (hscales : s.spBusy c b o.scaleDst (64 * (64 / blkLength o.blkLen)) = none) : execQuantComplete op s =
      .next (((s.quantWrite c b o bmaj (s.quantRows c o).1).orSticky o.team (s.quantRows c o).2).finishOp c o) := by
  simp only [execQuantComplete, hop, hkind, hb, hfault, hclean, if_neg (not_not.2 hquiet), hfree, hscales, Option.isSome_none,
    Bool.false_eq_true, if_false]

theorem execQuantComplete_waits {s1 : State} (hheld : s.engineWait c o.team o = some s1) : execQuantComplete op s = .next s1 := by
  simp only [execQuantComplete, hop, hkind, hb, hfault, hclean, if_neg (not_not.2 hquiet), hheld, Option.isSome_none, Bool.false_eq_true,
    if_false]

end

/-- A block with a NaN has the scale of a NaN, and codes of zero (R207). -/
theorem quantBlock_nan {f : NFmt} {mode : W32} {xs : List Nat} (h : (xs.map (f32.decIn (mode.getLsbD 5))).any FVal.isNan = true) :
    quantBlock f mode xs = (xs.map (fun _ => 0), 255, fInv) :=
  if_pos h

/-- Settles O54: a k-step by what holds it and what it fetches, an element by its exact sum, a drain and a `quant` by what holds their
destination and what they find. -/
theorem matrixSteps : Obligations.MatrixSteps := by
  unfold Obligations.MatrixSteps
  refine ⟨⟨fun s op c o p ps hop hkind hfault hparts => ?kstep, fun s p rows cols => rfl,
      fun s p rows cols s1 s2 hscale hrows hcols => kstepFetch_unscaled rfl rfl rfl hscale hrows hcols,
      fun s o f c => ⟨fun x hx hissue => stopped_of_mem_faultOp hx hissue, fun x hx hissue e he => tile_faultOp hx hissue he⟩⟩,
    fun cls rflush a b c hcls => ⟨fun h => elemStep_invalid hcls rflush c h, fun v h hc => elemStep_sum hcls rflush c h hc,
      fun x y ha hb hnan => ?nan⟩,
    fun s op c o add hop hkind => ⟨fun hfree => execDrainComplete_writes hop hkind hfree, fun s1 hheld => execDrainComplete_waits hop hkind hheld⟩,
    fun s c phys o u pa t hkept => drainUnits_cons t hkept,
    fun s op c o b bmaj hop hkind hb hfault => ⟨fun sec hsec => execQuantComplete_poisoned hop hkind hb hfault hsec,
      fun hclean htrap => execQuantComplete_trapped hop hkind hb hfault hclean htrap,
      fun hclean hquiet => ⟨fun hfree hscales => execQuantComplete_writes hop hkind hb hfault hclean hquiet hfree hscales,
        fun s1 hheld => execQuantComplete_waits hop hkind hb hfault hclean hquiet hheld⟩⟩,
    fun f mode xs h => quantBlock_nan h⟩
  case kstep =>
    refine ⟨fun hrun hheld => execKstepComplete_stays hop hkind hfault hparts hrun hheld, fun s0 hgo hclean => ?_⟩
    have hstep := execKstepComplete_goes hop hkind hfault hparts hgo
    refine ⟨fun f s1 hfetch => hstep.trans (congrArg _ (kstepAll_fault hclean hfetch)),
      fun s1 hfetch => hstep.trans (congrArg _ ((kstepAll_held hclean hfetch).trans (stopParts_eq ..))),
      fun rows cols s1 hfetch => hstep.trans (congrArg _ ((kstepAll_fetched hclean hfetch).trans ?_))⟩
    rw [stopParts_eq]
  case nan =>
    subst ha hb
    exact dotExact_nan hnan

end Sys2Proof.Machine
end

section
/-! What the end of boxes leaves of the copies of a core: those that are not complete stay as they are, without their boxes (R165, R171). -/

namespace Sys2Proof.Machine

/-! ### Copies advance (R165, R172) -/

theorem copies_setTile (s : State) (c e : Nat) (x : TileEntry) : ((s.setTile c e x).core c).copies = (s.core c).copies := by
  rw [State.setTile, core_setCore]

/-- A change of entries leaves the copies of their core. -/
theorem copies_modTiles (s : State) (c : Nat) (es : List Nat) (f : TileEntry → TileEntry) :
    ((s.modTiles c es f).core c).copies = (s.core c).copies :=
  foldl_view (fun s : State => (s.core c).copies) (fun s e => copies_setTile s c e _) es s

theorem copies_unmarkScatter (s : State) (c : Nat) (y : Copy) : ((s.unmarkScatter c y).core c).copies = (s.core c).copies := by
  unfold State.unmarkScatter
  dsimp only
  split
  · rfl
  · exact copies_modTiles ..

theorem copies_modTeam (s : State) (p : Nat × Nat) (f : Team → Team) (c : Nat) :
    ((s.modTeam p f).core c).copies = (s.core c).copies := by
  unfold State.modTeam
  split
  · rfl
  · exact setTeam_core_copies ..

theorem copies_modUid (s : State) (uid : Nat) (f : Team → Team) (c : Nat) : ((s.modUid uid f).core c).copies = (s.core c).copies := by
  unfold State.modUid
  split
  · exact copies_modTeam ..
  · rfl

theorem copies_modCopy (s : State) (c id : Nat) (f : Copy → Copy) :
    ((s.modCopy c id f).core c).copies = (s.core c).copies.map (fun y => if y.id = id then f y else y) := by
  rw [State.modCopy, core_setCore]

/-- A copy is complete, and its entry ready (R73, R165, R172). -/
def State.finishCopy (s : State) (c : Nat) (y : Copy) : State :=
  let s1 := s.modCopy c y.id (fun y => { y with complete := true })
  if y.scatter then (if y.cancelled then s1.unmarkScatter c y else s1)
  else s1.modTiles c ((y.entry? (s.core c)).toList) (fun x => { x with state := 2, faulted := false, fault := 0 })

theorem copies_finishCopy (s : State) (c : Nat) (y : Copy) : ((s.finishCopy c y).core c).copies =
    (s.core c).copies.map (fun z => if z.id = y.id then { z with complete := true } else z) := by
  refine Eq.trans ?_ (copies_modCopy s c y.id (fun z => { z with complete := true }))
  rw [State.finishCopy]
  split
  · split
    · exact copies_unmarkScatter ..
    · rfl
  · exact copies_modTiles ..

/-- The copies of a team do not advance, or the next one completes and the rest advance. -/
theorem advanceCopies_succ (s : State) (c uid n : Nat) : s.advanceCopies c uid (n + 1) = s ∨
    ∃ y, s.advanceCopies c uid (n + 1) =
      ((s.finishCopy c y).modUid uid (fun t => { t with copyDone := t.copyDone + 1 })).advanceCopies c uid n := by
  rw [State.advanceCopies]
  split
  · exact .inl rfl
  · split
    · exact .inl rfl
    next y _ => exact (ite_eq_or_eq ..).imp id (fun h => ⟨y, h⟩)

/-- A copy that is not complete is not the one that has just been finished. -/
theorem mem_copies_of_finishCopy {s : State} {c : Nat} {y z : Copy} (hz : z ∈ ((s.finishCopy c y).core c).copies)
    (hopen : z.complete = false) : z ∈ (s.core c).copies := by
  rw [copies_finishCopy] at hz
  obtain ⟨x, hx, rfl⟩ := List.mem_map.1 hz
  split at hopen
  · cases hopen
  next hid => rwa [if_neg hid]

/-- A copy that is not complete after the copies of a team have advanced was there before, the same. -/
theorem mem_copies_of_advanceCopies {s : State} {c uid n : Nat} {z : Copy} (hz : z ∈ ((s.advanceCopies c uid n).core c).copies)
    (hopen : z.complete = false) : z ∈ (s.core c).copies := by
  induction n generalizing s with
  | zero => exact hz
  | succ n ih =>
    obtain hstay | ⟨y, hnext⟩ := advanceCopies_succ s c uid n
    · rwa [hstay] at hz
    · rw [hnext] at hz
      have hfinished := ih hz
      rw [copies_modUid] at hfinished
      exact mem_copies_of_finishCopy hfinished hopen

theorem mem_copies_of_foldl_advanceCopies {s : State} {c n : Nat} {us : List Nat} {z : Copy}
    (hz : z ∈ ((us.foldl (fun s u => s.advanceCopies c u n) s).core c).copies) (hopen : z.complete = false) : z ∈ (s.core c).copies := by
  induction us generalizing s with
  | nil => exact hz
  | cons u us ih => exact mem_copies_of_advanceCopies (ih hz) hopen

/-! ### Boxes are aborted (R171) -/

/-- When all boxes of a block end, none of its copies that is not complete keeps one. -/
theorem boxes_endBoxes_all {s : State} {c blk : Nat} {z : Copy} (hz : z ∈ ((s.endBoxes c blk (fun _ _ => true)).core c).copies)
    (hblk : z.blk = blk) (hopen : z.complete = false) : z.boxes = [] := by
  have hbefore := mem_copies_of_foldl_advanceCopies hz hopen
  rw [core_setCore] at hbefore
  obtain ⟨y, -, rfl⟩ := List.mem_map.1 hbefore
  by_cases h : y.blk = blk ∧ y.complete = false
  · simp [if_pos h]
  · rw [if_neg h] at hblk hopen
    exact absurd ⟨hblk, hopen⟩ h

/-- A frozen copy that is not complete has no box in flight. -/
theorem frozen_of_mem_freezeCopies {s : State} {c blk : Nat} {z : Copy} (hz : z ∈ ((s.freezeCopies c blk).core c).copies)
    (hblk : z.blk = blk) (hopen : z.complete = false) : z.boxes = [] ∧ z.frozen = true := by
  rw [State.freezeCopies, core_setCore] at hz
  obtain ⟨y, hy, rfl⟩ := List.mem_map.1 hz
  by_cases h : y.blk = blk ∧ y.complete = false
  · rw [if_pos h]
    obtain ⟨hblk, hopen⟩ := h
    exact ⟨boxes_endBoxes_all (z := y) hy hblk hopen, rfl⟩
  · rw [if_neg h] at hblk hopen
    exact absurd ⟨hblk, hopen⟩ h

theorem freezeCopies_mem (s : State) (c blk : Nat) : (s.freezeCopies c blk).mem = s.mem :=
  congrArg Prod.fst (endBoxes_shootdownView s c blk _)

end Sys2Proof.Machine
end

section
/-! The statement on the steps of a copy's boxes (R84, R159 to R172). -/

namespace Sys2Proof.Machine

/-! ### A box is issued (R165, R166, R168) -/

/-- The boxes of a core that its engine may issue, in queue order and ascending within a copy. -/
def State.readyBoxes (s : State) (core : Nat) : List (Copy × Block × Nat) :=
  (s.core core).copies.flatMap (fun y =>
    match (s.core core).blockUid y.blk with
    | some b => if s.copyRuns y b then y.openBoxes.map (fun n => (y, b, n)) else []
    | none => [])

theorem execBoxIssue_eq (core : Nat) (s : State) : execBoxIssue core s =
    .next (if 64 ≤ ((s.core core).copies.map (fun y => y.boxes.length)).sum then s else s.issueFirst core (s.readyBoxes core)) := rfl

/-- A core with no room for a box in flight, or with none to issue, issues none. -/
theorem execBoxIssue_idle {s : State} {core : Nat}
    (h : 64 ≤ ((s.core core).copies.map (fun y => y.boxes.length)).sum ∨ s.readyBoxes core = []) : execBoxIssue core s = .next s := by
  rw [execBoxIssue_eq]
  obtain hfull | hnone := h
  · rw [if_pos hfull]
  · rw [hnone, State.issueFirst, ite_self]

/-- A box whose destination nothing holds back and no poison spoils is in flight, and owns the lines of its destination. -/
theorem issueBox_issued {s s1 : State} {c n : Nat} {y : Copy} {b : Block} {pas : List Nat}
    (hunits : s.engineUnits c y.team (blockAgent c b) (Layout.of y.record).unit (y.boxDst c b n) = .ok pas s1)
    (hfree : s1.boxHeld c y (Layout.of y.record).unit pas = false) (hclean : s1.partSector (Layout.of y.record).unit pas = none) :
    s.issueBox c y b n = (false, s1.modCopy c y.id (fun z => { z with boxes := z.boxes ++
      [{ num := n, paused := false, owned := ownedLines pas 0, dst := pas, size := (Layout.of y.record).unit, pos := 0, src := [],
         page := none }] })) := by
  simp only [State.issueBox, hunits, hfree, hclean, Bool.false_eq_true, if_false]

/-- The first box that may go is issued where nothing holds it back. -/
theorem execBoxIssue_first {s s1 : State} {core n : Nat} {y : Copy} {b : Block} {rest : List (Copy × Block × Nat)}
    (hroom : ((s.core core).copies.map (fun y => y.boxes.length)).sum < 64) (hready : s.readyBoxes core = (y, b, n) :: rest)
    (hissued : s.issueBox core y b n = (false, s1)) : execBoxIssue core s = .next s1 := by
  rw [execBoxIssue_eq, if_neg (Nat.not_le.2 hroom), hready, State.issueFirst, hissued]

/-! ### A box in flight ends or pauses (R165 to R170) -/

section
variable {s : State} {copy box c : Nat} {y : Copy} {b : Block} {x : Box} (hlive : s.liveBox copy box = some (c, y, b, x))
include hlive

/-- A box that nothing stops has what is left of its bytes written, its bit set and its lines released. -/
theorem execBoxComplete_writes (hend : (s.runBox c y b x).stop = none) :
    let e := s.runBox c y b x
    let y1 : Copy := { y with bitmap := y.bitmap ||| BitVec.ofNat 64 (2 ^ box), boxes := y.boxes.filter (fun x => x.num != box) }
    let s2 := ((e.s.boxWrites c y x.dst x.pos (e.units.drop x.pos)).sectorClears x.size x.dst).modCopy c y.id (fun _ => y1)
    let s3 := if y.scatter ∨ y.fault.isSome then s2 else
      s2.modTiles c ((y.entry? (s.core c)).toList) (fun t => { t with kstep := y1.kstep })
    execBoxComplete copy box s = .next ((s3.traceCount c 6 none).advanceCopies c y.team 32) := by
  simp only [execBoxComplete, hlive, hend]
  rfl

theorem execBoxComplete_stopped (hstop : (s.runBox c y b x).stop ≠ none) : execBoxComplete copy box s = .next s := by
  obtain ⟨e, he⟩ := Option.ne_none_iff_exists'.1 hstop
  simp only [execBoxComplete, hlive, he]

/-- What a box has written before its fault stays. -/
theorem execBoxFault_faults {f : LaneFault} (hstop : (s.runBox c y b x).stop = some (.fault f)) : execBoxFault copy box s =
    .next ((((s.runBox c y b x).advance c y x (s.runBox c y b x).units.length).faultBox c y box f).advanceCopies c y.team 32) := by
  simp only [execBoxFault, hlive, hstop]
  rfl

/-- What a box has written before it pauses stays. -/
theorem execBoxPause_pauses (hstop : (s.runBox c y b x).stop = some .pause) : execBoxPause copy box s =
    .next (((s.runBox c y b x).advance c y x (s.runBox c y b x).units.length).modCopy c y.id (fun y =>
      { y with boxes := y.boxes.map (fun x => if x.num = box then { x with paused := true } else x) })) := by
  simp only [execBoxPause, hlive, hstop]

end

/-! ### The boxes of a stopped block are aborted (R171) -/

theorem execBoxAbort_found {s : State} {blk c pl : Nat} {b : Block} (hblk : s.findBlock blk = some (c, pl))
    (hb : tabGet? (s.core c).blocks pl = some b) :
    execBoxAbort blk s = .next (if b.engines then s else s.freezeCopies c blk) := by
  simp only [execBoxAbort, hblk, hb]

/-! ### What a gather reads and puts down (R84, R159, R161, R162, R168) -/

section
variable {s : State} {c uid : Nat} {a : Agent} {l : Layout} {r w : Nat} {p : BoxPos} (n : Nat)

/-- An element out of range is the fill value. -/
theorem gatherRow_fill (hout : l.elem r w = none) :
    let q := s.gatherRow c uid a l r (w + 1) p n
    s.gatherRow c uid a l r w p (n + 1) = (leBytes l.esize l.fill ++ q.1, q.2) := by
  simp only [State.gatherRow, hout]

/-- An element in range is what the engine reads at its tensor address. -/
theorem gatherRow_elem {s1 : State} {va : W64} {x : Nat} {q : BoxPos} (hin : l.elem r w = some va)
    (hread : s.boxRead c uid a p va l.esize = (.ok (x, q), s1)) :
    let t := s1.gatherRow c uid a l r (w + 1) q n
    s.gatherRow c uid a l r w p (n + 1) = (leBytes l.esize x ++ t.1, t.2) := by
  simp only [State.gatherRow, hin, hread]

end

/-- An element whose coordinate in the first dimension lies outside the tensor is out of range. -/
theorem elem_outside {l : Layout} {d : CopyDim} {rest : List CopyDim} {w : Nat} (r : Nat) (hdims : l.dims = d :: rest)
    (hout : d.origin + (w : Int) < 0 ∨ (d.extent : Int) ≤ d.origin + (w : Int)) : l.elem r w = none := by
  simp only [Layout.elem, hdims]
  exact if_neg (by omega)

section
variable {s : State} {c uid : Nat} {a : Agent} {p : BoxPos} {va : W64} (n : Nat)

/-- A line that the box has read is not read again. -/
theorem boxRead_again {l : SrcLine} (hl : p.src.find? (fun l => l.va == va.toNat / 128 * 128) = some l) :
    s.boxRead c uid a p va n = (.ok (l.data / 2 ^ (8 * (va.toNat % 128)) % 2 ^ (8 * n), p), s) := by
  simp only [State.boxRead, hl]

variable (hnew : ∀ l ∈ p.src, l.va ≠ va.toNat / 128 * 128)
include hnew

theorem find?_src_new : p.src.find? (fun l => l.va == va.toNat / 128 * 128) = none :=
  List.find?_eq_none.2 (fun l hl h => hnew l hl (beq_iff_eq.1 h))

/-- A box does not go on into another page while a shootdown of its address space is pending. -/
theorem boxRead_pauses (hleft : pageLeft p.page va = true) (hdown : s.downFor a.pasid = true) :
    s.boxRead c uid a p va n = (.error .pause, s) := by
  simp only [State.boxRead, find?_src_new hnew, hleft, hdown, Bool.and_self, if_true]

/-- A new line of memory is read as a whole, after what the core has pending on it, and kept. -/
theorem boxRead_line {q : Phys} {s1 : State} (hgo : pageLeft p.page va = false ∨ s.downFor a.pasid = false)
    (hacc : s.engineAccess c a va n .engineRead = (.ok q, s1)) (hmem : isWindow q.pa = false) :
    let line := va.toNat / 128 * 128
    let s2 := if regionOf q.pa = .pod then s1 else s1.drainLine c (q.pa / 128)
    let x := s2.engineLoad c uid (q.pa / 128 * 128) 128
    s.boxRead c uid a p va n = (.ok (x / 2 ^ (8 * (va.toNat % 128)) % 2 ^ (8 * n),
      ⟨⟨line, q.pa / 128 * 128, x⟩ :: p.src, s1.pageOf a va⟩), s2) := by
  have hstay : (pageLeft p.page va && s.downFor a.pasid) = false := Bool.and_eq_false_iff.2 hgo
  simp only [State.boxRead, find?_src_new hnew, hstay, hacc, hmem, Bool.false_eq_true, if_false]

end

/-! ### The swizzle (R161) -/

/-- The swizzle changes an offset by a multiple of 16 below its span. -/
theorem swizzle_eq_xor (l : Layout) (a : Nat) : ∃ k < 2 ^ l.bank, l.swizzle a = a ^^^ k * 16 := by
  by_cases h : l.bank = 0
  · exact ⟨0, Nat.two_pow_pos _, by rw [Layout.swizzle, if_pos h, Nat.zero_mul, Nat.xor_zero]⟩
  · exact ⟨a / (16 * 2 ^ l.bank) % 2 ^ l.bank, Nat.mod_lt _ (Nat.two_pow_pos _), by rw [Layout.swizzle, if_neg h]⟩

theorem swizzle_mod_16 (l : Layout) (a : Nat) : l.swizzle a % 16 = a % 16 := by
  obtain ⟨k, -, hk⟩ := swizzle_eq_xor l a
  rw [hk, show 16 = 2 ^ 4 from rfl, Nat.xor_mod_two_pow, Nat.mul_mod_left, Nat.xor_zero]

theorem swizzle_div_span (l : Layout) (a : Nat) : l.swizzle a / (16 * 2 ^ l.bank) = a / (16 * 2 ^ l.bank) := by
  obtain ⟨k, hlt, hk⟩ := swizzle_eq_xor l a
  have hbelow : k * 16 < 2 ^ (4 + l.bank) := by rw [pow_add]; omega
  rw [hk, show 16 * 2 ^ l.bank = 2 ^ (4 + l.bank) from (pow_add 2 4 l.bank).symm, Nat.xor_div_two_pow, Nat.div_eq_of_lt hbelow,
    Nat.xor_zero]

/-- Settles O55: a box's step by what stops it, a source line by whether the box has read it, an element by whether it is in range. -/
theorem boxSteps : Obligations.BoxSteps := by
  unfold Obligations.BoxSteps
  refine ⟨⟨fun s core => ⟨fun h => execBoxIssue_idle h,
      fun y b n rest pas s1 hroom hready hunits hfree hclean => execBoxIssue_first hroom hready (issueBox_issued hunits hfree hclean)⟩,
      fun s copy box c y b x hlive => ⟨fun hend => execBoxComplete_writes hlive hend, fun hstop => execBoxComplete_stopped hlive hstop,
        fun f hstop => execBoxFault_faults hlive hstop, fun hstop => execBoxPause_pauses hlive hstop⟩,
      fun s blk c pl b hblk hb => ⟨fun hruns => ?runs, fun hstops => ?stops⟩⟩,
    fun s c uid a l r w p n hout => gatherRow_fill n hout,
    fun s c uid a l r w p n va x q s1 hin hread => gatherRow_elem n hin hread,
    fun s c uid a p va n q s1 => ⟨fun l hl => boxRead_again n hl, fun hnew => ⟨fun hleft hdown => boxRead_pauses n hnew hleft hdown,
      fun hgo hacc hmem => boxRead_line n hnew hgo hacc hmem⟩⟩,
    fun l d rest r w hdims hout => elem_outside r hdims hout,
    fun l a _ => ⟨(swizzle_mod_16 l a).symm, (swizzle_div_span l a).symm⟩⟩
  case runs => exact (execBoxAbort_found hblk hb).trans (congrArg _ (if_pos hruns))
  case stops =>
    exact ⟨s.freezeCopies c blk, (execBoxAbort_found hblk hb).trans (congrArg _ (if_neg (Bool.not_eq_true _ ▸ hstops))),
      freezeCopies_mem s c blk, fun y hy => frozen_of_mem_freezeCopies hy⟩

end Sys2Proof.Machine
end

section
/-! The statements on traps and signals: what taking a fault does (R175, R401, R402), and the return from a signal handler (R186,
R188). -/

namespace Sys2Proof.Machine

/-! ### A fault parks its team (R175, R179, R401, R402) -/

/-- The team in place p as `parkAt` leaves it: parked at a PC, with its record. -/
def State.parkedTeam (s : State) (p : Nat × Nat) (t : Team) (pc : W57) (f : FaultInfo) : Team :=
  { t with parked := true, yielded := false, record := s.recordFor p t pc f, stepArm := t.stepDue && f.code != 0x2A,
           stepDue := t.stepDue && f.code != 0x2A, marked := if pc = t.pc then t.marked else none,
           markers := none, heldSince := none, qsDue := false, pc := pc, cyclesReady := 0, wait := { t.wait.kept with since := s.time } }

section
variable (s : State) {p : Nat × Nat} (t : Team) (pc : W57) (f : FaultInfo)

/-- A supervisor that parks posts a mailbox record. -/
theorem parkAt_supervisor (h : p.2 = 0) : ∃ r, s.parkAt p t pc f =
    { s.setTeam p (s.parkedTeam p t pc f) with seq := s.seq + 1, mailOut := s.mailOut ++ [r] } :=
  ⟨_, if_pos h⟩

/-- Any other team enters the replay queue of its core. -/
theorem parkAt_other (h : p.2 ≠ 0) : s.parkAt p t pc f =
    ({ s.setTeam p (s.parkedTeam p t pc f) with seq := s.seq + 1 } : State).setCore p.1
      { (s.setTeam p (s.parkedTeam p t pc f)).core p.1 with replay := (s.core p.1).replay ++ [⟨s.seq + 1, p.2, false⟩] } := by
  rw [← setTeam_core_replay s p (s.parkedTeam p t pc f) p.1]
  exact if_neg h

/-- Of the teams, parking one changes that one alone. -/
theorem team?_parkAt (q : Nat × Nat) : (s.parkAt p t pc f).team? q = (s.setTeam p (s.parkedTeam p t pc f)).team? q := by
  by_cases h : p.2 = 0
  · obtain ⟨r, hr⟩ := parkAt_supervisor s t pc f h
    rw [hr]
    rfl
  · rw [parkAt_other s t pc f h]
    exact team?_setCore_of_teams { s.setTeam p (s.parkedTeam p t pc f) with seq := s.seq + 1 } (by rfl) q

theorem parkAt_seq : (s.parkAt p t pc f).seq = s.seq + 1 := by
  by_cases h : p.2 = 0
  · obtain ⟨r, hr⟩ := parkAt_supervisor s t pc f h
    rw [hr]
  · rw [parkAt_other s t pc f h]
    rfl

/-- A fault other than a watchpoint's or a breakpoint's parks its team. -/
theorem takeFault_parks (hwatch : f.code ≠ 0x28) (hbrk : f.code ≠ 0x29) : s.takeFault p t pc f = s.parkAt p t pc f :=
  if_neg (fun h => h.1.elim hwatch hbrk)

end

/-- Settles O48: the fault parks its team, by whether the team is a supervisor. -/
theorem takingAFault : Obligations.TakingAFault := by
  unfold Obligations.TakingAFault
  intro s p t pc f hwatch hbrk
  rw [takeFault_parks s t pc f hwatch hbrk]
  refine ⟨s.parkedTeam p t pc f, (team?_parkAt s t pc f p).trans (team?_setTeam ..), rfl, rfl, rfl, rfl, rfl, rfl, rfl, rfl, rfl, rfl, rfl,
    parkAt_seq s t pc f, fun _ => rfl, fun _ _ => rfl, fun _ => rfl, rfl, parkAt_mem .., fun q hq =>
      (team?_parkAt s t pc f q).trans (team?_setTeam_other s _ hq), fun hteam => ?team, fun hsup => ?supervisor⟩
  case team =>
    rw [parkAt_other s t pc f hteam]
    exact ⟨by rw [core_setCore], rfl⟩
  case supervisor =>
    obtain ⟨r, hr⟩ := parkAt_supervisor s t pc f hsup
    rw [hr]
    exact ⟨setTeam_core_replay .., List.length_append⟩

/-! ### What a frame restores (R186, R188) -/

/-- The team with what the words of a frame before its scalar registers give. -/
def Team.frameHead (t : Team) (w : Nat → Nat) : Team :=
  { t with
    pc := BitVec.ofNat 57 (w 1), fpmode := BitVec.ofNat 32 (fld (w 5) 32 32) &&& modeMask, sticky := BitVec.ofNat 5 (w 5),
    rep := RepeatState.ofWord (w 6), loops := loopsOf (w 7 % 8) (fun i => w (8 + i)), pvalue := BitVec.ofNat 64 (w 20),
    pwords := fld (w 21) 0 6, sigstk := BitVec.ofNat 57 (w 22) }

/-- The team with the scalar registers of a frame. -/
def Team.frameScalars (t : Team) (w : Nat → Nat) : Team :=
  (List.range 64).foldl (fun t k => t.setS k (BitVec.ofNat 64 (w (24 + k)))) t

theorem loopsOf_length (n : Nat) (w : Nat → Nat) : (loopsOf n w).length = n := by simp [loopsOf]

theorem Team.s_foldl_setS (f : Nat → W64) (n : Nat) (t : Team) (k : Nat) :
    ((List.range n).foldl (fun t k => t.setS k (f k)) t).s k = if k < n ∧ k ≠ 0 then f k else t.s k := by
  induction n with
  | zero => rfl
  | succ n ih =>
    rw [List.range_succ, List.foldl_append, List.foldl_cons, List.foldl_nil, Team.s_setS, ih]
    grind

section
variable {α : Type} (view : Team → α) (hlatch : ∀ u b l x, view (u.setLatch b l x) = view u)
  (hmask : ∀ u x d m, view { u.setM 0 x with done := d, marked := m } = view u)
include hlatch hmask

/-- What the masks and the latches of a frame leave alone is as the words before them make it. -/
theorem Team.ofFrame_beforeMasks (t : Team) (w : Nat → Nat) : view (t.ofFrame w) = view ((t.frameHead w).frameScalars w) := by
  have hlane (u : Team) (l : Nat) : view ((List.range 4).foldl (fun t b =>
      t.setLatch b l (BitVec.ofNat 32 (frameHalf w (0x440 + 16 * l + 4 * b)))) u) = view u :=
    List.foldlRecOn (motive := fun v => view v = view u) _ _ rfl (fun v hv b _ => (hlatch v b l _).trans hv)
  unfold Team.ofFrame
  dsimp only
  split
  · refine List.foldlRecOn (motive := fun v => view v = view ((t.frameHead w).frameScalars w)) _ _ (hmask ..) fun v hv l _ => ?_
    exact (hlane v l).trans hv
  · exact hmask ..

/-- What no scalar register's write changes either is as the words before those make it. -/
theorem Team.ofFrame_beforeScalars (hscalar : ∀ u k x, view (u.setS k x) = view u) (t : Team) (w : Nat → Nat) :
    view (t.ofFrame w) = view (t.frameHead w) :=
  (Team.ofFrame_beforeMasks view hlatch hmask t w).trans
    (List.foldlRecOn (motive := fun v => view v = view (t.frameHead w)) _ _ rfl (fun v hv k _ => (hscalar v k _).trans hv))

end

theorem Team.s_ofFrame (t : Team) (w : Nat → Nat) {k : Nat} (hlow : 0 < k) (hhigh : k < 64) :
    (t.ofFrame w).s k = BitVec.ofNat 64 (w (24 + k)) :=
  (Team.ofFrame_beforeMasks (fun u => u.s k) (fun _ _ _ _ => rfl) (fun _ _ _ _ => rfl) t w).trans
    ((Team.s_foldl_setS (fun k => BitVec.ofNat 64 (w (24 + k))) 64 _ k).trans (if_pos ⟨hhigh, hlow.ne'⟩))

theorem Team.mreg_ofFrame (t : Team) (w : Nat → Nat) {k : Nat} (hk : k ≠ 0) : (t.ofFrame w).mreg k = t.mreg k :=
  Team.ofFrame_beforeScalars (fun u => u.mreg k) (fun _ _ _ _ => rfl)
    (fun u x _ _ => (Team.mreg_setM u 0 k x).trans (if_neg hk)) (fun u j x => Team.mreg_setS u j k x) t w

/-- What of a team a frame's head, and nothing after it, gives, and what a frame does not hold. -/
def Team.frameView (u : Team) : (W57 × BitVec 5 × W64 × W57) × List LoopEntry × (Tab (Tab W32) × Option Nat) × List HeldLock × Bool :=
  ((u.pc, u.sticky, u.pvalue, u.sigstk), u.loops, (u.v, u.vInit), u.held, u.parked)

theorem Team.frameView_ofFrame (t : Team) (w : Nat → Nat) : (t.ofFrame w).frameView = (t.frameHead w).frameView :=
  Team.ofFrame_beforeScalars Team.frameView (fun _ _ _ _ => rfl) (fun _ _ _ _ => rfl) (fun u k x => by simp [Team.frameView]) t w

/-! ### `sigret` (R188) -/

section
variable {s : State} {t : Team} {d : Nat} (h : OnceReady s t .any)
include h

theorem execSigret_misaligned (hodd : (t.s d).toNat % 128 ≠ 0) : execSigret d s = .next (s.onceFault t 0x09 0x000A (t.s d)) := by
  simp only [execSigret, once_body h (.inl rfl), if_pos hodd]
  rfl

section
variable {ws : List Nat} {s1 : State} (heven : (t.s d).toNat % 128 = 0)
  (hread : s.loadWords (s.agentOf s.cur t) (t.s d) t.frameWords = .ok ws s1)
include heven hread

theorem execSigret_malformed (hbad : frameBad (fun i => (ws[i]?).getD 0) = true) :
    execSigret d s = .next (s1.onceFault t 0x09 0x000A (t.s d)) := by
  simp only [execSigret, once_body h (.inl rfl), heven, hread, hbad, ne_eq, not_true_eq_false, if_false, if_true]
  rfl

theorem execSigret_restores (hgood : frameBad (fun i => (ws[i]?).getD 0) = false) {t1 : Team}
    (ht : s1.acquire.team? s1.acquire.cur = some t1) : execSigret d s =
      .next (s1.acquire.afterUnit ({ t1 with wait := t1.wait.kept }.ofFrame (fun i => (ws[i]?).getD 0))) := by
  simp only [execSigret, once_body h (.inl rfl), heven, hread, hgood, ht, ne_eq, not_true_eq_false, Bool.false_eq_true, if_false]

end
end

/-- Settles O44: `sigret` by what it finds of its frame, and what the frame restores by the part of it that holds the field. -/
theorem signalReturn : Obligations.SignalReturn := by
  unfold Obligations.SignalReturn
  refine ⟨fun s t d h => ⟨fun hodd => execSigret_misaligned h hodd, fun heven ws s1 hread =>
    ⟨fun hbad => execSigret_malformed h heven hread hbad, fun hgood t1 ht => execSigret_restores h heven hread hgood ht⟩⟩, fun t w => ?_⟩
  obtain ⟨⟨hpc, hsticky, hpvalue, hsigstk⟩, hloops, ⟨hv, hinit⟩, hheld, hparked⟩ := by
    simpa only [Team.frameView, Prod.mk.injEq] using Team.frameView_ofFrame t w
  have hdepth : (t.ofFrame w).loops.length = w 7 % 8 :=
    (congrArg List.length hloops).trans (loopsOf_length (w 7 % 8) (fun i => w (8 + i)))
  exact ⟨hpc, hsticky, hpvalue, hsigstk, hdepth, fun k hlow hhigh => t.s_ofFrame w hlow hhigh, rfl,
    fun r l => by rw [Team.vreg, Team.vUnset, hv, hinit]; rfl, fun k hk => t.mreg_ofFrame w hk, hheld, hparked⟩

end Sys2Proof.Machine
end

section
/-! The statement on debug commands, trace units and steps of the issue hardware (R183, R291, R316, R413 to R428). -/

namespace Sys2Proof.Machine

/-! ### A unit of a team stops no machine -/

/-- Every encoded instruction answers a next state. -/
theorem execOpcode_next (i : Instr) (s : State) : ∃ s', execOpcode i s = .next s' := by
  have hawait (slot : Bool) (n : Nat) (want phase : Bool) : ∃ s', s.tileAwait slot n want phase = .next s' := by
    unfold State.tileAwait
    dsimp only
    split <;> exact ⟨_, rfl⟩
  cases i
  case redAddI32 d sb x ord scope =>
    change ∃ s', execRedAddI32 d sb x ord scope s = _
    unfold execRedAddI32
    dsimp only
    split <;> exact ⟨_, rfl⟩
  case twaitAcc n want phase => exact hawait false n want phase
  case twaitSt n want phase => exact hawait true n want phase
  case bar n gang expect =>
    change ∃ s', execBar n gang expect s = _
    unfold execBar
    split
    · split <;> exact ⟨_, rfl⟩
    · exact ⟨_, rfl⟩
  case bwait n gang =>
    change ∃ s', execBwait n gang s = _
    unfold execBwait
    split
    · split <;> exact ⟨_, rfl⟩
    · exact ⟨_, rfl⟩
  all_goals exact ⟨_, rfl⟩

/-- The words of a unit behind its `limm`: `rep`, where it has one, and the instruction. -/
def State.runRepeat (s : State) (run : Instr → State → Result) (rep : Option Instr) (i : Instr) : Result :=
  match rep with
  | none =>
    match s.team? s.cur with
    | some t => if t.rep.remain = 0 then run i s else .next (s.unitBad t 0x01 6 0)
    | none => .next s
  | some r =>
    match run r s with
    | .next s1 =>
      match s1.team? s1.cur with
      | some t =>
        if t.parked ∨ t.rep.remain = 0 ∨ (s1.repFault t t.rep).isSome then .next s1
        else
          let j := t.rep.total - t.rep.remain
          run (stepped i (j * t.rep.sd) (j * t.rep.sa) (j * t.rep.sb)) s1
      | none => .next s1
    | o => o

theorem runUnit_eq (s : State) (run : Instr → State → Result) (u : IssueUnit) : s.runUnit run u =
    match u.limm with
    | none => s.runRepeat run u.rep u.instr
    | some v =>
      match run (.limm v) s with
      | .next s1 =>
        match widened v u.instr with
        | some i => s1.runRepeat run u.rep i
        | none => .next s1
      | o => o := by
  cases u
  rfl

theorem runRepeat_next (s : State) (rep : Option Instr) (i : Instr) : ∃ s', s.runRepeat execOpcode rep i = .next s' := by
  cases rep with
  | none =>
    unfold State.runRepeat
    dsimp only
    split
    · split
      · exact execOpcode_next i s
      · exact ⟨_, rfl⟩
    · exact ⟨_, rfl⟩
  | some r =>
    obtain ⟨s1, h1⟩ := execOpcode_next r s
    simp only [State.runRepeat, h1]
    split
    · split
      · exact ⟨_, rfl⟩
      · exact execOpcode_next _ s1
    · exact ⟨_, rfl⟩

theorem runUnit_next (s : State) (u : IssueUnit) : ∃ s', s.runUnit execOpcode u = .next s' := by
  rw [runUnit_eq]
  split
  · exact runRepeat_next ..
  · next v _ =>
    obtain ⟨s1, h1⟩ := execOpcode_next (.limm v) s
    rw [h1]
    dsimp only
    split
    · exact runRepeat_next ..
    · exact ⟨_, rfl⟩

theorem issueUnit_next (s : State) (lim : Option Nat) : ∃ s', s.issueUnit execOpcode lim = .next s' := by
  unfold State.issueUnit
  split
  · exact ⟨_, rfl⟩
  · split
    · exact ⟨_, rfl⟩
    · dsimp only
      split
      · exact ⟨_, rfl⟩
      · split
        case h_5 => exact runUnit_next ..
        all_goals exact ⟨_, rfl⟩

/-- A unit issued outside its turn leaves its trace, and the choice of the next team and the latch as they were. -/
theorem issueAt_of_issueUnit {s s1 : State} {p : Nat × Nat} {lim : Option Nat}
    (h : ({ s with cur := p } : State).issueUnit execOpcode lim = .next s1) :
    s.issueAt p lim = .next { s1.traceUnit s p with cur := s.cur, latch := s.latch } := by
  simp only [State.issueAt, h]

theorem issueAt_next (s : State) (p : Nat × Nat) (lim : Option Nat) : ∃ s', s.issueAt p lim = .next s' := by
  obtain ⟨s1, h1⟩ := issueUnit_next { s with cur := p } lim
  exact ⟨_, issueAt_of_issueUnit h1⟩

/-- A turn is the issue of a unit, and the cycles of that. -/
theorem issueTurn_of_issueAt {s s1 : State} {p : Nat × Nat} {lim : Option Nat} (h : s.issueAt p lim = .next s1) :
    s.issueTurn p lim = .next (s1.issueCycles s p) := by
  simp only [State.issueTurn, h]

theorem issueTurn_next (s : State) (p : Nat × Nat) (lim : Option Nat) : ∃ s', s.issueTurn p lim = .next s' := by
  obtain ⟨s1, h1⟩ := issueAt_next s p lim
  exact ⟨_, issueTurn_of_issueAt h1⟩

theorem issueWhole_next (s : State) (p : Nat × Nat) (n : Nat) : ∃ s', s.issueWhole p n = .next s' := by
  induction n generalizing s with
  | zero => exact ⟨_, rfl⟩
  | succ n ih =>
    obtain ⟨s1, h1⟩ := issueTurn_next s p none
    simp only [State.issueWhole, h1]
    split
    · split
      · exact ⟨_, rfl⟩
      · exact ih s1
    · exact ⟨_, rfl⟩

/-- After a turn that leaves its team no repeat to go on with, the unit is whole. -/
theorem issueWhole_last {s s1 : State} {p : Nat × Nat} {t : Team} (n : Nat) (hturn : s.issueTurn p none = .next s1)
    (ht : s1.team? p = some t) (hlast : t.rep.remain = 0 ∨ t.parked ∨ t.brkHalt ∨ t.stands) : s.issueWhole p (n + 1) = .next s1 := by
  simp only [State.issueWhole, hturn, ht, if_pos hlast]

/-! ### A unit of the program buffer stops no machine (R418) -/

theorem execRepeats_ne_stuck (s : State) (p : Nat × Nat) (u : IssueUnit) (n : Nat) (r : Result) : s.execRepeats p u n ≠ .stuck r := by
  induction n generalizing s with
  | zero => exact ExecEnd.noConfusion
  | succ n ih =>
    obtain ⟨s1, h1⟩ := runUnit_next s u
    simp only [State.execRepeats, h1]
    split
    · exact ExecEnd.noConfusion
    · split
      · exact ExecEnd.noConfusion
      · split
        · exact ExecEnd.noConfusion
        · split
          · exact ExecEnd.noConfusion
          · split
            · exact ExecEnd.noConfusion
            · exact ih _

theorem execUnit_ne_stuck (s : State) (p : Nat × Nat) (ws : List UnitWord) (r : Result) : s.execUnit p ws ≠ .stuck r := by
  unfold State.execUnit
  dsimp only
  cases s.team? p with
  | none => exact ExecEnd.noConfusion
  | some t =>
    dsimp only
    split
    · exact ExecEnd.noConfusion
    · cases decodeAll ws with
      | error e => exact ExecEnd.noConfusion
      | ok is =>
        dsimp only
        cases assemble is with
        | error e => exact ExecEnd.noConfusion
        | ok u =>
          dsimp only
          split
          · exact ExecEnd.noConfusion
          · split
            · exact ExecEnd.noConfusion
            · exact execRepeats_ne_stuck _ _ _ _ r

theorem execWords_ne_stuck (s : State) (p : Nat × Nat) (i n k : Nat) (r : Result) : s.execWords p i n k ≠ .stuck r := by
  induction k generalizing s i with
  | zero => exact ExecEnd.noConfusion
  | succ k ih =>
    unfold State.execWords
    split
    · exact ExecEnd.noConfusion
    · split
      · exact ExecEnd.noConfusion
      · split
        · exact ih _ _
        · exact ExecEnd.noConfusion
        · exact execUnit_ne_stuck s p _ r

/-! ### The results of debug commands (R413) -/

theorem result_debugResult (s : State) {r : Nat} (h : r < 16) : fld ((s.debugResult r).dbgReg 0x10).toNat 32 4 = r := by
  have hbefore := (s.dbgReg 0x10).isLt
  rw [State.debugResult, State.dbgReg_setDbg, if_pos rfl, BitVec.toNat_ofNat]
  simp only [fld, at']
  omega

theorem result_debugOutcome (s : State) {r : Nat} (code sub : Nat) (h : r < 16) :
    fld ((s.debugOutcome r code sub).dbgReg 0x10).toNat 32 4 = r := by
  unfold State.debugOutcome
  dsimp only
  generalize hbusy : (if s.debugRun.isSome then 0 else (s.dbgReg 0x10).toNat % 2) = busy
  have hbit : busy < 2 := by subst hbusy; split <;> omega
  rw [State.dbgReg_setDbg, if_pos rfl, BitVec.toNat_ofNat]
  simp only [fld, at']
  omega

/-! ### A block stops and runs (R415, R420) -/

theorem halted_of_mem_stopBlock {s : State} {c blk : Nat} {e : Nat × Team} (he : e ∈ ((s.stopBlock c blk).core c).teams)
    (hslot : e.1 ≠ 0) (hblk : e.2.blk = blk) : e.2.parked = true ∨ e.2.halted = true := by
  rw [State.stopBlock, core_setCore] at he
  obtain ⟨x, -, rfl⟩ := List.mem_map.1 he
  split at hslot
  · next h => exact .inr (by rw [if_pos h])
  · next h =>
    rw [if_neg h] at hblk ⊢
    exact .inl (Bool.not_eq_false _ ▸ fun hp => h ⟨hslot, hblk, hp⟩)

theorem stopped_of_mem_stopBlock {s : State} {c blk : Nat} {e : Nat × Block} (he : e ∈ ((s.stopBlock c blk).core c).blocks)
    (huid : e.2.uid = blk) : e.2.stopped = true := by
  rw [State.stopBlock, core_setCore] at he
  obtain ⟨x, -, rfl⟩ := List.mem_map.1 he
  split at huid
  · next h => rw [if_pos h]
  · next h => exact absurd huid h

/-- STOP halts the teams of its block, and takes a SEQ. -/
theorem execStop_found {s : State} {core place : Nat} {b : Block} (hb : s.debugBlock core place = some b) :
    ∃ s', execStop core place s = .next s' ∧ fld (s'.dbgReg 0x10).toNat 32 4 = 0 ∧ s'.seq = s.seq + 1 ∧
      ∀ e ∈ (s'.core core).teams, e.1 ≠ 0 → e.2.blk = b.uid → e.2.parked = true ∨ e.2.halted = true := by
  unfold execStop
  rw [hb]
  exact ⟨_, rfl, result_debugResult _ (by decide), rfl, fun e he => halted_of_mem_stopBlock (s := s) he⟩

theorem teams_modOp (s : State) (c' id : Nat) (f : MatOp → MatOp) (c : Nat) : ((s.modOp c' id f).core c).teams = (s.core c).teams := by
  by_cases h : c = c'
  · rw [h, core_modOp]
  · exact congrArg Core.teams (core_setCore_other s _ h)

theorem teams_takeParts (s : State) (ps : List Part) (c : Nat) : ((((s.takeParts ps).getD s).core c).teams) = (s.core c).teams := by
  unfold State.takeParts
  split
  · exact foldl_view (fun s : State => (s.core c).teams) (fun s _ => teams_modOp s _ _ _ c) ps s
  · rfl

theorem teams_restartOps (s : State) (c' blk c : Nat) : ((s.restartOps c' blk).core c).teams = (s.core c).teams := by
  refine foldl_view (fun s : State => (s.core c).teams) (fun s o => ?_) _ s
  dsimp only
  split
  · exact teams_takeParts s _ c
  · rfl

/-- RUN leaves no team of its block halted. -/
theorem execRun_found {s : State} {core place : Nat} {b : Block} (hb : s.debugBlock core place = some b) :
    ∃ s', execRun core place s = .next s' ∧ fld (s'.dbgReg 0x10).toNat 32 4 = 0 ∧
      ∀ e ∈ (s'.core core).teams, e.1 ≠ 0 → e.2.blk = b.uid → e.2.halted = false := by
  unfold execRun
  rw [hb]
  refine ⟨_, rfl, result_debugResult _ (by decide), fun e he hslot hblk => ?_⟩
  obtain ⟨x, -, rfl⟩ := List.mem_map.1 (by
    simpa only [core_setCore] using (teams_restartOps _ core b.uid core).subst (motive := fun ts => e ∈ ts) he)
  split at hslot
  · next h => rw [if_pos h]
  · next h =>
    rw [if_neg h] at hblk ⊢
    exact Bool.not_eq_true _ ▸ fun hhalt => h ⟨hslot, hblk, hhalt⟩

/-- BUSY clears once the k-steps of the stopped blocks have ended, but for a command in progress. -/
theorem execBlockStopDone_ends {s : State} (h : s.stoppedBlocks.any (fun m =>
    (s.core m.1).ops.any (fun o => o.blk == m.2.uid && o.running && o.fault.isNone)) = false) :
    ∃ s', execBlockStopDone s = .next s' ∧ (s.debugRun = none → (s'.dbgReg 0x10).getLsbD 0 = false) ∧ s'.gangStop = false := by
  simp only [execBlockStopDone, h, Bool.false_eq_true, if_false]
  refine ⟨_, rfl, fun hrun => ?_, ?_⟩
  · simp [hrun, State.dbgReg_setDbg]
  · split <;> rfl

/-- What neither a stop nor a skid entry touches: memory and SEQ. -/
def State.memSeq (s : State) : List Host.Cell × Nat := (s.mem, s.seq)

/-- What GANGSTOP does before it takes a SEQ: blocks stop and skid entries are written. -/
theorem execGangstop_stops (s : State) (core : Nat) : ∃ s2 : State, s2.memSeq = s.memSeq ∧ execGangstop core s = .next (
    if s.gangStop then s2
    else (({ s2 with seq := s.seq + 1, gangStop := true } : State).recordStop 4 0 core 0 (s.seq + 1)).debugResult 0) := by
  have hstops (c : Nat) (bs : List Block) (s : State) : (bs.foldl (fun s b => s.stopBlock c b.uid) s).memSeq = s.memSeq :=
    foldl_view State.memSeq (f := fun s b => s.stopBlock c b.uid) (fun _ _ => rfl) bs s
  have hskids (ps : List (Nat × Nat)) (s : State) : (ps.foldl State.recordSkid s).memSeq = s.memSeq :=
    foldl_view State.memSeq (f := State.recordSkid) (fun _ _ => rfl) ps s
  refine ⟨_, ?_, rfl⟩
  split
  · exact (hskids ..).trans (foldl_view State.memSeq (fun s c => hstops c _ s) _ _)
  · exact foldl_view State.memSeq (fun s c => hstops c _ s) _ _

/-- GANGSTOP leaves memory alone, and takes a SEQ of its own when no gang stop is in progress. -/
theorem execGangstop_next (s : State) (core : Nat) : ∃ s', execGangstop core s = .next s' ∧ s'.mem = s.mem ∧
    s'.seq = if s.gangStop then s.seq else s.seq + 1 := by
  obtain ⟨s2, hview, h⟩ := execGangstop_stops s core
  have hmem : s2.mem = s.mem := congrArg Prod.fst hview
  have hseq : s2.seq = s.seq := congrArg Prod.snd hview
  by_cases hg : s.gangStop = true
  · rw [if_pos hg] at h ⊢
    exact ⟨s2, h, hmem, hseq⟩
  · rw [if_neg hg] at h ⊢
    exact ⟨_, h, by simp [State.debugResult, hmem], by simp [State.debugResult, State.recordStop]⟩

/-! ### A step of a halted team (R417) -/

section
variable (s : State) (p : Nat × Nat)

theorem stepOutcome_stops {t : Team} (h : t.parked ∨ t.brkHalt) :
    s.stepOutcome p (some t) = s.debugOutcome 2 t.record.code t.record.sub := if_pos h

variable {t : Team} (h : ¬(t.parked ∨ t.brkHalt))
include h

theorem stepOutcome_waits (hwait : t.waitsArch = true) : s.stepOutcome p (some t) = s.debugOutcome 1 0 0 :=
  (if_neg h).trans (if_pos hwait)

theorem stepOutcome_done (hwait : t.waitsArch = false) (hstands : t.stands = false) :
    s.stepOutcome p (some t) = s.debugOutcome 0 0 0 := by
  simp only [State.stepOutcome, if_neg h, hwait, hstands, Bool.false_eq_true, if_false]

theorem stepOutcome_stays (hwait : t.waitsArch = false) (hstands : t.stands = true) :
    s.stepOutcome p (some t) = s.debugStays ⟨p, 0, none⟩ := by
  simp only [State.stepOutcome, if_neg h, hwait, hstands, Bool.false_eq_true, if_false, if_true]

end

/-- How a STEP ends changes the debug registers alone. -/
theorem stepOutcome_beside (s : State) (p : Nat × Nat) (t : Option Team) :
    (s.stepOutcome p t).mem = s.mem ∧ (s.stepOutcome p t).cores = s.cores := by
  cases t with
  | none => exact ⟨rfl, rfl⟩
  | some t =>
    unfold State.stepOutcome
    dsimp only
    repeat' split
    all_goals exact ⟨rfl, rfl⟩

section
variable {s : State} {core slot : Nat} {t : Team} {b : Block}

theorem execStep_other (h : ∃ r, s.debugRun = some r ∧ (r.at_ ≠ (core, slot) ∨ r.saved.isSome = true)) :
    execStep core slot s = .next s := by
  obtain ⟨r, hr, hat⟩ := h
  exact if_pos (by simpa [State.debugElse, hr] using hat)

/-- No command is in progress but a STEP of the team. -/
theorem not_debugElse_of_own (h : ∀ r, s.debugRun = some r → r.at_ = (core, slot) ∧ r.saved = none) :
    ¬(s.debugElse (core, slot) = true ∨ s.debugRun.any (fun r => r.saved.isSome) = true) := by
  cases hr : s.debugRun with
  | none => simp [State.debugElse, hr]
  | some r => simp [State.debugElse, hr, h r hr]

theorem execExec_other (nbuf : Nat) (h : ∃ r, s.debugRun = some r ∧ (r.at_ ≠ (core, slot) ∨ r.saved.isSome = false)) :
    execExec core slot nbuf s = .next s := by
  obtain ⟨r, hr, hat⟩ := h
  exact if_pos (by simpa [State.debugElse, hr] using hat)

section
variable (hrun : ∀ r, s.debugRun = some r → r.at_ = (core, slot) ∧ r.saved = none)
include hrun

theorem execStep_absent (ht : s.debugTeam core slot = none) : execStep core slot s = .next (s.debugOutcome 4 0 0) := by
  rw [execStep, if_neg (not_debugElse_of_own hrun), ht]

theorem execStep_unsteppable (ht : s.debugTeam core slot = some (t, b)) (hstep : t.steppable b = false) :
    execStep core slot s = .next (s.debugOutcome 5 0 0) := by
  rw [execStep, if_neg (not_debugElse_of_own hrun), ht]
  exact if_pos hstep

/-- A STEP ends as its team stands after the unit, and its block is stopped again. -/
theorem execStep_steps (ht : s.debugTeam core slot = some (t, b)) (hstep : t.steppable b = true) {s2 : State}
    (hwhole : ((s.setTeam (core, slot) { t with halted := false, brkHalt := false }).mapBlock core b.uid
      (fun b => { b with stopped := false })).issueWhole (core, slot) 65 = .next s2) :
    execStep core slot s =
      .next (((s2.holdStarted s.nextUid).stopBlock core b.uid).stepOutcome (core, slot) (s2.team? (core, slot))) := by
  rw [execStep, if_neg (not_debugElse_of_own hrun), ht]
  simp only [hstep, hwhole, Bool.true_eq_false, if_false]

end

section
variable (nbuf : Nat) (hrun : s.debugRun = none)
include hrun

theorem execExec_absent (ht : s.debugTeam core slot = none) : execExec core slot nbuf s = .next (s.debugOutcome 4 0 0) := by
  simp only [execExec, State.debugElse, hrun, ht, Option.any_none, Bool.false_eq_true, or_self, if_false]

theorem execExec_unsteppable (ht : s.debugTeam core slot = some (t, b)) (hstep : t.steppable b = false) :
    execExec core slot nbuf s = .next (s.debugOutcome 5 0 0) := by
  simp only [execExec, State.debugElse, hrun, ht, hstep, Option.any_none, Bool.false_eq_true, or_self, if_false, if_true]

/-- An EXEC ends as the words of the buffer do. -/
theorem execExec_runs (ht : s.debugTeam core slot = some (t, b)) (hstep : t.steppable b = true) : execExec core slot nbuf s =
    s.execEnds (core, slot) t ((({ s with cur := (core, slot) } : State).setTeam (core, slot)
      { t.setAside with brkHalt := false }).execWords (core, slot) 0 (min 15 nbuf) 16) := by
  rw [execExec, if_neg (by simp [State.debugElse, hrun]), ht]
  simp only [State.execFrom, hrun, hstep, Bool.true_eq_false, if_false]
  rfl

end

end

/-- How an EXEC ends, by what the words of the buffer came to. -/
theorem execEnds_cases (s : State) (p : Nat × Nat) (t : Team) {e : ExecEnd} (h : ∀ r, e ≠ .stuck r) :
    let back (s2 : State) : State := { s2 with cur := s.cur, latch := s.latch }
    (∃ s2 r code sub, (e = .more s2 ∧ r = 0 ∧ code = 0 ∧ sub = 0 ∨ e = .stop s2 r code sub) ∧
      s.execEnds p t e = .next (((back s2).modTeam p (fun t1 => t1.putBack t)).debugOutcome r code sub)) ∨
    ∃ s2 w, e = .held s2 w ∧ s.execEnds p t e =
      .next (((back s2).modTeam p (fun t1 => { t1 with halted := true })).debugStays ⟨p, w, some t⟩) := by
  cases e with
  | more s2 => exact .inl ⟨s2, 0, 0, 0, .inl ⟨rfl, rfl, rfl, rfl⟩, rfl⟩
  | stop s2 r code sub => exact .inl ⟨s2, r, code, sub, .inr rfl, rfl⟩
  | held s2 w => exact .inr ⟨s2, w, rfl, rfl⟩
  | stuck r => exact absurd rfl (h r)

/-! ### The steps of the issue hardware (R20, R50, R183, R291, R316) -/

section
variable {s : State} {core slot : Nat} {t : Team}

theorem execVectorPass_issues {u : IssueUnit} {w : State} (hnext : s.nextUnit (core, slot) = some (t, .ok u w)) (hrole : t.role = .vector)
    (hvec : wordIsVector u.word.w = true) (hfirst : firstRanked (s.candidates core t.datapath) = some slot) :
    ∃ s1, s.issueAt (core, slot) (some 1) = .next s1 ∧ execVectorPass core slot s = .next (s1.issueCycles s (core, slot)) := by
  obtain ⟨s1, h1⟩ := issueAt_next s (core, slot) (some 1)
  exact ⟨s1, h1, by simp only [execVectorPass, hnext, hrole, hvec, hfirst, and_self, if_true, issueTurn_of_issueAt h1]⟩

theorem execOperationStart_issues {u : IssueUnit} {w : State} (hnext : s.nextUnit (core, slot) = some (t, .ok u w))
    (hop : startsOperation u.instr = true)
    (hfirst : firstRanked (s.candidates core (s.resourceOf (core, slot) t)) = some slot) :
    ∃ s1, s.issueAt (core, slot) none = .next s1 ∧ execOperationStart core slot s = .next (s1.issueCycles s (core, slot)) := by
  obtain ⟨s1, h1⟩ := issueAt_next s (core, slot) none
  exact ⟨s1, h1, by simp only [execOperationStart, hnext, hop, hfirst, and_self, if_true, issueTurn_of_issueAt h1]⟩

theorem canIssue_of_nextUnit {p : Nat × Nat} {r : UnitRes} (h : s.nextUnit p = some (t, r)) :
    s.team? p = some t ∧ t.canIssue (s.blockOf p.1 t) = true := by
  unfold State.nextUnit at h
  split at h
  · cases h
  · next t' ht =>
    split at h
    · next hready =>
      cases h
      simp only [State.isReady, Bool.and_eq_true] at hready
      exact ⟨ht, hready.1.1.1⟩
    · cases h

end

section
variable {s : State} {t : Team} {run : Instr → State → Result} {lim : Option Nat} (ht : s.team? s.cur = some t)
  (hgo : t.canIssue (s.blockOf s.cur.1 t) = true) (hrec : s.fe.recovery = false)
include ht hgo hrec

/-- After a stepped unit `F.STEP` comes first. -/
theorem issueUnit_steps :
    let s0 := s.settleWait s.cur t
    let t0 : Team := { (s0.team? s.cur).getD t with hold := none }
    t0.stepDue = true → s.issueUnit run lim = .next (s0.takeFault s.cur t0 t0.pc (faultOf 0x2A 0 0 (s0.stepMask t0))) := by
  intro s0 t0 hdue
  simp only [State.issueUnit, ht, hgo, hrec, Bool.true_eq_false, Bool.false_eq_true, or_self, if_false]
  exact if_pos hdue

theorem issueUnit_fetchFails {f : FaultInfo} {s1 : State} :
    let s0 := s.settleWait s.cur t
    let t0 : Team := { (s0.team? s.cur).getD t with hold := none }
    t0.stepDue = false → (s0.setTeam s.cur t0).fetchUnit s.cur t0 = .fault f s1 →
      s.issueUnit run lim = .next (s1.takeFault s1.cur t0 t0.pc f) := by
  intro s0 t0 hdue hfetch
  simp only [State.issueUnit, ht, hgo, hrec, Bool.true_eq_false, Bool.false_eq_true, or_self, if_false]
  rw [if_neg (by rw [hdue]; exact Bool.false_ne_true), hfetch]

/-- A unit that fails its checks faults, unless the fault is excused. -/
theorem issueUnit_unitFails {f : FaultInfo} {u : UnitLatch} {s1 : State} :
    let s0 := s.settleWait s.cur t
    let t0 : Team := { (s0.team? s.cur).getD t with hold := none }
    t0.stepDue = false → (s0.setTeam s.cur t0).fetchUnit s.cur t0 = .bad f u s1 →
      s.issueUnit run lim =
        .next (if t0.excused f then ({ s1 with latch := u } : State).complete t0 else s1.takeFault s1.cur t0 t0.pc f) := by
  intro s0 t0 hdue hfetch
  simp only [State.issueUnit, ht, hgo, hrec, Bool.true_eq_false, Bool.false_eq_true, or_self, if_false]
  rw [if_neg (by rw [hdue]; exact Bool.false_ne_true), hfetch]

end

/-- A unit that cannot be fetched, or fails its checks, is an issue of its team. -/
theorem execFetchFault_issues {s s1 : State} {core slot : Nat} {t : Team} {r : UnitRes} (hnext : s.nextUnit (core, slot) = some (t, r))
    (hfails : (∃ f s2, r = .fault f s2) ∨ ∃ f u s2, r = .bad f u s2)
    (hissue : ({ s with cur := (core, slot) } : State).issueUnit execOpcode none = .next s1) : execFetchFault core slot s =
      .next (({ s1.traceUnit s (core, slot) with cur := s.cur, latch := s.latch } : State).issueCycles s (core, slot)) := by
  rw [← issueTurn_of_issueAt (issueAt_of_issueUnit hissue), execFetchFault, hnext]
  obtain ⟨f, s2, rfl⟩ | ⟨f, u, s2, rfl⟩ := hfails <;> rfl

/-! ### Boosts and the end of `yield` (R50, R291) -/

section
variable {s : State} {core slot : Nat} {t : Team} (ht : s.team? (core, slot) = some t)
include ht

theorem execTeamBoost_due (hready : s.isReady (core, slot) t = true) (hboost : t.boost = none) (hcycles : 512 ≤ t.cyclesReady) :
    execTeamBoost core slot s = .next (s.setTeam (core, slot) { t with boost := some s.tick }) := by
  simp [execTeamBoost, State.boostDue, ht, hready, hboost, hcycles]

theorem execTeamBoost_early (h : s.isReady (core, slot) t = false ∨ t.boost ≠ none ∨ t.cyclesReady < 512) :
    execTeamBoost core slot s = .next s := by
  have hnot : s.boostDue core slot t = false := by
    simpa [State.boostDue, Option.ne_none_iff_isSome, or_assoc, ← Bool.not_eq_true, imp_iff_not_or] using h
  simp only [execTeamBoost, ht, hnot, Bool.false_eq_true, if_false]

theorem execYieldEnd_due (hyielded : t.yielded = true)
    (h : t.yieldFor = [] ∨ 64 ≤ t.yieldCycles ∨ s.sharers core slot t = []) : execYieldEnd core slot s =
      .next (s.setTeam (core, slot) { t with yielded := false, yieldFor := [], yieldCycles := 0 }) := by
  have hdue : s.yieldDue core slot t = true := by
    simpa [State.yieldDue, hyielded, or_assoc] using h
  simp only [execYieldEnd, ht, hdue, if_true]

theorem execYieldEnd_early
    (h : t.yielded = false ∨ t.yieldFor ≠ [] ∧ t.yieldCycles < 64 ∧ s.sharers core slot t ≠ []) : execYieldEnd core slot s = .next s := by
  have hnot : s.yieldDue core slot t = false := by
    obtain h | ⟨hfor, hcycles, hsharers⟩ := h
    · simp [State.yieldDue, h]
    · simp [State.yieldDue, hfor, hcycles, hsharers]
  simp only [execYieldEnd, ht, hnot, Bool.false_eq_true, if_false]

end

/-! ### Trace units (R421 to R428) -/

theorem core_modTrace (s : State) (c : Nat) (f : Trace → Trace) :
    (s.modTrace c f).core c = { s.core c with trace := f (s.core c).trace } := core_setCore ..

/-- SYNC restarts the count of packets to the next one. -/
theorem traceSync_since (s : State) (c : Nat) : ((s.traceSync c).core c).trace.since = 0 := by
  simp only [State.traceSync, core_modTrace]

/-- A counter that wraps shows OVF and starts again at 0. -/
theorem traceWrap_counter (s : State) (c e : Nat) :
    let x := ((s.traceWrap c e none).core c).trace.counter e
    x.ovf = true ∧ x.count = 0 := by
  simp only [State.traceWrap, core_modTrace, Trace.counter, tabGet_tabSet_same, and_self]

theorem execTraceSync_on {s : State} {core : Nat} (h : (s.core core).trace.on = true) : execTraceSync core s = .next (s.traceSync core) :=
  congrArg _ (if_pos h)

theorem execCounterWrap_wraps {s : State} {core e : Nat} (hon : (s.core core).trace.on = true) (he : e < 8)
    (hevent : ((s.core core).trace.counter e).event = 0 ∨ ((s.core core).trace.counter e).event = 3) :
    execCounterWrap core e s = .next (s.traceWrap core e none) := congrArg _ (if_pos ⟨he, hon, hevent⟩)

/-- A trace unit resumes when no shootdown of its address space is pending; it has nothing to write that it did not hold or drop. -/
theorem execTraceResume_resumes {s : State} {core : Nat} (hpaused : (s.core core).trace.paused = true)
    (hdown : ∀ x ∈ s.shootdowns, x.pasid ≠ (s.core core).trace.pasid) (hheld : (s.core core).trace.held = [])
    (hdropped : (s.core core).trace.dropped = 0) :
    execTraceResume core s = .next (s.modTrace core (fun u => { u with paused := false, held := [], page := none })) := by
  have hnone : s.shootdowns.any (fun x => x.pasid == (s.core core).trace.pasid) = false := by simpa using hdown
  simp [execTraceResume, hpaused, hnone, hheld, State.traceRetry, core_modTrace, hdropped]

/-- The trace unit of a core as a write of its first register has it, before what EN does. -/
def State.traceCtl (s : State) (core : Nat) (val : W64) : Trace :=
  { (s.core core).trace with
    teams := BitVec.ofNat 32 (fld val.toNat 32 32), ctl := BitVec.ofNat 64 (fld val.toNat 0 25),
    page := if fld val.toNat 0 20 = (s.core core).trace.pasid then (s.core core).trace.page else none }

theorem ofNat_fld_teams (val : W64) : BitVec.ofNat 32 (fld val.toNat 32 32) = val.extractLsb' 32 32 := by
  refine BitVec.eq_of_toNat_eq ?_
  rw [BitVec.extractLsb'_toNat, BitVec.toNat_ofNat, fld, Nat.shiftRight_eq_div_pow, Nat.mod_mod]

theorem ofNat_fld_ctl (val : W64) : BitVec.ofNat 64 (fld val.toNat 0 25) = val &&& 0x1FFFFFF := by
  refine BitVec.eq_of_toNat_eq ?_
  rw [BitVec.toNat_and, BitVec.toNat_ofNat, fld, Nat.pow_zero, Nat.div_one, show (0x1FFFFFF : W64).toNat = 2 ^ 25 - 1 from rfl,
    Nat.and_two_pow_sub_one_eq_mod]
  omega

theorem traceCtl_eq (s : State) (core : Nat) (val : W64) : s.traceCtl core val =
    { (s.core core).trace with
      teams := val.extractLsb' 32 32, ctl := val &&& 0x1FFFFFF,
      page := if val.toNat % 2 ^ 20 = (s.core core).trace.pasid then (s.core core).trace.page else none } := by
  rw [State.traceCtl, ofNat_fld_teams, ofNat_fld_ctl, fld, Nat.pow_zero, Nat.div_one]

section
variable {s : State} {core : Nat} {val : W64}

/-- A write that clears EN drops the packets that a pause holds. -/
theorem execTraceEnable_off (h : val.getLsbD 20 = false) : execTraceEnable core val s = .next (s.modTrace core (fun _ =>
    { s.traceCtl core val with
      lost := min ((s.core core).trace.lost + (s.core core).trace.held.length) (2 ^ 32 - 1), held := [], page := none, paused := false,
      pausing := false, async := [] })) := by
  simp only [execTraceEnable, h, Bool.false_eq_true, false_and, if_false]
  rfl

theorem execTraceEnable_stays (h : val.getLsbD 20 = true) (hon : (s.core core).trace.on = true) :
    execTraceEnable core val s = .next (s.modTrace core (fun _ => s.traceCtl core val)) := by
  simp only [execTraceEnable, h, hon, Bool.true_eq_false, and_false, if_false, if_true]
  rfl

/-- A unit that EN starts begins its buffer anew, with a SYNC and the contexts. -/
theorem execTraceEnable_starts (h : val.getLsbD 20 = true) (hon : (s.core core).trace.on = false) :
    let s1 := s.modTrace core (fun _ =>
      { s.traceCtl core val with wptr := 0, err := false, paused := false, full := false, held := [], page := none, failed := 0,
                                 dropped := 0, since := 0, pausing := false, async := [], ran := true })
    let s2 : State := { s1 with late := s1.late.filter (fun w => !w.src.same (.trace core 0)) }
    execTraceEnable core val s = .next ((s2.traceSync core).traceContexts core) :=
  congrArg _ (if_pos ⟨h, hon⟩)

end

/-! ### The statement, part by part -/

/-- A STEP of a halted team, with what its result says of the unit. -/
theorem execStep_result {s : State} {core slot : Nat} {t : Team} {b : Block}
    (hrun : ∀ r, s.debugRun = some r → r.at_ = (core, slot) ∧ r.saved = none) (ht : s.debugTeam core slot = some (t, b))
    (hstep : t.steppable b = true) :
    ∃ s2 s', ((s.setTeam (core, slot) { t with halted := false, brkHalt := false }).mapBlock core b.uid
        (fun b => { b with stopped := false })).issueWhole (core, slot) 65 = .next s2 ∧
      execStep core slot s = .next s' ∧
      s' = ((s2.holdStarted s.nextUid).stopBlock core b.uid).stepOutcome (core, slot) (s2.team? (core, slot)) ∧ s'.mem = s2.mem ∧
      (∀ t1, s2.team? (core, slot) = some t1 →
        (t1.parked ∨ t1.brkHalt → fld (s'.dbgReg 0x10).toNat 32 4 = 2) ∧
        (¬(t1.parked ∨ t1.brkHalt) → t1.waitsArch → fld (s'.dbgReg 0x10).toNat 32 4 = 1) ∧
        (¬(t1.parked ∨ t1.brkHalt) → t1.waitsArch = false → t1.stands = false → fld (s'.dbgReg 0x10).toNat 32 4 = 0) ∧
        (¬(t1.parked ∨ t1.brkHalt) → t1.waitsArch = false → t1.stands = true →
          s'.debugRun = some ⟨(core, slot), 0, none⟩ ∧ (s'.dbgReg 0x10).getLsbD 0 = true)) ∧
      ∀ e ∈ (s'.core core).blocks, e.2.uid = b.uid → e.2.stopped = true := by
  obtain ⟨s2, hwhole⟩ := issueWhole_next ((s.setTeam (core, slot) { t with halted := false, brkHalt := false }).mapBlock core b.uid
    (fun b => { b with stopped := false })) (core, slot) 65
  generalize hstop : (s2.holdStarted s.nextUid).stopBlock core b.uid = s3
  obtain ⟨hmem, hcores⟩ := stepOutcome_beside s3 (core, slot) (s2.team? (core, slot))
  refine ⟨s2, s3.stepOutcome (core, slot) (s2.team? (core, slot)), hwhole, hstop ▸ execStep_steps hrun ht hstep hwhole, by rw [hstop],
    hmem.trans (by rw [← hstop]; rfl), fun t1 ht1 => ?_, fun e he huid => ?_⟩
  · rw [ht1]
    refine ⟨fun h => ?_, fun h hwait => ?_, fun h hwait hstands => ?_, fun h hwait hstands => ?_⟩
    · rw [stepOutcome_stops _ _ h]
      exact result_debugOutcome _ _ _ (by decide)
    · rw [stepOutcome_waits _ _ h hwait]
      exact result_debugOutcome _ _ _ (by decide)
    · rw [stepOutcome_done _ _ h hwait hstands]
      exact result_debugOutcome _ _ _ (by decide)
    · rw [stepOutcome_stays _ _ h hwait hstands]
      exact ⟨rfl, by simp [State.debugStays, State.dbgReg_setDbg]⟩
  · rw [State.core, hcores, ← hstop] at he
    exact stopped_of_mem_stopBlock he huid

/-- A fetch fault is an issue: `F.STEP` where it is due, the fault, or the completion of a unit whose fault is excused. -/
theorem execFetchFault_cases (s : State) (core slot : Nat) (t : Team) :
    let sw := ({ s with cur := (core, slot) } : State).settleWait (core, slot) t
    let t0 : Team := { (sw.team? (core, slot)).getD t with hold := none }
    let s0 := sw.setTeam (core, slot) t0
    let ended (s1 : State) : Result :=
      .next (({ s1.traceUnit s (core, slot) with cur := s.cur, latch := s.latch } : State).issueCycles s (core, slot))
    s.fe.recovery = false →
    (∀ g s2, s.nextUnit (core, slot) = some (t, .fault g s2) →
      (t0.stepDue = true → execFetchFault core slot s =
        ended (sw.takeFault (core, slot) t0 t0.pc (faultOf 0x2A 0 0 (sw.stepMask t0)))) ∧
      (∀ f s1, t0.stepDue = false → s0.fetchUnit (core, slot) t0 = .fault f s1 →
        execFetchFault core slot s = ended (s1.takeFault s1.cur t0 t0.pc f))) ∧
    (∀ f g u v s1 s2, s.nextUnit (core, slot) = some (t, .bad g v s2) → t0.stepDue = false →
      s0.fetchUnit (core, slot) t0 = .bad f u s1 →
      (t0.excused f = false → execFetchFault core slot s = ended (s1.takeFault s1.cur t0 t0.pc f)) ∧
      (t0.excused f = true → execFetchFault core slot s = ended (({ s1 with latch := u } : State).complete t0))) := by
  intro sw t0 s0 ended hrec
  refine ⟨fun g s2 hnext => ?_, fun f g u v s1 s2 hnext hdue hfetch => ?_⟩
  · obtain ⟨ht, hgo⟩ := canIssue_of_nextUnit hnext
    exact ⟨fun hdue => execFetchFault_issues hnext (.inl ⟨g, s2, rfl⟩) (issueUnit_steps (s := { s with cur := (core, slot) }) ht hgo hrec hdue),
      fun f s1 hdue hfetch => execFetchFault_issues hnext (.inl ⟨g, s2, rfl⟩)
        (issueUnit_fetchFails (s := { s with cur := (core, slot) }) ht hgo hrec hdue hfetch)⟩
  · obtain ⟨ht, hgo⟩ := canIssue_of_nextUnit hnext
    have hissue := execFetchFault_issues hnext (.inr ⟨g, v, s2, rfl⟩)
      (issueUnit_unitFails (s := { s with cur := (core, slot) }) ht hgo hrec hdue hfetch)
    exact ⟨fun hnot => hissue.trans (by rw [hnot]; rfl), fun hex => hissue.trans (by rw [hex]; rfl)⟩

/-- Settles O59: each command and each step by what it finds; that a unit comes to its end rests on `execOpcode_next`. -/
theorem debugAndTrace : Obligations.DebugAndTrace := by
  unfold Obligations.DebugAndTrace
  refine ⟨fun s core place slot nbuf => ⟨fun hb => ⟨?stopAbsent, ?runAbsent⟩, execStep_other, execExec_other nbuf, fun hrun ht =>
      ⟨execStep_absent (by simp [hrun]) ht, execExec_absent nbuf hrun ht⟩, fun b hb => ⟨execStop_found hb, execRun_found hb⟩,
      fun t b hrun ht hstep => ⟨execStep_unsteppable (by simp [hrun]) ht hstep, execExec_unsteppable nbuf hrun ht hstep⟩,
      fun t b hrun ht hstep => execStep_result hrun ht hstep, fun t b hrun ht hstep => ?exec⟩,
    fun s p n s1 t hturn ht hlast => issueWhole_last n hturn ht hlast, fun t t0 => ⟨rfl, rfl, rfl, rfl, rfl, rfl, rfl⟩,
    fun s => ⟨fun hbusy => congrArg _ (if_pos hbusy), fun hidle => execBlockStopDone_ends hidle⟩,
    fun s core => execGangstop_next s core,
    fun s core slot t => ⟨fun u w hnext hrole hvec hfirst => execVectorPass_issues hnext hrole hvec hfirst,
      fun u w hnext hop hfirst => execOperationStart_issues hnext hop hfirst, execFetchFault_cases s core slot t⟩,
    fun s core slot t ht => ⟨fun hready hboost hcycles => execTeamBoost_due ht hready hboost hcycles, fun h => execTeamBoost_early ht h,
      fun hyielded h => execYieldEnd_due ht hyielded h, fun h => execYieldEnd_early ht h⟩,
    fun s core val => ?traceEnable,
    fun s core hon => ⟨⟨_, execTraceSync_on hon, traceSync_since s core⟩,
      fun e he hevent => ⟨_, execCounterWrap_wraps hon he hevent, traceWrap_counter s core e⟩⟩,
    fun s core hpaused hdown hheld hdropped => execTraceResume_resumes hpaused hdown hheld hdropped⟩
  case stopAbsent => simp only [exec_stop, execStop, hb]
  case runAbsent => simp only [exec_run, execRun, hb]
  case exec =>
    rw [exec_exec, execExec_runs nbuf hrun ht hstep]
    exact execEnds_cases s (core, slot) t (execWords_ne_stuck _ _ _ _ _)
  case traceEnable =>
    intro u base
    have hbase : base = s.traceCtl core val := (traceCtl_eq s core val).symm
    clear_value base
    subst hbase
    exact ⟨execTraceEnable_off, execTraceEnable_stays, fun hen hoff => ⟨execTraceEnable_starts hen hoff, traceSync_since _ core⟩⟩

end Sys2Proof.Machine
end

section
/-! The statement on a step of a team's turn: what fetching answers for its next words, and how the unit they make runs. -/

namespace Sys2Proof.Machine

/-! ### A turn is a step -/

/-- With no event to perform, a step is the issue of a unit and what follows it (log 3). -/
theorem step_of_issueUnit {s s' : State} (hagenda : s.agenda = []) (hpower : s.powered = true)
    (hissue : s.issueUnit exec s.passLimit = .next s') :
    step s = .next (((s'.traceUnit s s.cur).afterIssue s s.cur).settle s) := by
  simp only [step, hagenda, hpower, if_true, hissue, issued, settled]

/-- A unit that passes its checks is latched and runs. -/
theorem issueUnit_runs {s s1 : State} {t : Team} {run : Instr → State → Result} {lim : Option Nat} {u : IssueUnit}
    (ht : s.team? s.cur = some t) (hgo : t.canIssue (s.blockOf s.cur.1 t) = true) (hrec : s.fe.recovery = false) :
    let s0 := s.settleWait s.cur t
    let t0 : Team := { (s0.team? s.cur).getD t with hold := none }
    t0.stepDue = false → (s0.setTeam s.cur t0).fetchUnit s.cur t0 = .ok u s1 →
      s.issueUnit run lim = ({ s1 with latch := u.latch t0.pc lim } : State).runUnit run u := by
  intro s0 t0 hdue hfetch
  simp only [State.issueUnit, ht, hgo, hrec, Bool.true_eq_false, Bool.false_eq_true, or_self, if_false]
  rw [if_neg (by rw [hdue]; exact Bool.false_ne_true), hfetch]

/-! ### A unit of one word -/

section
variable {s s1 : State} {p : Nat × Nat} {t : Team} {x : UnitWord}
  (hwords : s.fetchWords (s.agentOf p t) 3 t.pc none = .ok [x] s1) (hpool : x.pa.any (s1.inPool p.1 t.uid) = false)
include hwords hpool

/-- A word that is an instruction and no prefix is a unit of its own (R242). -/
theorem fetchUnit_decoded {i : Instr} (hdec : decodeWord x.w = .ok i) (hpre : isPrefix i = false) :
    s.fetchUnit p t = .ok ⟨none, none, x, i⟩ s1 := by
  have hall : decodeAll [x] = .ok [(x, i)] := by simp only [decodeAll, hdec]
  have hunit : assemble [(x, i)] = .ok ⟨none, none, x, i⟩ := by simp [assemble, hpre]
  simp [State.fetchUnit, hwords, hpool, hall, hunit]

/-- A word that decodes to nothing is `F.ILL` with the subcode of its decoding (R218, R242). -/
theorem fetchUnit_undecoded {e : Ill} (hdec : decodeWord x.w = .error e) :
    s.fetchUnit p t =
      .bad (faultOf 0x01 e.code 0 (if e.code = 1 then unknownMask t else teamFaultMask t (wordIsVector x.w)))
        (badLatch t.pc [x]) s1 := by
  have hall : decodeAll [x] = .error (e.code, x.w) := by simp only [decodeAll, hdec]
  simp [State.fetchUnit, hwords, hpool, hall]

end

/-! ### The words of a unit -/

section
variable {s s1 : State} {t : Team} {run : Instr → State → Result}

/-- Without a `rep` the instruction runs as it is, when no repeats are in progress. -/
theorem runRepeat_plain (i : Instr) (ht : s.team? s.cur = some t) (hrem : t.rep.remain = 0) : s.runRepeat run none i = run i s := by
  simp only [State.runRepeat, ht, hrem, if_true]

/-- Behind a `rep` the instruction runs with its fields stepped to the present repeat (R221, R222). -/
theorem runRepeat_stepped {r : Instr} (i : Instr) (hrep : run r s = .next s1) (ht : s1.team? s1.cur = some t)
    (hparked : t.parked = false) (hrem : t.rep.remain ≠ 0) (hgood : s1.repFault t t.rep = none) :
    let j := t.rep.total - t.rep.remain
    s.runRepeat run (some r) i = run (stepped i (j * t.rep.sd) (j * t.rep.sa) (j * t.rep.sb)) s1 := by
  simp [State.runRepeat, hrep, ht, hparked, hrem, hgood]

theorem runUnit_unwidened {u : IssueUnit} (hlimm : u.limm = none) : s.runUnit run u = s.runRepeat run u.rep u.instr := by
  rw [runUnit_eq, hlimm]

/-- A `limm` runs before the instruction that its literal widens (R220). -/
theorem runUnit_widened {u : IssueUnit} {v : Nat} {i : Instr} (hlimm : u.limm = some v) (hwide : widened v u.instr = some i)
    (hrun : run (.limm v) s = .next s1) : s.runUnit run u = s1.runRepeat run u.rep i := by
  simp only [runUnit_eq, hlimm, hrun, hwide]

end

/-- Settles O22: a step is an issue, and an issue goes as its next word decodes, or as the prefixes of its unit say. -/
theorem stepRunsUnit : Obligations.StepRunsUnit := by
  unfold Obligations.StepRunsUnit
  refine ⟨fun s t0 hagenda hpower hrec ht hgo => ?oneWord, fun s t0 hagenda hpower hrec ht hgo => ?prefixed⟩
  case oneWord =>
    intro sw t after
    have hstep {s'} (h : s.issueUnit exec s.passLimit = .next s') : step s = after s' := step_of_issueUnit hagenda hpower h
    refine ⟨fun hdue => hstep (issueUnit_steps ht hgo hrec hdue), fun hdue s1 x => ?_⟩
    intro s0 hwords ht1 _ hpool
    refine ⟨fun i s2 hdec hpre hrem hexec => ?decoded, fun e hdec => ?undecoded⟩
    case decoded =>
      have hlatched : ({ s1 with latch := (⟨none, none, x, i⟩ : IssueUnit).latch t.pc s.passLimit } : State).team? s1.cur = some t := ht1
      have hissue := issueUnit_runs (run := exec) (lim := s.passLimit) ht hgo hrec hdue (fetchUnit_decoded hwords hpool hdec hpre)
      refine hstep (hissue.trans ((runUnit_unwidened rfl).trans ?_))
      exact (runRepeat_plain i hlatched hrem).trans hexec
    case undecoded =>
      intro f
      have hissue := issueUnit_unitFails (run := exec) (lim := s.passLimit) ht hgo hrec hdue (fetchUnit_undecoded hwords hpool hdec)
      exact ⟨fun hnot => hstep (hissue.trans (by rw [if_neg (by rw [hnot]; exact Bool.false_ne_true)])),
        fun hex => hstep (hissue.trans (by rw [if_pos hex]))⟩
  case prefixed =>
    intro sw t hdue s1 u hfetch s2 after
    have hstep {s'} (h : s2.runUnit exec u = .next s') : step s = after s' :=
      step_of_issueUnit hagenda hpower ((issueUnit_runs ht hgo hrec hdue hfetch).trans h)
    refine ⟨fun v i s3 t3 s4 hlimm hrep hwide hrun ht3 hrem hexec => ?limm,
      fun r s3 t3 s4 hlimm hrep hrun ht3 hparked hrem hgood hexec => ?rep,
      fun v r i s3 s4 t4 s5 hlimm hrep hwide hrun hrunRep ht4 hparked hrem hgood hexec => ?both⟩
    case limm =>
      refine hstep ((runUnit_widened hlimm hwide hrun).trans ?_)
      rw [hrep]
      exact (runRepeat_plain i ht3 hrem).trans hexec
    case rep =>
      refine hstep ((runUnit_unwidened hlimm).trans ?_)
      rw [hrep]
      exact (runRepeat_stepped u.instr hrun ht3 hparked hrem hgood).trans hexec
    case both =>
      refine hstep ((runUnit_widened hlimm hwide hrun).trans ?_)
      rw [hrep]
      exact (runRepeat_stepped i hrunRep ht4 hparked hrem hgood).trans hexec

end Sys2Proof.Machine
end

section
/-! The integer arithmetic, the divisions and the bitwise values: what the operand forms answer when no lane faults, and what the
machine's word operations compute. -/

namespace Sys2Proof.Machine

/-! ### The operand forms when no lane faults -/

section
variable {s : State} {t : Team} {d : Nat} {a b : VSrc} {nw : Bool} {v : Nat → W32}

/-- A vector instruction without exceptions leaves, in each active lane, the value of that lane. -/
theorem vecOp_value {regs : List Nat} {f : Team → Nat → LaneRes} (h : VecReady s t (.v d nw) regs)
    (hv : ∀ l ∈ lanesOf t.active t.lanes, f t l = laneVal32 (v l)) : s.vecOp (.v d nw) regs f = .next (vecDone32 s t d nw v) :=
  vecOp_done h hv

theorem vec1_value {f : W32 → W32} (h : VecReady s t (.v d nw) (vregsOf a)) (hv : ∀ l, f (t.src a l) = v l) :
    s.vec1 d nw a f = .next (vecDone32 s t d nw v) :=
  vecOp_value h (fun l _ => congrArg laneVal32 (hv l))

theorem vec2_value {f : W32 → W32 → W32} (h : VecReady s t (.v d nw) (vregsOf a ++ vregsOf b))
    (hv : ∀ l, f (t.src a l) (t.src b l) = v l) : s.vec2 d nw a b f = .next (vecDone32 s t d nw v) :=
  vecOp_value h (fun l _ => congrArg laneVal32 (hv l))

theorem vec3_value {f : W32 → W32 → W32 → W32} (h : VecReady s t (.v d nw) (d :: (vregsOf a ++ vregsOf b)))
    (hv : ∀ l, f (t.vreg d l) (t.src a l) (t.src b l) = v l) : s.vec3 d nw a b f = .next (vecDone32 s t d nw v) :=
  vecOp_value h (fun l _ => congrArg laneVal32 (hv l))

/-- A division none of whose active lanes has a zero divisor faults in no lane (R249). -/
theorem vecDiv_value {sub : Nat} {f : W32 → W32 → W32} (h : VecReady s t (.v d nw) (vregsOf a ++ vregsOf b))
    (hz : ∀ l ∈ lanesOf t.active t.lanes, t.src b l ≠ 0) (hv : ∀ l, f (t.src a l) (t.src b l) = v l) :
    s.vecDiv d nw a b sub f = .next (vecDone32 s t d nw v) :=
  vecOp_value h (fun l hl => by rw [divLane, if_neg (hz l hl), hv l])

theorem vecPair2_value {a b : Nat} {f : W64 → W64 → W64} {v : Nat → W64} (h : VecReady s t (.w d nw) [a, a + 1, b, b + 1])
    (hv : ∀ l, f (t.pair a l) (t.pair b l) = v l) : s.vecPair2 d nw a b f = .next (vecDone64 s t d nw v) :=
  vecOp_done h (fun l _ => congrArg laneVal (hv l))

theorem scalarOp_value {f : Team → W64} {x : W64} (h : OnceReady s t .any) (hx : f t = x) :
    s.scalarOp .any d f = .next (scalarDone s t d x) :=
  hx ▸ scalarOp_done h

theorem scalar2_value {a b : Nat} {f : W64 → W64 → W64} {x : W64} (h : OnceReady s t .any) (hx : f (t.s a) (t.s b) = x) :
    s.scalar2 d a b f = .next (scalarDone s t d x) :=
  scalarOp_value h hx

end

/-! ### Sums, differences and products -/

section
variable {w : Nat} (x y : BitVec w)

theorem mul_eq_ofNat : x * y = BitVec.ofNat w (x.toNat * y.toNat) :=
  BitVec.eq_of_toNat_eq (by rw [BitVec.toNat_mul, BitVec.toNat_ofNat])

theorem sub_eq_ofInt : x - y = BitVec.ofInt w (x.toInt - y.toInt) :=
  BitVec.eq_of_toInt_eq (by rw [BitVec.toInt_sub, BitVec.toInt_ofInt])

theorem add_ofInt (z : Int) : x + BitVec.ofInt w z = BitVec.ofInt w (x.toInt + z) := by
  rw [BitVec.ofInt_add, BitVec.ofInt_toInt]

theorem add_mul_eq_ofNat (z : BitVec w) : z + x * y = BitVec.ofNat w (z.toNat + x.toNat * y.toNat) := by
  rw [BitVec.ofNat_add, BitVec.ofNat_toNat, BitVec.setWidth_eq, mul_eq_ofNat]

end

/-- The high word of a number that was reduced modulo 2^64 is the high word of the number. -/
theorem extractLsb'_ofInt_high (z : Int) : (BitVec.ofInt 64 z).extractLsb' 32 32 = BitVec.ofInt 32 (z / 2 ^ 32) := by
  apply BitVec.eq_of_toNat_eq
  simp only [BitVec.extractLsb'_toNat, BitVec.toNat_ofInt, Nat.shiftRight_eq_div_pow]
  omega

/-- The high word of the signed product is the floor of the exact product over 2^32 (R248). -/
theorem mulhI_eq_ofInt (x y : W32) : mulhI x y = BitVec.ofInt 32 (x.toInt * y.toInt / 2 ^ 32) := by
  rw [mulhI, BitVec.signExtend, BitVec.signExtend, ← BitVec.ofInt_mul, extractLsb'_ofInt_high]

/-- The high word of the natural product is the exact product over 2^32 (R248). -/
theorem mulhN_eq_ofNat (x y : W32) : mulhN x y = BitVec.ofNat 32 (x.toNat * y.toNat / 2 ^ 32) := by
  have hx : x.zeroExtend 64 = BitVec.ofInt 64 x.toNat := (BitVec.ofNat_toNat 64 x).symm
  have hy : y.zeroExtend 64 = BitVec.ofInt 64 y.toNat := (BitVec.ofNat_toNat 64 y).symm
  rw [mulhN, hx, hy, ← BitVec.ofInt_mul, extractLsb'_ofInt_high, ← BitVec.ofInt_natCast]
  norm_cast

theorem abs32_eq_ofInt (x : W32) : abs32 x = BitVec.ofInt 32 |x.toInt| := by
  by_cases hneg : x.toInt < 0
  · rw [abs32, BitVec.msb_eq_toInt, if_pos (by simpa using hneg), abs_of_neg hneg, BitVec.ofInt_neg, BitVec.ofInt_toInt]
  · rw [abs32, BitVec.msb_eq_toInt, if_neg (by simpa using hneg), abs_of_nonneg (not_lt.1 hneg), BitVec.ofInt_toInt]

/-! ### The lesser and the greater -/

/-- It does not matter which of two things is taken where they have the same value, when only the same thing has it. -/
theorem ite_lt_eq_ite_le {α β : Type} [LinearOrder β] {φ : α → β} (hφ : φ.Injective) (x y : α) :
    (if φ x < φ y then y else x) = if φ x ≤ φ y then y else x := by
  by_cases heq : φ x = φ y
  · rw [hφ heq, ite_self, ite_self]
  · simp only [lt_iff_le_and_ne, ne_eq, heq, not_false_eq_true, and_true]

section
variable (x y : W32)

theorem minI_eq_ite : minI x y = if x.toInt ≤ y.toInt then x else y := by
  simp only [minI, BitVec.slt_iff_toInt_lt, ← not_le, ite_not]

theorem minN_eq_ite : minN x y = if x.toNat ≤ y.toNat then x else y := by
  simp only [minN, BitVec.ult_iff_toNat_lt, ← not_le, ite_not]

theorem maxI_eq_ite : maxI x y = if x.toInt ≤ y.toInt then y else x := by
  simp only [maxI, BitVec.slt_iff_toInt_lt, ite_lt_eq_ite_le fun _ _ => BitVec.eq_of_toInt_eq]

theorem maxN_eq_ite : maxN x y = if x.toNat ≤ y.toNat then y else x := by
  simp only [maxN, BitVec.ult_iff_toNat_lt, ite_lt_eq_ite_le fun _ _ => BitVec.eq_of_toNat_eq]

end

/-- Settles O1: each form answers by its own lemma, with the value of its word operation. -/
theorem integerArithmetic : Obligations.IntegerArithmetic := by
  unfold Obligations.IntegerArithmetic
  refine ⟨fun s t d a b nw h => ?two, fun s t d a b nw h => ?mad, fun s t d a imm nw h => ?one,
    fun s t d a b nw h => ?pair, fun s t d a b imm h => ?scalar⟩
  case two =>
    exact ⟨(exec_iaddI32 s).trans (vec2_value h fun _ => BitVec.add_def ..),
      (exec_isubI32 s).trans (vec2_value h fun _ => sub_eq_ofInt ..),
      (exec_imulI32 s).trans (vec2_value h fun _ => mul_eq_ofNat ..),
      (exec_imulhI32 s).trans (vec2_value h fun _ => mulhI_eq_ofInt ..),
      (exec_imulhN32 s).trans (vec2_value h fun _ => mulhN_eq_ofNat ..),
      (exec_iminI32 s).trans (vec2_value h fun _ => minI_eq_ite ..),
      (exec_imaxI32 s).trans (vec2_value h fun _ => maxI_eq_ite ..),
      (exec_iminN32 s).trans (vec2_value h fun _ => minN_eq_ite ..),
      (exec_imaxN32 s).trans (vec2_value h fun _ => maxN_eq_ite ..)⟩
  case mad => exact (exec_imadI32 s).trans (vec3_value h fun _ => add_mul_eq_ofNat ..)
  case one =>
    exact ⟨(exec_iabsI32 s).trans (vec1_value h fun _ => abs32_eq_ofInt ..),
      (exec_iaddI32Imm s).trans (vec1_value h fun _ => add_ofInt ..)⟩
  case pair =>
    exact ⟨(exec_iaddI64V s).trans (vecPair2_value h fun _ => BitVec.add_def ..),
      (exec_isubI64V s).trans (vecPair2_value h fun _ => sub_eq_ofInt ..)⟩
  case scalar =>
    exact ⟨(exec_iaddI64S s).trans (scalar2_value h (BitVec.add_def ..)),
      (exec_isubI64S s).trans (scalar2_value h (sub_eq_ofInt ..)),
      (exec_imulI64 s).trans (scalar2_value h (mul_eq_ofNat ..)),
      (exec_iaddI64Imm s).trans (scalarOp_value h (add_ofInt ..))⟩

/-- Settles O2: without a zero divisor each division has the value of its word operation. -/
theorem integerDivision : Obligations.IntegerDivision := by
  unfold Obligations.IntegerDivision
  intro s t d a b nw h hz
  exact ⟨(exec_idivI32 s).trans (vecDiv_value h hz fun _ => congrFun₂ sdiv_eq_ofInt ..),
    (exec_idivN32 s).trans (vecDiv_value h hz fun _ => congrFun₂ udiv_eq_ofNat ..),
    (exec_iremI32 s).trans (vecDiv_value h hz fun _ => congrFun₂ srem_eq_ofInt ..),
    (exec_iremN32 s).trans (vecDiv_value h hz fun _ => congrFun₂ umod_eq_ofNat ..)⟩

/-! ### Shifts -/

section
variable {w : Nat} (x : BitVec w) (n : Nat)

theorem shiftLeft_eq_ofNat : x <<< n = BitVec.ofNat w (x.toNat * 2 ^ n) :=
  BitVec.eq_of_toNat_eq (by rw [BitVec.toNat_shiftLeft, BitVec.toNat_ofNat, Nat.shiftLeft_eq])

theorem ushiftRight_eq_ofNat : x >>> n = BitVec.ofNat w (x.toNat / 2 ^ n) := by
  rw [← Nat.shiftRight_eq_div_pow, ← BitVec.toNat_ushiftRight, BitVec.ofNat_toNat, BitVec.setWidth_eq]

/-- A signed shift by w - 1 places or more leaves only the sign. -/
theorem sshiftRight_eq_sign (hn : w - 1 ≤ n) : x.sshiftRight n = if x.msb then BitVec.allOnes w else 0#w := by
  ext i hi
  have hbit : (x.sshiftRight n)[i] = x.msb := by
    rw [BitVec.getElem_sshiftRight]
    split
    · next hlt =>
      have htop : n + i = w - 1 := by omega
      rw [BitVec.msb_eq_getLsbD_last, ← BitVec.getLsbD_eq_getElem, htop]
    · rfl
  cases hx : x.msb <;> simp [hbit, hx]

/-- A signed shift whose count stops at w - 1 rounds toward −∞, and leaves the sign from w places on (R250). -/
theorem sshiftRight_min_eq : x.sshiftRight (min n (w - 1)) =
    if w ≤ n then (if x.msb then BitVec.allOnes w else 0#w) else BitVec.ofInt w (x.toInt / 2 ^ n) := by
  split
  · exact sshiftRight_eq_sign x _ (by omega)
  · rw [Nat.min_eq_left (by omega), BitVec.sshiftRight_eq, Int.shiftRight_eq_div_pow]
    norm_cast

end

theorem sar32_eq_ite (x y : W32) : sar32 x y =
    if 32 ≤ y.toNat then (if x.msb then BitVec.allOnes 32 else 0) else BitVec.ofInt 32 (x.toInt / 2 ^ y.toNat) :=
  sshiftRight_min_eq x y.toNat

theorem sar64_eq_ite (x y : W64) : sar64 x y =
    if 64 ≤ y.toNat then (if x.msb then BitVec.allOnes 64 else 0) else BitVec.ofInt 64 (x.toInt / 2 ^ y.toNat) :=
  sshiftRight_min_eq x y.toNat

theorem shl32_eq_ite (x y : W32) : shl32 x y = if 32 ≤ y.toNat then 0 else BitVec.ofNat 32 (x.toNat * 2 ^ y.toNat) := by
  rw [shl32, shiftLeft_eq_ofNat]

theorem shl64_eq_ite (x y : W64) : shl64 x y = if 64 ≤ y.toNat then 0 else BitVec.ofNat 64 (x.toNat * 2 ^ y.toNat) := by
  rw [shl64, shiftLeft_eq_ofNat]

theorem shr32_eq_ite (x y : W32) : shr32 x y = if 32 ≤ y.toNat then 0 else BitVec.ofNat 32 (x.toNat / 2 ^ y.toNat) := by
  rw [shr32, ushiftRight_eq_ofNat]

theorem shr64_eq_ite (x y : W64) : shr64 x y = if 64 ≤ y.toNat then 0 else BitVec.ofNat 64 (x.toNat / 2 ^ y.toNat) := by
  rw [shr64, ushiftRight_eq_ofNat]

/-! ### Bit counts and the reversal -/

/-- k zero bits above the highest 1 bit: what is left of the source above bit 31 - k is that bit alone (R251). -/
theorem clz32_spec {x : W32} (hx : x ≠ 0) : (clz32 x).toNat < 32 ∧ x.toNat / 2 ^ (31 - (clz32 x).toNat) = 1 := by
  have h0 : x.toNat ≠ 0 := fun h => hx (BitVec.eq_of_toNat_eq h)
  have hlog : x.toNat.log2 < 32 := (Nat.log2_lt h0).2 x.isLt
  have hclz : (clz32 x).toNat = 31 - x.toNat.log2 := by
    rw [clz32, if_neg hx, BitVec.toNat_ofNat]
    omega
  have hk : 31 - (clz32 x).toNat = x.toNat.log2 := by omega
  refine ⟨by omega, ?_⟩
  rw [hk]
  exact Nat.div_eq_of_lt_le (by simpa using Nat.log2_self_le h0) (by simpa [Nat.pow_succ'] using Nat.lt_log2_self (n := x.toNat))

theorem popcount_le (n x : Nat) : popcount n x ≤ n :=
  (List.length_filter_le _ _).trans_eq List.length_range

theorem toNat_ofNat_popcount (x : W32) :
    (BitVec.ofNat 32 (popcount 32 x.toNat)).toNat = ((List.range 32).filter (fun i => x.getLsbD i)).length :=
  Nat.mod_eq_of_lt ((popcount_le 32 x.toNat).trans_lt (by decide))

theorem getLsbD_brev32 (x : W32) {i : Nat} (hi : i < 32) : (brev32 x).getLsbD (31 - i) = x.getLsbD i := by
  have hback : 32 - 1 - (31 - i) = i := by omega
  rw [brev32, BitVec.getLsbD_reverse, BitVec.getMsbD_eq_getLsbD, hback, decide_eq_true (by omega), Bool.true_and]

/-- Settles O4: the bitwise values are the operations themselves, the shifts go by their arithmetic, and the counts and the reversal
by what they mean. -/
theorem bitOperations : Obligations.BitOperations := by
  unfold Obligations.BitOperations
  refine ⟨⟨fun s t d a b nw h => ?vector, fun s t d a b h => ?scalar⟩, fun s t d a nw h => ⟨?clz, ?popc, ?brev⟩⟩
  case vector =>
    exact ⟨(exec_andV s).trans (vec2_value h fun _ => rfl),
      (exec_orV s).trans (vec2_value h fun _ => rfl),
      (exec_xorV s).trans (vec2_value h fun _ => rfl),
      (exec_andn s).trans (vec2_value h fun _ => rfl),
      (exec_shlN32 s).trans (vec2_value h fun _ => shl32_eq_ite ..),
      (exec_shrN32 s).trans (vec2_value h fun _ => shr32_eq_ite ..),
      (exec_sarI32 s).trans (vec2_value h fun _ => sar32_eq_ite ..),
      (exec_rotN32 s).trans (vec2_value h fun _ => rfl)⟩
  case scalar =>
    exact ⟨(exec_andS s).trans (scalar2_value h rfl),
      (exec_orS s).trans (scalar2_value h rfl),
      (exec_xorS s).trans (scalar2_value h rfl),
      (exec_shlN64 s).trans (scalar2_value h (shl64_eq_ite ..)),
      (exec_shrN64 s).trans (scalar2_value h (shr64_eq_ite ..)),
      (exec_sarI64 s).trans (scalar2_value h (sar64_eq_ite ..))⟩
  case clz => exact ⟨clz32, (exec_clz s).trans (vec1_value h fun _ => rfl), rfl, fun _ hx => clz32_spec hx⟩
  case popc => exact ⟨_, (exec_popc s).trans (vec1_value h fun _ => rfl), toNat_ofNat_popcount⟩
  case brev => exact ⟨brev32, (exec_brev s).trans (vec1_value h fun _ => rfl), fun x _ hi => getLsbD_brev32 x hi⟩

end Sys2Proof.Machine
end

section
/-! The decoder: some words written out, and a well-formed instruction that is not decoded back. -/

namespace Sys2Proof.Machine

/-- Settles O21: each word is decoded by evaluation. -/
theorem decodeWords : Obligations.DecodeWords := by
  unfold Obligations.DecodeWords
  decide

/-- Refutes O20: `wellFormed` bounds the register number of `sysrd` by its 14 bits alone, and `decSys` refuses the numbers that R339
does not list. `sysrd s0, 7` is well formed, its word is 0x20038079, and that word is unassigned. -/
theorem not_decodeEncode : ¬ Obligations.DecodeEncode := by
  unfold Obligations.DecodeEncode
  intro h
  have hback : decodeWord 0x20038079 = .ok (.sysrd 0 7) := h (.sysrd 0 7) 0x20038079 rfl rfl
  have hrefused : decodeWord 0x20038079 = .error .unassigned := by decide
  exact nomatch hrefused.symm.trans hback

end Sys2Proof.Machine
end

section
/-! The rest of the integer group: bit fields and moves, comparisons, and the 16-bit forms. -/

namespace Sys2Proof.Machine

/-! ### Bit fields -/

theorem fieldWidth_le (x : W32) : fieldPos x + fieldWidth x ≤ 32 := by
  have hpos : fieldPos x < 32 := Nat.mod_lt _ (by decide)
  simp only [fieldWidth]
  omega

/-- A field of k bits read as a signed value of k bits (R252). -/
theorem bmod_two_pow {f k : Nat} (hk : 0 < k) (hf : f < 2 ^ k) :
    Int.bmod f (2 ^ k) = if 2 ^ (k - 1) ≤ f then (f : Int) - 2 ^ k else f := by
  obtain ⟨j, rfl⟩ : ∃ j, k = j + 1 := ⟨k - 1, by omega⟩
  have hhalf : (2 : Nat) ^ (j + 1) = 2 * 2 ^ j := by ring
  have hcast : (2 : Int) ^ (j + 1) = ((2 ^ (j + 1) : Nat) : Int) := by push_cast; rfl
  rw [Nat.add_sub_cancel, hcast]
  rw [hhalf] at hf ⊢
  rw [Int.bmod, Int.emod_eq_of_lt (by omega) (by omega)]
  generalize 2 ^ j = p at hf ⊢
  split <;> split <;> omega

theorem bfx32_eq (x b : W32) : bfx32 x b =
    if b.getLsbD 16 ∧ 0 < fieldWidth b then
      BitVec.ofInt 32 (Int.bmod (x.toNat / 2 ^ fieldPos b % 2 ^ fieldWidth b : Nat) (2 ^ fieldWidth b))
    else BitVec.ofNat 32 (x.toNat / 2 ^ fieldPos b % 2 ^ fieldWidth b) := by
  have hf : x.toNat / 2 ^ fieldPos b % 2 ^ fieldWidth b < 2 ^ fieldWidth b := Nat.mod_lt _ (by positivity)
  have hw : 2 ^ fieldWidth b ≤ 2 ^ 32 := Nat.pow_le_pow_right (by decide) (by have := fieldWidth_le b; omega)
  simp only [bfx32]
  generalize x.toNat / 2 ^ fieldPos b % 2 ^ fieldWidth b = f at hf ⊢
  by_cases hs : b.getLsbD 16 = true ∧ 0 < fieldWidth b
  · rw [if_pos hs, bmod_two_pow hs.2 hf]
    by_cases htop : 2 ^ (fieldWidth b - 1) ≤ f
    · rw [if_pos ⟨hs.1, hs.2, htop⟩, if_pos htop]
      apply BitVec.eq_of_toNat_eq
      rw [BitVec.toNat_ofNat, BitVec.toNat_ofInt]
      have hcast : (2 : Int) ^ fieldWidth b = ((2 ^ fieldWidth b : Nat) : Int) := by push_cast; rfl
      rw [hcast]
      omega
    · rw [if_neg (fun h => htop h.2.2), if_neg htop, BitVec.ofInt_natCast]
  · rw [if_neg hs, if_neg (fun h => hs ⟨h.1, h.2.1⟩)]

/-- The bits of a field of k ones at position p. -/
theorem getLsbD_fieldMask (k p : Nat) {i : Nat} (hi : i < 32) :
    (BitVec.ofNat 32 ((2 ^ k - 1) * 2 ^ p)).getLsbD i = decide (p ≤ i ∧ i < p + k) := by
  rw [BitVec.getLsbD_ofNat, Nat.testBit_mul_two_pow, Nat.testBit_two_pow_sub_one]
  simp only [hi, decide_true, Bool.true_and, ← Bool.decide_and]
  exact decide_eq_decide.2 (by omega)

theorem getLsbD_bfi32 (d a b : W32) {i : Nat} (hi : i < 32) : (bfi32 d a b).getLsbD i =
    if fieldPos b ≤ i ∧ i < fieldPos b + fieldWidth b then a.getLsbD (i - fieldPos b) else d.getLsbD i := by
  simp only [bfi32, BitVec.getLsbD_or, BitVec.getLsbD_and, BitVec.getLsbD_not, BitVec.getLsbD_shiftLeft, getLsbD_fieldMask _ _ hi, hi]
  by_cases hin : fieldPos b ≤ i ∧ i < fieldPos b + fieldWidth b
  · simp [hin]
  · simp [hin]

/-- Settles O5: the moves and constants write what they read, and the fields are those of `bfx32` and `bfi32`. -/
theorem fieldsAndMoves : Obligations.FieldsAndMoves := by
  unfold Obligations.FieldsAndMoves
  refine ⟨fun s t d a b nw h => ?bfx, fun s t d a b nw h => ?bfi, fun s t d a b nw h => ?sel, fun s t d a nw h => ?mov,
    fun s t d imm nw h => ?const, fun s t d a imm h => ?scalar⟩
  case bfx => exact (exec_bfx s).trans (vec2_value h fun _ => bfx32_eq ..)
  case bfi => exact ⟨_, (exec_bfi s).trans (vec3_value h fun _ => rfl), fun _ _ hi => getLsbD_bfi32 _ _ _ hi⟩
  case sel => exact (exec_sel s).trans (vecOp_value h fun _ _ => rfl)
  case mov => exact (exec_movV s).trans (vec1_value h fun _ => rfl)
  case const =>
    exact ⟨(exec_moviV s).trans (vecOp_value h fun _ _ => rfl), (exec_lidV s).trans (vecOp_value h fun _ _ => rfl)⟩
  case scalar =>
    exact ⟨(exec_movS s).trans (scalarOp_value h rfl), (exec_moviS s).trans (scalarOp_value h rfl),
      (exec_lea s).trans (scalarOp_value h rfl), (exec_lidS s).trans (scalarOp_value h rfl)⟩

/-! ### The 16-bit forms -/

/-- Settles O7: each form is its 32-bit value on two registers, of which the first is the destination. -/
theorem narrowForms : Obligations.NarrowForms := by
  unfold Obligations.NarrowForms
  refine ⟨fun s t d a h => (exec_mov16 s).trans (vec1_value h fun _ => rfl), fun s t d a h => ?_⟩
  exact ⟨(exec_iadd16 s).trans (vec2_value h fun _ => BitVec.add_def ..),
    (exec_isub16 s).trans (vec2_value h fun _ => sub_eq_ofInt ..),
    (exec_imul16 s).trans (vec2_value h fun _ => mul_eq_ofNat ..),
    (exec_and16 s).trans (vec2_value h fun _ => rfl),
    (exec_or16 s).trans (vec2_value h fun _ => rfl),
    (exec_xor16 s).trans (vec2_value h fun _ => rfl),
    (exec_shl16 s).trans (vec2_value h fun _ => shl32_eq_ite ..),
    (exec_shr16 s).trans (vec2_value h fun _ => shr32_eq_ite ..),
    (exec_sar16 s).trans (vec2_value h fun _ => sar32_eq_ite ..),
    (exec_imin16 s).trans (vec2_value h fun _ => minI_eq_ite ..),
    (exec_imax16 s).trans (vec2_value h fun _ => maxI_eq_ite ..)⟩

/-! ### Comparisons -/

theorem beq_eq_decide_toNat {w : Nat} (x y : BitVec w) : (x == y) = decide (x.toNat = y.toNat) := by
  rw [beq_eq_decide]
  exact decide_eq_decide.2 BitVec.toNat_inj.symm

theorem vecCmp_value {s : State} {t : Team} {d : Nat} {a b : VSrc} {f g : W32 → W32 → Bool}
    (h : VecReady s t (.m d) (vregsOf a ++ vregsOf b)) (hf : ∀ x y, f x y = g x y) :
    s.vecCmp d a b f = .next (vecDoneMask s t d (fun l => g (t.src a l) (t.src b l))) :=
  vecOp_done h (fun l _ => by rw [hf]; rfl)

theorem truth_eq_ite {b : Bool} {p : Prop} [Decidable p] (h : b = decide p) : truth b = if p then 1 else 0 := by
  rw [truth, h]
  simp only [decide_eq_true_eq]

section
variable {s : State} {t : Team}

/-- A floating-point instruction none of whose active lanes raises a trapped exception leaves in each of them its bits and its
flags (R182, R203). -/
theorem vecOp_fp {dst : VDst} {regs : List Nat} {r : Team → Nat → FRes} (h : VecReady s t dst regs) (hn : NoTrap t (r t)) :
    s.vecOp dst regs (fun t l => t.fpLane (r t l)) = .next (vecDone s t dst (fun l => fpOut (r t l))) :=
  vecOp_done h (fun l hl => fpLane_ok (hn l hl))

end

/-- Settles O6: a comparison of integers is its truth in each lane or in the scalar, one of floating-point values a lane's result with
its flags. -/
theorem comparisons : Obligations.Comparisons := by
  unfold Obligations.Comparisons
  refine ⟨⟨fun s t d a b h => ?vector, fun s t d a b h => ?scalar⟩, fun s t d a b h => ?f32, fun s t d a b h => ?f64⟩
  case vector =>
    exact ⟨(exec_icmpEqI32 s).trans (vecCmp_value h beq_eq_decide_toNat), (exec_icmpLtI32 s).trans (vecCmp_value h fun _ _ => rfl),
      (exec_icmpLtN32 s).trans (vecCmp_value h fun _ _ => rfl)⟩
  case scalar =>
    exact ⟨(exec_icmpEqI64 s).trans (scalar2_value h (truth_eq_ite (beq_eq_decide_toNat ..))),
      (exec_icmpLtI64 s).trans (scalar2_value h (truth_eq_ite rfl)), (exec_icmpLtN64 s).trans (scalar2_value h (truth_eq_ite rfl))⟩
  case f32 =>
    exact ⟨fun hn => (exec_fcmpEqF32 s).trans (vecOp_fp h hn), fun hn => (exec_fcmpLtF32 s).trans (vecOp_fp h hn),
      fun hn => (exec_fcmpLeF32 s).trans (vecOp_fp h hn)⟩
  case f64 =>
    exact ⟨fun hn => (exec_fcmpEqF64 s).trans (vecOp_fp h hn), fun hn => (exec_fcmpLtF64 s).trans (vecOp_fp h hn),
      fun hn => (exec_fcmpLeF64 s).trans (vecOp_fp h hn)⟩

end Sys2Proof.Machine
end

section
/-! The floating-point instructions: arithmetic, conversions, classes, and the flags and the mode word. -/

namespace Sys2Proof.Machine

section
variable {s : State} {t : Team} {d : Nat} {nw : Bool}

/-! ### The operand forms when no lane raises a trapped exception -/

theorem fp1_done {a : VSrc} {f : Team → FVal → FRes} (h : VecReady s t (.v d nw) (vregsOf a))
    (hn : NoTrap t (fun l => f t (t.f32src a l))) :
    s.fp1 d nw a f = .next (vecDone s t (.v d nw) (fun l => fpOut (f t (t.f32src a l)))) :=
  vecOp_fp (r := fun t l => f t (t.f32src a l)) h hn

theorem fp2_done {a b : VSrc} {f : RM → Bool → FVal → FVal → FRes} (h : VecReady s t (.v d nw) (vregsOf a ++ vregsOf b))
    (hn : NoTrap t (fun l => f t.rm (t.rflush .c32) (t.f32src a l) (t.f32src b l))) :
    s.fp2 d nw a b f = .next (vecDone s t (.v d nw) (fun l => fpOut (f t.rm (t.rflush .c32) (t.f32src a l) (t.f32src b l)))) :=
  vecOp_fp (r := fun t l => f t.rm (t.rflush .c32) (t.f32src a l) (t.f32src b l)) h hn

theorem fpw1_done {a : Nat} {f : Team → FVal → FRes} (h : VecReady s t (.w d nw) [a, a + 1])
    (hn : NoTrap t (fun l => f t (t.f64pair a l))) :
    s.fpw1 d nw a f = .next (vecDone s t (.w d nw) (fun l => fpOut (f t (t.f64pair a l)))) :=
  vecOp_fp (r := fun t l => f t (t.f64pair a l)) h hn

theorem fpw2_done {a b : Nat} {f : RM → Bool → FVal → FVal → FRes} (h : VecReady s t (.w d nw) [a, a + 1, b, b + 1])
    (hn : NoTrap t (fun l => f t.rm (t.rflush .c64) (t.f64pair a l) (t.f64pair b l))) :
    s.fpw2 d nw a b f = .next (vecDone s t (.w d nw) (fun l => fpOut (f t.rm (t.rflush .c64) (t.f64pair a l) (t.f64pair b l)))) :=
  vecOp_fp (r := fun t l => f t.rm (t.rflush .c64) (t.f64pair a l) (t.f64pair b l)) h hn

end

/-- Settles O8: each instruction answers by the lemma of its operand form, with its own operation. -/
theorem fpArithmetic : Obligations.FpArithmetic := by
  unfold Obligations.FpArithmetic
  refine ⟨⟨fun s t d a b nw h => ?two, fun s t d a b nw h hn => ?fma, fun s t d a nw h => ?one, fun s t d a h => ?narrow⟩,
    fun s t d a b nw h => ?two64, fun s t d a b nw h hn => ?fma64, fun s t d a nw h => ?one64⟩
  case two =>
    exact ⟨fun hn => (exec_faddF32 s).trans (fp2_done h hn), fun hn => (exec_fsubF32 s).trans (fp2_done h hn),
      fun hn => (exec_fmulF32 s).trans (fp2_done h hn), fun hn => (exec_fdivF32 s).trans (fp2_done h hn),
      fun hn => (exec_fminF32 s).trans (fp2_done h hn), fun hn => (exec_fmaxF32 s).trans (fp2_done h hn)⟩
  case fma => exact (exec_ffmaF32 s).trans (vecOp_fp h hn)
  case one =>
    exact ⟨fun hn => (exec_fsqrtF32 s).trans (fp1_done h hn), fun hn => (exec_frcp s).trans (fp1_done h hn),
      fun hn => (exec_frsq s).trans (fp1_done h hn), fun hn => (exec_fexp2 s).trans (fp1_done h hn),
      fun hn => (exec_flog2 s).trans (fp1_done h hn), fun hn => (exec_froundF32 s).trans (fp1_done h hn)⟩
  case narrow =>
    exact ⟨fun hn => (exec_fadd16 s).trans (fp2_done h hn), fun hn => (exec_fsub16 s).trans (fp2_done h hn),
      fun hn => (exec_fmul16 s).trans (fp2_done h hn), fun hn => (exec_fmax16 s).trans (fp2_done h hn)⟩
  case two64 =>
    exact ⟨fun hn => (exec_faddF64 s).trans (fpw2_done h hn), fun hn => (exec_fsubF64 s).trans (fpw2_done h hn),
      fun hn => (exec_fmulF64 s).trans (fpw2_done h hn), fun hn => (exec_fdivF64 s).trans (fpw2_done h hn),
      fun hn => (exec_fminF64 s).trans (fpw2_done h hn), fun hn => (exec_fmaxF64 s).trans (fpw2_done h hn)⟩
  case fma64 => exact (exec_ffmaF64 s).trans (vecOp_fp h hn)
  case one64 =>
    exact ⟨fun hn => (exec_fsqrtF64 s).trans (fpw1_done h hn), fun hn => (exec_froundF64 s).trans (fpw1_done h hn)⟩

/-! ### Conversions -/

/-- A conversion with a valid format word whose own operand check passes, and none of whose lanes raises a trapped exception
(R272, R273). -/
theorem vecNarrow_fp {s : State} {t : Team} {d sb : Nat} {nw : Bool} {regs : List Nat} {ok : W64 → Bool}
    {r : Team → NFmt → W64 → Nat → FRes} (h : VecReady s t (.v d nw) regs) (hv : nfValid ((t.s sb).truncate 32) = true)
    (hok : ok (t.s sb) = true) (hn : NoTrap t (r t (NFmt.of ((t.s sb).truncate 32)) (t.s sb))) :
    s.vecNarrow d nw regs sb ok (fun t f x l => t.fpLane (r t f x l)) =
      .next (vecDone s t (.v d nw) (fun l => fpOut (r t (NFmt.of ((t.s sb).truncate 32)) (t.s sb) l))) := by
  obtain ⟨ht, hr, hreg, hq, hp⟩ := h
  rw [State.vecNarrow, issue_body ht (by simp [hr, RoleNeed.ok]) hreg (Or.inl rfl)]
  simp only [hv, hok, Bool.and_self, if_true]
  rw [vecAlu_done hp (fun l hl => (guardPoison_clean hq l _).trans (fpLane_ok (hn l hl)))]

theorem packOk_iff (x : W64) : packOk x = true ↔ x.toNat / 2 ^ 32 % 256 < 32 / (NFmt.of (x.truncate 32)).w := decide_eq_true_iff

/-- Settles O9: the conversions of fixed formats by their operand forms, those of a narrow format by the one lemma on its word. -/
theorem fpConversions : Obligations.FpConversions := by
  unfold Obligations.FpConversions
  refine ⟨⟨fun s t d a nw h => ?fixed, fun s t d a nw h hn => ?widen, fun s t d a nw h hn => ?narrow⟩,
    fun s t d a b nw hv => ⟨fun h => ?codes, fun h hi hn => ?pack⟩⟩
  case fixed =>
    exact ⟨fun hn => (exec_ftoiI32F32 s).trans (fp1_done h hn), fun hn => (exec_itofF32I32 s).trans (vecOp_fp h hn),
      fun hn => (exec_fcvtBf16F32 s).trans (fp1_done h hn), fun hn => (exec_fcvtF32Bf16 s).trans (vecOp_fp h hn),
      fun hn => (exec_fcvtF16F32 s).trans (fp1_done h hn), fun hn => (exec_fcvtF32F16 s).trans (vecOp_fp h hn)⟩
  case widen => exact (exec_fcvtF64F32 s).trans (vecOp_fp h hn)
  case narrow => exact (exec_fcvtF32F64 s).trans (vecOp_fp h hn)
  case codes =>
    exact ⟨fun hn => (exec_fcvtNfF32 s).trans (vecNarrow_fp h hv rfl hn), fun hn => (exec_fcvtF32Nf s).trans (vecNarrow_fp h hv rfl hn),
      fun hi hn => (exec_funpack s).trans (vecNarrow_fp h hv ((packOk_iff _).2 hi) hn)⟩
  case pack =>
    exact (exec_fpack s).trans (vecNarrow_fp (r := fun t f x l =>
      ⟨packInto f.w (packIndex x) (t.narrowOf f (t.f32src a l)).bits (t.vreg d l).toNat, (t.narrowOf f (t.f32src a l)).flags⟩)
      h hv ((packOk_iff _).2 hi) hn)

/-! ### Classes -/

/-- The bit that stands for the class of a code: exponent field all ones, zero, or between (R268). -/
def Fmt.classBit (f : Fmt) (x : Nat) : Nat :=
  let n := x / 2 ^ (f.eb + f.mb) % 2 = 1
  let e := x / 2 ^ f.mb % 2 ^ f.eb
  let m := x % 2 ^ f.mb
  if e = 2 ^ f.eb - 1 then (if m = 0 then (if n then 0 else 7) else if m / 2 ^ (f.mb - 1) = 1 then 9 else 8)
  else if e = 0 then (if m = 0 then (if n then 3 else 4) else if n then 2 else 5)
  else if n then 1 else 6

theorem Fmt.classBit_le (f : Fmt) (x : Nat) : f.classBit x ≤ 9 := by
  simp only [Fmt.classBit]
  grind

/-- The top bit of a significand field of n + 1 bits is 0 below 2^n. -/
theorem lt_two_pow_iff_div_ne_one {m n : Nat} (hm : m < 2 ^ (n + 1)) : m < 2 ^ n ↔ ¬ m / 2 ^ n = 1 := by
  rw [Nat.pow_succ] at hm
  rw [Nat.div_eq_iff (by positivity)]
  omega

/-- The class that the decoded value of a code has is the class of its fields. -/
theorem Fmt.classify_eq (f : Fmt) (hmb : 0 < f.mb) (x : Nat) : f.classify x = 2 ^ f.classBit x := by
  have hm : x % 2 ^ f.mb < 2 ^ f.mb := Nat.mod_lt _ (by positivity)
  have htop : x % 2 ^ f.mb < 2 ^ (f.mb - 1) ↔ ¬ x % 2 ^ f.mb / 2 ^ (f.mb - 1) = 1 :=
    lt_two_pow_iff_div_ne_one (by rwa [Nat.sub_add_cancel hmb])
  simp only [Fmt.classify, Fmt.dec, Fmt.classBit]
  by_cases hmax : x / 2 ^ f.mb % 2 ^ f.eb = 2 ^ f.eb - 1
  · by_cases h0 : x % 2 ^ f.mb = 0
    · simp only [hmax, h0, if_true, beq_iff_eq]
      split <;> rfl
    · simp only [hmax, h0, if_true, if_false, decide_eq_true_eq, htop, ite_not]
      split <;> rfl
  · by_cases hz : x / 2 ^ f.mb % 2 ^ f.eb = 0
    · rw [hz] at hmax
      by_cases h0 : x % 2 ^ f.mb = 0
      · simp only [hz, if_neg hmax, h0, if_true, beq_iff_eq]
        split <;> rfl
      · simp only [hz, if_neg hmax, h0, if_true, if_false, hm, beq_iff_eq]
        split <;> rfl
    · have hpos : 2 ^ f.mb + x % 2 ^ f.mb ≠ 0 := by positivity
      simp only [if_neg hmax, if_neg hz, if_neg hpos, if_neg (Nat.not_lt.2 (Nat.le_add_right _ _)), beq_iff_eq]
      split <;> rfl

/-- Settles O10: the classes are those of the fields of the code. -/
theorem fclass : Obligations.Fclass := by
  unfold Obligations.Fclass
  refine ⟨fun s t d a nw h => (exec_fclassF32 s).trans (vec1_value h fun l => ?f32),
    fun s t d a nw h => (exec_fclassF64 s).trans (vecOp_value h fun l _ => ?f64)⟩
  case f32 => exact congrArg (BitVec.ofNat 32) (f32.classify_eq (by decide) _)
  case f64 =>
    have hsmall : (2 : Nat) ^ f64.classBit (t.pair a l).toNat < 2 ^ 32 :=
      Nat.pow_lt_pow_right (by decide) (by have := f64.classBit_le (t.pair a l).toNat; omega)
    have hwide : BitVec.ofNat 64 (2 ^ f64.classBit (t.pair a l).toNat) =
        (BitVec.ofNat 32 (2 ^ f64.classBit (t.pair a l).toNat)).zeroExtend 64 :=
      BitVec.eq_of_toNat_eq (by
        rw [BitVec.toNat_ofNat, BitVec.toNat_setWidth, BitVec.toNat_ofNat, Nat.mod_eq_of_lt hsmall])
    exact congrArg laneVal ((congrArg _ (f64.classify_eq (by decide) _)).trans hwide)

/-! ### Flags and the mode word -/

/-- Settles O11: both instructions execute once, and their writes are those of the model. -/
theorem fpStatus : Obligations.FpStatus := by
  unfold Obligations.FpStatus
  intro s t d a h
  exact ⟨(exec_fstat s).trans (congrArg _ (once_body h (Or.inl rfl))), (exec_fmode s).trans (congrArg _ (once_body h (Or.inl rfl)))⟩

end Sys2Proof.Machine
end

section
/-! Masks, cross-lane values and control flow: branches, calls and loops. -/

namespace Sys2Proof.Machine

/-! ### Masks -/

section
variable {s : State} {t : Team}

theorem maskOp_done (h : OnceReady s t .vector) (d : Nat) (f : Team → LaneMask) :
    s.maskOp d f = .next (s.complete (t.setM d (f t))) :=
  congrArg _ (once_body h (Or.inl rfl))

end

/-- A mask without a bit in a lane of the team names no lane. -/
theorem lanesOf_eq_nil {x : LaneMask} {n : Nat} (h : ∀ l < n, x.getLsbD l = false) : lanesOf x n = [] :=
  List.filter_eq_nil_iff.2 (fun l hl => by simp [h l (List.mem_range.1 hl)])

/-- The lowest lane of a mask is the first of its lanes. -/
theorem head?_lanesOf {x : LaneMask} {n l : Nat} (hl : l < n) (hx : x.getLsbD l = true) (hmin : ∀ k < l, x.getLsbD k = false) :
    (lanesOf x n).head? = some l := by
  rw [lanesOf, List.head?_filter, List.find?_range_eq_some]
  simpa [hl, hx] using hmin

/-- Settles O12: the mask instructions write the mask of their operands, `mfirst` the first lane of the mask. -/
theorem maskResults : Obligations.MaskResults := by
  unfold Obligations.MaskResults
  intro s t d a b h
  refine ⟨(exec_mand s).trans (maskOp_done h ..), (exec_mor s).trans (maskOp_done h ..), (exec_mxor s).trans (maskOp_done h ..),
    (exec_mnot s).trans (maskOp_done h ..), (exec_mmov s).trans (maskOp_done h ..), (exec_mpop s).trans (scalarOp_done h),
    _, (exec_mfirst s).trans (scalarOp_done h), fun hnone => ?none, fun l hl hx hmin => ?first⟩
  case none => simp [lanesOf_eq_nil hnone]
  case first => simp [head?_lanesOf hl hx hmin]

/-! ### Values across lanes -/

/-- Settles O13: a lane reads the lane it names of a register that holds no poison. -/
theorem crossLane : Obligations.CrossLane := by
  unfold Obligations.CrossLane
  refine ⟨fun s t d a b nw h => (exec_shfl s).trans (vecOpWith_done h fun l _ => ?_),
    fun s t d a b nw h => (exec_bcast s).trans (vecOpWith_done (regs := []) h fun l _ => ?_)⟩
  · exact guardPoison_clean (fun e he hr => h.2.2.2.1 e he (List.mem_append_right _ hr)) _ _
  · exact guardPoison_clean h.2.2.2.1 _ _

/-! ### Transfers -/

section
variable {s : State} {t : Team} {tgt : W64} {odd : Bool} {ls : List LoopEntry}

theorem transferChecked_ok (hc : canonical tgt = true) (ho : odd = true → tgt.getLsbD 0 = false) :
    s.transferChecked t tgt odd ls = s.transfer t (tgt.setWidth 57) ls := by
  rw [State.transferChecked, if_neg (by simp [hc]), if_neg (fun h => by rw [ho h.1] at h; exact absurd h.2 (by decide))]

/-- A branch does not fault on an odd target (R286). -/
theorem transferChecked_branch (hc : canonical tgt = true) : s.transferChecked t tgt false ls = s.transfer t (tgt.setWidth 57) ls :=
  transferChecked_ok hc (fun h => absurd h (by decide))

theorem transferChecked_noncanonical (hc : canonical tgt = false) : s.transferChecked t tgt odd ls = s.onceFault t 0x09 1 tgt :=
  if_pos hc

theorem transferChecked_odd (hc : canonical tgt = true) (ho : tgt.getLsbD 0 = true) :
    s.transferChecked t tgt true ls = s.onceFault t 0x0A 0 tgt := by
  rw [State.transferChecked, if_neg (by simp [hc]), if_pos ⟨rfl, ho⟩]

/-- A branch whose team can issue it: the checked transfer with the pops of R288, or completion. -/
theorem branch_eq {need : RoleNeed} (h : OnceReady s t need) (off : Int) (cond : Team → Bool) :
    s.branch need off cond = .next (if cond t then s.transferChecked t (s.latch.target off) false
      (branchPops s.latch.start ((s.latch.target off).truncate 57) t.loops) else s.complete t) :=
  congrArg _ (once_body h (Or.inl rfl))

/-- A branch with a canonical target goes there or completes. -/
theorem branch_ok {need : RoleNeed} (h : OnceReady s t need) {off : Int} (hc : canonical (s.latch.target off) = true)
    {cond : Team → Bool} {p : Prop} [Decidable p] (hp : cond t = true ↔ p) :
    s.branch need off cond = if p then .next (s.transfer t ((s.latch.target off).setWidth 57)
      (branchPops s.latch.start ((s.latch.target off).setWidth 57) t.loops)) else .next (s.complete t) := by
  rw [branch_eq h, transferChecked_branch hc]
  by_cases hcond : p
  · rw [if_pos hcond, if_pos (hp.2 hcond)]
  · rw [if_neg hcond, if_neg (fun h => hcond (hp.1 h))]

theorem execRet_eq (h : OnceReady s t .any) : exec .ret s = .next (s.transferChecked t (t.s 63) true t.loops) :=
  (exec_ret s).trans (congrArg _ (once_body h (Or.inl rfl)))

theorem execJmpr_eq (h : OnceReady s t .any) (a : Nat) : exec (.jmpr a) s = .next (s.transferChecked t (t.s a) true t.loops) :=
  (exec_jmpr s).trans (congrArg _ (once_body h (Or.inl rfl)))

theorem execCall_eq (h : OnceReady s t .any) (off : Int) : exec (.call off) s = .next (if canonical (s.latch.target off) then
    s.transfer (t.setS 63 (wide s.latch.word + 4)) ((s.latch.target off).truncate 57) t.loops
    else s.onceFault t 0x09 0x0001 (s.latch.target off)) :=
  (exec_call s).trans (congrArg _ (once_body h (Or.inl rfl)))

end

/-- Settles O15: every branch by the one lemma on branches, the other transfers by their checked transfer. -/
theorem transfers : Obligations.Transfers := by
  unfold Obligations.Transfers
  refine ⟨fun s t m r off ht hm => ?branches, fun s t a off h => ⟨fun hc => ?call, fun hc ho => ?ret, fun hc ho => ?jmpr⟩⟩
  case branches =>
    intro tgt hc goes stays
    have hany : OnceReady s t .any := ⟨ht, rfl, hm⟩
    refine ⟨(exec_bra s).trans (branch_ok (p := True) hany hc (by simp)),
      (exec_bzS s).trans (branch_ok hany hc beq_iff_eq),
      ((exec_bnzS s).trans (branch_ok hany hc bne_iff_ne)).trans (ite_not ..), fun hr => ?_⟩
    have hvec : OnceReady s t .vector := ⟨ht, by rw [hr]; rfl, hm⟩
    exact ⟨(exec_bzM s).trans (branch_ok hvec hc beq_iff_eq),
      ((exec_bnzM s).trans (branch_ok hvec hc bne_iff_ne)).trans (ite_not ..),
      (exec_ball s).trans (branch_ok hvec hc beq_iff_eq)⟩
  case call => exact (execCall_eq h off).trans (congrArg _ (if_pos hc))
  case ret => exact (execRet_eq h).trans (congrArg _ (transferChecked_ok hc fun _ => ho))
  case jmpr => exact (execJmpr_eq h a).trans (congrArg _ (transferChecked_ok hc fun _ => ho))

/-- Settles O16: the two faults of a checked transfer, and the one of `call`. -/
theorem transferFaults : Obligations.TransferFaults := by
  unfold Obligations.TransferFaults
  intro s t a off h
  refine ⟨fun hc => ⟨?bra, ?call⟩, fun hc => ?ret, fun hc => ?jmpr, fun hc ho => ?retOdd, fun hc ho => ?jmprOdd⟩
  case bra => exact (exec_bra s).trans ((branch_eq h off _).trans (congrArg _ (transferChecked_noncanonical hc)))
  case call => exact (execCall_eq h off).trans (congrArg _ (if_neg (Bool.eq_false_iff.1 hc)))
  case ret => exact (execRet_eq h).trans (congrArg _ (transferChecked_noncanonical hc))
  case jmpr => exact (execJmpr_eq h a).trans (congrArg _ (transferChecked_noncanonical hc))
  case retOdd => exact (execRet_eq h).trans (congrArg _ (transferChecked_odd hc ho))
  case jmprOdd => exact (execJmpr_eq h a).trans (congrArg _ (transferChecked_odd hc ho))

/-! ### Loops -/

theorem execLoop_eq {s : State} {t : Team} (h : OnceReady s t .any) (r : Nat) (off : Int) : exec (.loop r off) s = .next (
    if 2 * off ≤ 4 then s.onceFault t 0x06 0x0002 0
    else if (t.s r).setWidth 32 = (0 : W32) then s.transferChecked t (s.latch.target off) false t.loops
    else if 4 ≤ t.loops.length then s.onceFault t 0x06 0x0001 0
    else s.transfer t (s.latch.word + 4)
      (⟨s.latch.word + 4, (s.latch.target off).setWidth 57, (t.s r).setWidth 32⟩ :: t.loops)) :=
  (exec_loop s).trans (congrArg _ (once_body h (Or.inl rfl)))

theorem execLbrk_eq {s : State} {t : Team} (h : OnceReady s t .any) : execLbrk s = .next (
    match t.loops with
    | e :: rest => s.transfer t e.stop rest
    | [] => s.transfer t (s.latch.word + 4) []) :=
  congrArg _ (once_body h (Or.inl rfl))

/-- Settles O17: the branches of `loop`, those of `lbrk`, and the one meaning of `yield`. -/
theorem loopInstructions : Obligations.LoopInstructions := by
  unfold Obligations.LoopInstructions
  intro s t r off h e n start
  refine ⟨fun hoff => ?bad, fun hoff hn hc => ?skip, fun hoff hn hfull => ?full, fun hoff hn hroom => ?push,
    fun top rest hl => ?lbrk, fun hl => ?lbrkNone, ?yield⟩
  case bad => rw [execLoop_eq h, if_pos hoff]
  case skip => rw [execLoop_eq h, if_neg (by omega), if_pos hn]; exact congrArg _ (transferChecked_branch hc)
  case full => rw [execLoop_eq h, if_neg (by omega), if_neg hn, if_pos (by omega)]
  case push => rw [execLoop_eq h, if_neg (by omega), if_neg hn, if_neg (by omega)]; rfl
  case lbrk => rw [exec_lbrk, execLbrk_eq h, hl]
  case lbrkNone => rw [exec_lbrk, execLbrk_eq h, hl]
  case yield => exact (exec_yield s).trans (congrArg _ (once_body h (Or.inl rfl)))

section
variable {e : LoopEntry} {rest : List LoopEntry} {a : W57}

/-- At the end of the body of a loop, a count above 1 goes down by one and control returns to the start (R288). -/
theorem loopEnd_again (hin : e.start.toNat ≤ a.toNat ∧ a.toNat < e.stop.toNat) (hc : 1 < e.count.toNat) :
    loopEnd a e.stop (e :: rest) = (e.start, { e with count := e.count - 1 } :: rest) := by
  have hne : e.count - 1 ≠ 0 := fun h => by bv_omega
  rw [loopEnd, if_pos ⟨rfl, hin⟩, if_pos hne]

/-- There a count of 1 leaves the loop. -/
theorem loopEnd_last (hin : e.start.toNat ≤ a.toNat ∧ a.toNat < e.stop.toNat) (hc : e.count = 1) :
    loopEnd a e.stop (e :: rest) = loopEnd a e.stop rest := by
  rw [loopEnd, if_pos ⟨rfl, hin⟩, if_neg (by simp [hc])]

/-- What k passes leave of a loop with a greater count. -/
theorem passes_eq (hin : e.start.toNat ≤ a.toNat ∧ a.toNat < e.stop.toNat) (k : Nat) (hk : k < e.count.toNat) :
    (fun ls => (loopEnd a e.stop ls).2)^[k] (e :: rest) = { e with count := e.count - BitVec.ofNat 32 k } :: rest := by
  induction k with
  | zero => simp
  | succ k ih =>
    have hc : 1 < (e.count - BitVec.ofNat 32 k).toNat := by bv_omega
    rw [Function.iterate_succ_apply', ih (by omega)]
    show (loopEnd a e.stop _).2 = _
    rw [loopEnd_again (e := { e with count := e.count - BitVec.ofNat 32 k }) hin hc]
    have hnext : e.count - BitVec.ofNat 32 k - 1 = e.count - BitVec.ofNat 32 (k + 1) := by bv_omega
    rw [hnext]

end

/-- Settles O18: by the count that k passes leave. -/
theorem loopRunsCountTimes : Obligations.LoopRunsCountTimes := by
  unfold Obligations.LoopRunsCountTimes
  intro e rest a hlo hhi pass
  refine ⟨fun k hk => ?again, fun hpos => ?last⟩
  case again =>
    have hc : 1 < (e.count - BitVec.ofNat 32 k).toNat := by bv_omega
    have hnext : e.count - BitVec.ofNat 32 k - 1 = e.count - BitVec.ofNat 32 (k + 1) := by bv_omega
    rw [passes_eq ⟨hlo, hhi⟩ k (by omega), ← hnext]
    exact loopEnd_again (e := { e with count := e.count - BitVec.ofNat 32 k }) ⟨hlo, hhi⟩ hc
  case last =>
    rw [passes_eq ⟨hlo, hhi⟩ _ (by omega)]
    exact loopEnd_last (e := { e with count := e.count - BitVec.ofNat 32 (e.count.toNat - 1) }) ⟨hlo, hhi⟩ (by bv_omega)

end Sys2Proof.Machine
end

section
/-! `reduce` and `scan`: the fold of all active lanes, pass by pass from the team's record. -/

namespace Sys2Proof.Machine

/-! ### The fold over a list of lanes -/

/-- The fold of some lanes from no value (R283). -/
def Combine.run (c : Combine) (t : Team) (a : VSrc) (ls : List Nat) : FoldSt := ls.foldl (c.lane t a) ⟨0, false, 0, []⟩

/-- What a fold leaves of itself in the team's record: its value and, in bit 32, that there is one (R283). -/
def FoldSt.record (st : FoldSt) : W64 := if st.pres then (1 : W64) <<< 32 ||| st.p.zeroExtend 64 else 0

/-- The result of a fold, or that of no lane. -/
def FoldSt.value (st : FoldSt) (c : Combine) : W32 := if st.pres then st.p else c.empty

section
variable (c : Combine) (t : Team) (a : VSrc)

theorem lane_of_none (p : W32) (fl : Flags) (outs : List (Nat × W32)) (l : Nat) :
    c.lane t a ⟨p, false, fl, outs⟩ l = ⟨c.enter t (t.src a l), true, fl, (l, c.enter t (t.src a l)) :: outs⟩ := rfl

theorem lane_of_some (p : W32) (fl : Flags) (outs : List (Nat × W32)) (l : Nat) :
    c.lane t a ⟨p, true, fl, outs⟩ l =
      let r := c.fold t p (c.enter t (t.src a l))
      ⟨BitVec.ofNat 32 r.bits, true, fl ||| r.flags, (l, BitVec.ofNat 32 r.bits) :: outs⟩ := rfl

/-- The flags and the outputs a fold begins with are carried along. -/
theorem foldl_lane_carry (ls : List Nat) (p : W32) (pres : Bool) (fl : Flags) (outs : List (Nat × W32)) :
    ls.foldl (c.lane t a) ⟨p, pres, fl, outs⟩ =
      let r := ls.foldl (c.lane t a) ⟨p, pres, 0, []⟩
      ⟨r.p, r.pres, fl ||| r.flags, r.outs ++ outs⟩ := by
  induction ls generalizing p pres fl outs with
  | nil => simp
  | cons l ls ih =>
    cases pres with
    | false =>
      simp only [List.foldl_cons, lane_of_none]
      rw [ih _ _ fl (_ :: outs), ih _ _ 0 [_]]
      simp
    | true =>
      simp only [List.foldl_cons, lane_of_some]
      rw [ih _ _ (fl ||| _) (_ :: outs), ih _ _ (0 ||| _) [_]]
      simp [BitVec.or_assoc]

theorem run_append (ls ms : List Nat) : c.run t a (ls ++ ms) =
    let st := c.run t a ls
    let r := ms.foldl (c.lane t a) ⟨st.p, st.pres, 0, []⟩
    ⟨r.p, r.pres, st.flags ||| r.flags, r.outs ++ st.outs⟩ := by
  rw [Combine.run, List.foldl_append]
  exact foldl_lane_carry ..

theorem pres_foldl_lane (ls : List Nat) (st : FoldSt) : (ls.foldl (c.lane t a) st).pres = (st.pres || !ls.isEmpty) := by
  induction ls generalizing st with
  | nil => simp
  | cons l ls ih =>
    rw [List.foldl_cons, ih]
    simp only [Combine.lane]
    split <;> simp

/-- A fold without a lane has the value 0, so that the record tells it. -/
theorem run_p_of_not_pres {ls : List Nat} (h : (c.run t a ls).pres = false) : (c.run t a ls).p = 0 := by
  rw [Combine.run, pres_foldl_lane] at h
  have hnil : ls = [] := by simpa using h
  rw [hnil]
  rfl

/-- The lanes of the outputs are the lanes folded, the last first. -/
theorem outs_lanes (ls : List Nat) (st : FoldSt) :
    (ls.foldl (c.lane t a) st).outs.map Prod.fst = ls.reverse ++ st.outs.map Prod.fst := by
  induction ls generalizing st with
  | nil => simp
  | cons l ls ih =>
    rw [List.foldl_cons, ih]
    simp only [Combine.lane]
    split <;> simp

end

/-- The record gives back the value and whether there is one. -/
theorem record_p (st : FoldSt) (h : st.pres = false → st.p = 0) : st.record.truncate 32 = st.p := by
  unfold FoldSt.record
  cases hp : st.pres with
  | false => simp [h hp]
  | true =>
    ext i hi
    simp

theorem record_pres (st : FoldSt) : st.record.getLsbD 32 = st.pres := by
  unfold FoldSt.record
  cases st.pres <;> simp

/-! ### Lanes in the order of their words -/

/-- Of a list in order of a key, the parts below j and at j stand one behind the other. -/
theorem filter_lt_succ (f : Nat → Nat) {ls : List Nat} (h : ls.Pairwise (fun x y => f x ≤ f y)) (j : Nat) :
    ls.filter (fun l => decide (f l < j + 1)) = ls.filter (fun l => decide (f l < j)) ++ ls.filter (fun l => f l == j) := by
  induction ls with
  | nil => rfl
  | cons x xs ih =>
    obtain ⟨hx, hxs⟩ := List.pairwise_cons.1 h
    rcases Nat.lt_trichotomy (f x) j with hlt | heq | hgt
    · rw [List.filter_cons_of_pos (by simp; omega), List.filter_cons_of_pos (by simpa using hlt),
        List.filter_cons_of_neg (by simp; omega), ih hxs, List.cons_append]
    · have hnone : xs.filter (fun l => decide (f l < j)) = [] :=
        List.filter_eq_nil_iff.2 (fun l hl => by have := hx l hl; simp; omega)
      rw [List.filter_cons_of_pos (by simp; omega), List.filter_cons_of_neg (by simp; omega),
        List.filter_cons_of_pos (by simpa using heq), ih hxs, hnone, List.nil_append, List.nil_append]
    · have hnone : ∀ p : Nat → Bool, (∀ l, f x ≤ f l → p l = false) → (x :: xs).filter p = [] := fun p hp =>
        List.filter_eq_nil_iff.2 (fun l hl => by
          rcases List.mem_cons.1 hl with rfl | hl
          · simp [hp l le_rfl]
          · simp [hp l (hx l hl)])
      rw [hnone _ (fun l hl => by simp; omega), hnone _ (fun l hl => by simp; omega), hnone _ (fun l hl => by simp; omega)]
      rfl

theorem pairwise_lanesOf (x : LaneMask) (n : Nat) : (lanesOf x n).Pairwise (fun k l => k / 32 ≤ l / 32) :=
  (List.pairwise_lt_range.filter _).imp (fun h => Nat.div_le_div_right (Nat.le_of_lt h))

/-- The active lanes of the words below j. -/
def Team.lanesBelowWord (t : Team) (j : Nat) : List Nat := (lanesOf t.active t.lanes).filter (fun l => decide (l / 32 < j))

theorem lanesBelowWord_zero (t : Team) : t.lanesBelowWord 0 = [] :=
  List.filter_eq_nil_iff.2 (fun l _ => by simp)

theorem lanesBelowWord_succ (t : Team) (j : Nat) : t.lanesBelowWord (j + 1) = t.lanesBelowWord j ++ t.wordLanes j :=
  filter_lt_succ (· / 32) (pairwise_lanesOf ..) j

/-- The words of a team hold all its lanes (R17). -/
theorem lanesBelowWord_words (t : Team) : t.lanesBelowWord t.words = lanesOf t.active t.lanes :=
  List.filter_eq_self.2 (fun l hl => by
    have hlt : l < t.lanes := List.mem_range.1 (List.mem_of_mem_filter hl)
    rw [decide_eq_true_iff, Team.words]
    omega)

theorem word_of_mem_lanesBelowWord {t : Team} {j l : Nat} (h : l ∈ t.lanesBelowWord j) : l / 32 < j := by
  simpa using (List.mem_filter.1 h).2

theorem maskOf_append (ls ms : List Nat) : maskOf (ls ++ ms) = maskOf ls ||| maskOf ms := by
  apply BitVec.eq_of_getLsbD_eq
  intro i hi
  simp only [BitVec.getLsbD_or, getLsbD_maskOf, hi, List.mem_append, Bool.decide_or, decide_true, Bool.true_and]

theorem maskOf_nil : maskOf [] = 0 := rfl

/-! ### The team in the course of a scan -/

/-- The team after the results of some lanes of a scan; a `reduce` has none (R283). -/
def Team.scanPut (t : Team) (scan : Option VDst) (ls : List Nat) (outs : List (Nat × W32)) : Team :=
  match scan with
  | none => t
  | some dst => { outs.foldl (fun t e => t.put dst e.1 (e.2.zeroExtend 64)) t with done := t.done ||| maskOf ls }

/-- The team with the fold over some lanes in its record, the words below j behind it. -/
def Combine.after (c : Combine) (t : Team) (a : VSrc) (scan : Option VDst) (ls : List Nat) (j : Nat) : Team :=
  let st := c.run t a ls
  { t.scanPut scan ls st.outs.reverse with sticky := t.sticky ||| st.flags, pvalue := st.record, pwords := j }

/-- The fields of a team that the progress of a fold is kept in. -/
def Team.withFold (t : Team) (done : LaneMask) (sticky : BitVec 5) (pvalue : W64) (pwords : Nat) : Team :=
  { t with done := done, sticky := sticky, pvalue := pvalue, pwords := pwords }

section
variable (t : Team) (dst : VDst)

theorem put_withFold (l : Nat) (x : W64) (m : LaneMask) (fl : BitVec 5) (pv : W64) (j : Nat) :
    (t.withFold m fl pv j).put dst l x = (t.put dst l x).withFold m fl pv j := by
  cases dst with
  | v d nw => cases nw <;> rfl
  | w d nw => cases nw <;> rfl
  | m d => rfl

theorem foldl_put_withFold (outs : List (Nat × W32)) (m : LaneMask) (fl : BitVec 5) (pv : W64) (j : Nat) :
    outs.foldl (fun t e => t.put dst e.1 (e.2.zeroExtend 64)) (t.withFold m fl pv j) =
      (outs.foldl (fun t e => t.put dst e.1 (e.2.zeroExtend 64)) t).withFold m fl pv j := by
  induction outs generalizing t with
  | nil => rfl
  | cons e outs ih => rw [List.foldl_cons, put_withFold, ih, List.foldl_cons]

/-- What a result leaves alone that is not a register, a latch or a mask. -/
theorem foldl_put_keeps {α : Type} {view : Team → α} (h : ∀ u l x, view (Team.put u dst l x) = view u) (outs : List (Nat × W32)) :
    view (outs.foldl (fun t e => t.put dst e.1 (e.2.zeroExtend 64)) t) = view t := by
  induction outs generalizing t with
  | nil => rfl
  | cons e outs ih => rw [List.foldl_cons, ih, h]

end

section
variable {d : Nat} {nw : Bool}

theorem put_v_keeps {α : Type} {view : Team → α} (hv : ∀ u r l x, view (Team.setV u r l x) = view u)
    (hb : ∀ u l x, view (Team.shiftLatch u l x) = view u) (u : Team) (l : Nat) (x : W64) :
    view (u.put (.v d nw) l x) = view u := by
  cases nw
  · exact (hb ..).trans (hv ..)
  · exact hb ..

theorem vpoison_put_v (u : Team) (l : Nat) (x : W64) : (u.put (.v d nw) l x).vpoison ⊆ u.vpoison := by
  cases nw
  · exact List.filter_subset_self _
  · exact List.Subset.refl _

theorem vpoison_foldl_put_v (outs : List (Nat × W32)) (u : Team) :
    (outs.foldl (fun t e => t.put (.v d nw) e.1 (e.2.zeroExtend 64)) u).vpoison ⊆ u.vpoison := by
  induction outs generalizing u with
  | nil => exact List.Subset.refl _
  | cons e outs ih => exact List.Subset.trans (ih _) (vpoison_put_v ..)

/-- A lane's result is no other lane's source. -/
theorem src_put_v_other (u : Team) (a : VSrc) {l k : Nat} (h : k ≠ l) (x : W64) : (u.put (.v d nw) l x).src a k = u.src a k := by
  cases a with
  | reg r => exact (Team.vreg_put_v ..).trans (if_neg (fun hc => h hc.2.2))
  | bp b =>
    have hlatch : (u.put (.v d nw) l x).latches k = u.latches k :=
      (Team.latches_put_regs u (dst := .v d nw) nofun l x k).trans (if_neg h)
    simp only [Team.src, Team.latch, hlatch]

theorem src_foldl_put_v_other (a : VSrc) (outs : List (Nat × W32)) {k : Nat} (h : k ∉ outs.map Prod.fst) (u : Team) :
    (outs.foldl (fun t e => t.put (.v d nw) e.1 (e.2.zeroExtend 64)) u).src a k = u.src a k := by
  induction outs generalizing u with
  | nil => rfl
  | cons e outs ih =>
    rw [List.map_cons, List.mem_cons, not_or] at h
    rw [List.foldl_cons, ih h.2, src_put_v_other u a h.1]

end

/-! ### The passes -/

/-- The team after the results and the record of one more word. -/
def Combine.pass (c : Combine) (u : Team) (a : VSrc) (scan : Option VDst) (ms : List Nat) (j : Nat) : Team :=
  let r := ms.foldl (c.lane u a) ⟨u.pvalue.truncate 32, u.pvalue.getLsbD 32, 0, []⟩
  { u.scanPut scan ms r.outs.reverse with
    sticky := (u.scanPut scan ms r.outs.reverse).sticky ||| r.flags, pvalue := (1 : W64) <<< 32 ||| r.p.zeroExtend 64, pwords := j + 1 }

/-- A run from an empty record finishes with what the passes over all words leave (R283). -/
theorem redRun_of_loop {s : State} {t w : Team} {c : Combine} {a : VSrc} {scan : Option VDst} (ht : t.pwords = 0)
    (h : redLoop c a scan t.words 0 s.latch.passLimit { t with pvalue := 0 } = (w, .done)) (fin : W64 → Team → Team) :
    s.redRun t c a scan fin = s.complete (fin w.pvalue { w with pvalue := 0, pwords := 0 }) := by
  obtain ⟨u, hu⟩ : ∃ u, u = ({ t with pvalue := 0 } : Team) := ⟨_, rfl⟩
  have hwords : u.words = t.words := by rw [hu]; rfl
  have hpwords : u.pwords = 0 := by rw [hu]; exact ht
  rw [← hu] at h
  unfold State.redRun
  rw [if_pos ht, ← hu]
  simp only [hwords, hpwords, Nat.sub_zero, h]

section
variable {c : Combine} {u : Team} {a : VSrc} {scan : Option VDst} {n j : Nat}

/-- A word without an active lane only moves the record on. -/
theorem redLoop_empty (h : u.wordLanes j = []) :
    redLoop c a scan (n + 1) j none u = redLoop c a scan n (j + 1) none { u with pwords := j + 1 } := by
  rw [redLoop]
  exact if_pos (by rw [h]; rfl)

/-- A word none of whose lanes reads poison and whose fold raises nothing trapped is one pass. -/
theorem redLoop_pass (h : u.wordLanes j ≠ []) (hp : ∀ e ∈ u.vpoison, e.1 ∉ vregsOf a)
    (hf : ((u.wordLanes j).foldl (c.lane u a) ⟨u.pvalue.truncate 32, u.pvalue.getLsbD 32, 0, []⟩).flags &&& u.traps = 0) :
    redLoop c a scan (n + 1) j none u = redLoop c a scan n (j + 1) none (c.pass u a scan (u.wordLanes j) j) := by
  have hclean : (u.wordLanes j).any (fun l => (u.poisonedReg (vregsOf a) l).isSome) = false :=
    List.any_eq_false.2 (fun l _ => by simp [poisonedReg_none hp l])
  rw [redLoop]
  simp only [hclean, hf, List.isEmpty_iff, h, if_false, reduceCtorEq, Bool.false_eq_true, ne_eq, not_true_eq_false, Option.map_none]
  cases scan <;> rfl

end

/-- A combining operation reads nothing of the team but its mode word. -/
def Combine.ReadsMode (c : Combine) (t : Team) : Prop := ∀ u : Team, u.fpmode = t.fpmode → c.enter u = c.enter t ∧ c.fold u = c.fold t

/-- A fold may run on a team: what it reads is the mode word, no fold raises a trapped exception, the source is not poisoned, and a
scan has a register for its results. -/
structure Combine.Runs (c : Combine) (t : Team) (a : VSrc) (scan : Option VDst) : Prop where
  mode : c.ReadsMode t
  quiet : ∀ ls, (c.run t a ls).flags &&& t.traps = 0
  clean : ∀ e ∈ t.vpoison, e.1 ∉ vregsOf a
  dest : ∀ dst ∈ scan, ∃ d nw, dst = .v d nw

section
variable {c : Combine} {t : Team} {a : VSrc} {scan : Option VDst} (hr : c.Runs t a scan)
include hr

theorem scanPut_keeps {α : Type} {view : Team → α} (hv : ∀ u r l x, view (Team.setV u r l x) = view u)
    (hb : ∀ u l x, view (Team.shiftLatch u l x) = view u) (hd : ∀ u m, view { u with done := m } = view u) (ls : List Nat)
    (outs : List (Nat × W32)) : view (t.scanPut scan ls outs) = view t := by
  cases scan with
  | none => rfl
  | some dst =>
    obtain ⟨d, nw, rfl⟩ := hr.dest dst rfl
    exact (hd ..).trans (foldl_put_keeps t _ (put_v_keeps hv hb) outs)

theorem fpmode_after (ls : List Nat) (j : Nat) : (c.after t a scan ls j).fpmode = t.fpmode :=
  scanPut_keeps hr (view := Team.fpmode) (fun _ _ _ _ => rfl) (fun _ _ _ => rfl) (fun _ _ => rfl) ..

theorem sticky_scanPut (ls : List Nat) (outs : List (Nat × W32)) : (t.scanPut scan ls outs).sticky = t.sticky :=
  scanPut_keeps hr (view := Team.sticky) (fun _ _ _ _ => rfl) (fun _ _ _ => rfl) (fun _ _ => rfl) ..

theorem src_after {ls : List Nat} {k : Nat} (hk : k ∉ ls) (j : Nat) : (c.after t a scan ls j).src a k = t.src a k := by
  have hout : k ∉ (c.run t a ls).outs.reverse.map Prod.fst := by
    rw [List.map_reverse, List.mem_reverse, Combine.run, outs_lanes]
    simpa using hk
  show (t.scanPut scan ls _).src a k = t.src a k
  cases scan with
  | none => rfl
  | some dst =>
    obtain ⟨d, nw, rfl⟩ := hr.dest dst rfl
    exact src_foldl_put_v_other a _ hout t

theorem lane_after {ls : List Nat} {k : Nat} (hk : k ∉ ls) (j : Nat) (st : FoldSt) :
    c.lane (c.after t a scan ls j) a st k = c.lane t a st k := by
  obtain ⟨henter, hfold⟩ := hr.mode _ (fpmode_after hr ls j)
  simp only [Combine.lane, src_after hr hk j, henter, hfold]

theorem clean_after (ls : List Nat) (j : Nat) : ∀ e ∈ (c.after t a scan ls j).vpoison, e.1 ∉ vregsOf a := by
  have hsub : (c.after t a scan ls j).vpoison ⊆ t.vpoison := by
    show (t.scanPut scan ls _).vpoison ⊆ t.vpoison
    cases scan with
    | none => exact List.Subset.refl _
    | some dst =>
      obtain ⟨d, nw, rfl⟩ := hr.dest dst rfl
      exact vpoison_foldl_put_v _ t
  exact fun e he => hr.clean e (hsub he)

theorem traps_after (ls : List Nat) (j : Nat) : (c.after t a scan ls j).traps = t.traps := by
  rw [Team.traps, fpmode_after hr, Team.traps]

/-- The results of lanes of a scan set their done bits and those of no other lane. -/
theorem active_after {ls : List Nat} {k : Nat} (hk : k ∉ ls) (j : Nat) :
    (c.after t a scan ls j).active.getLsbD k = t.active.getLsbD k := by
  have hm : (c.after t a scan ls j).mreg 0 = t.mreg 0 :=
    scanPut_keeps hr (view := fun u => u.mreg 0) (fun _ _ _ _ => rfl) (fun _ _ _ => rfl) (fun _ _ => rfl) ..
  have hd : (c.after t a scan ls j).done.getLsbD k = t.done.getLsbD k := by
    show (t.scanPut scan ls _).done.getLsbD k = t.done.getLsbD k
    cases scan with
    | none => rfl
    | some dst => simp [Team.scanPut, BitVec.getLsbD_or, getLsbD_maskOf, hk]
  simp only [Team.active, BitVec.getLsbD_and, BitVec.getLsbD_not, hm, hd]

theorem wordLanes_after (j : Nat) : (c.after t a scan (t.lanesBelowWord j) j).wordLanes j = t.wordLanes j := by
  have hlanes : (c.after t a scan (t.lanesBelowWord j) j).lanes = t.lanes :=
    scanPut_keeps hr (view := Team.lanes) (fun _ _ _ _ => rfl) (fun _ _ _ => rfl) (fun _ _ => rfl) ..
  simp only [Team.wordLanes, lanesOf, List.filter_filter, hlanes]
  refine List.filter_congr (fun l _ => ?_)
  by_cases hl : l / 32 = j
  · rw [active_after hr (fun hmem => by have := word_of_mem_lanesBelowWord hmem; omega)]
  · rw [beq_eq_false_iff_ne.2 hl, Bool.false_and, Bool.false_and]

/-- A pass begins with what the fold over the lanes so far has left. -/
theorem foldl_lane_after {ls ms : List Nat} (hms : ∀ l ∈ ms, l ∉ ls) (j : Nat) :
    ms.foldl (c.lane (c.after t a scan ls j) a) ⟨(c.after t a scan ls j).pvalue.truncate 32,
      (c.after t a scan ls j).pvalue.getLsbD 32, 0, []⟩ =
      ms.foldl (c.lane t a) ⟨(c.run t a ls).p, (c.run t a ls).pres, 0, []⟩ := by
  have hp : (c.after t a scan ls j).pvalue.truncate 32 = (c.run t a ls).p := record_p _ (run_p_of_not_pres c t a)
  have hpres : (c.after t a scan ls j).pvalue.getLsbD 32 = (c.run t a ls).pres := record_pres _
  rw [hp, hpres]
  exact List.foldl_ext _ _ _ (fun st l hl => lane_after hr (hms l hl) j st)

/-- The results of more lanes on a team that has those of some. -/
theorem scanPut_after (ls ms : List Nat) (outs : List (Nat × W32)) (j : Nat) :
    (c.after t a scan ls j).scanPut scan ms outs =
      { t.scanPut scan (ls ++ ms) ((c.run t a ls).outs.reverse ++ outs) with
        sticky := t.sticky ||| (c.run t a ls).flags, pvalue := (c.run t a ls).record, pwords := j } := by
  cases scan with
  | none => rfl
  | some dst =>
    have hput := foldl_put_withFold ((c.run t a ls).outs.reverse.foldl (fun t e => t.put dst e.1 (e.2.zeroExtend 64)) t) dst outs
      (t.done ||| maskOf ls) (t.sticky ||| (c.run t a ls).flags) (c.run t a ls).record j
    simp only [Team.scanPut, List.foldl_append, maskOf_append, ← BitVec.or_assoc]
    exact congrArg (fun u : Team => { u with done := t.done ||| maskOf ls ||| maskOf ms }) hput

/-- A pass on the fold over some lanes gives the fold over those and its own. -/
theorem pass_after {ls ms : List Nat} (hms : ∀ l ∈ ms, l ∉ ls) (hne : ms ≠ []) (j : Nat) :
    c.pass (c.after t a scan ls j) a scan ms j = c.after t a scan (ls ++ ms) (j + 1) := by
  have hpres : (c.run t a (ls ++ ms)).record = (1 : W64) <<< 32 ||| (c.run t a (ls ++ ms)).p.zeroExtend 64 :=
    if_pos (by rw [Combine.run, pres_foldl_lane]; simp [hne])
  show _ = ({ t.scanPut scan (ls ++ ms) (c.run t a (ls ++ ms)).outs.reverse with
    sticky := t.sticky ||| (c.run t a (ls ++ ms)).flags, pvalue := (c.run t a (ls ++ ms)).record, pwords := j + 1 } : Team)
  rw [hpres, run_append]
  simp only [Combine.pass, foldl_lane_after hr hms, scanPut_after hr, List.reverse_append, BitVec.or_assoc]

/-- The passes fold all active lanes of the words they run over. -/
theorem redLoop_after (n j : Nat) : redLoop c a scan n j none (c.after t a scan (t.lanesBelowWord j) j) =
    (c.after t a scan (t.lanesBelowWord (j + n)) (j + n), .done) := by
  induction n generalizing j with
  | zero => rfl
  | succ n ih =>
    have hword := wordLanes_after hr j
    have hstep : redLoop c a scan (n + 1) j none (c.after t a scan (t.lanesBelowWord j) j) =
        redLoop c a scan n (j + 1) none (c.after t a scan (t.lanesBelowWord (j + 1)) (j + 1)) := by
      rw [lanesBelowWord_succ]
      by_cases hnil : t.wordLanes j = []
      · rw [redLoop_empty (hword.trans hnil), hnil, List.append_nil]
        rfl
      · have hms : ∀ l ∈ t.wordLanes j, l ∉ t.lanesBelowWord j := fun l hl hmem => by
          have hlt := word_of_mem_lanesBelowWord hmem
          have heq : l / 32 = j := by simpa using (List.mem_filter.1 hl).2
          omega
        have hquiet := hr.quiet (t.lanesBelowWord j ++ t.wordLanes j)
        rw [redLoop_pass (by rwa [hword]) (clean_after hr _ _), hword, pass_after hr hms hnil]
        rw [hword, foldl_lane_after hr hms, traps_after hr]
        rw [run_append] at hquiet
        exact ((BitVec.or_eq_zero_iff ..).1 ((BitVec.and_or_distrib_right ..).symm.trans hquiet)).2
    rw [hstep, ih, Nat.add_right_comm, Nat.add_assoc]

/-- A run from an empty record ends with the fold over all active lanes, and clears the record (R283). -/
theorem redRun_done {s : State} (hs : s.latch.passLimit = none) (ht : t.pwords = 0) (fin : W64 → Team → Team) :
    s.redRun t c a scan fin =
      let st := c.run t a (lanesOf t.active t.lanes)
      s.complete (fin st.record { t.scanPut scan (lanesOf t.active t.lanes) st.outs.reverse with
        sticky := t.sticky ||| st.flags, pvalue := 0, pwords := 0 }) := by
  have hstart : { t with pvalue := 0 } = c.after t a scan (t.lanesBelowWord 0) 0 := by
    have hput : t.scanPut scan [] [] = t := by
      cases scan with
      | none => rfl
      | some dst => simp [Team.scanPut, maskOf_nil]
    rw [lanesBelowWord_zero]
    show _ = ({ t.scanPut scan [] [] with sticky := t.sticky ||| 0, pvalue := 0, pwords := 0 } : Team)
    have hsticky : t.sticky ||| 0 = t.sticky := BitVec.or_zero
    rw [hput, hsticky, ← ht]
  have hloop := redLoop_after hr t.words 0
  rw [← hstart, Nat.zero_add, lanesBelowWord_words] at hloop
  exact redRun_of_loop ht (by rw [hs]; exact hloop) fin

end

/-! ### The combining operations -/

theorem combAddI_readsMode (t : Team) : combAddI.ReadsMode t := fun _ _ => ⟨rfl, rfl⟩

theorem combMaxI_readsMode (t : Team) : combMaxI.ReadsMode t := fun _ _ => ⟨rfl, rfl⟩

theorem flushIn32_eq {u t : Team} (h : u.fpmode = t.fpmode) : u.flushIn32 = t.flushIn32 := by
  have hflush : u.iflush .c32 = t.iflush .c32 := by
    show u.fpmode.getLsbD _ = t.fpmode.getLsbD _
    rw [h]
  funext x
  rw [Team.flushIn32, hflush, Team.flushIn32]

theorem combAddF_readsMode (t : Team) : combAddF.ReadsMode t := fun u h =>
  ⟨flushIn32_eq h, by funext p x; simp only [combAddF, Team.rm, Team.rflush, h]⟩

theorem combMaxF_readsMode (t : Team) : combMaxF.ReadsMode t := fun u h =>
  ⟨flushIn32_eq h, by funext p x; simp only [combMaxF, Team.rflush, h]⟩

/-- A fold whose steps raise nothing raises nothing. -/
theorem run_flags_zero {c : Combine} {t : Team} (h : ∀ p x, (c.fold t p x).flags = 0) (a : VSrc) (ls : List Nat) :
    (c.run t a ls).flags = 0 := by
  have hstep : ∀ st : FoldSt, st.flags = 0 → (ls.foldl (c.lane t a) st).flags = 0 := by
    induction ls with
    | nil => exact fun _ h => h
    | cons l ls ih =>
      refine fun st hst => ih _ ?_
      simp only [Combine.lane]
      split
      · simp [hst, h]
      · exact hst
  exact hstep _ rfl

section
variable {s : State} {t : Team} {c : Combine} {a : VSrc}

/-- A fold of integers runs on any team whose source is not poisoned. -/
theorem Combine.Runs.of_int {scan : Option VDst} (hm : c.ReadsMode t) (h : ∀ p x, (c.fold t p x).flags = 0)
    (hp : ∀ e ∈ t.vpoison, e.1 ∉ vregsOf a) (hd : ∀ dst ∈ scan, ∃ d nw, dst = VDst.v d nw) : c.Runs t a scan :=
  ⟨hm, fun ls => by rw [run_flags_zero h a ls]; exact BitVec.zero_and, hp, hd⟩

/-- Any fold runs where nothing is trapped. -/
theorem Combine.Runs.of_traps {scan : Option VDst} (hm : c.ReadsMode t) (h : t.traps = 0)
    (hp : ∀ e ∈ t.vpoison, e.1 ∉ vregsOf a) (hd : ∀ dst ∈ scan, ∃ d nw, dst = VDst.v d nw) : c.Runs t a scan :=
  ⟨hm, fun ls => by rw [h]; exact BitVec.and_zero, hp, hd⟩

/-- What a `reduce` leaves: the fold, or the result of no lane (R283). -/
theorem reduce_done {d : Nat} (h : VecReady s t (.m 0) (vregsOf a)) (ht : t.pwords = 0) (hr : c.Runs t a none) :
    s.reduce d a c = .next (scalarDone s
      { t with sticky := t.sticky ||| (c.run t a (lanesOf t.active t.lanes)).flags, pvalue := 0, pwords := 0 } d
      (if c.int then (c.run t a (lanesOf t.active t.lanes)).value c |>.signExtend 64
       else (c.run t a (lanesOf t.active t.lanes)).value c |>.zeroExtend 64)) := by
  obtain ⟨hteam, hrole, hreg, hq, hlim⟩ := h
  rw [State.reduce, issue_body hteam (by simp [hrole, RoleNeed.ok]) (vregs := vregsOf a) hreg (Or.inl rfl),
    redRun_done hr hlim ht]
  simp only [record_pres, record_p _ (run_p_of_not_pres c t a)]
  rfl

/-- A `reduce` of integers raises nothing and is sign-extended. -/
theorem reduce_int_done {d : Nat} {x : W32} (h : VecReady s t (.m 0) (vregsOf a)) (ht : t.pwords = 0) (hm : c.ReadsMode t)
    (hf : ∀ p x, (c.fold t p x).flags = 0) (hi : c.int = true) (hx : (c.run t a (lanesOf t.active t.lanes)).value c = x) :
    s.reduce d a c = .next (scalarDone s { t with pvalue := 0, pwords := 0 } d (x.signExtend 64)) := by
  have hsticky : t.sticky ||| (0 : Flags) = t.sticky := BitVec.or_zero
  rw [reduce_done h ht (.of_int hm hf h.2.2.2.1 nofun), run_flags_zero hf, hsticky, hi, if_pos rfl, hx]

/-- What a `scan` leaves: the running fold in each active lane (R283). -/
theorem scan_done {d : Nat} {nw : Bool} (h : VecReady s t (.v d nw) (vregsOf a)) (ht : t.pwords = 0)
    (hr : c.Runs t a (some (.v d nw))) :
    s.scan d a nw c = .next (
      let st := c.run t a (lanesOf t.active t.lanes)
      let t1 := t.commit (.v d nw) (st.outs.reverse.map (fun e => (e.1, ⟨e.2.zeroExtend 64, 0⟩)))
      s.complete { t1 with sticky := t.sticky ||| st.flags, pvalue := 0, pwords := 0 }) := by
  obtain ⟨hteam, hrole, hreg, hq, hlim⟩ := h
  have hlanes : (c.run t a (lanesOf t.active t.lanes)).outs.reverse.map Prod.fst = lanesOf t.active t.lanes := by
    rw [List.map_reverse, Combine.run, outs_lanes]
    simp
  rw [State.scan, issue_body hteam (by simp [hrole, RoleNeed.ok]) hreg (Or.inl rfl), redRun_done hr hlim ht]
  simp only [Team.scanPut, Team.commit, List.foldl_map, List.map_map, Function.comp_def, hlanes]

end

section
variable {t : Team} {c : Combine} {a : VSrc}

/-- The value of a fold whose empty result is neutral is the fold from that result. -/
theorem run_value {op : W32 → W32 → W32} (hop : ∀ p x, BitVec.ofNat 32 (c.fold t p x).bits = op p x)
    (henter : ∀ x, c.enter t x = x) (hempty : ∀ x, op c.empty x = x) (ls : List Nat) :
    (c.run t a ls).value c = ls.foldl (fun r l => op r (t.src a l)) c.empty := by
  have hfrom : ∀ (ls : List Nat) p fl outs, (ls.foldl (c.lane t a) ⟨p, true, fl, outs⟩).p =
      ls.foldl (fun r l => op r (t.src a l)) p := by
    intro ls
    induction ls with
    | nil => exact fun _ _ _ => rfl
    | cons l ls ih => exact fun p fl outs => (ih _ _ _).trans (by rw [hop, henter]; rfl)
  cases ls with
  | nil => rfl
  | cons l ls =>
    rw [FoldSt.value, if_pos (by rw [Combine.run, pres_foldl_lane]; rfl), Combine.run, List.foldl_cons, lane_of_none, hfrom, List.foldl_cons,
      hempty, henter]

theorem foldl_add_eq_sum (f : Nat → W32) (ls : List Nat) (r : W32) :
    ls.foldl (fun r l => r + f l) r = r + BitVec.ofNat 32 (ls.map (fun l => (f l).toNat)).sum := by
  induction ls generalizing r with
  | nil => simp
  | cons l ls ih =>
    rw [List.foldl_cons, ih, List.map_cons, List.sum_cons, BitVec.ofNat_add, BitVec.ofNat_toNat, BitVec.setWidth_eq, BitVec.add_assoc]

theorem ofNat_toNat_self (x : W32) : BitVec.ofNat 32 x.toNat = x := by
  rw [BitVec.ofNat_toNat, BitVec.setWidth_eq]

theorem maxI_least (x : W32) : (if (0x80000000#32 : W32).toInt ≤ x.toInt then x else 0x80000000#32) = x :=
  if_pos (BitVec.le_toInt x)

end

/-- The destination of a `scan` is a vector register. -/
theorem scan_dest (d : Nat) (nw : Bool) : ∀ dst ∈ some (VDst.v d nw), ∃ d nw, dst = VDst.v d nw := fun _ h =>
  ⟨d, nw, (Option.some.inj h).symm⟩

/-- Settles O14: each operation reads only the mode word and raises nothing trapped, so that its passes are the fold of all lanes. -/
theorem folds : Obligations.Folds := by
  unfold Obligations.Folds
  refine ⟨fun s t d a h ht => ?reduce, fun s t d a nw h ht => ?scan⟩
  case reduce =>
    obtain ⟨-, -, -, hp, -⟩ := id h
    refine ⟨?add, ?max, fun htr => ⟨?addF, ?maxF⟩⟩
    case add =>
      refine (exec_reduceAddI32 s).trans (reduce_int_done h ht (combAddI_readsMode t) (fun _ _ => rfl) rfl ?_)
      rw [run_value (op := (· + ·)) (fun _ _ => ofNat_toNat_self _) (fun _ => rfl) (fun _ => BitVec.zero_add _), foldl_add_eq_sum]
      exact BitVec.zero_add _
    case max =>
      refine (exec_reduceMaxI32 s).trans (reduce_int_done h ht (combMaxI_readsMode t) (fun _ _ => rfl) rfl ?_)
      rw [run_value (op := maxI) (fun _ _ => ofNat_toNat_self _) (fun _ => rfl)
        (fun _ => (maxI_eq_ite _ _).trans (maxI_least _))]
      simp only [maxI_eq_ite]
      rfl
    case addF => exact (exec_reduceAddF32 s).trans (reduce_done (t := t) h ht (.of_traps (combAddF_readsMode t) htr hp nofun))
    case maxF => exact (exec_reduceMaxF32 s).trans (reduce_done (t := t) h ht (.of_traps (combMaxF_readsMode t) htr hp nofun))
  case scan =>
    obtain ⟨-, -, -, hp, -⟩ := id h
    exact ⟨(exec_scanAddI32 s).trans (scan_done h ht (.of_int (combAddI_readsMode t) (fun _ _ => rfl) hp (scan_dest d nw))),
      (exec_scanMaxI32 s).trans (scan_done h ht (.of_int (combMaxI_readsMode t) (fun _ _ => rfl) hp (scan_dest d nw))),
      fun htr => ⟨(exec_scanAddF32 s).trans (scan_done h ht (.of_traps (combAddF_readsMode t) htr hp (scan_dest d nw))),
        (exec_scanMaxF32 s).trans (scan_done h ht (.of_traps (combMaxF_readsMode t) htr hp (scan_dest d nw)))⟩⟩

end Sys2Proof.Machine
end

section
/-! The statements on the system instructions: events of a supervisor, system registers, `trap`, `brk`, `halt`, `park` and `resume`
(R338 to R345). -/

namespace Sys2Proof.Machine

/-! ### Writing twice under one key -/

theorem tabSet_tabSet {α : Type} (t : Tab α) (k : Nat) (v w : α) : tabSet (tabSet t k v) k w = tabSet t k w := by
  induction t with
  | nil => simp [tabSet]
  | cons e t ih => obtain ⟨j, x⟩ := e; grind [tabSet]

theorem setCore_setCore (s : State) (c : Nat) (k k' : Core) : (s.setCore c k).setCore c k' = s.setCore c k' := by
  simp [State.setCore, tabSet_tabSet]

/-- Of two values of a team the later one stays. -/
theorem setTeam_setTeam (s : State) (p : Nat × Nat) (t t' : Team) : (s.setTeam p t).setTeam p t' = s.setTeam p t' := by
  rw [State.setTeam, State.setTeam, setCore_setCore, core_setCore]
  simp only [tabSet_tabSet]
  rfl

/-! ### Events of a supervisor (R341) -/

/-- Delivering an event marks it delivered and changes nothing else of the core. -/
theorem Core.nextEvent_keeps {k k' : Core} {now cause : Nat} (h : k.nextEvent now = some (cause, k')) :
    k'.teams = k.teams ∧ k'.evec = k.evec ∧ k'.even = k.even := by
  unfold Core.nextEvent at h
  split at h
  · simp only [Option.some.injEq, Prod.mk.injEq] at h
    rw [← h.2]
    exact ⟨rfl, rfl, rfl⟩
  · split at h
    · simp only [Option.some.injEq, Prod.mk.injEq] at h
      rw [← h.2]
      exact ⟨rfl, rfl, rfl⟩
    · grind

/-- The team of a supervisor as an event finds it at the event's address. -/
def Team.entered (t : Team) (evec : W64) : Team :=
  { t with pc := evec.setWidth 57, halted := false, yielded := false, hold := none, wait := t.wait.kept }

theorem execEventEntry_enters {s : State} {c cause : Nat} {t : Team} {k : Core} (ht : s.team? (c, 0) = some t)
    (hev : (s.core c).nextEvent s.time = some (cause, k)) (heven : k.even = true) (hrec : s.fe.recovery = false)
    (hpark : t.parked = false) (hbound : t.atBoundary = true) : exec (.eventEntry c) s =
      .next ((s.setCore c { k with epc := wide t.pc, ecause := cause, even := false }).setTeam (c, 0) (t.entered k.evec)) := by
  rw [exec_eventEntry, execEventEntry, ht, hev]
  exact congrArg _ (if_pos ⟨heven, hpark, hbound, hrec⟩)

theorem execEret_eq {s : State} {t : Team} (h : OnceReady s t .any) (hcur : s.cur.2 = 0) : exec .eret s = .next (
    (if canonical (s.core s.cur.1).epc && !(s.core s.cur.1).epc.getLsbD 0 then s.setCore s.cur.1 { s.core s.cur.1 with even := true }
      else s).transferChecked t (s.core s.cur.1).epc true t.loops) :=
  (exec_eret s).trans (congrArg _ (once_body h (Or.inr hcur)))

/-- Settles O45: the entry by what an event leaves of its core, `eret` by the check of its target. -/
theorem supervisorEvents : Obligations.SupervisorEvents := by
  unfold Obligations.SupervisorEvents
  refine ⟨fun s c t cause k ht hev => ⟨fun heven hrec hpark hdone hrep hwords => ?enter, fun heven => ?masked⟩,
    fun s t h hcur => ⟨fun hc ho => ?back, fun hc => ?canon, fun hc ho => ?odd⟩⟩
  case enter =>
    obtain ⟨hteams, hevec, -⟩ := Core.nextEvent_keeps hev
    have hcore : ((s.setCore c { k with epc := wide t.pc, ecause := cause, even := false }).setTeam (c, 0) (t.entered k.evec)).core c =
        { k with epc := wide t.pc, ecause := cause, even := false, teams := tabSet k.teams 0 (t.entered k.evec) } := by
      rw [State.setTeam, core_setCore, core_setCore]
    refine ⟨_, t.entered k.evec, execEventEntry_enters ht hev heven hrec hpark (by simp [Team.atBoundary, hdone, hrep, hwords]),
      by rw [hcore], by rw [hcore], by rw [hcore], by rw [hcore], team?_setTeam .., rfl, rfl, fun _ => rfl, rfl, rfl, fun p hp => ?_⟩
    rw [team?_setTeam_other _ _ hp]
    exact team?_setCore_of_teams s (k := { k with epc := wide t.pc, ecause := cause, even := false }) hteams p
  case masked =>
    have hno (b : Prop) : ¬ (k.even = true ∧ b) := fun h => absurd h.1 (by simp [heven])
    exact (exec_eventEntry s).trans (by simp only [execEventEntry, ht, hev, if_neg (hno _)])
  case back => rw [execEret_eq h hcur, hc, ho]; exact congrArg _ (transferChecked_ok hc fun _ => ho)
  case canon => rw [execEret_eq h hcur, hc]; exact congrArg _ (transferChecked_noncanonical hc)
  case odd => rw [execEret_eq h hcur, hc, ho]; exact congrArg _ (transferChecked_odd hc ho)

/-! ### System registers (R339, R340) -/

section
variable {s : State} {t : Team} (h : OnceReady s t .any) {r : Nat} {x : SysReg}
include h

/-- The checks of a system register's access pass. -/
theorem sysOp_ok (hr : SysReg.of r = some x) (hp : x.priv = true → s.cur.2 = 0) (body : Team → SysReg → State) :
    s.sysOp r body = .next (body t x) := by
  rw [State.sysOp, once_body h (Or.inl rfl), hr]
  exact congrArg _ (if_neg (fun hno => hno.2 (hp hno.1)))

theorem sysOp_privileged (hr : SysReg.of r = some x) (hx : x.priv = true) (hcur : s.cur.2 ≠ 0) (body : Team → SysReg → State) :
    s.sysOp r body = .next (s.onceFault t 0x02 0 0) := by
  rw [State.sysOp, once_body h (Or.inl rfl), hr]
  exact congrArg _ (if_pos ⟨hx, hcur⟩)

theorem sysOp_unassigned (hr : SysReg.of r = none) (body : Team → SysReg → State) : s.sysOp r body =
    .next (if t.excused (faultOf 0x01 1 0 (unknownMask t)) then s.complete t else s.unitFault t (faultOf 0x01 1 0 (unknownMask t))) := by
  rw [State.sysOp, once_body h (Or.inl rfl), hr]

theorem execSysrd_ok (hr : SysReg.of r = some x) (hp : x.priv = true → s.cur.2 = 0) (d : Nat) {v : W64} {s' : State}
    (hv : s.sysRead t x = (v, s')) : exec (.sysrd d r) s = .next (scalarDone s' t d v) := by
  refine (exec_sysrd s).trans ((sysOp_ok h hr hp _).trans ?_)
  simp only [hv]
  rfl

/-- A write, a set and a clear of a register whose reads give `old` and whose writes are `w`. -/
theorem sysModify_ok (hr : SysReg.of r = some x) (hp : x.priv = true → s.cur.2 = 0) (d : Nat) {old : W64} {w : W64 → State × Team}
    (hold : (if x = .clock then 0 else (s.sysRead t x).1) = old) (hw : ∀ y, s.sysWrite t x y = w y) :
    exec (.syswr d r) s = .next ((w (t.s d)).1.complete (w (t.s d)).2) ∧
    exec (.syswrSet d r) s = .next ((w (old ||| t.s d)).1.complete (w (old ||| t.s d)).2) ∧
    exec (.syswrClr d r) s = .next ((w (old &&& ~~~t.s d)).1.complete (w (old &&& ~~~t.s d)).2) := by
  have hop (f : W64 → W64 → W64) : s.sysModify d r f = .next ((w (f old (t.s d))).1.complete (w (f old (t.s d))).2) := by
    unfold State.sysModify
    refine (sysOp_ok h hr hp _).trans ?_
    simp only [hold, hw]
  exact ⟨(exec_syswr s).trans (hop _), (exec_syswrSet s).trans (hop _), (exec_syswrClr s).trans (hop _)⟩

/-- A read-only register: what is written is dropped. -/
theorem sysModify_readOnly (hr : SysReg.of r = some x) (hp : x.priv = true → s.cur.2 = 0) (d : Nat)
    (hw : ∀ y, s.sysWrite t x y = (s, t)) :
    exec (.syswr d r) s = .next (s.complete t) ∧ exec (.syswrSet d r) s = .next (s.complete t) ∧
    exec (.syswrClr d r) s = .next (s.complete t) :=
  sysModify_ok h hr hp d rfl hw

end

/-- A privileged number names a privileged register. -/
theorem SysReg.of_privileged {r : Nat} (hr : r ∈ [0x100, 0x101, 0x102, 0x103, 0x104]) : ∃ x, SysReg.of r = some x ∧ x.priv = true := by
  simp only [List.mem_cons, List.not_mem_nil, or_false] at hr
  obtain rfl | rfl | rfl | rfl | rfl := hr
  · exact ⟨.evec, rfl, rfl⟩
  · exact ⟨.epc, rfl, rfl⟩
  · exact ⟨.ecause, rfl, rfl⟩
  · exact ⟨.svctl, rfl, rfl⟩
  · exact ⟨.rqcount, rfl, rfl⟩

theorem SysReg.of_unassigned {r : Nat} (hr : r ∉ [0, 1, 2, 3, 4, 5, 6, 0x100, 0x101, 0x102, 0x103, 0x104]) : SysReg.of r = none := by
  unfold SysReg.of
  split <;> simp_all

theorem ofNat_bit (b : Bool) : BitVec.ofNat 64 (bit b) = if b then 1 else 0 := by cases b <;> rfl

/-- Settles O42: each register by the value its read gives and the state its write leaves; the faults by the check on the number. -/
theorem systemRegisters : Obligations.SystemRegisters := by
  unfold Obligations.SystemRegisters
  refine ⟨fun s t d h => ?reads, fun s t d h => ?writes, fun s t d r h hcur hr => ?privileged, fun s t d r h hr => ?unassigned⟩
  case reads =>
    refine ⟨execSysrd_ok h (x := .fpmode) rfl nofun d rfl, execSysrd_ok h (x := .sticky) rfl nofun d rfl,
      execSysrd_ok h (x := .place) rfl nofun d rfl, fun b hb => ⟨?launch, ?grid⟩, ⟨_, Nat.le_add_right _ _,
      execSysrd_ok h (x := .clock) rfl nofun d rfl⟩, execSysrd_ok h (x := .sigstk) rfl nofun d rfl, fun hsup => ?supervisor⟩
    case launch => exact execSysrd_ok h (x := .launch) rfl nofun d (by simp [State.sysRead, hb, pasidOf])
    case grid => exact execSysrd_ok h (x := .grid) rfl nofun d (by simp [State.sysRead, hb])
    case supervisor =>
      exact ⟨execSysrd_ok h (x := .evec) rfl (fun _ => hsup) d rfl, execSysrd_ok h (x := .epc) rfl (fun _ => hsup) d rfl,
        execSysrd_ok h (x := .ecause) rfl (fun _ => hsup) d rfl,
        execSysrd_ok h (x := .svctl) rfl (fun _ => hsup) d (congrArg (·, s) (ofNat_bit _)),
        execSysrd_ok h (x := .rqcount) rfl (fun _ => hsup) d rfl⟩
  case writes =>
    refine ⟨sysModify_ok h (x := .fpmode) rfl nofun d rfl fun _ => rfl, sysModify_ok h (x := .sticky) rfl nofun d rfl fun _ => rfl,
      sysModify_ok h (x := .sigstk) rfl nofun d rfl fun _ => rfl, fun r hr => ?readOnly, fun hsup => ?supervisor⟩
    case readOnly =>
      obtain rfl | rfl | rfl | rfl := hr
      · exact sysModify_readOnly h (x := .place) rfl nofun d fun _ => rfl
      · exact sysModify_readOnly h (x := .launch) rfl nofun d fun _ => rfl
      · exact sysModify_readOnly h (x := .grid) rfl nofun d fun _ => rfl
      · exact sysModify_readOnly h (x := .clock) rfl nofun d fun _ => rfl
    case supervisor =>
      exact ⟨sysModify_ok h (x := .evec) rfl (fun _ => hsup) d rfl fun _ => rfl,
        sysModify_ok h (x := .epc) rfl (fun _ => hsup) d rfl fun _ => rfl,
        sysModify_readOnly h (x := .ecause) rfl (fun _ => hsup) d fun _ => rfl,
        sysModify_ok h (x := .svctl) rfl (fun _ => hsup) d (ofNat_bit _) fun _ => rfl,
        sysModify_readOnly h (x := .rqcount) rfl (fun _ => hsup) d fun _ => rfl⟩
  case privileged =>
    obtain ⟨x, hx, hp⟩ := SysReg.of_privileged hr
    exact ⟨(exec_sysrd s).trans (sysOp_privileged h hx hp hcur _), (exec_syswr s).trans (sysOp_privileged h hx hp hcur _),
      (exec_syswrSet s).trans (sysOp_privileged h hx hp hcur _), (exec_syswrClr s).trans (sysOp_privileged h hx hp hcur _)⟩
  case unassigned =>
    have hx := SysReg.of_unassigned hr
    exact ⟨(exec_sysrd s).trans (sysOp_unassigned h hx _), (exec_syswr s).trans (sysOp_unassigned h hx _),
      (exec_syswrSet s).trans (sysOp_unassigned h hx _), (exec_syswrClr s).trans (sysOp_unassigned h hx _)⟩

/-! ### `trap` and `brk` (R338, R414) -/

/-- A map over a table that keeps the keys acts on each value under its key. -/
theorem tabGet?_mapKeyed {α β : Type} (t : Tab α) {g : Nat × α → Nat × β} (hg : ∀ e, (g e).1 = e.1) (j : Nat) :
    tabGet? (t.map g) j = (tabGet? t j).map (fun v => (g (j, v)).2) := by
  induction t with
  | nil => rfl
  | cons e t ih =>
    obtain ⟨i, v⟩ := e
    have hi : g (i, v) = (i, (g (i, v)).2) := Prod.ext (hg (i, v)) rfl
    rw [List.map_cons, hi, tabGet?, tabGet?]
    by_cases hij : i = j
    · rw [if_pos hij, if_pos hij, hij]; rfl
    · rw [if_neg hij, if_neg hij, ih]

/-- The team after a unit that completed, at the PC and with the loops the loop-end step of R288 gives. -/
def State.unitDone (s : State) (t : Team) : Team :=
  { t with done := 0, marked := none, heldSince := none, wait := t.wait.kept, rep := .idle,
           pc := (loopEnd s.latch.start s.latch.next t.loops).1, loops := (loopEnd s.latch.start s.latch.next t.loops).2 }

section
variable {s : State} {t : Team} {f : FaultInfo} (hst : s.latch.stuffed = false)
include hst

theorem completeThenFault_eq : s.completeThenFault t f = s.takeFault s.cur (s.unitDone t) (s.unitDone t).pc f := by
  rw [State.completeThenFault, hst]
  rfl

/-- A unit that completes and then parks its team: the record is of the next unit. -/
theorem completeThenFault_parks
    (hgo : ¬ ((f.code = 0x28 ∨ f.code = 0x29) ∧ s.cur.2 ≠ 0 ∧ s.attached (pasidOf (s.blockOf s.cur.1 t)) = true)) :
    s.completeThenFault t f = s.parkAt s.cur (s.unitDone t) (s.unitDone t).pc f :=
  (completeThenFault_eq hst).trans (if_neg hgo)

end

/-- What a park at the unit after a completed one leaves. -/
theorem parkAt_next (s : State) (t : Team) (code : Nat) (n : W64) :
    let at_ := (loopEnd s.latch.start s.latch.next t.loops).1
    let s' := s.parkAt s.cur (s.unitDone t) at_ (faultOf code 0 n 1)
    s'.seq = s.seq + 1 ∧ s'.mem = s.mem ∧ ∃ t', s'.team? s.cur = some t' ∧ t'.parked = true ∧ t'.pc = at_ ∧ t'.done = 0 ∧
      t'.rep.remain = 0 ∧ (∀ k, t'.s k = t.s k) ∧ t'.record.code = code ∧ t'.record.sub = 0 ∧ t'.record.addr = n ∧
      t'.record.mask = 1 ∧ t'.record.pc = at_ ∧ t'.record.seq = s.seq + 1 ∧
      (s.cur.2 ≠ 0 → (s'.core s.cur.1).replay = (s.core s.cur.1).replay ++ [⟨s.seq + 1, s.cur.2, false⟩]) := by
  refine ⟨parkAt_seq .., parkAt_mem .., _, (team?_parkAt ..).trans (team?_setTeam ..), rfl, rfl, rfl, rfl, fun _ => rfl, rfl, rfl, rfl,
    rfl, rfl, rfl, fun hteam => ?_⟩
  rw [parkAt_other _ _ _ _ hteam, core_setCore]

section
variable {s s0 : State} {t t0 : Team} {n : Nat} (h : OnceReady s t .any)
include h

theorem execTrap_parks (hdone : s.storesComplete .sys allStores = .done s0) (ht0 : s0.team? s0.cur = some t0)
    (hst : s0.latch.stuffed = false) : exec (.trap n) s = .next (s0.parkAt s0.cur (s0.unitDone { t0 with trapped := true })
      (loopEnd s0.latch.start s0.latch.next t0.loops).1 (faultOf 0x30 0 (BitVec.ofNat 64 n) 1)) := by
  refine (exec_trap s).trans (congrArg _ ((once_body h (Or.inl rfl)).trans ((afterStores_done hdone ht0 _ _).trans ?_)))
  exact completeThenFault_parks hst (fun hno => absurd hno.1 (by decide : ¬ (0x30 = 0x28 ∨ 0x30 = 0x29)))

theorem execBrk_eq (n : Nat) : exec (.brk n) s = .next (s.completeThenFault t (faultOf 0x29 0 (BitVec.ofNat 64 n) 1)) :=
  (exec_brk s).trans (congrArg _ (once_body h (Or.inl rfl)))

theorem execBrk_parks (hst : s.latch.stuffed = false)
    (hgo : ¬ (s.cur.2 ≠ 0 ∧ s.attached (pasidOf (s.blockOf s.cur.1 t)) = true)) : exec (.brk n) s =
      .next (s.parkAt s.cur (s.unitDone t) (loopEnd s.latch.start s.latch.next t.loops).1
        (faultOf 0x29 0 (BitVec.ofNat 64 n) 1)) :=
  (execBrk_eq h n).trans (congrArg _ (completeThenFault_parks hst (fun hno => hgo hno.2)))

end

/-- The teams of the core whose block stops. -/
theorem team?_stopBlock (s : State) (c blk slot : Nat) : (s.stopBlock c blk).team? (c, slot) = (s.team? (c, slot)).map
    (fun t => if slot ≠ 0 ∧ t.blk = blk ∧ t.parked = false then
      { t with halted := true, yielded := false, wait := t.wait.interrupted } else t) := by
  unfold State.team? State.stopBlock
  rw [core_setCore]
  refine (tabGet?_mapKeyed _ (fun e => ?_) slot).trans (congrArg (Option.map · _) (funext fun t => ?_))
  · split <;> rfl
  · dsimp only
    split <;> rfl

/-- A halted team stays halted, at its PC, when a block of its core stops. -/
theorem halted_stopBlock {s : State} {c blk slot : Nat} {t : Team} (ht : s.team? (c, slot) = some t) (hh : t.halted = true) :
    ∃ t', (s.stopBlock c blk).team? (c, slot) = some t' ∧ t'.halted = true ∧ t'.parked = t.parked ∧ t'.pc = t.pc := by
  rw [team?_stopBlock, ht, Option.map_some]
  refine ⟨_, rfl, ?_⟩
  split
  · exact ⟨rfl, rfl, rfl⟩
  · exact ⟨hh, rfl, rfl⟩

/-- Under an attached agent a breakpoint halts its team at the PC. -/
theorem takeFault_halts {s : State} {p : Nat × Nat} {t : Team} {pc : W57} {f : FaultInfo} (hf : f.code = 0x29) (hp : p.2 ≠ 0)
    (ha : s.attached (pasidOf (s.blockOf p.1 t)) = true) :
    ∃ t', (s.takeFault p t pc f).team? p = some t' ∧ t'.halted = true ∧ t'.parked = t.parked ∧ t'.pc = pc := by
  have hbrk : ¬ f.code = 0x28 := by rw [hf]; decide
  rw [State.takeFault, if_pos ⟨Or.inr hf, hp, ha⟩, State.debugHalt]
  dsimp only
  rw [if_neg (fun h => hbrk h.1)]
  refine halted_stopBlock (t := { t with
    halted := true, brkHalt := true, yielded := false, record := s.recordFor p t pc f, pc := pc, stepArm := false,
    marked := if pc = t.pc then t.marked else none, heldSince := none }) ?_ rfl
  split
  · exact team?_setTeam s p _
  · exact team?_setTeam s p _

/-! ### `halt` (R344) -/

/-- The body of `halt` for a team other than a supervisor that has nothing to report and holds no lock. -/
theorem execHalt_team {s : State} {t : Team} (h : OnceReady s t .any) (hcur : s.cur.2 ≠ 0) (hheld : t.held = [])
    (hdue : s.reportDue t (fun _ _ => true) (fun y => !y.cancelled) = none) : exec .halt s = .next (
      if s.hasWork t.uid then s.waitWith t { WaitRec.idle with kind := haltKind }
      else s.afterStores .pod false allStores (fun s t => s.endTeam s.cur t)) := by
  refine (exec_halt s).trans (congrArg _ ((once_body h (Or.inl rfl)).trans ?_))
  dsimp only
  rw [if_neg hcur, if_neg (not_not_intro hheld), hdue]

/-- Settles O43: `trap` and `brk` by what parking does, or by the halt of an attached agent; `halt` by whether the team is a supervisor. -/
theorem trapBreakHalt : Obligations.TrapBreakHalt := by
  unfold Obligations.TrapBreakHalt
  refine ⟨⟨fun s t h => (exec_nop s).trans (congrArg _ (once_body h (Or.inl rfl))),
    fun s t n s0 t0 h hst0 hst => ⟨fun hdone ht0 => ?trap, fun hgo => ?brk, fun hcur ha => ?halted⟩⟩,
    fun s t h hcur hpark hst hrep => ?supervisor, fun s t h hcur hheld => ?lock,
    fun s t h hcur hheld hdue => ⟨fun hwork => ?work, fun hwork s0 t0 hdone ht0 => ?ends⟩⟩
  case trap => exact ⟨_, execTrap_parks h hdone ht0 hst0, parkAt_next s0 { t0 with trapped := true } 0x30 _⟩
  case brk => exact ⟨_, execBrk_parks h hst (by grind), parkAt_next s t 0x29 _⟩
  case halted =>
    obtain ⟨t', ht', hhalt, hpark, hpc⟩ := takeFault_halts (s := s) (t := s.unitDone t) (pc := (s.unitDone t).pc)
      (f := faultOf 0x29 0 (BitVec.ofNat 64 n) 1) rfl hcur ha
    exact ⟨_, t', (execBrk_eq h n).trans (congrArg _ (completeThenFault_eq hst)), ht', hhalt, hpark, hpc⟩
  case supervisor =>
    refine (exec_halt s).trans (congrArg _ ((once_body h (Or.inl rfl)).trans ?_))
    dsimp only
    rw [if_pos hcur]
    have hteam : (s.setCore s.cur.1 { s.core s.cur.1 with even := true }).team? s.cur = some t :=
      (team?_setCore_of_teams s (k := { s.core s.cur.1 with even := true }) rfl _).trans h.1
    generalize hs1 : s.setCore s.cur.1 { s.core s.cur.1 with even := true } = s1 at hteam ⊢
    obtain ⟨hcur1, hlatch1⟩ : s1.cur = s.cur ∧ s1.latch = s.latch := hs1 ▸ ⟨rfl, rfl⟩
    rw [State.completeWith, hcur1, hteam]
    dsimp only
    rw [complete_next (by rw [hlatch1, hst]) (fun hno => by simp [hlatch1, hrep] at hno), hcur1, hlatch1, State.modTeam, team?_setTeam]
    dsimp only
    rw [hpark, if_neg (by decide), setTeam_setTeam]
  case lock =>
    refine (exec_halt s).trans (congrArg _ ((once_body h (Or.inl rfl)).trans ?_))
    dsimp only
    rw [if_neg hcur, if_pos hheld]
  case work =>
    refine ⟨_, _, (execHalt_team h hcur hheld hdue).trans (congrArg _ (if_pos hwork)), team?_setTeam .., ?_, rfl⟩
    exact (by decide : haltKind ≠ 0)
  case ends =>
    exact (execHalt_team h hcur hheld hdue).trans (congrArg _ ((if_neg (by simp [hwork])).trans (afterStores_done hdone ht0 _ _)))

/-! ### `park` and `resume` (R342, R343) -/

/-- A handle of KIND 0 that names a team's slot. -/
theorem handle_slot {h : W64} (hlt : h.toNat < 32) : handleKind h = 0 ∧ h.toNat % 32 = h.toNat :=
  ⟨by unfold handleKind; omega, Nat.mod_eq_of_lt hlt⟩

theorem handleBad_slot {h : W64} (hlt : h.toNat < 32) (h0 : h.toNat ≠ 0) (k : Bool) : handleBad h k = false := by
  obtain ⟨hk, hm⟩ := handle_slot hlt
  simp [handleBad, hk, hm, h0]

theorem handleBad_of {h : W64} (hbad : 2 ≤ h.toNat / 2 ^ 62 ∨ h.toNat / 2 ^ 62 = 0 ∧ h.toNat % 32 = 0) (k : Bool) :
    handleBad h k = true := by
  have hk : handleKind h = h.toNat / 2 ^ 62 := rfl
  rw [← hk] at hbad
  obtain hbad | ⟨hkind, hslot⟩ := hbad
  · simp [handleBad, hbad]
  · simp [handleBad, hkind, hslot]

section
variable {s : State} {t : Team} {d : Nat} (h : OnceReady s t .any) (hcur : s.cur.2 = 0)
include h hcur

theorem execPark_handle (hok : handleBad (t.s d) false = false) :
    exec (.park d) s = .next ((s.parkTeam (s.cur.1, (t.s d).toNat % 32)).completeWith id) :=
  (exec_park s).trans (congrArg _ ((once_body h (Or.inr hcur)).trans (if_neg (by simp [hok]))))

theorem execPark_badHandle (hbad : handleBad (t.s d) false = true) : exec (.park d) s = .next (s.onceFault t 0x09 0x000B (t.s d)) :=
  (exec_park s).trans (congrArg _ ((once_body h (Or.inr hcur)).trans (if_pos hbad)))

theorem resumeOp_badHandle (step : Bool) (hbad : handleBad (t.s d) true = true) :
    s.resumeOp d step = .next (s.onceFault t 0x09 0x000B (t.s d)) :=
  congrArg _ ((once_body h (Or.inr hcur)).trans (if_pos hbad))

/-- A handle of KIND 0 resumes the team of its slot. -/
theorem resumeOp_slot {u : Team} (step : Bool) (hlt : (t.s d).toNat < 32) (h0 : (t.s d).toNat ≠ 0)
    (hu : s.team? (s.cur.1, (t.s d).toNat) = some u) : s.resumeOp d step = .next ((s.resumeUid u.uid step).completeWith id) := by
  obtain ⟨hkind, hslot⟩ := handle_slot hlt
  refine congrArg _ ((once_body h (Or.inr hcur)).trans ((if_neg (by simp [handleBad_slot hlt h0])).trans ?_))
  rw [if_pos hkind, hslot, hu]
  rfl

end

/-- A running team parks with a record of code 0 (R343). -/
theorem parkTeam_running {s : State} {p : Nat × Nat} {u : Team} (hu : s.team? p = some u) (hpark : u.parked = false)
    (hhalt : u.halted = false) (hissue : ({ u with yielded := false } : Team).canIssue (s.blockOf p.1 u) = true) :
    s.parkTeam p = s.draw.parkAt p { u with wait := u.wait.interrupted, hold := none, yielded := false } u.pc
      (faultOf 0 0 0 (BitVec.ofNat 1024 (Config.freeNat s.tick))) := by
  rw [State.parkTeam, hu]
  dsimp only
  rw [if_neg (by rw [hissue, hpark, hhalt]; decide)]
  exact takeFault_parks _ _ _ _ (by decide : 0 ≠ 0x28) (by decide : 0 ≠ 0x29)

/-- The team that `resume` lets go. -/
def Team.resumed (t : Team) (step : Bool) : Team :=
  { t with
    parked := false, record := .empty, stepArm := step, marked := t.markRecord, trapped := false,
    obs := if t.trapped then 0 else t.obs }

/-- A parked team is found under its identity and let go (R343). -/
theorem resumeUid_parked {s : State} {uid : Nat} {step : Bool} {t : Team} {p : Nat × Nat} (hp : s.findTeam uid = some p)
    (ht : s.team? p = some t) (hpark : t.parked = true) : s.resumeUid uid step =
      let s1 := (s.setTeam p (t.resumed step)).restartReported uid
      match s1.findTeam uid with
      | none => (s1.syncSaved uid).queueReadmit t.blk
      | some p => s1.setCore p.1 { s1.core p.1 with
          replay := (s1.core p.1).replay.filter (fun e => e.slot != p.2),
          ltime := if t.trapped then max (s1.core p.1).ltime (max s1.syncTime s1.agentTime) else (s1.core p.1).ltime } := by
  have hfind : s.teamByUid uid = some t := by simp [State.teamByUid, hp, ht]
  rw [State.resumeUid, hfind]
  dsimp only
  rw [if_neg (by simp [hpark]), State.modUid, hp]
  dsimp only
  rw [State.modTeam, ht]
  rfl

/-- Settles O46: `park` by what parking does, `resume` by the slot its handle names. -/
theorem parkAndResume : Obligations.ParkAndResume := by
  unfold Obligations.ParkAndResume
  refine ⟨fun s t d u h hcur hlt h0 hu => ⟨fun hpark hhalt hissue => ?park, ?resume⟩,
    fun s uid step t p hp ht hpark hp1 => ⟨team?_setTeam s p (t.resumed step), ?letGo⟩, fun s t d h hcur hbad => ?handle⟩
  case park =>
    have hne : s.cur ≠ (s.cur.1, (t.s d).toNat) := fun he => h0 ((congrArg Prod.snd he).symm.trans hcur)
    refine ⟨s.parkTeam (s.cur.1, (t.s d).toNat), ?_⟩
    rw [parkTeam_running hu hpark hhalt hissue]
    refine ⟨_, ?_, (team?_parkAt ..).trans (team?_setTeam ..), rfl, rfl, rfl, rfl, parkAt_seq .., fun _ => rfl,
      (team?_parkAt ..).trans ((team?_setTeam_other _ _ hne).trans h.1), parkAt_mem .., ?_⟩
    · rw [← parkTeam_running hu hpark hhalt hissue]
      exact (execPark_handle h hcur (handleBad_slot hlt h0 _)).trans (by rw [(handle_slot hlt).2])
    · rw [parkAt_other _ _ _ _ h0, core_setCore]
      rfl
  case resume =>
    exact ⟨(exec_resume s).trans (resumeOp_slot h hcur false hlt h0 hu), (exec_resumeStep s).trans (resumeOp_slot h hcur true hlt h0 hu)⟩
  case letGo =>
    refine (resumeUid_parked hp ht hpark).trans ?_
    dsimp only
    rw [show ((s.setTeam p (t.resumed step)).restartReported uid).findTeam uid = some p from hp1]
    rfl
  case handle =>
    exact ⟨execPark_badHandle h hcur (handleBad_of hbad false),
      (exec_resume s).trans (resumeOp_badHandle h hcur false (handleBad_of hbad true)),
      (exec_resumeStep s).trans (resumeOp_badHandle h hcur true (handleBad_of hbad true))⟩

end Sys2Proof.Machine
end

section
/-! The statement on the events of the agenda: a step performs the first, and performing one is `exec` of its row. -/

namespace Sys2Proof.Machine

theorem step_event {s : State} {e : Event} {rest : List Event} (h : s.agenda = e :: rest) (hp : s.powered = true ∨ wakes e = true) :
    step s = settled s (performEvent e { s with agenda := rest }) := by
  rw [step, h]
  exact if_pos hp

/-- Settles O23: a step takes the head of the agenda; each event is performed by the function that `exec` gives its row. -/
theorem stepRunsEvent : Obligations.StepRunsEvent := by
  unfold Obligations.StepRunsEvent
  refine ⟨fun s e rest h hp => step_event h (Or.inl hp), fun s hp => ⟨fun rest h => ?reset, fun h => ?idle⟩, ?rows⟩
  case reset => exact (step_event h (Or.inr rfl)).trans (congrArg _ (exec_reset _).symm)
  case idle =>
    rw [step, h]
    exact if_neg (by simp [hp])
  case rows =>
    and_intros
    all_goals
      intros
      rfl

end Sys2Proof.Machine
end

section
/-! The statements on barriers (R333 to R337): phases and their faults, and the instructions on a barrier that passes its checks. -/

namespace Sys2Proof.Machine

/-! ### Phases (R333, R336) -/

/-- A phase of a count ends with the arrival that completes it. -/
theorem phaseDone_count {s : State} {b : Block} {n : Nat} {x : Barrier} (h : 0 < x.expect) :
    s.phaseDone b n x = true ↔ x.isOpen = true ∧ x.expect ≤ x.arrived := by
  simp [State.phaseDone, Nat.pos_iff_ne_zero.1 h]

theorem Block.barrier_modBarrier (b : Block) (n m : Nat) (f : Barrier → Barrier) :
    (b.modBarrier n f).barrier m = if m = n then (b.barrier m).map f else b.barrier m := by
  rw [Block.barrier, Block.modBarrier, List.getElem?_modify]
  by_cases h : m = n
  · simp [h, Block.barrier]
  · simp [h, Ne.symm h, Block.barrier]

/-- A change of a barrier of block scope, in a block of the identity. -/
theorem block_modBarrier {s : State} {b b' : Block} {n c pl : Nat} {f : Barrier → Barrier}
    (hb : tabGet? (s.core c).blocks pl = some b') (huid : b'.uid = b.uid) (hgroup : b'.groupWith b = true) :
    tabGet? ((s.modBarrier b n false f).core c).blocks pl = some (b'.modBarrier n f) := by
  rw [State.modBarrier, block_mapGroup, hb, Option.map_some, if_pos hgroup, if_pos (by simp [huid])]

/-! ### The checks of R334 -/

section
variable {s : State} {t : Team} {b : Block} {x : Barrier} {n : Nat} {gang : Bool} {expect : Option Nat}

theorem otherScope_of_mem {m : Block × Tab Team} {y : Barrier} {g : Bool} (hm : m ∈ s.groupTeams b) (hscope : g = true ∨ m.1.uid = b.uid)
    (hy : m.1.barrier n = some y) (hopen : y.isOpen = true) (hg : y.gang ≠ g) : s.otherScope b n g = true :=
  List.any_eq_true.2 ⟨m, hm, by simp [hy, hopen, hg, hscope]⟩

theorem barBad_none (hx : b.barrier n = none) : s.barBad b n gang expect = some 0x10 := by rw [State.barBad, hx]

theorem barBad_count {e : Nat} (hx : b.barrier n = some x) (he : b.teamCount * (if gang then b.gang else 1) < e) :
    s.barBad b n gang (some e) = some 0x11 := by
  rw [State.barBad, hx]
  exact if_pos (by simpa using he)

theorem barBad_open {e : Nat} (hx : b.barrier n = some x) (he : e ≤ b.teamCount * (if gang then b.gang else 1))
    (hbad : s.otherScope b n gang = true ∨ x.isOpen = true ∧ x.expect ≠ e) : s.barBad b n gang (some e) = some 0x12 := by
  rw [State.barBad, hx]
  refine (if_neg (by simpa using he)).trans (if_pos ?_)
  obtain hbad | ⟨hopen, hexp⟩ := hbad
  · simp [hbad]
  · simp [hopen, Ne.symm hexp]

theorem barBad_bwait (hx : b.barrier n = some x) : s.barBad b n gang none = if s.otherScope b n gang then some 0x12 else none := by
  simp [State.barBad, hx]

theorem barBad_ok {e : Nat} (hx : b.barrier n = some x) (he : e ≤ b.teamCount * (if gang then b.gang else 1))
    (hscope : s.otherScope b n gang = false) (hexp : x.isOpen = true → x.expect = e) : s.barBad b n gang (some e) = none := by
  rw [State.barBad, hx]
  refine (if_neg (by simpa using he)).trans (if_neg ?_)
  cases hopen : x.isOpen
  · simp [hscope]
  · simp [hscope, hexp hopen]

variable (h : OnceReady s t .any) (hb : s.blockOf s.cur.1 t = some b) {k : State → Team → Block → Bool → Barrier → State}
include h hb

theorem barOp_fault {r : Nat} (hbad : s.barBad b n (b.gangScope gang) expect = some r) :
    s.barOp n gang expect k = .next (s.onceFault t 0x03 r (BitVec.ofNat 64 n)) := by
  refine congrArg _ ((once_body h (Or.inl rfl)).trans ?_)
  rw [hb]
  dsimp only
  rw [hbad]
  rfl

theorem barOp_ok (hgood : s.barBad b n (b.gangScope gang) expect = none) (hx : b.barrier n = some x) :
    s.barOp n gang expect k = .next (k s t b (b.gangScope gang) x) := by
  refine congrArg _ ((once_body h (Or.inl rfl)).trans ?_)
  rw [hb]
  dsimp only
  rw [hgood, hx]

end

/-! ### New executions and re-executions (R335) -/

/-- The arrival of `bar`, then its wait for the phase it arrived in. -/
def State.barArrive (s : State) (t : Team) (b : Block) (n : Nat) (g : Bool) (e : Nat) (x : Barrier) : State :=
  let (p, s1) := s.arriveAt t b n g e x
  match s1.team? s1.cur with
  | some t => s1.barAwait t n g p
  | none => s1

theorem barArrive_of_team {s : State} {t t1 : Team} {b : Block} {n e : Nat} {g : Bool} {x : Barrier}
    (ht1 : (s.arriveAt t b n g e x).2.team? (s.arriveAt t b n g e x).2.cur = some t1) :
    s.barArrive t b n g e x = (s.arriveAt t b n g e x).2.barAwait t1 n g (s.arriveAt t b n g e x).1 := by
  unfold State.barArrive
  generalize s.arriveAt t b n g e x = r at ht1 ⊢
  obtain ⟨p, s1⟩ := r
  dsimp only at ht1 ⊢
  rw [ht1]

section
variable {s : State} {t : Team} {n : Nat} {p1 : List W64} (h : OnceReady s t .any)
include h

/-- The team re-executes the wait it began just when its record names the instruction. -/
theorem barAgain_iff : t.barAgain n p1 = true ↔ t.wait.kind = 2 ∧ t.wait.param = n ∧ t.wait.p1 = p1 := by
  obtain ⟨-, -, hmarked⟩ := h
  simp [Team.barAgain, hmarked, and_assoc]

theorem barAgain_false (hno : ¬ (t.wait.kind = 2 ∧ t.wait.param = n ∧ t.wait.p1 = p1)) : t.barAgain n p1 = false :=
  Bool.eq_false_iff.2 fun ha => hno ((barAgain_iff h).1 ha)

theorem execBar_new (gang : Bool) (e : Nat) (hnew : ¬ (t.wait.kind = 2 ∧ t.wait.param = n ∧ t.wait.p1 = t.key s.latch.start)) :
    exec (.bar n gang e) s = s.barOp n gang (some e) (fun s t b g x =>
      if x.has t.tindex then s.barWait t n g []
      else s.afterStores (barScope g) false allStores (fun s t => s.barArrive t b n g e x)) := by
  refine (exec_bar s).trans ?_
  rw [execBar, h.1]
  exact if_neg (by rw [barAgain_false h hnew]; decide)

theorem execBar_again (gang : Bool) (e : Nat) (hagain : t.wait.kind = 2 ∧ t.wait.param = n ∧ t.wait.p1 = t.key s.latch.start) :
    exec (.bar n gang e) s = .next (s.barAwait t n (s.barGang t gang) (t.wait.object.setWidth 32)) := by
  refine (exec_bar s).trans ?_
  rw [execBar, h.1]
  exact if_pos ((barAgain_iff h).2 hagain)

theorem execBwait_new (gang : Bool)
    (hnew : ¬ (t.wait.kind = 2 ∧ t.wait.param = n ∧ t.wait.p1 = t.key s.latch.start ++ [0])) :
    exec (.bwait n gang) s = s.barOp n gang none (fun s t _ g x => s.bwaitAt t n g x) := by
  refine (exec_bwait s).trans ?_
  rw [execBwait, h.1]
  dsimp only
  rw [barAgain_false h hnew]

theorem execBwait_again {b : Block} {x : Barrier} (hb : s.blockOf s.cur.1 t = some b) (hx : b.barrier n = some x) (gang : Bool)
    (hagain : t.wait.kind = 2 ∧ t.wait.param = n ∧ t.wait.p1 = t.key s.latch.start ++ [0]) :
    exec (.bwait n gang) s = .next (s.bwaitAt t n (b.gangScope gang) x) := by
  refine (exec_bwait s).trans ?_
  rw [execBwait, h.1]
  dsimp only
  rw [(barAgain_iff h).2 hagain, hb, State.barGang, hb]
  simp only [Option.bind_some, hx]
  rfl

end

/-- Settles O41: the end of a phase by its condition; each fault of a barrier instruction by the check it fails. -/
theorem barriers : Obligations.Barriers := by
  unfold Obligations.Barriers
  refine ⟨⟨fun s b n x h => phaseDone_count h, fun s b n x hx => ⟨fun hgo => ?goesOn, fun hend hgang c pl b' hb' huid hgroup => ?ends⟩⟩,
    fun s t b n gang e h hb hkind => ⟨fun hx => ?number, fun x hx => ⟨fun he => ?count, fun he hbad => ?isOpen, fun hbad => ?bwait⟩,
      fun m y hm hscope hy hopen hg => otherScope_of_mem hm hscope hy hopen hg⟩⟩
  case goesOn => rw [State.evalBarrier, hx]; exact if_neg (by simp [hgo])
  case ends =>
    refine ⟨_, ?_, (Block.barrier_modBarrier ..).trans (if_pos rfl), fun m hm => (Block.barrier_modBarrier ..).trans (if_neg hm)⟩
    rw [State.evalBarrier, hx]
    dsimp only
    rw [if_pos hend, hgang]
    exact block_modBarrier hb' huid hgroup
  all_goals
    have hnew (l : List W64) : ¬ (t.wait.kind = 2 ∧ t.wait.param = n ∧ t.wait.p1 = l) := fun hw => hkind hw.1
  case number =>
    exact ⟨(execBar_new h gang e (hnew _)).trans (barOp_fault h hb (barBad_none hx)),
      (exec_arrive s).trans (barOp_fault h hb (barBad_none hx)),
      (execBwait_new h gang (hnew _)).trans (barOp_fault h hb (barBad_none hx))⟩
  case count =>
    exact ⟨(execBar_new h gang e (hnew _)).trans (barOp_fault h hb (barBad_count hx he)),
      (exec_arrive s).trans (barOp_fault h hb (barBad_count hx he))⟩
  case isOpen =>
    exact ⟨(execBar_new h gang e (hnew _)).trans (barOp_fault h hb (barBad_open hx he hbad)),
      (exec_arrive s).trans (barOp_fault h hb (barBad_open hx he hbad))⟩
  case bwait =>
    exact (execBwait_new h gang (hnew _)).trans (barOp_fault h hb ((barBad_bwait hx).trans (if_pos hbad)))

/-! ### The wait for a phase to pass -/

/-- The wait of a barrier has no place in a lock's queue. -/
theorem forgetLock_ofBarrier (s : State) (uid : Nat) {w : WaitRec} (h : w.kind = 2) : s.forgetLock uid w = s := by
  simp [State.forgetLock, WaitRec.ofLock, h]

theorem barGang_of_block {s : State} {t : Team} {b : Block} (hb : s.blockOf s.cur.1 t = some b) (gang : Bool) :
    s.barGang t gang = b.gangScope gang := by
  rw [State.barGang, hb]
  rfl

section
variable {s : State} {t : Team} {b : Block} {y : Barrier} {n : Nat} {p : W32} (hb : s.blockOf s.cur.1 t = some b)
  (hy : b.barrier n = some y) (g : Bool)
include hb hy

theorem barAwait_passed (hp : y.phase ≠ p) :
    s.barAwait t n g p = ((s.forgetLock t.uid t.wait).barAcquire g).completeWith (fun t => { t with wait := .idle }) := by
  rw [State.barAwait, hb]
  simp only [Option.bind_some, hy]
  exact if_neg hp

theorem barAwait_waits (hp : y.phase = p) : s.barAwait t n g p = s.waitWith t { WaitRec.idle with
    kind := 2, scope := (barScope g).code, param := n, object := p.setWidth 64, p1 := t.key s.latch.start } := by
  rw [State.barAwait, hb]
  simp only [Option.bind_some, hy]
  exact if_pos hp

end

/-- Settles O40: a re-execution goes on with its wait; a new execution passes the checks and does its own step. -/
theorem barrierInstructions : Obligations.BarrierInstructions := by
  unfold Obligations.BarrierInstructions
  intro s t b x n gang e h hb hx g scope waits recorded acquired waiting here
  refine ⟨fun hgo => ?bwait, fun hscope hexp he hnew => ⟨fun hbit => ⟨?arriveWaits, ?barWaits⟩,
    fun hbit s0 t0 hdone ht0 => ⟨?arrives, fun t1 b1 y ht1 hb1 hy => ?barArrives⟩⟩, fun hagain => ⟨fun hp => ?passed, fun hp => ?waitsOn⟩⟩
  case bwait =>
    have hexec : exec (.bwait n gang) s = .next (s.bwaitAt t n g x) := by
      by_cases hagain : waiting (here ++ [0])
      · exact execBwait_again h hb hx gang hagain
      · have hscope : s.otherScope b n g = false := hgo.resolve_right hagain
        exact (execBwait_new h gang hagain).trans (barOp_ok h hb ((barBad_bwait hx).trans (if_neg (by
          rw [show b.gangScope gang = g from rfl, hscope]; decide))) hx)
    exact ⟨fun hbit => hexec.trans (congrArg _ (if_pos hbit)), fun hbit => hexec.trans (congrArg _ (if_neg (by simp [hbit])))⟩
  case arriveWaits => exact (exec_arrive s).trans ((barOp_ok h hb (barBad_ok hx he hscope hexp) hx).trans (congrArg _ (if_pos hbit)))
  case barWaits =>
    exact (execBar_new h gang e hnew).trans ((barOp_ok h hb (barBad_ok hx he hscope hexp) hx).trans (congrArg _ (if_pos hbit)))
  case arrives =>
    exact (exec_arrive s).trans ((barOp_ok h hb (barBad_ok hx he hscope hexp) hx).trans
      (congrArg _ ((if_neg (by simp [hbit])).trans (afterStores_done hdone ht0 _ _))))
  case barArrives =>
    have hexec : exec (.bar n gang e) s = .next ((s0.arriveAt t0 b n g e x).2.barAwait t1 n g (s0.arriveAt t0 b n g e x).1) := by
      exact (execBar_new h gang e hnew).trans ((barOp_ok h hb (barBad_ok hx he hscope hexp) hx).trans
        (congrArg _ ((if_neg (by simp [hbit])).trans ((afterStores_done hdone ht0 _ _).trans (barArrive_of_team ht1)))))
    exact ⟨fun hp => hexec.trans (congrArg _ (barAwait_passed hb1 hy g hp)), fun hp => hexec.trans (congrArg _ (barAwait_waits hb1 hy g hp))⟩
  case passed =>
    refine (execBar_again h gang e hagain).trans (congrArg _ ?_)
    rw [barGang_of_block hb, barAwait_passed hb hx _ hp, forgetLock_ofBarrier _ _ hagain.1]
    rfl
  case waitsOn =>
    refine (execBar_again h gang e hagain).trans (congrArg _ ?_)
    rw [barGang_of_block hb, barAwait_waits hb hx _ hp]
    rfl

end Sys2Proof.Machine
end

section
/-! The statements on loads, stores, packed accesses, atomics, prefetches and fences (R293 to R306). -/

namespace Sys2Proof.Machine

/-! ### The lanes of a memory instruction, when each completes -/

section
variable {lane : State → Team → Nat → MemRes}

/-- Lanes that all complete, joined one after another. -/
theorem foldl_lane_of_lanesRun {ls : List Nat} {s s' : State} {w w' : Nat} {hit : Bool} (h : lanesRun lane ls s w = some (s', w')) :
    ls.foldl (MemAcc.lane lane) ⟨s, [], none, w, hit⟩ = ⟨s', [], none, w', hit || !ls.isEmpty⟩ := by
  induction ls generalizing s w hit with
  | nil =>
    simp only [lanesRun, Option.some.injEq, Prod.mk.injEq] at h
    simp [h]
  | cons l ls ih =>
    rw [lanesRun] at h
    rw [List.foldl_cons, MemAcc.lane]
    cases ht : s.team? s.cur with
    | none => rw [ht] at h; exact absurd h nofun
    | some t =>
      rw [ht] at h
      dsimp only at h ⊢
      cases hl : lane s t l with
      | ok s1 w1 =>
        rw [hl] at h
        exact (ih h).trans (by simp)
      | fault f s1 => rw [hl] at h; exact absurd h nofun
      | hold k s1 => rw [hl] at h; exact absurd h nofun

/-- The passes of lanes that all complete. -/
theorem foldl_pass_of_passRun {uid : Nat} {f : Nat → List Nat} {js : List Nat} {s s' : State} {w w' : Nat} {hit : Bool}
    (h : js.foldl (fun r j => passRun lane uid r (f j)) (some (s, w)) = some (s', w')) :
    js.foldl (fun r j => MemAcc.pass lane uid r (f j)) ⟨s, [], none, w, hit⟩ =
      ⟨s', [], none, w', hit || js.any (fun j => !(f j).isEmpty)⟩ := by
  have hnone (js : List Nat) : js.foldl (fun r j => passRun lane uid r (f j)) none = none :=
    List.foldlRecOn (motive := fun r => r = none) _ _ rfl (fun r hr j _ => by rw [hr]; rfl)
  induction js generalizing s w hit with
  | nil =>
    simp only [List.foldl_nil, Option.some.injEq, Prod.mk.injEq] at h
    simp [h]
  | cons j js ih =>
    rw [List.foldl_cons] at h ⊢
    cases hr : lanesRun lane (f j) s w with
    | none =>
      rw [passRun, Option.bind_some, hr, Option.map_none, hnone] at h
      exact absurd h nofun
    | some r =>
      obtain ⟨s1, w1⟩ := r
      rw [passRun, Option.bind_some, hr, Option.map_some] at h
      rw [MemAcc.pass, foldl_lane_of_lanesRun hr]
      refine (ih h).trans ?_
      simp [Bool.or_assoc]

end

/-- The lanes of a team are those of its passes. -/
theorem any_pass_lanes (t : Team) (x : LaneMask) :
    (List.range t.words).any (fun j => !((lanesOf x t.lanes).filter (fun l => l / 32 == j)).isEmpty) = !(lanesOf x t.lanes).isEmpty := by
  rw [Bool.eq_iff_iff]
  simp only [List.any_eq_true, Bool.not_eq_true', List.isEmpty_eq_false_iff_exists_mem, List.mem_filter]
  constructor
  · rintro ⟨j, -, l, hl, -⟩
    exact ⟨l, hl⟩
  · rintro ⟨l, hl⟩
    have hlt : l < t.lanes := List.mem_range.1 (List.mem_filter.1 hl).1
    exact ⟨l / 32, List.mem_range.2 (by unfold Team.words; omega), l, hl, by simp⟩

theorem modTeam_of_team {s : State} {p : Nat × Nat} {t : Team} (ht : s.team? p = some t) (f : Team → Team) :
    s.modTeam p f = s.setTeam p (f t) := by
  rw [State.modTeam, ht]

theorem team?_acquireTo (s : State) (t : Team) (w : Nat) : (s.acquireTo t w).team? (s.acquireTo t w).cur = some { t with obs := 0 } := by
  unfold State.acquireTo State.sealStores
  dsimp only
  refine (team?_setCore_of_teams _ ?_ _).trans ((team?_setCore_of_teams _ ?_ _).trans (team?_setTeam s s.cur _))
  · rfl
  · rfl

/-- A team that the lanes leave with none active still has none when the stamps they saw are its own. -/
theorem team?_stamped {s : State} {t : Team} (ht : s.team? s.cur = some t) (acq hit : Bool) (w : Nat) :
    let s1 := if acq then (if hit then s.acquireLoad w else s) else s.sawStamp w
    ∃ t1, s1.team? s1.cur = some t1 ∧ t1.active = t.active ∧ t1.lanes = t.lanes := by
  cases acq with
  | false =>
    refine ⟨{ t with obs := BitVec.ofNat 32 (max t.obs.toNat w) }, ?_, rfl, rfl⟩
    rw [if_neg (by decide), State.sawStamp, modTeam_of_team ht]
    exact team?_setTeam ..
  | true =>
    cases hit with
    | false => exact ⟨t, ht, rfl, rfl⟩
    | true =>
      refine ⟨{ t with obs := 0 }, ?_, rfl, rfl⟩
      rw [if_pos rfl, if_pos rfl, State.acquireLoad, ht]
      exact team?_acquireTo ..

/-- A vector memory instruction all of whose lanes complete. -/
theorem vecMem_done {s s' : State} {t : Team} {lane : State → Team → Nat → MemRes} {w : Nat} (hp : s.latch.passLimit = none)
    (h : LanesDone lane s t s' w) (acq : Bool) : s.vecMem t acq lane = memDone s' acq (lanesOf t.active t.lanes) w := by
  obtain ⟨hrun, t', ht', hnone⟩ := h
  have hfirst : s.passLanes t = lanesOf t.active t.lanes := by rw [State.passLanes, hp]
  have hpass : MemAcc.passes lane t ⟨s, [], none, 0, false⟩ (lanesOf t.active t.lanes) =
      ⟨s', [], none, w, !(lanesOf t.active t.lanes).isEmpty⟩ := by
    rw [MemAcc.passes, foldl_pass_of_passRun hrun, any_pass_lanes, Bool.false_or]
  rw [State.vecMem, hfirst, hpass]
  dsimp only
  rw [if_pos (by rfl)]
  obtain ⟨t1, ht1, hactive, hlanes⟩ := team?_stamped ht' acq (!(lanesOf t.active t.lanes).isEmpty) w
  have hs1 : (if acq = true then (if (!(lanesOf t.active t.lanes).isEmpty) = true then s'.acquireLoad w else s') else s'.sawStamp w) =
      if acq then (if lanesOf t.active t.lanes = [] then s' else s'.acquireLoad w) else s'.sawStamp w := by
    simp
  rw [MemAcc.finish, memDone, State.completeWith, ← hs1]
  dsimp only at ht1 ⊢
  rw [ht1]
  dsimp only
  rw [laneFaultInfo, hactive, hlanes, hnone]
  rfl

/-! ### Vector accesses -/

section
variable {s s0 s' : State} {t t0 : Team} {dst : VDst} {regs : List Nat} {lane : State → Team → Nat → MemRes} {w : Nat} {rel : Bool}
  {sc : Scope}

/-- A wait for the team's stores that is over, or that an order without a release does not have. -/
theorem releaseFirst_released (h : Released s t rel sc s0 t0) (vec : Bool) (k : State → Team → State) :
    s.releaseFirst rel sc vec t k = k s0 t0 := by
  unfold Released at h
  unfold State.releaseFirst
  cases rel with
  | false => rw [(h : s0 = s ∧ t0 = t).1, (h : s0 = s ∧ t0 = t).2]; rfl
  | true => exact afterStores_done (h : _ ∧ _).1 (h : _ ∧ _).2 vec k

/-- A vector memory instruction that passes its checks. -/
theorem vecIssue_body (h : VecReady s t dst regs) (body : Team → State) : s.issue false .vector (dst.regs ++ regs) true body = body t := by
  obtain ⟨ht, hrole, hregs, -, -⟩ := h
  exact issue_body ht (by rw [hrole]; rfl) hregs (Or.inl rfl)

/-- A vector memory instruction without a release whose lanes all complete. -/
theorem vecIssue_done (h : VecReady s t dst regs) (hl : LanesDone lane s t s' w) (acq : Bool) :
    (.next (s.issue false .vector (dst.regs ++ regs) true (fun t => s.vecMem t acq lane)) : Result) =
      .next (memDone s' acq (lanesOf t.active t.lanes) w) := by
  rw [vecIssue_body h, vecMem_done h.2.2.2.2 hl]

/-- The lanes of `ldb` read pod memory once for all. -/
theorem vecIssue_draw (h : VecReady s t dst regs) (hl : LanesDone lane s t s' w) :
    (.next (s.issue false .vector (dst.regs ++ regs) true (fun t => (s.vecMem t false lane).draw)) : Result) =
      .next (memDone s' false [] w).draw := by
  rw [vecIssue_body h, vecMem_done h.2.2.2.2 hl]
  rfl

theorem acq_eq (o : Order) : Order.acq o = (o == .acq || o == .acqrel) := by cases o <;> rfl

theorem rel_eq (o : Order) : Order.rel o = (o == .rel || o == .acqrel) := by cases o <;> rfl

/-- An access after the wait of its order's release. -/
theorem vecIssue_released {ord : Order} (h : VecReady s t dst regs) (hr : Released s t (ord == .rel || ord == .acqrel) sc s0 t0)
    (hlatch : s0.latch = s.latch) (hl : LanesDone lane s0 t0 s' w) (acq : Bool) :
    (.next (s.issue false .vector (dst.regs ++ regs) true (fun t =>
      s.releaseFirst (Order.rel ord) sc true t (fun s t => s.vecMem t acq lane))) : Result) =
      .next (memDone s' acq (lanesOf t0.active t0.lanes) w) := by
  rw [vecIssue_body h, rel_eq, releaseFirst_released hr, vecMem_done (by rw [hlatch, h.2.2.2.2]) hl]

/-- An atomic, whose acquire is that of its order. -/
theorem vecIssue_atomic {ord : Order} (h : VecReady s t dst regs) (hr : Released s t (ord == .rel || ord == .acqrel) sc s0 t0)
    (hlatch : s0.latch = s.latch) (hl : LanesDone lane s0 t0 s' w) :
    (.next (s.issue false .vector (dst.regs ++ regs) true (fun t =>
      s.releaseFirst (Order.rel ord) sc true t (fun s t => s.vecMem t (Order.acq ord) lane))) : Result) =
      .next (memDone s' (ord == .acq || ord == .acqrel) (lanesOf t0.active t0.lanes) w) :=
  (vecIssue_released h hr hlatch hl _).trans (by rw [acq_eq])

end

/-- Settles O29: an access is its lanes, each at its own address, after the wait of its release. -/
theorem vectorAccess : Obligations.VectorAccess := by
  unfold Obligations.VectorAccess
  refine ⟨fun s t d sb ix z nw s' w => ?load, fun s t d sb ix z s' w => ?store, fun s t d a b nw s' w => ?ldb,
    fun s t d sb x ord sc s0 t0 s' w => ⟨fun h hl => ?loadOrd, fun h hr hlatch => ⟨fun hl => ?add, fun hl => ?exch,
      fun hl => ?max, fun hl => ?min⟩,
      fun h hr hlatch hl => ?cas⟩, fun s t d sb x ord sc s0 t0 s' w => ?ordered⟩
  case load =>
    intro n regs dst va h hl
    cases ix with
    | disp k => exact (exec_ldV s).trans (vecIssue_done h hl false)
    | idx v => exact (exec_ldV s).trans (vecIssue_done h hl false)
  case store =>
    intro n regs va h hl
    cases ix with
    | disp k => exact (exec_stV s).trans (vecIssue_done h hl false)
    | idx v => exact (exec_stV s).trans (vecIssue_done h hl false)
  case ldb =>
    exact ⟨fun h => ⟨fun hl => (exec_ldbN8 s).trans (vecIssue_draw h hl), fun hl => (exec_ldbN16 s).trans (vecIssue_draw h hl),
      fun hl => (exec_ldbN32 s).trans (vecIssue_draw h hl)⟩, fun h hl => (exec_ldbN64 s).trans (vecIssue_draw h hl)⟩
  case loadOrd => exact (exec_ldOrdV s).trans ((vecIssue_done h hl _).trans (by rw [acq_eq]))
  case add => exact (exec_atomAddI32 s).trans (vecIssue_atomic h hr hlatch hl)
  case exch => exact (exec_atomExchI32 s).trans (vecIssue_atomic h hr hlatch hl)
  case max => exact (exec_atomMaxI32 s).trans (vecIssue_atomic h hr hlatch hl)
  case min => exact (exec_atomMinI32 s).trans (vecIssue_atomic h hr hlatch hl)
  case cas => exact (exec_casI32 s).trans (vecIssue_atomic h hr hlatch hl)
  case ordered =>
    intro acq rel va hr hlatch
    refine ⟨fun h hl => ?store, fun h => ⟨fun hacq hl => ?redNow, fun hacq hl => ?red⟩⟩
    case store =>
      have htag : relTag ord sc = if rel then some sc else none := by unfold relTag; rw [rel_eq]
      rw [← htag] at hl
      exact (exec_stOrdV s).trans (vecIssue_released h hr hlatch hl false)
    case redNow =>
      have hord : Order.acq ord = true := (acq_eq ord).trans hacq
      refine (exec_redAddI32 s).trans ((if_pos hord).trans ((vecIssue_atomic h hr hlatch hl).trans ?_))
      rw [show (ord == .acq || ord == .acqrel) = true from hacq]
    case red =>
      have hord : ¬ Order.acq ord = true := by rw [acq_eq]; exact Bool.eq_false_iff.1 hacq
      exact (exec_redAddI32 s).trans ((if_neg hord).trans (vecIssue_released h hr hlatch hl false))

/-- Settles O30: a packed access is its lanes, each with its own block. -/
theorem packedAccess : Obligations.PackedAccess := by
  unfold Obligations.PackedAccess
  intro s t sb ix z s' w
  cases ix with
  | disp k =>
    exact ⟨fun d nw h hl => (exec_ldp s).trans (vecIssue_done h hl false), fun d h hl => (exec_stp s).trans (vecIssue_done h hl false)⟩
  | idx v =>
    exact ⟨fun d nw h hl => (exec_ldp s).trans (vecIssue_done h hl false), fun d h hl => (exec_stp s).trans (vecIssue_done h hl false)⟩

/-! ### Scalar accesses -/

section
variable {s s0 s1 : State} {t t0 : Team} {va : W64} {n : Nat} {kind : AKind} {p : Phys}

theorem scalarLoad_ok (hr : OnceReady s t .any) {addr : Team → W64}
    (h : s.access (s.agentOf s.cur t) (addr t) n n .load = (.ok p, s1)) {v w : Nat} {s2 : State}
    (hload : s1.doLoad s1.cur.1 t.uid p n = (v, w, s2)) (d : Nat) (acq : Bool) :
    s.scalarLoad d n acq addr = .next (loadDone s2 acq w d v) := by
  refine congrArg _ ((once_body hr (Or.inl rfl)).trans ((scalarAccess_ok h _).trans ?_))
  rw [hload]
  rfl

theorem scalarStoreNow_ok (h : s.access (s.agentOf s.cur t) va n n .store = (.ok p, s1)) (d : Nat) (tag : Option Scope) :
    s.scalarStoreNow t d n tag va = (s1.doStore s1.cur.1 t.uid p (leBytes n (t.s d).toNat) tag).completeWith id :=
  scalarAccess_ok h _

theorem scalarAtomic_ok {ord : Order} {sc : Scope} {sb x : Nat} {f : Team → Nat → Option Nat} (hr : OnceReady s t .any)
    (hrel : Released s t (ord == .rel || ord == .acqrel) sc s0 t0)
    (h : s0.access (s0.agentOf s0.cur t0) (t0.s sb + t0.s x) 8 8 .atomic = (.ok p, s1)) {v w : Nat} {s2 : State}
    (hatom : s1.doAtomic s1.cur.1 t0.uid p 8 (f t0) = (v, w, s2)) (d : Nat) : s.scalarAtomic d sb x ord sc f =
      .next (loadDone (s2.endPass s1.cur.1 t0.uid) (ord == .acq || ord == .acqrel) w d v) := by
  refine congrArg _ ((once_body hr (Or.inl rfl)).trans ?_)
  rw [rel_eq, releaseFirst_released hrel, acq_eq]
  refine (scalarAccess_ok h _).trans ?_
  rw [hatom]
  rfl

end

/-- Settles O28: the access passes, and what it performs comes after the wait of its release. -/
theorem scalarAccess : Obligations.ScalarAccess := by
  unfold Obligations.ScalarAccess
  refine ⟨fun s t d sb ix z p s1 hr => ?plain, fun s t d sb x ord sc p s1 hr h => ?loadOrd,
    fun s t d sb x ord sc s0 t0 p s1 hr hrel => ⟨fun h => ?storeOrd, fun h => ?atomics⟩⟩
  case plain =>
    have hva : t.s sb + (match ix with | .disp k => BitVec.ofInt 64 (k * sizeBytes z) | .idx x => t.s x) = t.saddr sb ix (sizeBytes z) := by
      cases ix <;> rfl
    refine ⟨fun h => ?load, fun h => ?store⟩
    case load =>
      have h' : s.access (s.agentOf s.cur t) (t.saddr sb ix (sizeBytes z)) (sizeBytes z) (sizeBytes z) .load = (.ok p, s1) := hva ▸ h
      split
      next v w s2 hload =>
        exact (exec_ldS s).trans (scalarLoad_ok hr (addr := fun t => t.saddr sb ix (sizeBytes z)) h' hload d false)
    case store =>
      have h' : s.access (s.agentOf s.cur t) (t.saddr sb ix (sizeBytes z)) (sizeBytes z) (sizeBytes z) .store = (.ok p, s1) := hva ▸ h
      exact (exec_stS s).trans (congrArg _ ((once_body hr (Or.inl rfl)).trans (scalarStoreNow_ok h' d none)))
  case loadOrd =>
    split
    next v w s2 hload => exact (exec_ldOrdS s).trans ((scalarLoad_ok hr (addr := fun t => t.s sb + t.s x) h hload d _).trans (by rw [acq_eq]))
  case storeOrd =>
    have htag : relTag ord sc = if ord = .rel ∨ ord = .acqrel then some sc else none := by
      unfold relTag; rw [rel_eq]; simp
    rw [← htag]
    refine (exec_stOrdS s).trans (congrArg _ ((once_body hr (Or.inl rfl)).trans ?_))
    rw [rel_eq, releaseFirst_released hrel]
    exact scalarStoreNow_ok h d _
  case atomics =>
    have hall (f : Team → Nat → Option Nat) : s.scalarAtomic d sb x ord sc f =
        let (v, w, s2) := s1.doAtomic s1.cur.1 t0.uid p 8 (f t0)
        .next (loadDone (s2.endPass s1.cur.1 t0.uid) (ord == .acq || ord == .acqrel) w d v) := by
      split
      next v w s2 hatom => exact scalarAtomic_ok hr hrel h hatom d
    exact ⟨(exec_atomAddI64 s).trans (hall fun t old => some ((old + (t.s d).toNat) % 2 ^ 64)),
      (exec_atomExchI64 s).trans (hall fun t _ => some (t.s d).toNat),
      (exec_casI64 s).trans (hall fun t old => if old = (t.s d).toNat then some (t.s (d + 1)).toNat else none)⟩

/-! ### Prefetches and fences -/

section
variable {s s1 : State} {t : Team} {a : Nat} (h : OnceReady s t .any)
include h

/-- A prefetch whose address does not pass, or names memory that no cache holds, only completes. -/
theorem prefetch_nothing (hno : ∀ p s1, s.access (s.agentOf s.cur t) (t.s a) 1 1 .pref = (.ok p, s1) → p.cached = false)
    (f : State → Phys → State) : s.prefetch a f = .next (s.complete t) := by
  refine congrArg _ ((once_body h (Or.inl rfl)).trans ?_)
  split
  · next p s1 hacc =>
    rw [hno p s1 hacc, if_neg (by decide), State.completeWith, h.1]
  · rfl

theorem prefetch_ok {p : Phys} (hacc : s.access (s.agentOf s.cur t) (t.s a) 1 1 .pref = (.ok p, s1)) (hc : p.cached = true)
    (f : State → Phys → State) : s.prefetch a f = .next ((f s1 p).completeWith id) := by
  refine congrArg _ ((once_body h (Or.inl rfl)).trans ?_)
  rw [hacc]
  dsimp only
  rw [if_pos hc]
  rfl

end

/-- Settles O31: a prefetch by its access, a fence by the wait for its stores. -/
theorem prefetchAndFence : Obligations.PrefetchAndFence := by
  unfold Obligations.PrefetchAndFence
  refine ⟨fun s t a h hno => ?nothing, fun s t a p s1 h hacc hc => ?moves, fun s t kind sc s0 t0 h hrel => ?fence⟩
  case nothing =>
    exact ⟨(exec_prefL1 s).trans (prefetch_nothing h hno _), (exec_prefL2 s).trans (prefetch_nothing h hno _),
      (exec_prefL2x s).trans (prefetch_nothing h hno _)⟩
  case moves =>
    exact ⟨(exec_prefL1 s).trans (prefetch_ok h hacc hc _), l1Fill_mem .., (exec_prefL2 s).trans (prefetch_ok h hacc hc _),
      fun hhome => if_pos hhome,
      fun hreach => (exec_prefL2x s).trans ((prefetch_ok h hacc hc _).trans (by rw [if_neg (by simp [hreach])])),
      fun haway => (exec_prefL2x s).trans ((prefetch_ok h hacc hc _).trans (by rw [if_pos (Option.isSome_iff_ne_none.2 haway)]))⟩
  case fence =>
    obtain ⟨hdone, ht0⟩ : s.storesComplete (if kind = .acq then .team else sc) allStores = .done s0 ∧ s0.team? s0.cur = some t0 := hrel
    have hscope : (if fenceRel kind then sc else .team) = if kind = .acq then .team else sc := by cases kind <;> rfl
    refine (exec_fence s).trans (congrArg _ ((once_body h (Or.inl rfl)).trans ?_))
    rw [hscope, afterStores_done hdone ht0]
    cases kind <;> rfl

end Sys2Proof.Machine
end

section
/-! The statements on giving a lock back and its status word (R309, R310), and on the start of drains (R324, R326). -/

namespace Sys2Proof.Machine

/-! ### `lunlock` and `lunlock.reg` (R309) -/

section
variable {s s0 : State} {t t0 : Team} {sb : Nat} {scope : Scope} {e : HeldLock} (h : OnceReady s t .any) (hscope : scope ≠ .team)
  (hfind : t.held.find? (fun e => decide (e.range.1 ≤ (t.s sb).toNat ∧ (t.s sb).toNat < e.range.1 + e.range.2)) = some e)
include h hscope hfind

/-- A lock that the team holds is given back at its home once the stores are done. -/
theorem unlockOp_gives {reg : Bool} (hreg : reg = true → e.regionLen ≠ 0)
    (hdone : s.storesComplete (Scope.wider scope e.scope) (fun p => !reg || e.binds p) = .done s0) (ht0 : s0.team? s0.cur = some t0)
    (hhome : s0.fenced.contains (sliceDie (s0.homeOf e.obj)) = false) : s.unlockOp sb scope reg =
      .next ((s0.releaseLock s0.cur.1 e.obj false).completeWith
        (fun t => { t with held := t.held.filter (fun x => x.obj != e.obj) })) := by
  rw [State.unlockOp, once_body h (.inl rfl)]
  dsimp only
  rw [if_neg hscope, hfind]
  dsimp only
  rw [if_neg (fun hno => hreg hno.1 hno.2), afterStores_done hdone ht0,
    if_neg (by simp only [hhome, Bool.false_eq_true, not_false_eq_true])]

end

theorem stampLock_mem (s : State) (c obj : Nat) (grain : Bool) : (s.stampLock c obj grain).mem = s.mem :=
  foldl_view State.mem (f := fun s line => s.stampStore c line) (fun _ _ => rfl) _ _

theorem stampLock_locks (s : State) (c obj : Nat) (grain : Bool) : (s.stampLock c obj grain).locks = s.locks :=
  foldl_view State.locks (f := fun s line => s.stampStore c line) (fun _ _ => rfl) _ _

/-- Giving back a lock with a record stamps its lines, then passes it on. -/
theorem releaseLock_record {s : State} {obj : Nat} {r : LockRec} (h : tabGet? s.locks obj = some r) (c : Nat) (abandoned : Bool) :
    s.releaseLock c obj abandoned = (s.stampLock c obj r.grain).passOn obj { r with holder := none, inFlight := none } abandoned := by
  rw [State.releaseLock, h]

/-! ### The word of `lstat` (R116, R310) -/

theorem stateCode_lt (r : LockRec) : r.stateCode < 8 := by
  unfold LockRec.stateCode
  split_ifs <;> decide

theorem bit_le (b : Bool) : bit b ≤ 1 := by cases b <;> decide

/-- The fields of a lock's word. -/
theorem lockWord_fields {s : State} {obj : Nat} {grain mine : Bool} {r : LockRec} (h : tabGet? s.locks obj = some r) :
    let x := s.lockWord obj grain mine
    x / 2 ^ 32 % 8 = r.stateCode ∧ x % 2 ^ 32 = (if r.stateCode = 0 then 0 else r.next.toNat) ∧
      x / 2 ^ 36 % 2 = bit grain ∧ x / 2 ^ 37 % 2 = bit mine := by
  have hst := stateCode_lt r
  have hnext : (if r.stateCode = 0 then 0 else r.next.toNat) < 2 ^ 32 := by
    split
    · decide
    · exact r.next.isLt
  have hgrain := bit_le grain
  have hmine := bit_le mine
  have haband := bit_le (r.stateCode == 4 || (r.lastAbandoned && r.stateCode != 0))
  unfold State.lockWord
  rw [h]
  dsimp only [Option.getD_some]
  generalize (if r.stateCode = 0 then 0 else r.next.toNat) = nx at *
  generalize bit (r.stateCode == 4 || (r.lastAbandoned && r.stateCode != 0)) = ab at *
  omega

/-- Settles O35: giving back by the release at the lock's home; the word of `lstat` by its fields. -/
theorem unlockAndStatus : Obligations.UnlockAndStatus := by
  unfold Obligations.UnlockAndStatus
  refine ⟨fun s t sb sc e s0 t0 h hsc hfind => ?unlock, fun s c obj r hr => ?release, fun s t d a p s1 h hacc => ?status⟩
  case unlock =>
    intro scope freed ht0 hhome
    exact ⟨fun hdone => (exec_lunlock s).trans (unlockOp_gives h hsc hfind nofun hdone ht0 hhome),
      fun hlen hdone => (exec_lunlockReg s).trans (unlockOp_gives h hsc hfind (fun _ => hlen) hdone ht0 hhome)⟩
  case release =>
    exact ⟨_, releaseLock_record hr c false, stampLock_mem .., stampLock_locks ..⟩
  case status =>
    refine ⟨_, (exec_lstat s).trans (congrArg _ ((once_body h (.inl rfl)).trans (scalarAccess_ok hacc _))),
      fun hno => ?none, fun hyes r hr => ?word⟩
    case none => exact if_neg (by simp [hno])
    case word =>
      obtain ⟨hstate, hnext, hgrain, hmine⟩ := lockWord_fields (grain := p.grain == 512) (mine := t.held.any (fun e => e.obj == lockObject p)) hr
      rw [if_pos hyes]
      refine ⟨hstate, hnext, hgrain.trans ?_, hmine.trans ?_⟩
      · simp [bit]
      · simp [bit]

/-! ### The start of a drain (R324, R326) -/

/-- A drain whose sources are ready, and whose destination does not fill, starts: its sources drain. -/
theorem drainStart_ready {s : State} {t : Team} {b : Block} {n : Nat} {dst : MatSrc} {es : List Nat} {o : MatOp}
    (hready : ∀ e ∈ es, ((s.core s.cur.1).tile e).state = 2) (hdst : ∀ e ∈ dst.entry? b, ((s.core s.cur.1).tile e).state ≠ 1) :
    s.drainStart t b n dst es o =
      let s1 := s.modTiles s.cur.1 es (fun x => { x with state := 3 })
      let k := s1.core s.cur.1
      ({ s1.setCore s.cur.1 { k with ops := k.ops ++ [o] } with nextUid := s1.nextUid + 1 } : State).completeWith id := by
  have hbusy : es.find? (fun e => let x := (s.core s.cur.1).tile e; x.state == 1 || x.state == 3) = none :=
    List.find?_eq_none.2 fun e he => by simp [hready e he]
  have hslot : (dst.entry? b).filter (fun e => ((s.core s.cur.1).tile e).state == 1) = none :=
    Option.filter_eq_none_iff.2 fun e he => by simpa using hdst e he
  have hempty : ¬ es.any (fun e => ((s.core s.cur.1).tile e).state == 0) = true := by
    simp only [List.any_eq_true, not_exists, not_and]
    exact fun e he => by simp [hready e he]
  rw [State.drainStart]
  dsimp only at hbusy ⊢
  rw [hbusy, hslot]
  exact if_neg hempty

section
variable {s : State} {t : Team} {b : Block} {n e : Nat} {xd : TSrc} (h : TileNamed s t .matrix b false n e)
  (hheld : (t.matSrc xd).notHeld b = false) (hclear : EntriesClear s t (e :: ((t.matSrc xd).entry? b).toList))
include h hheld hclear

/-- The source of a drain is held and has nothing to report. -/
theorem drainSource_named (k : State → Team → Block → Nat → TileEntry → MatSrc → State) :
    s.drainSource n xd k = .next (k s t b e ((s.core s.cur.1).tile e) (t.matSrc xd)) := by
  obtain ⟨hready, hb, he, -⟩ := h
  refine congrArg _ ((once_body hready (.inl rfl)).trans ?_)
  rw [hb]
  dsimp only
  rw [he]
  dsimp only
  rw [if_neg (by simp [hheld]), named_clear hclear]

variable (hcap : t.captured = none) (hpair : ((s.core s.cur.1).tile e).pair = false) (hstate : ((s.core s.cur.1).tile e).state = 2)
include hcap hpair hstate

/-- A drain whose destination passes its checks: its record enters the core's queue after phases 2 and 3. -/
theorem drain_checked {es : List Nat} {stride row sb : Nat} {add : Bool} {s1 : State} {pas : List Nat}
    (hes : (if ((s.core s.cur.1).tile e).wide then e :: (b.entry? false (n + 1)).toList else [e]) = es) (hall : EntriesClear s t es)
    (hrow : (if ((s.core s.cur.1).tile e).wide then 512 else 256) = row)
    (hstride : (if (t.s sb).toNat % 2 ^ 32 = 0 then row else (t.s sb).toNat % 2 ^ 32) = stride)
    (hunit : stride % 16 = 0) (hlong : row ≤ stride) (hdest : ∀ k, s.drainDest t b (t.matSrc xd) stride row add k = k s1 t pas)
    (hclean : s1.tilePoison s1.cur.1 es = none) : s.drain n xd sb add = .next (s1.drainStart t b n (t.matSrc xd) es
      (s1.drainOp t b (.drain add) n (if ((s.core s.cur.1).tile e).wide then 0 else 1)
        (if ((s.core s.cur.1).tile e).wide then [n, n + 1] else [n]) pas)) := by
  refine (drainSource_named h hheld hclear _).trans (congrArg _ ?_)
  rw [show t.drainCaptured = none by rw [Team.drainCaptured, hcap]; rfl]
  dsimp only
  rw [hpair, if_neg (by decide), if_neg (by rw [hstate]; decide), hes, named_clear hall, hrow, hstride,
    if_neg (by omega), hdest, State.cleanTile, hclean]
  exact congrArg (fun l => s1.drainStart t b n (t.matSrc xd) l _) hes

/-- A `quant` whose destination and scales pass their checks. -/
theorem quantise_checked {stride row sb sc so desc blk rs : Nat} {fw : W32} {bmaj : Bool} {s1 : State} {pas : List Nat}
    (hwide : ((s.core s.cur.1).tile e).wide = false) (hdesc : (t.s sb).toNat = desc) (hfw : BitVec.ofNat 32 desc = fw)
    (hrow : 8 * (NFmt.of fw).w = row) (hrs : desc / 2 ^ 48 = rs) (hstride : (if rs = 0 then row else rs) = stride)
    (hblk : desc / 2 ^ 32 % 4 = blk) (hso : (t.s sc).toNat % 2 ^ 19 = so) (hvalid : nfValid fw = true) (hblk0 : blk ≠ 0)
    (hunit : rs = 0 ∨ rs % 16 = 0) (hlong : row ≤ stride) (hdest : ∀ k, s.drainDest t b (t.matSrc xd) stride row false k = k s1 t pas)
    (hfits : so + 64 * (64 / (8 * 2 ^ blk)) ≤ b.spSize) (hpart : s1.partRange s1.cur.1 b so (64 * (64 / (8 * 2 ^ blk))) = none)
    (hclean : s1.tilePoison s1.cur.1 [e] = none) : s.quantise n xd sb sc bmaj = .next (s1.drainStart t b n (t.matSrc xd) [e]
      { s1.drainOp t b (.quant bmaj) n 1 [n] pas with fmtA := fw, blkLen := blk, scaleDst := so }) := by
  refine (drainSource_named h hheld hclear _).trans (congrArg _ ?_)
  rw [show t.drainCaptured = none by rw [Team.drainCaptured, hcap]; rfl]
  dsimp only
  rw [hdesc, hso, hfw, hrow, hrs, hstride, hblk, hwide, hpair, if_neg (by decide), if_neg (by rw [hstate]; decide),
    if_neg (by simp [hvalid]), if_neg (by omega), hdest, show blkLength blk = 8 * 2 ^ blk from rfl, if_neg (by omega), hpart]
  dsimp only
  rw [State.cleanTile, hclean]
  simp only [State.quantFrom, hfw, hblk]

end

/-- Settles O51: the checks pass, and each source is ready. -/
theorem drainStart : Obligations.DrainStart := by
  unfold Obligations.DrainStart
  intro s t b n xd sb e h dst x hcap hheld hclear hpair hstate hdst starts s1 hcur htiles pas
  have htile (e' : Nat) : (s1.core s1.cur.1).tile e' = (s.core s.cur.1).tile e' := by rw [hcur, Core.tile, Core.tile, htiles]
  have hstart (es : List Nat) (o : MatOp) (hes : ∀ e' ∈ es, ((s.core s.cur.1).tile e').state = 2) :
      (.next (s1.drainStart t b n dst es o) : Result) = starts es o s1 := by
    refine congrArg _ (drainStart_ready (fun e' he' => ?_) (fun e' he' => ?_))
    · rw [htile, hes e' he']
    · rw [htile]; exact hdst e' he'
  refine ⟨fun add e' => ?drain, fun bmaj sc hwide => ?quant⟩
  case drain =>
    intro es row rs stride hsecond hall hunit hlong hdest hclean
    have hes : (if x.wide then e :: (b.entry? false (n + 1)).toList else [e]) = es := by
      by_cases hw : x.wide = true
      · simp [es, hw, (hsecond hw).1]
      · simp [es, hw]
    have hready : ∀ e1 ∈ es, ((s.core s.cur.1).tile e1).state = 2 := by
      by_cases hw : x.wide = true
      · simp only [es, if_pos hw, List.forall_mem_cons, List.not_mem_nil]
        exact ⟨hstate, (hsecond hw).2, by simp⟩
      · simp only [es, if_neg hw, List.forall_mem_cons, List.not_mem_nil]
        exact ⟨hstate, by simp⟩
    have hd : s.drain n xd sb add =
        starts es (s1.drainOp t b (.drain add) n (if x.wide then 0 else 1) (if x.wide then [n, n + 1] else [n]) pas) s1 :=
      (drain_checked h hheld hclear hcap hpair hstate hes hall rfl rfl hunit hlong hdest hclean).trans (hstart _ _ hready)
    cases add with
    | false => exact (exec_mdrain s).trans hd
    | true => exact (exec_mdrainAdd s).trans hd
  case quant =>
    intro desc fw row rs stride blk so hvalid hblk hunit hlong hdest hfits hpart hclean
    have hq : s.quantise n xd sb sc bmaj = starts [e]
      { s1.drainOp t b (.quant bmaj) n 1 [n] pas with fmtA := fw, blkLen := blk, scaleDst := so } s1 :=
      (quantise_checked h hheld hclear hcap hpair hstate hwide rfl rfl rfl rfl rfl rfl rfl hvalid hblk hunit hlong hdest hfits hpart hclean).trans
        (hstart _ _ (by simpa using hstate))
    cases bmaj with
    | false => exact (exec_quant s).trans hq
    | true => exact (exec_quantBmaj s).trans hq

end Sys2Proof.Machine
end

section
/-! The statement on the front end (R365 to R379): packets, submission, queues, and the takeovers of the complexes. -/

namespace Sys2Proof.Machine

/-! ### The queue table's words (R366) -/

/-- Invalidation of a sector changes the directory alone. -/
theorem invalidate_dirs (s : State) (c pa : Nat) : ∃ d, s.invalidate c pa = { s with dirs := d } := by
  unfold State.invalidate State.modDir
  split
  · exact ⟨_, rfl⟩
  · exact ⟨s.dirs, rfl⟩

/-- What a unit's write leaves of the front end, the time and the saved blocks: all. -/
theorem unitPut_besideMemory (s : State) (pa : Nat) (bs : List Byte) : (s.unitPut pa bs).besideMemory = s.besideMemory := by
  refine State.unitPut_cases (P := fun s' => s'.besideMemory = s.besideMemory) rfl ?mem fun c off => ?win
  case mem =>
    obtain ⟨d, hd⟩ := invalidate_dirs s 1024 pa
    rw [hd]
    rfl
  case win =>
    suffices h : (s.winWrite c off bs).besideMemory = s.besideMemory from h
    induction bs generalizing s off with
    | nil => rfl
    | cons b bs ih =>
      refine (ih _ _).trans ?_
      unfold State.winSetByte
      dsimp only
      split
      · split <;> rfl
      all_goals rfl

theorem setQueue_besideMemory (s : State) (q head err en : Nat) : (s.setQueue q head err en).besideMemory = s.besideMemory :=
  unitPut_besideMemory ..

theorem cxlHole_congr {s s' : State} (h : s'.fenced = s.fenced) (pa : Nat) : s'.cxlHole pa = s.cxlHole pa := by
  rw [State.cxlHole, State.cxlHole, h]

theorem poisoned_congr {s s' : State} (hp : s'.poison = s.poison) (hf : s'.fenced = s.fenced) (hr : s'.restored = s.restored)
    (hx : s'.xlt = s.xlt) (line : Nat) : s'.poisoned line = s.poisoned line := by
  rw [State.poisoned, State.poisoned, hp, hf, hr, homeOf_congr hx]

/-- A word that a unit writes where there is memory reads back. -/
theorem unitWord_unitPut {s : State} {a : Nat} (hr : match regionOf a with
      | .hbm | .cxl _ => True
      | .host => s.fenced.contains 120 = false
      | _ => False) (hhole : s.cxlHole a = false) (hpoison : s.poisoned (a / 128) = false) (x : Nat) :
    (s.unitPut a (leBytes 8 x)).unitWord a = x % 256 ^ 8 := by
  have hput : s.unitPut a (leBytes 8 x) = (s.invalidate 1024 a).storeAgent a (leBytes 8 x) := by
    unfold State.unitPut
    split at hr
    · next h => rw [h]; exact if_neg (by simp [hhole, hpoison])
    · next h => rw [h]; exact if_neg (by simp [hhole, hpoison])
    · next h => rw [h]; exact if_neg (by rw [hr, hpoison]; decide)
    · exact hr.elim
  generalize hs1 : (s.invalidate 1024 a).storeAgent a (leBytes 8 x) = s1 at hput
  have hhole1 : s1.cxlHole a = false := (cxlHole_congr (by simp [← hs1]) a).trans hhole
  have hpoison1 : s1.poisoned (a / 128) = false :=
    (poisoned_congr (by simp [← hs1]) (by simp [← hs1]) (by simp [← hs1]) (by simp [← hs1]) _).trans hpoison
  rw [hput, State.unitWord, if_neg (by simp [hhole1, hpoison1]), State.memWord, ← hs1, State.storeAgent_mem, leRead_memSetAll_leBytes]

/-- The word of an entry that `setQueue` writes. -/
def State.newQueueWord (s : State) (q head err en : Nat) : Nat :=
  head % 2 ^ 32 * 2 ^ 32 + fld (s.queueWord q 2) 16 16 * 2 ^ 16 + err * 2 ^ 8 + fld (s.queueWord q 2) 1 7 * 2 + en

theorem queueWord_setQueue {s : State} {q : Nat} (h : QueueEntryThere s q) (head err en : Nat) :
    (s.setQueue q head err en).queueWord q 2 = s.newQueueWord q head err en % 256 ^ 8 := by
  obtain ⟨hr, hhole, hpoison⟩ := h
  have haddr : (s.setQueue q head err en).queueAddr q 2 = s.queueAddr q 2 := by
    have hfe : (s.setQueue q head err en).fe = s.fe := congrArg (·.1) (setQueue_besideMemory s q head err en)
    rw [State.queueAddr, State.queueAddr, hfe]
  rw [State.queueWord, haddr]
  exact unitWord_unitPut hr hhole hpoison _

/-- What `setQueue` writes reads back: HEAD, ERR and ENABLE. -/
theorem queue_setQueue {s : State} {q : Nat} (h : QueueEntryThere s q) (head : Nat) (on : Bool) :
    (s.setQueue q head 0 (bit on)).queueHead q = head % 2 ^ 32 ∧ (s.setQueue q head 0 (bit on)).queueErr q = 0 ∧
      (s.setQueue q head 0 (bit on)).queueOn q = on := by
  have hon := bit_le on
  have hword := queueWord_setQueue h head 0 (bit on)
  unfold State.queueHead State.queueErr State.queueOn
  rw [hword]
  unfold State.newQueueWord fld
  refine ⟨by omega, by omega, ?_⟩
  have hbit : (head % 2 ^ 32 * 2 ^ 32 + s.queueWord q 2 / 2 ^ 16 % 2 ^ 16 * 2 ^ 16 + 0 * 2 ^ 8 + s.queueWord q 2 / 2 ^ 1 % 2 ^ 7 * 2 + bit on) %
      256 ^ 8 / 2 ^ 0 % 2 ^ 1 = bit on := by omega
  rw [hbit]
  cases on <;> rfl

/-- Committing the state table leaves a queue's entry where it is. -/
theorem queueEntryThere_commitTable {s : State} {q : Nat} (h : QueueEntryThere s q) : QueueEntryThere s.commitTable q := by
  obtain ⟨hr, hhole, hpoison⟩ := h
  have haddr : s.commitTable.queueAddr q 2 = s.queueAddr q 2 := rfl
  unfold QueueEntryThere
  rw [haddr, cxlHole_congr (s := s) (s' := s.commitTable) rfl, poisoned_congr (s := s) (s' := s.commitTable) rfl rfl rfl rfl]
  exact ⟨hr, hhole, hpoison⟩

/-! ### Packets (R367, R368, R371) -/

/-- A packet that passes the checks of its slot is carried out. -/
theorem packet_read {s s1 : State} {q type raw : Nat} (h : PacketRead s q type s1 raw) (htype : packetTypes.contains type = true)
    (k : State → Nat → Nat → State) : s.packet q type k = .next (k s1 raw (s.queueHead q)) := by
  obtain ⟨hruns, hheld, ⟨p, hplace, hraw⟩, hvalid, hty, hrsv, hscope, hwaits⟩ := h
  have hdep : ¬ (fld (fld raw 2016 32) 8 4 = 1 ∧ s1.fe.inFlight.any (fun x => x.queue == q) = true) := by
    rintro ⟨hone, hany⟩
    obtain ⟨x, hx, hxq⟩ := List.any_eq_true.1 hany
    exact hwaits.elim (fun h0 => by omega) (fun h1 => h1.2 x hx (by simpa using hxq))
  rw [State.packet, if_neg (by simp [hruns, hheld])]
  dsimp only
  rw [hplace]
  dsimp only
  rw [← hraw, hty, if_neg (by simp [hvalid]), if_neg (by rw [htype]; decide), if_neg (by simp), if_neg (by omega), if_neg hdep]

section
variable {s s1 : State} {q raw : Nat}

theorem execNopPacket_read (h : PacketRead s q 5 s1 raw) :
    exec (.nopPacket q) s = .next ((s1.packetStart q).packetRelease (packetScope raw) none) :=
  (exec_nopPacket s).trans (packet_read h rfl _)

section
variable {p : Phys} {s2 : State} {wr : Bool} (haddr : s1.packetAddr q (BitVec.ofNat 64 (packetWord raw 0)) wr = (.ok p, s2))
include haddr

theorem execWrite_read (hwr : wr = true) (h : PacketRead s q 2 s1 raw) : exec (.write q) s =
    .next (((s2.packetStart q).agentWrite p (leBytes 8 (packetWord raw 8))).packetRelease (packetScope raw) none) := by
  refine (exec_write s).trans ((packet_read h rfl _).trans ?_)
  rw [← hwr]
  dsimp only
  rw [haddr]

theorem execTime_read (hwr : wr = true) (h : PacketRead s q 4 s1 raw) : exec (.time q) s =
    .next (((s2.packetStart q).readClock.2.agentWrite p (leBytes 8 (s2.packetStart q).readClock.1)).packetRelease (packetScope raw) none) := by
  refine (exec_time s).trans ((packet_read h rfl _).trans ?_)
  rw [← hwr]
  dsimp only
  rw [haddr]

theorem execWait_read (hwr : wr = false) (h : PacketRead s q 3 s1 raw) :
    let s3 := s2.packetStart q
    exec (.wait q) s = .next { s3 with fe := { s3.fe with inFlight := s3.fe.inFlight ++
      [⟨q, s.queueHead q, packetScope raw, none, some (BitVec.ofNat 64 (packetWord raw 0), BitVec.ofNat 64 (packetWord raw 8))⟩] } } := by
  refine (exec_wait s).trans ((packet_read h rfl _).trans ?_)
  rw [← hwr]
  dsimp only
  rw [haddr]

end

theorem packetStart_time (s : State) (q : Nat) : (s.packetStart q).time = s.time :=
  congrArg (·.2.1) (setQueue_besideMemory s.commitTable q (s.queueHead q + 1) 0 (bit (s.queueOn q)))

end

/-! ### A WAIT in flight (R368, R372) -/

section
variable {s s1 : State} {q : Nat} {x : InFlight} {va v : W64} {p : Phys}

theorem tryWait_done (hx : x.wait = some (va, v)) (haddr : s.packetAddr q va false = (.ok p, s1)) (hv : v.toNat ≤ s1.agentRead p 8) :
    s.tryWait q x = some ((s1.packetDone x).packetRelease x.fscope none) := by
  rw [State.tryWait, hx]
  dsimp only
  rw [haddr]
  exact if_pos hv

theorem tryWait_waits (hx : x.wait = some (va, v)) (haddr : s.packetAddr q va false = (.ok p, s1)) (hv : s1.agentRead p 8 < v.toNat) :
    s.tryWait q x = none := by
  rw [State.tryWait, hx]
  dsimp only
  rw [haddr]
  exact if_neg (by omega)

end

theorem execWaitComplete_eq {s : State} {q : Nat} (h : s.queueHeld q = false) : exec (.waitComplete q) s =
    .next (((s.fe.inFlight.filter (fun x => x.queue == q)).findSome? (s.tryWait q)).getD s) :=
  (exec_waitComplete s).trans (congrArg _ (if_neg (by simp [h])))

/-! ### Takeovers (R376, R377) -/

theorem beginTurn_keeps (s : State) (e : Nat) : ∃ n l b at', s.beginTurn e = { s with
    tick := n
    fe := { s.fe with
      runEntry := if s.runCount = 0 then s.fe.runEntry else e % s.runCount
      turnAt := at'
      turnLen := l
      stretch := b } } := by
  unfold State.beginTurn
  split
  · exact ⟨s.tick, _, _, s.fe.turnAt, rfl⟩
  · exact ⟨_, _, _, _, rfl⟩

/-- What a takeover makes of a state: the other complex goes on from the committed table. -/
structure TookOver (s s' : State) : Prop where
  active : s'.fe.active = 1 - s.fe.active
  standby : s'.fe.standby = false
  updating : s'.fe.updating = false
  capCons : s'.fe.capCons = s.fe.table.capCons
  hints : s'.fe.hints = s.fe.table.hints
  capture : ∀ e ∈ s'.fe.capture, s.fe.table.capCons.toNat < e.1
  runEntry : s.fe.table.runEntry < s.runCount → s'.fe.runEntry = s.fe.table.runEntry
  cores : s'.cores = s.cores
  mem : s'.mem = s.mem
  time : s'.time = s.time
  version : s.fe.updating = false → s'.fe.fwver = s.fe.fwver
  error : s.fe.updating = true → s'.fe.upderr = 0

theorem takeOver_tookOver (s : State) : TookOver s s.takeOver := by
  have hcapture : ∀ e ∈ s.fe.capture.filter (fun e => decide (s.fe.table.capCons.toNat < e.1)), s.fe.table.capCons.toNat < e.1 :=
    fun e he => by simpa using (List.mem_filter.1 he).2
  unfold State.takeOver
  dsimp only
  split
  · next hrun =>
    exact ⟨rfl, rfl, rfl, rfl, rfl, hcapture, fun _ => hrun, rfl, rfl, rfl, fun h => if_neg (by simp [h]), fun h => if_pos h⟩
  · next hrun =>
    obtain ⟨n, l, b, a, hturn⟩ := beginTurn_keeps _ s.fe.table.runEntry
    rw [hturn]
    exact ⟨rfl, rfl, rfl, rfl, rfl, hcapture, fun h => (if_neg (by exact Nat.ne_of_gt (Nat.zero_lt_of_lt h))).trans
      (Nat.mod_eq_of_lt h), rfl, rfl, rfl,
      fun h => if_neg (by simp [h]), fun h => if_pos h⟩

theorem await_besideMemory (s : State) (c pa : Nat) (e : Option Nat) : (s.await c pa e).besideMemory = s.besideMemory := by
  unfold State.await
  split
  · rfl
  · split <;> rfl

theorem logError_besideMemory (s : State) (src unit cls action addr : Nat) (ident : W64) :
    (s.logError src unit cls action addr ident).besideMemory = s.besideMemory := by
  unfold State.logError State.unitStore
  dsimp only
  split
  · exact await_besideMemory ..
  · exact unitPut_besideMemory ..

/-! ### LAUNCH (R369 to R371) -/

/-- The fields of a launch packet that must be zero are, and the others are in range. -/
def launchClean (raw : Nat) : Prop :=
  let e := packetWord raw 0
  let kd := packetWord raw 8
  let g := packetWord raw 0x10
  let x := packetWord raw 0x58
  fld e 57 7 = 0 ∧ fld e 0 1 = 0 ∧ fld kd 57 7 = 0 ∧ fld kd 0 6 = 0 ∧ fld g 48 16 = 0 ∧ fld x 20 44 = 0 ∧ fld x 17 1 = 0 ∧
    fld raw 0x300 0x4E0 = 0 ∧ fld e 56 1 = 0 ∧ fld g 0 16 ≠ 0 ∧ fld g 16 16 ≠ 0 ∧ fld g 32 16 ≠ 0

/-- A launch whose packet and descriptor pass their checks goes to the dispatcher. -/
theorem execLaunch_read {s s1 s2 : State} {q raw : Nat} {ws : List Nat} (h : PacketRead s q 1 s1 raw) (hclean : launchClean raw)
    (hdesc : s1.descWords (s1.queueAgent q) (wide (BitVec.ofNat 57 (packetWord raw 8))) 17 = (.ok ws, s2)) (hrsv : descRsvBad ws = false)
    (hrange : descRangeBad ws = false) (hshape : shapeFits (s2.launchOf q raw ws).shape = true)
    (hgang : (s2.launchOf q raw ws).total % (s2.launchOf q raw ws).gang = 0) :
    let s3 := s2.packetStart q
    let l := s2.launchOf q raw ws
    exec (.launch q) s = .next { s3 with
      nextUid := s3.nextUid + 1,
      fe := { s3.fe with
        launchNo := (s3.fe.launchNo + 1) % 2 ^ 16, launches := s3.fe.launches ++ [l],
        inFlight := s3.fe.inFlight ++ [⟨q, s.queueHead q, packetScope raw, some l.id, none⟩] } } := by
  obtain ⟨h1, h2, h3, h4, h5, h6, h7, h8, h9, h10, h11, h12⟩ := hclean
  refine (exec_launch s).trans ((packet_read h rfl _).trans (congrArg _ ?_))
  dsimp only
  rw [if_neg (by simp only [h1, h2, h3, h4, h5, h6, h7, h8]; decide), if_neg (by simp [h9, h10, h11, h12]), hdesc]
  dsimp only
  rw [if_neg (by simp [hrsv]), if_neg (by simp [hrange]), if_neg (by simp [hshape]), if_neg (by simp [hgang])]

/-- Settles O56: a packet by what its read passes; a queue by its entry; a takeover by the committed table. -/
theorem frontEndSteps : Obligations.FrontEndSteps := by
  unfold Obligations.FrontEndSteps
  refine ⟨fun s q s1 raw => ⟨fun h => execNopPacket_read h, fun p s2 haddr => ⟨fun h => execWrite_read haddr rfl h, fun h => ?time⟩,
      fun p s2 haddr h => execWait_read haddr rfl h, fun ws s2 => ?launch⟩,
    fun s q h => ?start, fun s q => ?waits, fun s q val hrec => ?recovery, fun s q val hrec => ?submit,
    fun s q hoff h hrec hheld => ?enable, fun s q hon => ?enabled, fun s q hon h hrec hheld => ?resume, fun s => ?complexes⟩
  case time =>
    exact ⟨_, (s2.packetStart q).readClock.2, (packetStart_time s2 q) ▸ Nat.le_add_right _ _, rfl, execTime_read haddr rfl h⟩
  case launch =>
    intro e kd g x l h h1 h2 h3 h4 h5 h6 h7 h8 h9 h10 h11 h12 hdesc hrsv hrange hshape hgang
    exact execLaunch_read h ⟨h1, h2, h3, h4, h5, h6, h7, h8, h9, h10, h11, h12⟩ hdesc hrsv hrange hshape hgang
  case start =>
    obtain ⟨hhead, herr, hon⟩ := queue_setQueue (queueEntryThere_commitTable h) (s.queueHead q + 1) (s.queueOn q)
    have hfe : (s.packetStart q).fe = s.commitTable.fe :=
      congrArg (·.1) (setQueue_besideMemory s.commitTable q (s.queueHead q + 1) 0 (bit (s.queueOn q)))
    exact ⟨hhead, herr, hon, by rw [hfe]; rfl⟩
  case waits =>
    refine ⟨fun hheld => (exec_waitComplete s).trans (congrArg Host.Outcome.next (if_pos hheld)),
      fun before x rest va v p s1 hheld hlist hbefore hx haddr hv => ?met,
      fun hnone => ?noneMet, fun x hx => by rw [State.tryWait, hx], fun x va v p s1 hx haddr hv => tryWait_waits hx haddr hv⟩
    case met =>
      rw [execWaitComplete_eq hheld, hlist, List.findSome?_append, List.findSome?_eq_none_iff.2 hbefore, Option.none_or,
        List.findSome?_cons, tryWait_done hx haddr hv]
      rfl
    case noneMet =>
      by_cases hheld : s.queueHeld q = true
      · exact (exec_waitComplete s).trans (congrArg Host.Outcome.next (if_pos hheld))
      · rw [execWaitComplete_eq (Bool.eq_false_iff.2 hheld), List.findSome?_eq_none_iff.2]
        · rfl
        · intro x hx
          obtain ⟨hmem, hq⟩ := List.mem_filter.1 hx
          exact hnone x hmem (by simpa using hq)
  case recovery =>
    exact ⟨(exec_submissionWrite s).trans (congrArg Host.Outcome.next (if_pos hrec)),
      (exec_queueEnable s).trans (congrArg Host.Outcome.next (if_pos (Or.inr (Or.inl hrec)))),
      (exec_queueResume s).trans (congrArg Host.Outcome.next (if_neg (by simp [hrec]))),
      (exec_update s).trans (congrArg Host.Outcome.next (if_pos (Or.inl hrec))),
      (exec_watchdogTakeover s).trans (congrArg Host.Outcome.next (if_pos hrec))⟩
  case submit =>
    refine (exec_submissionWrite s).trans (congrArg Host.Outcome.next ((if_neg (by simp [hrec])).trans ?_))
    by_cases hroom : s.fe.capture.length < 1024
    · rw [if_pos hroom]
      exact if_neg (by unfold captureLimit; omega)
    · rw [if_neg hroom]
      exact if_pos (by unfold captureLimit; omega)
  case enable =>
    obtain ⟨hhead, herr, hon⟩ := queue_setQueue h 0 true
    exact ⟨_, (exec_queueEnable s).trans (congrArg Host.Outcome.next (if_neg (by simp [hoff, hrec, hheld]))), hon, hhead, herr⟩
  case enabled => exact (exec_queueEnable s).trans (congrArg Host.Outcome.next (if_pos (Or.inl hon)))
  case resume =>
    obtain ⟨hhead, herr, hon'⟩ := queue_setQueue h (s.queueHead q) true
    refine ⟨_, (exec_queueResume s).trans (congrArg Host.Outcome.next (if_pos ⟨hon, hrec, hheld⟩)),
      hon', hhead.trans (Nat.mod_eq_of_lt ?_), herr⟩
    exact Nat.mod_lt _ (by decide)
  case complexes =>
    have htook {a b : State} (h : TookOver a b) : b.fe.active = 1 - a.fe.active ∧ b.fe.standby = false ∧ b.fe.updating = false ∧
        b.fe.capCons = a.fe.table.capCons ∧ b.fe.hints = a.fe.table.hints ∧ (∀ e ∈ b.fe.capture, a.fe.table.capCons.toNat < e.1) ∧
        (a.fe.table.runEntry < a.runCount → b.fe.runEntry = a.fe.table.runEntry) ∧ b.cores = a.cores ∧ b.mem = a.mem :=
      ⟨h.active, h.standby, h.updating, h.capCons, h.hints, h.capture, h.runEntry, h.cores, h.mem⟩
    refine ⟨fun hrec hupd => ⟨?update, fun hstand => ?imports⟩, fun hstand => ?imported, fun hstand hupd => ?failover,
      fun hrec hstand hupd => ?boot, fun hupd hstand => ?updated, fun hrec hstand => ?watchdog, fun hrec hstand => ?missed⟩
    case update => exact (exec_update s).trans (congrArg Host.Outcome.next (if_neg (by simp [hrec, hupd])))
    case imports =>
      refine (exec_standbyImport s).trans (congrArg Host.Outcome.next ((if_neg (by simp [hrec, hstand])).trans (if_neg (by simp [hupd]))))
    case imported => exact (exec_standbyImport s).trans (congrArg Host.Outcome.next (if_pos (Or.inr hstand)))
    case failover =>
      exact ⟨_, (exec_failover s).trans (congrArg Host.Outcome.next (if_neg (by simp [hupd, hstand]))), htook (takeOver_tookOver s),
        (takeOver_tookOver s).version hupd⟩
    case boot =>
      refine ⟨_, s.bootResult, (exec_standbyImport s).trans (congrArg Host.Outcome.next ((if_neg (by simp [hrec, hstand])).trans (if_pos hupd))),
        Nat.mod_lt _ (by decide), rfl, beq_iff_eq, beq_iff_eq⟩
    case updated =>
      exact ⟨_, (exec_updateTakeover s).trans (congrArg Host.Outcome.next (if_pos ⟨hupd, hstand⟩)), htook (takeOver_tookOver s),
        (takeOver_tookOver s).error hupd,
        (exec_failover s).trans (congrArg Host.Outcome.next (if_pos (Or.inl hupd)))⟩
    case watchdog =>
      refine ⟨_, (exec_watchdogTakeover s).trans (congrArg Host.Outcome.next ((if_neg (by simp [hrec])).trans (if_pos hstand))),
        ?_, htook (takeOver_tookOver _)⟩
      exact (takeOver_tookOver _).time.trans (congrArg (·.2.1) (logError_besideMemory ..))
    case missed =>
      exact (exec_watchdogTakeover s).trans (congrArg Host.Outcome.next ((if_neg (by simp [hrec])).trans (if_neg (by simp [hstand]))))

end Sys2Proof.Machine
end

section
/-! The statement on supervisors, the mailbox and the team-state port (R399 to R412). -/

namespace Sys2Proof.Machine

/-! ### The end of a team leaves its slot empty (R41, R344) -/

theorem team?_performAt (s : State) (c : Nat) (p : PendStore) (q : Nat × Nat) : (s.performAt c p).team? q = s.team? q := by
  have hput (cs : List Host.Cell) (s : State) : (s.putCells cs).cores = s.cores :=
    foldl_view State.cores (f := fun s (c : Host.Cell) => s.memWrite c.1 [c.2]) (fun _ _ => rfl) cs s
  unfold State.performAt
  split
  · rfl
  · dsimp only
    rw [team?_refreshL1, team?_stampStore]
    refine team?_of_cores ?_ q
    split
    · exact State.invalidate_cores ..
    · exact (hput ..).trans (State.invalidate_cores ..)

/-- An access that is lost is noted with its team, in a slot that has one. -/
theorem team?_loseAt_none {s : State} {q : Nat × Nat} (h : s.team? q = none) (c : Nat) (l : LostStore) : (s.loseAt c l).team? q = none := by
  unfold State.loseAt State.team?
  by_cases hc : q.1 = c
  · rw [← hc, core_setCore]
    refine (tabGet?_mapKeyed _ (fun e => ?_) q.2).trans ?_
    · split <;> rfl
    · rw [show tabGet? (s.core q.1).teams q.2 = none from h]
      rfl
  · rw [core_setCore_other _ _ hc]
    exact h

theorem team?_performStore_none {s : State} {q : Nat × Nat} (h : s.team? q = none) (c i : Nat) : (s.performStore c i).team? q = none := by
  have hstores (st : List PendStore) : (s.setCore c { s.core c with stores := st }).team? q = none :=
    (team?_setCore_of_teams s (k := { s.core c with stores := st }) rfl q).trans h
  unfold State.performStore
  dsimp only
  split
  · exact h
  · split
    · exact h
    · split
      · exact team?_loseAt_none (hstores _) ..
      · split
        · exact (team?_of_cores (State.await_cores ..) q).trans (hstores _)
        · exact (team?_performAt ..).trans (hstores _)

theorem team?_drainCore_none {s : State} {q : Nat × Nat} (h : s.team? q = none) (c : Nat) (sel : PendStore → Bool) :
    (s.drainCore c sel).team? q = none := by
  have hby (n i : Nat) (s : State) (h : s.team? q = none) : (s.drainBy c sel n i).team? q = none := by
    induction n generalizing s i with
    | zero => exact h
    | succ n ih =>
      unfold State.drainBy
      split
      · exact h
      · refine ih _ _ ?_
        split
        · exact team?_performStore_none h ..
        · exact h
  exact hby _ _ _ h

theorem team?_blockGone_none {s : State} {q : Nat × Nat} (h : s.team? q = none) (launch uid : Nat) :
    (s.blockGone launch uid).team? q = none := by
  have hrelease : (s.packetRelease (s.launchScope launch) (some uid)).team? q = none := by
    unfold State.packetRelease
    split
    · exact h
    · exact List.foldlRecOn (motive := fun s' : State => s'.team? q = none) s.cores _ h fun s' hs k _ => team?_drainCore_none hs ..
  unfold State.blockGone
  dsimp only
  split
  · exact hrelease
  · exact hrelease

theorem team?_mapGroup (s : State) (b : Block) (f : Block → Block) (q : Nat × Nat) : (s.mapGroup b f).team? q = s.team? q := by
  unfold State.team?
  rw [core_mapGroup]
  rfl

theorem team?_evalBarriers (s : State) (b : Block) (q : Nat × Nat) : (s.evalBarriers b).team? q = s.team? q := by
  have hone (s : State) (b : Block) (n : Nat) : (s.evalBarrier b n).team? q = s.team? q := by
    unfold State.evalBarrier
    split
    · rfl
    · split
      · exact team?_mapGroup ..
      · rfl
  unfold State.evalBarriers
  refine foldl_view (fun s => s.team? q) (f := fun s (m : Block × Tab Team) =>
    (List.range m.1.barriers.length).foldl (fun s n => s.evalBarrier m.1 n) s) (fun s m => ?_) _ s
  exact foldl_view (fun s => s.team? q) (f := fun s n => s.evalBarrier m.1 n) (fun s n => hone s m.1 n) _ s

/-- The slot of a team that ends is empty. -/
theorem team?_endTeam {s : State} {p : Nat × Nat} {t : Team} {b : Block} (hb : s.blockOf p.1 t = some b) : (s.endTeam p t).team? p = none := by
  have herased (s : State) : (s.setCore p.1 { s.core p.1 with teams := tabErase (s.core p.1).teams p.2 }).team? p = none := by
    unfold State.team?
    rw [core_setCore]
    exact tabGet?_tabErase_same ..
  unfold State.endTeam
  rw [hb]
  dsimp only
  split
  · exact team?_blockGone_none ((team?_setCore_of_teams _ (by rfl) p).trans ((team?_evalBarriers ..).trans (herased _))) ..
  · exact (team?_evalBarriers ..).trans (herased _)

/-! ### Where a team stands -/

theorem exists_tabGet?_of_mem {α : Type} {t : Tab α} {e : Nat × α} (h : e ∈ t) : ∃ v, tabGet? t e.1 = some v := by
  induction t with
  | nil => exact absurd h List.not_mem_nil
  | cons d t ih =>
    obtain ⟨j, x⟩ := d
    rw [tabGet?]
    split
    · exact ⟨x, rfl⟩
    · next hj => exact ih ((List.mem_cons.1 h).resolve_left fun he => hj (congrArg Prod.fst he).symm)

section
variable {α β : Type} {g : Nat × α → Option β} {k : Nat} {v w : α} {r : β}

/-- A search of a table finds what it found before a value gave way to one that answers alike, unless that value alone answers otherwise. -/
theorem findSome?_tabSet {t : Tab α} (h : t.findSome? g = some r) (hv : tabGet? t k = some v) (hsame : g (k, w) = g (k, v))
    (hr : ∀ r', g (k, v) = some r' → r' = r) : (tabSet t k w).findSome? g = some r := by
  induction t with
  | nil => exact absurd h nofun
  | cons e t ih =>
    obtain ⟨j, x⟩ := e
    rw [tabGet?] at hv
    rw [tabSet]
    by_cases hj : j = k
    · rw [if_pos hj, Option.some.injEq] at hv
      rw [if_pos hj]
      rw [List.findSome?_cons, hj, hv] at h
      rw [List.findSome?_cons, hsame]
      exact h
    · rw [if_neg hj] at hv
      rw [if_neg hj]
      split
      · rw [List.findSome?_cons, hsame]
        cases hg : g (k, v) with
        | none => exact h
        | some r' => exact congrArg some (hr r' hg)
      · rw [List.findSome?_cons] at h ⊢
        cases hg : g (j, x) with
        | none => rw [hg] at h; exact ih h hv
        | some r' => rw [hg] at h; exact h

/-- A search that answers with the key finds the listed value of that key, if that value answers. -/
theorem findSome?_listed {t : Tab α} {key : β → Nat} (hkey : ∀ e r, g e = some r → key r = e.1) (h : t.findSome? g = some r)
    (hv : tabGet? t (key r) = some v) (r' : β) (hg : g (key r, v) = some r') : r' = r := by
  induction t with
  | nil => exact absurd h nofun
  | cons e t ih =>
    obtain ⟨j, x⟩ := e
    rw [tabGet?] at hv
    rw [List.findSome?_cons] at h
    by_cases hj : j = key r
    · rw [if_pos hj, Option.some.injEq] at hv
      rw [← hv, ← hj] at hg
      rw [hg] at h
      exact Option.some.inj h
    · rw [if_neg hj] at hv
      cases hx : g (j, x) with
      | none => rw [hx] at h; exact ih h hv
      | some y =>
        rw [hx] at h
        exact absurd ((hkey _ _ hx).symm.trans (congrArg key (Option.some.inj h))) hj

end

/-- The slot of the team of an identity, among those of a core. -/
def slotOf (uid : Nat) (teams : Tab Team) : Option Nat := teams.findSome? (fun e => if e.2.uid = uid then some e.1 else none)

theorem findTeam_eq (s : State) (uid : Nat) : s.findTeam uid =
    if uid < 256 then some (uid, 0) else s.cores.findSome? (fun k => (slotOf uid k.2.teams).map (fun slot => (k.1, slot))) := by
  unfold State.findTeam
  rw [List.head?_filterMap]
  congr 2
  funext k
  have hslot (l : Tab Team) : (l.find? (fun e => e.2.uid == uid)).map (fun e => (k.1, e.1)) = (slotOf uid l).map (fun slot => (k.1, slot)) := by
    induction l with
    | nil => rfl
    | cons e l ih =>
      rw [slotOf, List.find?_cons, List.findSome?_cons]
      by_cases he : e.2.uid = uid
      · simp [he]
      · simp only [he, beq_eq_false_iff_ne.2 he, if_false]
        exact ih
  exact hslot _

/-- The team of a slot that keeps its identity leaves the search of its core as it is, when that search answers with its slot or with none. -/
theorem slotOf_tabSet {uid slot : Nat} {teams : Tab Team} {t t' : Team} (ht : tabGet? teams slot = some t) (hu : t'.uid = t.uid)
    (h : ∀ j, slotOf uid teams = some j → j = slot) : slotOf uid (tabSet teams slot t') = slotOf uid teams := by
  cases hs : slotOf uid teams with
  | some j =>
    refine findSome?_tabSet hs ht (by rw [hu]) fun r' hr' => ?_
    split at hr'
    · exact (Option.some.inj hr').symm.trans (h j hs).symm
    · exact absurd hr' nofun
  | none =>
    refine List.findSome?_eq_none_iff.2 fun e he => ?_
    have hall := List.findSome?_eq_none_iff.1 hs
    obtain rfl | he := mem_tabSet he
    · rw [hu]
      exact hall _ (mem_of_tabGet? ht)
    · exact hall e he

/-- A team that keeps its identity is found where it was. -/
theorem findTeam_setTeam {s : State} {uid : Nat} {p : Nat × Nat} {t t' : Team} (hp : s.findTeam uid = some p) (ht : s.team? p = some t)
    (hu : t'.uid = t.uid) : (s.setTeam p t').findTeam uid = some p := by
  rw [findTeam_eq] at hp ⊢
  by_cases hsup : uid < 256
  · rw [if_pos hsup] at hp ⊢
    exact hp
  · rw [if_neg hsup] at hp ⊢
    have hkey : ∀ (e : Nat × Core) (r : Nat × Nat), (slotOf uid e.2.teams).map (fun slot => (e.1, slot)) = some r → r.1 = e.1 := by
      intro e r he
      obtain ⟨j, -, rfl⟩ := Option.map_eq_some_iff.1 he
      rfl
    obtain ⟨e, he, hfound⟩ := List.exists_of_findSome?_eq_some hp
    obtain ⟨k, hk⟩ := exists_tabGet?_of_mem he
    rw [← hkey e p hfound] at hk
    have hcore : s.core p.1 = k := by rw [State.core, tabGet, hk]; rfl
    have hsame : slotOf uid (tabSet (s.core p.1).teams p.2 t') = slotOf uid k.teams := by
      rw [hcore]
      refine slotOf_tabSet (by rw [← hcore]; exact ht) hu fun j hj => ?_
      exact congrArg Prod.snd (findSome?_listed hkey hp hk (p.1, j) (by rw [hj]; rfl))
    exact findSome?_tabSet hp hk (by rw [hsame]) fun r' => findSome?_listed hkey hp hk r'

/-! ### DATA of the team-state port (R408) -/

/-- The bytes of a number read back as the number. -/
theorem leRead_bytes (x a n : Nat) : leRead (fun o => BitVec.ofNat 8 (x / 2 ^ (8 * (o - a)))) a n = x % 256 ^ n := by
  induction n generalizing x a with
  | zero => rw [leRead, Nat.pow_zero, Nat.mod_one]
  | succ n ih =>
    have hrest : leRead (fun o => BitVec.ofNat 8 (x / 2 ^ (8 * (o - a)))) (a + 1) n = x / 256 % 256 ^ n := by
      rw [← ih (x / 256) (a + 1)]
      refine leRead_congr fun o ho _ => ?_
      rw [show 8 * (o - a) = 8 + 8 * (o - (a + 1)) by omega, Nat.pow_add, ← Nat.div_div_eq_div_mul]
    rw [leRead, hrest, Nat.sub_self, Nat.mul_zero, Nat.pow_zero, Nat.div_one, BitVec.toNat_ofNat, Nat.pow_succ' (m := 256)]
    exact (Nat.mod_mul (x := x) (a := 256) (b := 256 ^ n)).symm

/-- DATA at an aligned offset is the word there. -/
theorem dataWord_aligned {s : State} {p : Port} {t : Team} (ht : s.dataTeam p = some t) (hoff : p.off % 8 = 0) :
    s.dataWord p = t.recordWord (s.blockByUid t.blk) (s.rfoffOf t) p.off % 2 ^ 64 := by
  rw [State.dataWord, ht]
  dsimp only
  refine (leRead_congr (g := fun o => BitVec.ofNat 8 (t.recordWord (s.blockByUid t.blk) (s.rfoffOf t) p.off / 2 ^ (8 * (o - p.off))))
    fun o hlo hhi => ?_).trans (leRead_bytes ..)
  rw [show o / 8 * 8 = p.off by omega, show o % 8 = o - p.off by omega]

/-- A byte that a word takes at a place leaves what is below it. -/
theorem mergeByte_mod (r v a : Nat) :
    (r - r / 2 ^ a % 256 * 2 ^ a + v / 2 ^ a % 256 * 2 ^ a) % (2 ^ a * 256) = r % 2 ^ a + 2 ^ a * (v / 2 ^ a % 256) := by
  have hpos : 0 < 2 ^ a := Nat.two_pow_pos a
  generalize 2 ^ a = A at *
  have hr : r = r % A + A * (r / A / 256 * 256 + r / A % 256) := by rw [Nat.div_add_mod', Nat.mod_add_div]
  have hle : r / A % 256 * A ≤ r := (Nat.mul_le_mul_right A (Nat.mod_le ..)).trans (Nat.div_mul_le_self ..)
  have hx : r - r / A % 256 * A + v / A % 256 * A = r % A + A * (r / A / 256 * 256 + v / A % 256) := by
    have : r - r / A % 256 * A = r % A + A * (r / A / 256 * 256) := by
      rw [Nat.mul_add] at hr
      rw [Nat.mul_comm (r / A % 256)]
      omega
    rw [this, Nat.mul_add, Nat.mul_comm (v / A % 256), Nat.add_assoc]
  rw [hx, Nat.mod_mul, Nat.add_mul_mod_self_left, Nat.mod_mod, Nat.add_mul_div_left _ _ hpos, Nat.div_eq_of_lt (Nat.mod_lt _ hpos)]
  refine congrArg (fun x => r % A + A * x) ?_
  omega

/-- The eight bytes of an aligned write are the whole word. -/
theorem mergeData_aligned (old w : Nat) (val : W64) : BitVec.ofNat 64 (mergeData old w w val) = val := by
  have hbytes (n : Nat) (hn : n ≤ 8) : mergeData.mergeAt w w old val.toNat (List.range n) % 2 ^ (8 * n) = val.toNat % 2 ^ (8 * n) := by
    induction n with
    | zero => rw [Nat.mul_zero, Nat.pow_zero, Nat.mod_one, Nat.mod_one]
    | succ n ih =>
      have hstep : mergeData.mergeAt w w old val.toNat (List.range (n + 1)) =
          mergeWord (mergeData.mergeAt w w old val.toNat (List.range n)) (8 * n) [BitVec.ofNat 8 (val.toNat / 2 ^ (8 * n))] := by
        rw [mergeData.mergeAt, List.range_succ, List.foldl_append, List.foldl_cons, List.foldl_nil, if_pos (by omega), Nat.add_sub_cancel_left]
        rfl
      rw [hstep, mergeWord, mergeWord, BitVec.toNat_ofNat, Nat.mul_succ, Nat.pow_add, show 2 ^ 8 = 256 from rfl, mergeByte_mod,
        ih (by omega), ← Nat.mod_mul]
  refine BitVec.eq_of_toNat_eq ?_
  rw [BitVec.toNat_ofNat]
  exact (hbytes 8 (le_refl _)).trans (Nat.mod_eq_of_lt val.isLt)

/-! ### The mailbox (R403, R404) -/

/-- What the device holds of mailbox records, and the number that the oldest took. -/
def State.mailHeld (s : State) : Option Nat × List (List W64) := (s.mailNo, s.mailOut)

/-- A unit's write leaves the records that the device holds. -/
theorem unitPut_mailHeld (s : State) (pa : Nat) (bs : List Byte) : (s.unitPut pa bs).mailHeld = s.mailHeld := by
  refine State.unitPut_cases (P := fun s' => s'.mailHeld = s.mailHeld) rfl ?mem fun c off => ?win
  case mem =>
    obtain ⟨d, hd⟩ := invalidate_dirs s 1024 pa
    rw [hd]
    rfl
  case win =>
    suffices h : (s.winWrite c off bs).mailHeld = s.mailHeld from h
    induction bs generalizing s off with
    | nil => rfl
    | cons b bs ih =>
      refine (ih _ _).trans ?_
      unfold State.winSetByte
      dsimp only
      split
      · split <;> rfl
      all_goals rfl

theorem takeNumber_fst (s : State) : s.takeNumber.1 = s.mailNo.getD (s.unitWord s.outRing.1) := by
  unfold State.takeNumber
  split <;> next h => rw [h]; rfl

theorem takeNumber_mailHeld (s : State) : s.takeNumber.2.mailHeld = (some s.takeNumber.1, s.mailOut) := by
  unfold State.takeNumber
  split
  · next h => exact congrArg (·, s.mailOut) h
  · exact unitPut_mailHeld ..

section
variable {s : State} {ws : List W64} {rest : List (List W64)} (h : s.mailOut = ws :: rest)
include h

theorem execMailboxPost_waits (hw : s.ringWaits s.outRing.1 = true) :
    exec .mailboxPost s = .next (s.await 1024 s.outRing.1 none) := by
  rw [exec_mailboxPost, execMailboxPost, h]
  dsimp only
  rw [if_pos hw]

theorem execMailboxPost_full (hw : s.ringWaits s.outRing.1 = false)
    (hroom : s.outRing.2 ≤ (s.takeNumber.1 + 2 ^ 64 - s.unitWord (s.outRing.1 + 8)) % 2 ^ 64) :
    exec .mailboxPost s = .next s.takeNumber.2 := by
  rw [exec_mailboxPost, execMailboxPost, h]
  dsimp only
  rw [if_neg (by simp [hw]), if_pos hroom]

theorem execMailboxPost_goes {r : Nat} (hr : r = s.outRing.1 + 0x40 + s.takeNumber.1 % s.outRing.2 * 64)
    (hw : s.ringWaits s.outRing.1 = false)
    (hroom : (s.takeNumber.1 + 2 ^ 64 - s.unitWord (s.outRing.1 + 8)) % 2 ^ 64 < s.outRing.2)
    (hlow : s.takeNumber.2.unitWaits r 64 = false) (hhigh : s.takeNumber.2.unitWaits (r + 32) 32 = false) :
    exec .mailboxPost s = .next ((List.range 8).foldl (fun s' k => s'.unitPut (r + 8 * k) (leBytes 8
        (if k = 7 then ((ws[k]?).getD 0).toNat % 2 ^ 56 + validByte s.takeNumber.1 s.outRing.2 * 2 ^ 56 else ((ws[k]?).getD 0).toNat)))
      { s.takeNumber.2 with mailOut := rest, mailNo := none }) := by
  subst hr
  rw [exec_mailboxPost, execMailboxPost, h]
  dsimp only
  rw [if_neg (by simp [hw]), if_neg (Nat.not_le.2 hroom), if_neg (by simp [hlow, hhigh])]

end

/-! ### The inbound ring (R399, R405) -/

section
variable {s : State} {core : Nat}

/-- The place of the next inbound record of a core. -/
def State.resumePlace (s : State) (core : Nat) : Nat :=
  (s.inRing core).1 + 0x40 + s.unitWord ((s.inRing core).1 + 8) % (s.inRing core).2 * 64

theorem execSupresume_waits (h : s.ringWaits (s.inRing core).1 = true ∨ s.lineOwned (s.resumePlace core / 128) = true) :
    exec (.supresume core) s = .next (s.await 1024 (s.inRing core).1 none) := by
  rw [exec_supresume, execSupresume]
  exact congrArg Host.Outcome.next (if_pos h)

variable (hw : s.ringWaits (s.inRing core).1 = false) (hl : s.lineOwned (s.resumePlace core / 128) = false)
  (hvalid : s.unitWord (s.resumePlace core + 56) / 2 ^ 56 = validByte (s.unitWord ((s.inRing core).1 + 8)) (s.inRing core).2)
  (hcore : s.unitWord (s.resumePlace core) % 2 ^ 16 = core * 2 ^ 8 + 1)
include hw hl hvalid hcore

/-- A valid record of the core is consumed, and the supervisor resumes unless reserved bits stand in it. -/
theorem execSupresume_consumes : exec (.supresume core) s = .next
    (if s.unitWord (s.resumePlace core) / 2 ^ 16 ≠ 0 then
      s.unitPut ((s.inRing core).1 + 8) (leBytes 8 (s.unitWord ((s.inRing core).1 + 8) + 1))
    else (s.unitPut ((s.inRing core).1 + 8) (leBytes 8 (s.unitWord ((s.inRing core).1 + 8) + 1))).modTeam (core, 0)
      (fun t => { t with parked := false, record := .empty })) := by
  rw [exec_supresume, execSupresume]
  refine congrArg Host.Outcome.next ((if_neg ?_).trans (if_neg ?_))
  · rintro (h | h)
    · exact absurd (hw.symm.trans h) nofun
    · exact absurd (hl.symm.trans h) nofun
  · rintro (h | h)
    · exact h hvalid
    · exact h hcore

end

/-! ### Operations of the team-state port (R408 to R411) -/

@[simp] theorem setPort_mem (s : State) (c : Nat) (p : Port) : (s.setPort c p).mem = s.mem := rfl

@[simp] theorem setPort_cores (s : State) (c : Nat) (p : Port) : (s.setPort c p).cores = s.cores := rfl

@[simp] theorem port_setPort (s : State) (c : Nat) (p : Port) : (s.setPort c p).port c = p := by
  rw [State.port, State.setPort, tabGet, tabGet?_tabSet_same]
  rfl

section
variable {s : State} {port : Nat} {t : Team}

/-- A write of an aligned DATA word sets that word of the team's record, where the team is not in a saved block. -/
theorem execTeamStateDataWrite_aligned {q : Nat × Nat} {t2 : Team} (hd : s.dataTeam (s.port port) = some t) (hoff : (s.port port).off % 8 = 0)
    (hq : s.findTeam t.uid = some q) (ht2 : s.team? q = some t2) (hsaved : ∀ x ∈ s.saved, x.blk.uid ≠ t.blk) (val : W64) :
    exec (.teamStateDataWrite port val) s = .next (s.setTeam q (t2.setRecordWord (s.port port).off val)) := by
  have hput : s.modUid t.uid (fun t' => if (s.port port).off % 8 = 0 then t'.setRecordWord (s.port port).off
      (BitVec.ofNat 64 (mergeData (t'.recordWord (s.blockByUid t.blk) (s.rfoffOf t) (s.port port).off) (s.port port).off (s.port port).off val))
      else t') = s.setTeam q (t2.setRecordWord (s.port port).off val) := by
    rw [State.modUid, hq]
    dsimp only
    rw [State.modTeam, ht2]
    dsimp only
    rw [if_pos hoff, mergeData_aligned]
  rw [exec_teamStateDataWrite, execTeamStateDataWrite]
  dsimp only
  rw [hd]
  dsimp only
  simp only [if_pos hoff, show (s.port port).off / 8 * 8 = (s.port port).off by omega] at hput ⊢
  rw [hput, if_neg]
  rw [State.setTeam_saved, Bool.not_eq_true, List.any_eq_false]
  exact fun x hx he => hsaved x hx (by simpa using he)

/-- Where the team stands in a slot of a core that does not trace, the frame's end changes the team alone. -/
theorem team?_frameDone {q : Nat × Nat} {t2 : Team} (hq : s.findTeam t.uid = some q) (ht2 : s.team? q = some t2)
    (htrace : (s.core q.1).trace.on = false) (signal : Nat) (entry : W57) (f : W64) :
    (s.frameDone port t signal entry f).team? q = some (t2.enterHandler signal entry f) := by
  have hmod : s.modUid t.uid (fun t' => t'.enterHandler signal entry f) = s.setTeam q (t2.enterHandler signal entry f) := by
    rw [State.modUid, hq]
    dsimp only
    rw [State.modTeam, ht2]
  have hfind : (s.setTeam q (t2.enterHandler signal entry f)).findTeam t.uid = some q := findTeam_setTeam hq ht2 rfl
  have htraced : ((s.setTeam q (t2.enterHandler signal entry f)).traced q (t2.enterHandler signal entry f)) = false := by
    have hon : ((s.setTeam q (t2.enterHandler signal entry f)).core q.1).trace.on = false := by
      rw [State.setTeam, core_setCore]
      exact htrace
    rw [State.traced]
    rw [hon]
    rfl
  have hchanged : (s.setTeam q (t2.enterHandler signal entry f)).traceChanged q t = s.setTeam q (t2.enterHandler signal entry f) := by
    rw [State.traceChanged, team?_setTeam]
    dsimp only
    rw [if_neg (by simp [htraced])]
  rw [State.frameDone, hmod]
  dsimp only
  rw [hfind]
  dsimp only
  rw [hchanged]
  exact team?_setTeam ..

theorem port_frameDone (signal : Nat) (entry : W57) (f : W64) : ((s.frameDone port t signal entry f).port port).status = 0 := by
  unfold State.frameDone
  exact congrArg Port.status (port_setPort ..)

theorem execFrame_done {u : Nat} {s1 s2 : State} (hu : s.portTeam (s.port port) = some u) (ht : s.teamByUid u = some t) (hpark : t.parked = true)
    (hcheck : s.unitCheck (s.frameAgent port t) (wide ((s.port port).stack.setWidth 57) - BitVec.ofNat 64 t.frameSize)
      (t.frame (s.port port).signal).length = (.ok (), s1))
    (hwrite : s1.frameWrite (s.frameAgent port t) (wide ((s.port port).stack.setWidth 57) - BitVec.ofNat 64 t.frameSize)
      (t.frame (s.port port).signal) = (.ok (), s2)) :
    exec (.frame port) s = .next (s2.frameDone port t (s.port port).signal ((s.port port).entry.setWidth 57)
      (wide ((s.port port).stack.setWidth 57) - BitVec.ofNat 64 t.frameSize)) := by
  have hteam : ((s.portTeam (s.port port)).bind s.teamByUid).filter (fun t => t.parked) = some t := by
    rw [hu, Option.bind_some, ht, Option.filter_some, if_pos hpark]
  rw [exec_frame, execFrame]
  dsimp only
  rw [hteam]
  dsimp only
  rw [hcheck]
  dsimp only
  rw [hwrite]

/-- A resident team whose block is not in a swap-out is destroyed in the step. -/
theorem execKill_resident {u : Nat} {q : Nat × Nat} (hu : s.portTeam (s.port port) = some u) (ht : s.teamByUid u = some t)
    (hq : s.findTeam t.uid = some q) (htq : s.team? q = some t) (hswap : ((s.blockByUid t.blk).map Block.swapping).getD false = false) :
    exec (.kill port) s = .next ((s.killResident q t).setPort port
      { s.port port with status := if ((s.killResident q t).teamByUid t.uid).isSome then 1 else 0, ended := true }) := by
  rw [exec_kill, execKill]
  dsimp only
  rw [hu, Option.bind_some, ht]
  dsimp only
  rw [hswap, if_neg (by decide)]
  dsimp only
  rw [hq]
  dsimp only
  simp only [hswap, Bool.false_eq_true, if_false, htq]

end

theorem enterHandler_effect (t : Team) (n : Nat) (entry : W57) (f : W64) :
    (t.enterHandler n entry f).s 1 = BitVec.ofNat 64 n ∧ (t.enterHandler n entry f).s 2 = f ∧
      ∀ k, k ≠ 1 → k ≠ 2 → (t.enterHandler n entry f).s k = t.s k := by
  refine ⟨?_, ?_, fun k h1 h2 => ?_⟩
  · rw [Team.enterHandler, Team.s_setS, if_neg (by omega), Team.s_setS, if_pos (by omega)]
  · rw [Team.enterHandler, Team.s_setS, if_pos (by omega)]
  · rw [Team.enterHandler, Team.s_setS, if_neg (by omega), Team.s_setS, if_neg (by omega)]
    rfl

theorem portStatus_cases (s : State) (p : Port) : (p.status = 1 → s.portStatus p = 1) ∧
    (∀ t, s.dataTeam p = some t → s.portStatus p = p.status) ∧
    (s.dataTeam p = none → p.status ≠ 1 → p.ended = false → s.portStatus p = 3) := by
  refine ⟨fun h => ?_, fun t h => ?_, fun hd hs he => ?_⟩
  · rw [State.portStatus, if_pos (Or.inl h), h]
  · exact if_pos (Or.inr (Or.inl (Option.isSome_of_eq_some h)))
  · exact if_neg (by simp [hd, hs, he])

/-- Settles O58: each step by its own rule, the team of a slot being found where it stands. -/
theorem supervisorPort : Obligations.SupervisorPort := by
  unfold Obligations.SupervisorPort
  refine ⟨fun s core => ⟨exec_supervisorTimer s, exec_doorbell s⟩,
    fun s core => ⟨execSupresume_waits, fun hw hl hv hc => ⟨fun h0 => ?zero, fun h0 => ?other⟩⟩,
    fun s ws rest h => ?mail, fun s port t hd hoff => ⟨?read, fun val q t2 hq ht2 hsaved => ?write⟩, fun s port val hd => ⟨?nowrite, ?noread⟩,
    portStatus_cases, fun s port u t s1 s2 hu ht hpark hcheck hwrite => ?frame, fun t n entry f => ?enter,
    fun s port u t q hu ht hq htq hswap => ?kill, fun s p t b hb => team?_endTeam hb, fun s port => exec_release s⟩
  case zero => exact (execSupresume_consumes hw hl hv hc).trans (congrArg Host.Outcome.next (if_neg (not_not.2 h0)))
  case other => exact (execSupresume_consumes hw hl hv hc).trans (congrArg Host.Outcome.next (if_pos h0))
  case mail =>
    refine ⟨takeNumber_fst s, congrArg Prod.fst (takeNumber_mailHeld s), congrArg Prod.snd (takeNumber_mailHeld s), execMailboxPost_waits h,
      fun hw hroom => execMailboxPost_full h hw (Nat.not_lt.1 (of_decide_eq_false hroom)),
      fun hw hroom hlow hhigh => execMailboxPost_goes h rfl hw (of_decide_eq_true hroom) hlow hhigh⟩
  case read =>
    rw [exec_teamStateDataRead, execTeamStateDataRead]
    dsimp only
    rw [dataWord_aligned hd hoff]
  case write =>
    exact ⟨_, execTeamStateDataWrite_aligned hd hoff hq ht2 hsaved val, team?_setTeam .., rfl⟩
  case nowrite =>
    rw [exec_teamStateDataWrite, execTeamStateDataWrite]
    dsimp only
    rw [hd]
  case noread =>
    rw [exec_teamStateDataRead, execTeamStateDataRead]
    dsimp only
    rw [State.dataWord, hd]
    rfl
  case frame =>
    exact ⟨_, execFrame_done hu ht hpark hcheck hwrite, port_frameDone .., fun q t2 hq ht2 htrace => team?_frameDone hq ht2 htrace ..⟩
  case enter =>
    obtain ⟨h1, h2, hrest⟩ := enterHandler_effect t n entry f
    exact ⟨rfl, rfl, rfl, rfl, rfl, rfl, h1, h2, rfl, rfl, hrest⟩
  case kill =>
    exact ⟨_, execKill_resident hu ht hq htq hswap, setPort_mem .., setPort_cores .., congrArg Port.status (port_setPort ..)⟩

end Sys2Proof.Machine
end

section
/-! The form of memory (log 5) over the operations of the machine's state: first what it means that the answer of an operation has
it, then the operations in the order of their definitions, up to the trace. An operation that does not touch memory keeps the form
because its memory is the one it was given; one that does writes through `memSetAll`, or drops cells. -/

namespace Sys2Proof.Machine

/-! ### What it means to keep the form of memory -/

/-- The outcome, if it is a next state, has memory in its canonical form. -/
def Keeps : Result → Prop
  | .next s => MemoryInv s
  | .fault _ | .refused _ => True

/-- The state a wait for stores goes on with has memory in its canonical form. -/
def StoreWait.Keeps : StoreWait → Prop
  | .done s | .stuck s _ | .lost s _ _ => MemoryInv s

/-- The state after the fetch of a unit has memory in its canonical form. -/
def UnitRes.Keeps : UnitRes → Prop
  | .ok _ s | .fault _ s | .bad _ _ s | .hold _ s => MemoryInv s

/-- The state after the check of a destination's units has memory in its canonical form. -/
def Units.Keeps : Units → Prop
  | .ok _ s | .fault _ s | .held _ s => MemoryInv s

/-- The state after an engine's accesses has memory in its canonical form. -/
def Engine.Keeps : Engine → Prop
  | .ok _ s | .fault _ s | .held s => MemoryInv s

/-- The state after the fetch of a source has memory in its canonical form. -/
def Fetched.Keeps : Fetched → Prop
  | .ok _ _ s | .fault _ s | .held s => MemoryInv s

/-- The state after the load of some words has memory in its canonical form. -/
def Loaded.Keeps : Loaded → Prop
  | .ok _ s | .fault _ s | .hold _ s => MemoryInv s

/-- The state after the fetch of words has memory in its canonical form. -/
def FetchRes.Keeps : FetchRes → Prop
  | .ok _ s | .stop _ s => MemoryInv s

/-- The state at the end of a unit of `EXEC` has memory in its canonical form. -/
def ExecEnd.Keeps : ExecEnd → Prop
  | .more s | .held s _ | .stop s _ _ _ => MemoryInv s
  | .stuck r => Machine.Keeps r

/-- The state after a lane's access has memory in its canonical form. -/
def MemRes.Keeps : MemRes → Prop
  | .ok s _ | .fault _ s | .hold _ s => MemoryInv s

section
variable {s s' : State}

theorem memoryInv_iff : MemoryInv s ↔ Memory.wf s.mem = true := Iff.rfl

theorem memoryInv_of_mem (e : s'.mem = s.mem) (h : MemoryInv s) : MemoryInv s' := by
  unfold MemoryInv
  rw [e]
  exact h

theorem keeps_next (h : MemoryInv s) : Keeps (.next s) := h

theorem inv_of_snd {α : Type} {r : α × State} {x : α} (h : MemoryInv r.2) (e : r = (x, s)) : MemoryInv s := by
  rw [e] at h
  exact h

theorem ite_inv {c : Prop} [Decidable c] (h : MemoryInv s) (h' : MemoryInv s') : MemoryInv (if c then s else s') := by
  split
  · exact h
  · exact h'

theorem getD_inv {o : Option State} (ho : ∀ r, o = some r → MemoryInv r) (h : MemoryInv s) : MemoryInv (o.getD s) := by
  cases o with
  | none => exact h
  | some r => exact ho r rfl

theorem getD_keeps {o : Option StoreWait} {w : StoreWait} (ho : ∀ r, o = some r → r.Keeps) (h : w.Keeps) : (o.getD w).Keeps := by
  cases o with
  | none => exact h
  | some r => exact ho r rfl

theorem foldl_inv {α : Type} {f : State → α → State} (hf : ∀ s a, MemoryInv s → MemoryInv (f s a)) (l : List α) (h : MemoryInv s) :
    MemoryInv (l.foldl f s) :=
  List.foldlRecOn l f h fun s hs a _ => hf s a hs

end

section
variable {s : State}

/-! ### Teams, cores and faults -/

theorem setCore_inv {c k} (h : MemoryInv s) : MemoryInv (s.setCore c k) := h
theorem setTeam_inv {p t} (h : MemoryInv s) : MemoryInv (s.setTeam p t) := h

theorem modTeam_inv {p f} (h : MemoryInv s) : MemoryInv (s.modTeam p f) := by
  unfold State.modTeam
  grind only [setTeam_inv]

theorem draw_inv (h : MemoryInv s) : MemoryInv s.draw := h
theorem setDbg_inv {off x} (h : MemoryInv s) : MemoryInv (s.setDbg off x) := h
theorem parkAt_inv {p t pc f} (h : MemoryInv s) : MemoryInv (s.parkAt p t pc f) := memoryInv_of_mem (parkAt_mem ..) h
theorem recordStop_inv {cause watch core slot seq} (h : MemoryInv s) : MemoryInv (s.recordStop cause watch core slot seq) := h
theorem stopBlock_inv {c blk} (h : MemoryInv s) : MemoryInv (s.stopBlock c blk) := h
theorem takeFault_inv {p t pc f} (h : MemoryInv s) : MemoryInv (s.takeFault p t pc f) := memoryInv_of_mem (takeFault_mem ..) h
theorem unitFault_inv {t f} (h : MemoryInv s) : MemoryInv (s.unitFault t f) := memoryInv_of_mem (unitFault_mem ..) h

theorem onceFault_inv {t code sub addr} (h : MemoryInv s) :
    MemoryInv (s.onceFault t code sub addr) := memoryInv_of_mem (onceFault_mem ..) h

theorem afterUnit_inv {t} (h : MemoryInv s) : MemoryInv (s.afterUnit t) := h
theorem complete_inv {t} (h : MemoryInv s) : MemoryInv (s.complete t) := memoryInv_of_mem (complete_mem ..) h
theorem transfer_inv {t tgt loops} (h : MemoryInv s) : MemoryInv (s.transfer t tgt loops) := h

theorem transferChecked_inv {t tgt oddFaults loops} (h : MemoryInv s) :
    MemoryInv (s.transferChecked t tgt oddFaults loops) := memoryInv_of_mem (transferChecked_mem ..) h

theorem checkFault_inv {t vec code sub addr} (h : MemoryInv s) :
    MemoryInv (s.checkFault t vec code sub addr) := memoryInv_of_mem (checkFault_mem ..) h

/-! ### Waits, completion and the issue of a vector unit -/

theorem vecAlu_inv {t dst f} (h : MemoryInv s) : MemoryInv (s.vecAlu t dst f) := by
  unfold State.vecAlu
  grind only [unitFault_inv, complete_inv, setTeam_inv]

theorem vecOpWith_keeps {dst regs more f} (h : MemoryInv s) : Keeps (s.vecOpWith dst regs more f) := by
  unfold State.vecOpWith
  grind only [keeps_next, issue_inv, vecAlu_inv]

theorem vecOp_keeps {dst regs f} (h : MemoryInv s) : Keeps (s.vecOp dst regs f) := vecOpWith_keeps h
theorem vec1_keeps {d nw a f} (h : MemoryInv s) : Keeps (s.vec1 d nw a f) := vecOp_keeps h
theorem vec2_keeps {d nw a b f} (h : MemoryInv s) : Keeps (s.vec2 d nw a b f) := vecOp_keeps h
theorem vec3_keeps {d nw a b f} (h : MemoryInv s) : Keeps (s.vec3 d nw a b f) := vecOp_keeps h
theorem vecCmp_keeps {d a b f} (h : MemoryInv s) : Keeps (s.vecCmp d a b f) := vecOp_keeps h
theorem vecPair2_keeps {d nw a b f} (h : MemoryInv s) : Keeps (s.vecPair2 d nw a b f) := vecOp_keeps h

theorem once_inv {priv need} {body : Team → State} (h : MemoryInv s) (hbody : ∀ x, MemoryInv (body x)) :
    MemoryInv (s.once priv need body) := by
  unfold State.once
  grind only [complete_inv, issue_inv]

theorem scalarOp_keeps {need d f} (h : MemoryInv s) : Keeps (s.scalarOp need d f) := by
  unfold State.scalarOp
  grind only [keeps_next, once_inv, complete_inv]

theorem scalar2_keeps {d a b f} (h : MemoryInv s) : Keeps (s.scalar2 d a b f) := scalarOp_keeps h

/-! ### Integer instructions -/

theorem vecDiv_keeps {d nw a b sub f} (h : MemoryInv s) : Keeps (s.vecDiv d nw a b sub f) := vecOp_keeps h
theorem vec16_keeps {d a f} (h : MemoryInv s) : Keeps (s.vec16 d a f) := vec2_keeps h
@[simp] theorem execIaddI32_keeps {d a b nw} (h : MemoryInv s) : Keeps (execIaddI32 d a b nw s) := vec2_keeps h
@[simp] theorem execIsubI32_keeps {d a b nw} (h : MemoryInv s) : Keeps (execIsubI32 d a b nw s) := vec2_keeps h
@[simp] theorem execImulI32_keeps {d a b nw} (h : MemoryInv s) : Keeps (execImulI32 d a b nw s) := vec2_keeps h
@[simp] theorem execImadI32_keeps {d a b nw} (h : MemoryInv s) : Keeps (execImadI32 d a b nw s) := vec3_keeps h
@[simp] theorem execImulhI32_keeps {d a b nw} (h : MemoryInv s) : Keeps (execImulhI32 d a b nw s) := vec2_keeps h
@[simp] theorem execImulhN32_keeps {d a b nw} (h : MemoryInv s) : Keeps (execImulhN32 d a b nw s) := vec2_keeps h
@[simp] theorem execIabsI32_keeps {d a nw} (h : MemoryInv s) : Keeps (execIabsI32 d a nw s) := vec1_keeps h
@[simp] theorem execSel_keeps {d a b nw} (h : MemoryInv s) : Keeps (execSel d a b nw s) := vecOp_keeps h
@[simp] theorem execIdivI32_keeps {d a b nw} (h : MemoryInv s) : Keeps (execIdivI32 d a b nw s) := vecDiv_keeps h
@[simp] theorem execIdivN32_keeps {d a b nw} (h : MemoryInv s) : Keeps (execIdivN32 d a b nw s) := vecDiv_keeps h
@[simp] theorem execIremI32_keeps {d a b nw} (h : MemoryInv s) : Keeps (execIremI32 d a b nw s) := vecDiv_keeps h
@[simp] theorem execIremN32_keeps {d a b nw} (h : MemoryInv s) : Keeps (execIremN32 d a b nw s) := vecDiv_keeps h
@[simp] theorem execIminI32_keeps {d a b nw} (h : MemoryInv s) : Keeps (execIminI32 d a b nw s) := vec2_keeps h
@[simp] theorem execIminN32_keeps {d a b nw} (h : MemoryInv s) : Keeps (execIminN32 d a b nw s) := vec2_keeps h
@[simp] theorem execImaxI32_keeps {d a b nw} (h : MemoryInv s) : Keeps (execImaxI32 d a b nw s) := vec2_keeps h
@[simp] theorem execImaxN32_keeps {d a b nw} (h : MemoryInv s) : Keeps (execImaxN32 d a b nw s) := vec2_keeps h
@[simp] theorem execAndV_keeps {d a b nw} (h : MemoryInv s) : Keeps (execAndV d a b nw s) := vec2_keeps h
@[simp] theorem execOrV_keeps {d a b nw} (h : MemoryInv s) : Keeps (execOrV d a b nw s) := vec2_keeps h
@[simp] theorem execXorV_keeps {d a b nw} (h : MemoryInv s) : Keeps (execXorV d a b nw s) := vec2_keeps h
@[simp] theorem execAndn_keeps {d a b nw} (h : MemoryInv s) : Keeps (execAndn d a b nw s) := vec2_keeps h
@[simp] theorem execShlN32_keeps {d a b nw} (h : MemoryInv s) : Keeps (execShlN32 d a b nw s) := vec2_keeps h
@[simp] theorem execShrN32_keeps {d a b nw} (h : MemoryInv s) : Keeps (execShrN32 d a b nw s) := vec2_keeps h
@[simp] theorem execSarI32_keeps {d a b nw} (h : MemoryInv s) : Keeps (execSarI32 d a b nw s) := vec2_keeps h
@[simp] theorem execRotN32_keeps {d a b nw} (h : MemoryInv s) : Keeps (execRotN32 d a b nw s) := vec2_keeps h
@[simp] theorem execClz_keeps {d a nw} (h : MemoryInv s) : Keeps (execClz d a nw s) := vec1_keeps h
@[simp] theorem execPopc_keeps {d a nw} (h : MemoryInv s) : Keeps (execPopc d a nw s) := vec1_keeps h
@[simp] theorem execBrev_keeps {d a nw} (h : MemoryInv s) : Keeps (execBrev d a nw s) := vec1_keeps h
@[simp] theorem execBfx_keeps {d a b nw} (h : MemoryInv s) : Keeps (execBfx d a b nw s) := vec2_keeps h
@[simp] theorem execBfi_keeps {d a b nw} (h : MemoryInv s) : Keeps (execBfi d a b nw s) := vec3_keeps h
@[simp] theorem execMovV_keeps {d a nw} (h : MemoryInv s) : Keeps (execMovV d a nw s) := vec1_keeps h
@[simp] theorem execIaddI64V_keeps {d a b nw} (h : MemoryInv s) : Keeps (execIaddI64V d a b nw s) := vecPair2_keeps h
@[simp] theorem execIsubI64V_keeps {d a b nw} (h : MemoryInv s) : Keeps (execIsubI64V d a b nw s) := vecPair2_keeps h
@[simp] theorem execIaddI64S_keeps {d a b} (h : MemoryInv s) : Keeps (execIaddI64S d a b s) := scalar2_keeps h
@[simp] theorem execIsubI64S_keeps {d a b} (h : MemoryInv s) : Keeps (execIsubI64S d a b s) := scalar2_keeps h
@[simp] theorem execImulI64_keeps {d a b} (h : MemoryInv s) : Keeps (execImulI64 d a b s) := scalar2_keeps h
@[simp] theorem execAndS_keeps {d a b} (h : MemoryInv s) : Keeps (execAndS d a b s) := scalar2_keeps h
@[simp] theorem execOrS_keeps {d a b} (h : MemoryInv s) : Keeps (execOrS d a b s) := scalar2_keeps h
@[simp] theorem execXorS_keeps {d a b} (h : MemoryInv s) : Keeps (execXorS d a b s) := scalar2_keeps h
@[simp] theorem execShlN64_keeps {d a b} (h : MemoryInv s) : Keeps (execShlN64 d a b s) := scalar2_keeps h
@[simp] theorem execShrN64_keeps {d a b} (h : MemoryInv s) : Keeps (execShrN64 d a b s) := scalar2_keeps h
@[simp] theorem execSarI64_keeps {d a b} (h : MemoryInv s) : Keeps (execSarI64 d a b s) := scalar2_keeps h
@[simp] theorem execMovS_keeps {d a} (h : MemoryInv s) : Keeps (execMovS d a s) := scalarOp_keeps h
@[simp] theorem execIcmpEqI32_keeps {d a b} (h : MemoryInv s) : Keeps (execIcmpEqI32 d a b s) := vecCmp_keeps h
@[simp] theorem execIcmpLtI32_keeps {d a b} (h : MemoryInv s) : Keeps (execIcmpLtI32 d a b s) := vecCmp_keeps h
@[simp] theorem execIcmpLtN32_keeps {d a b} (h : MemoryInv s) : Keeps (execIcmpLtN32 d a b s) := vecCmp_keeps h
@[simp] theorem execIcmpEqI64_keeps {d a b} (h : MemoryInv s) : Keeps (execIcmpEqI64 d a b s) := scalar2_keeps h
@[simp] theorem execIcmpLtI64_keeps {d a b} (h : MemoryInv s) : Keeps (execIcmpLtI64 d a b s) := scalar2_keeps h
@[simp] theorem execIcmpLtN64_keeps {d a b} (h : MemoryInv s) : Keeps (execIcmpLtN64 d a b s) := scalar2_keeps h
@[simp] theorem execLidV_keeps {d nw} (h : MemoryInv s) : Keeps (execLidV d nw s) := vecOp_keeps h
@[simp] theorem execLidS_keeps {d} (h : MemoryInv s) : Keeps (execLidS d s) := scalarOp_keeps h
@[simp] theorem execIaddI32Imm_keeps {d a imm nw} (h : MemoryInv s) : Keeps (execIaddI32Imm d a imm nw s) := vec1_keeps h
@[simp] theorem execIaddI64Imm_keeps {d a imm} (h : MemoryInv s) : Keeps (execIaddI64Imm d a imm s) := scalarOp_keeps h
@[simp] theorem execMoviV_keeps {d imm nw} (h : MemoryInv s) : Keeps (execMoviV d imm nw s) := vecOp_keeps h
@[simp] theorem execMoviS_keeps {d imm} (h : MemoryInv s) : Keeps (execMoviS d imm s) := scalarOp_keeps h
@[simp] theorem execLea_keeps {d imm} (h : MemoryInv s) : Keeps (execLea d imm s) := scalarOp_keeps h

@[simp] theorem execLimm_keeps {value} (h : MemoryInv s) : Keeps (execLimm value s) := by
  unfold execLimm
  grind only [= memoryInv_iff, keeps_next]

@[simp] theorem execMov16_keeps {d a} (h : MemoryInv s) : Keeps (execMov16 d a s) := vec1_keeps h
@[simp] theorem execIadd16_keeps {d a} (h : MemoryInv s) : Keeps (execIadd16 d a s) := vec16_keeps h
@[simp] theorem execIsub16_keeps {d a} (h : MemoryInv s) : Keeps (execIsub16 d a s) := vec16_keeps h
@[simp] theorem execImul16_keeps {d a} (h : MemoryInv s) : Keeps (execImul16 d a s) := vec16_keeps h
@[simp] theorem execAnd16_keeps {d a} (h : MemoryInv s) : Keeps (execAnd16 d a s) := vec16_keeps h
@[simp] theorem execOr16_keeps {d a} (h : MemoryInv s) : Keeps (execOr16 d a s) := vec16_keeps h
@[simp] theorem execXor16_keeps {d a} (h : MemoryInv s) : Keeps (execXor16 d a s) := vec16_keeps h
@[simp] theorem execShl16_keeps {d a} (h : MemoryInv s) : Keeps (execShl16 d a s) := vec16_keeps h
@[simp] theorem execShr16_keeps {d a} (h : MemoryInv s) : Keeps (execShr16 d a s) := vec16_keeps h
@[simp] theorem execSar16_keeps {d a} (h : MemoryInv s) : Keeps (execSar16 d a s) := vec16_keeps h
@[simp] theorem execImin16_keeps {d a} (h : MemoryInv s) : Keeps (execImin16 d a s) := vec16_keeps h
@[simp] theorem execImax16_keeps {d a} (h : MemoryInv s) : Keeps (execImax16 d a s) := vec16_keeps h

/-! ### Stores to memory and to lines -/

theorem modDir_inv {pa f} (h : MemoryInv s) : MemoryInv (s.modDir pa f) := memoryInv_of_mem (modDir_mem ..) h
theorem share_inv {d line} (h : MemoryInv s) : MemoryInv (s.share d line) := memoryInv_of_mem (share_mem ..) h
theorem invalidate_inv {c pa} (h : MemoryInv s) : MemoryInv (s.invalidate c pa) := memoryInv_of_mem (invalidate_mem ..) h

theorem invalidateLine_inv {c line} (h : MemoryInv s) :
    MemoryInv (s.invalidateLine c line) := memoryInv_of_mem (invalidateLine_mem ..) h

theorem await_inv {c pa engine} (h : MemoryInv s) : MemoryInv (s.await c pa engine) := memoryInv_of_mem (await_mem ..) h

theorem awaitLine_inv {c line engine} (h : MemoryInv s) :
    MemoryInv (s.awaitLine c line engine) := memoryInv_of_mem (awaitLine_mem ..) h

theorem setStamp_inv {line wts rts} (h : MemoryInv s) : MemoryInv (s.setStamp line wts rts) := h

theorem evictLine_inv {line} (h : MemoryInv s) : MemoryInv (s.evictLine line) := by
  unfold State.evictLine
  grind only [= memoryInv_iff]

theorem loadHome_inv {c line} (h : MemoryInv s) : MemoryInv (s.loadHome c line).2 := h
theorem stampStore_inv {c line} (h : MemoryInv s) : MemoryInv (s.stampStore c line) := h
theorem stampAgent_inv {line} (h : MemoryInv s) : MemoryInv (s.stampAgent line) := h

theorem l1Fill_inv {c line} (h : MemoryInv s) : MemoryInv (s.l1Fill c line).1 := by
  unfold State.l1Fill
  grind only [setStamp_inv, share_inv, setCore_inv]

theorem acceptStore_inv {c p} (h : MemoryInv s) : MemoryInv (s.acceptStore c p) := memoryInv_of_mem (State.acceptStore_mem ..) h
theorem sealStores_inv {c uid} (h : MemoryInv s) : MemoryInv (s.sealStores c uid) := h
theorem refreshL1_inv {c line} (h : MemoryInv s) : MemoryInv (s.refreshL1 c line) := h

theorem loadCached_inv {c uid pa n} (h : MemoryInv s) : MemoryInv (s.loadCached c uid pa n).2.2 := by
  unfold State.loadCached
  grind only [drainLine_inv, l1Fill_inv, setCore_inv]

theorem loadAtHome_inv {c pa n} (h : MemoryInv s) : MemoryInv (s.loadAtHome c pa n).2.2 := by
  unfold State.loadAtHome
  grind only [loadHome_inv, drainLine_inv, refreshL1_inv]

/-! ### Translation -/

theorem walkKeep_inv {d pasid va x} (h : MemoryInv s) : MemoryInv (s.walkKeep d pasid va x) := by
  unfold State.walkKeep
  grind only [= memoryInv_iff]

theorem tlbKeep_inv {c x} (h : MemoryInv s) : MemoryInv (s.tlbKeep c x) := h

theorem translate_inv {a va n} (h : MemoryInv s) : MemoryInv (s.translate a va n).2 := by
  unfold State.translate
  grind only [tlbKeep_inv, await_inv, walkKeep_inv, setCore_inv, storeHome_inv, invalidate_inv]

theorem touchDir_inv {leaf pa} (h : MemoryInv s) : MemoryInv (s.touchDir leaf pa) := by
  unfold State.touchDir
  grind only [= memoryInv_iff]

/-! ### The on-chip windows -/

theorem winSetByte_inv {c off b} (h : MemoryInv s) : MemoryInv (s.winSetByte c off b) := by
  unfold State.winSetByte
  grind only [setTeam_inv, memWrite_inv]

theorem winWrite_inv {c off bs} (h : MemoryInv s) : MemoryInv (s.winWrite c off bs) := by
  induction bs generalizing s off with
  | nil => exact h
  | cons b bs ih => exact ih (winSetByte_inv h)

/-! ### Teams by identity and the save slots -/

theorem modUid_inv {uid f} (h : MemoryInv s) : MemoryInv (s.modUid uid f) := by
  unfold State.modUid
  grind only [= memoryInv_iff, modTeam_inv]

theorem touchRange_inv {lo n} (h : MemoryInv s) : MemoryInv (s.touchRange lo n) := h

theorem storeWords_inv {pa ws} (h : MemoryInv s) : MemoryInv (s.storeWords pa ws) := by
  unfold State.storeWords
  grind only [touchRange_inv, memWrite_inv]

theorem storeTeam_inv {base ts b t} (h : MemoryInv s) : MemoryInv (s.storeTeam base ts b t) := by
  unfold State.storeTeam
  grind only [storeWords_inv]

theorem syncSaved_inv {uid} (h : MemoryInv s) : MemoryInv (s.syncSaved uid) := by
  unfold State.syncSaved
  grind only [foldl_inv, storeTeam_inv]

/-! ### Device registers -/

theorem keepSlice_inv {off} (h : MemoryInv s) : MemoryInv (s.keepSlice off) := h
theorem mmioStore_inv {off bs} (h : MemoryInv s) : MemoryInv (s.mmioStore off bs) := h

theorem mmioTouch_inv {off} (h : MemoryInv s) : MemoryInv (s.mmioTouch off) := by
  unfold State.mmioTouch
  grind only [= memoryInv_iff, keepSlice_inv, draw_inv]

/-! ### Accesses of teams -/

theorem locate_inv {a size k va} (h : MemoryInv s) : MemoryInv (s.locate a size k va).2 := by
  unfold State.locate
  grind only [translate_inv]

theorem secondPage_inv {a k first va} (h : MemoryInv s) : MemoryInv (s.secondPage a k first va).2 := by
  unfold State.secondPage
  grind only [locate_inv]

theorem access0_inv {a va size align k} (h : MemoryInv s) : MemoryInv (s.access0 a va size align k).2.2 := by
  unfold State.access0
  split
  · exact h
  · split
    · exact h
    · have h1 := locate_inv (a := a) (size := size) (k := k) (va := va) h
      split
      · next e => rw [e] at h1; exact h1
      · next s1 e =>
        rw [e] at h1
        split
        · next e2 =>
          obtain ⟨y, -, hy⟩ := Option.map_eq_some_iff.1 e2
          exact (congrArg Prod.snd hy) ▸ secondPage_inv h1
        · next e2 =>
          obtain ⟨y, -, hy⟩ := Option.map_eq_some_iff.1 e2
          exact (congrArg Prod.snd hy) ▸ secondPage_inv h1
        · exact h1

theorem taken_inv {p leaf} (h : MemoryInv s) : MemoryInv (s.taken p leaf).2 := by
  unfold State.taken
  grind only [touchDir_inv]

theorem access_inv {a va size align k} (h : MemoryInv s) : MemoryInv (s.access a va size align k).2 := by
  unfold State.access
  grind only [access0_inv, taken_inv]

theorem deviceFirst_inv {c uid p} (h : MemoryInv s) : MemoryInv (s.deviceFirst c uid p) := by
  unfold State.deviceFirst
  grind only [drainCore_inv]

theorem endPass_inv {c uid} (h : MemoryInv s) : MemoryInv (s.endPass c uid) := by
  unfold State.endPass
  grind only [setCore_inv]

theorem doLoad_inv {c uid p n} (h : MemoryInv s) : MemoryInv (s.doLoad c uid p n).2.2 := by
  unfold State.doLoad
  grind only [loadHome_inv, mmioTouch_inv, deviceFirst_inv, draw_inv, loadCached_inv, loadAtHome_inv]

theorem doLdb_inv {c uid p n} (h : MemoryInv s) : MemoryInv (s.doLdb c uid p n).2.2 := by
  unfold State.doLdb
  grind only [mmioTouch_inv]

theorem doStore_inv {c uid p bs tag} (h : MemoryInv s) : MemoryInv (s.doStore c uid p bs tag) := by
  unfold State.doStore
  grind only [stampStore_inv, winWrite_inv, mmioStore_inv, acceptStore_inv, storeHome_inv, invalidate_inv, drainLine_inv]

theorem doAtomic_inv {s0 : State} {c uid p n f} (h : MemoryInv s0) : MemoryInv (s0.doAtomic c uid p n f).2.2 := by
  unfold State.doAtomic
  grind only [sealStores_inv, loadAtHome_inv, loadHome_inv, stampStore_inv, winWrite_inv, mmioStore_inv, deviceFirst_inv,
    acceptStore_inv, draw_inv, storeHome_inv, invalidate_inv]

theorem doRed_inv {c uid p x} (h : MemoryInv s) : MemoryInv (s.doRed c uid p x) := by
  unfold State.doRed
  grind only [sealStores_inv, setCore_inv, acceptStore_inv, doAtomic_inv]

theorem sawStamp_inv {w} (h : MemoryInv s) : MemoryInv (s.sawStamp w) := modTeam_inv h
theorem acquireTo_inv {t w} (h : MemoryInv s) : MemoryInv (s.acquireTo t w) := h

theorem acquire_inv (h : MemoryInv s) : MemoryInv s.acquire := by
  unfold State.acquire
  grind only [acquireTo_inv]

theorem acquireLoad_inv {w} (h : MemoryInv s) : MemoryInv (s.acquireLoad w) := by
  unfold State.acquireLoad
  grind only [acquireTo_inv]

theorem reportLost_inv {t sel} {s1} (h : MemoryInv s) (e : s.reportLost t sel = some s1) : s1.Keeps := by
  grind [State.reportLost, StoreWait.Keeps, setTeam_inv]

theorem drainFor_inv {c sel} (h : MemoryInv s) : MemoryInv (s.drainFor c sel) := drainCore_inv _ _ h

theorem storesComplete_keeps {scope sel} (h : MemoryInv s) : (s.storesComplete scope sel).Keeps := by
  unfold State.storesComplete
  split
  · exact h
  · have h2 {c uid sel p f} : MemoryInv (((s.sealStores c uid).drainFor c sel).modTeam p f) :=
      modTeam_inv (drainFor_inv (sealStores_inv h))
    dsimp only
    split
    · exact h2
    · split
      · split
        · exact setCore_inv h2
        · exact h2
      · refine getD_keeps (fun r e => reportLost_inv ?_ e) ?_
        all_goals
          split
          · exact setCore_inv h2
          · exact h2

theorem afterStores_inv {scope vec sel} {k : State → Team → State} (h : MemoryInv s)
    (hk : ∀ s' x, MemoryInv s' → MemoryInv (k s' x)) : MemoryInv (s.afterStores scope vec sel k) := by
  unfold State.afterStores
  grind only [storesComplete_keeps, StoreWait.Keeps, setTeam_inv, unitFault_inv]

/-! ### The lock directory -/

theorem queueReadmit_inv {blk} (h : MemoryInv s) : MemoryInv (s.queueReadmit blk) := memoryInv_of_mem (queueReadmit_mem ..) h
theorem queueSaved_inv {sel} (h : MemoryInv s) : MemoryInv (s.queueSaved sel) := memoryInv_of_mem (queueSaved_mem ..) h
theorem readmitTeam_inv {uid} (h : MemoryInv s) : MemoryInv (s.readmitTeam uid) := memoryInv_of_mem (readmitTeam_mem ..) h
theorem postReport_inv {c words} (h : MemoryInv s) : MemoryInv (s.postReport c words) := memoryInv_of_mem (postReport_mem ..) h

theorem reportAbandon_inv {uid obj} (h : MemoryInv s) :
    MemoryInv (s.reportAbandon uid obj) := memoryInv_of_mem (reportAbandon_mem ..) h

theorem setLock_inv {obj r} (h : MemoryInv s) : MemoryInv (s.setLock obj r) := memoryInv_of_mem (setLock_mem ..) h

theorem lockReply_inv {uid obj st} (h : MemoryInv s) : MemoryInv (s.lockReply uid obj st) := by
  unfold State.lockReply
  grind only [readmitTeam_inv, modUid_inv]

theorem stampLock_inv {c obj grain} (h : MemoryInv s) :
    MemoryInv (s.stampLock c obj grain) := memoryInv_of_mem (stampLock_mem ..) h

theorem recallLock_inv {obj grain} (h : MemoryInv s) :
    MemoryInv (s.recallLock obj grain) := memoryInv_of_mem (recallLock_mem ..) h

theorem grantNow_inv {obj r w abandoned} (h : MemoryInv s) : MemoryInv (s.grantNow obj r w abandoned) := by
  unfold State.grantNow
  grind only [lockReply_inv, setLock_inv, reportAbandon_inv]

theorem passOn_inv {obj r abandoned} (h : MemoryInv s) :
    MemoryInv (s.passOn obj r abandoned) := memoryInv_of_mem (passOn_mem ..) h

theorem passOver_inv {obj r w} (h : MemoryInv s) : MemoryInv (s.passOver obj r w) := by
  unfold State.passOver
  grind only [setLock_inv, passOn_inv, lockReply_inv]

theorem deliverGrant_inv {obj} (h : MemoryInv s) : MemoryInv (s.deliverGrant obj) := by
  unfold State.deliverGrant
  grind only [lockReply_inv, l1Fill_inv]

theorem enqueue_inv {obj r w ahead} (h : MemoryInv s) : MemoryInv (s.enqueue obj r w ahead) := by
  unfold State.enqueue
  grind only [= memoryInv_iff, =_ memoryInv_iff, lockReply_inv, setLock_inv, modUid_inv, passOver_inv]

theorem parkWaiter_inv {uid f} (h : MemoryInv s) : MemoryInv (s.parkWaiter uid f) := by
  unfold State.parkWaiter
  grind only [= memoryInv_iff, readmitTeam_inv, modUid_inv, takeFault_inv, =_ memoryInv_iff, syncSaved_inv]

theorem handleRequest_inv {q} (h : MemoryInv s) : MemoryInv (s.handleRequest q) := by
  unfold State.handleRequest
  grind only [= memoryInv_iff, parkWaiter_inv, =_ memoryInv_iff, lockReply_inv, grantNow_inv, enqueue_inv]

theorem releaseLock_inv {c obj abandoned} (h : MemoryInv s) : MemoryInv (s.releaseLock c obj abandoned) := by
  unfold State.releaseLock
  grind only [passOn_inv, stampLock_inv]

theorem dropWaiter_inv {obj uid} (h : MemoryInv s) : MemoryInv (s.dropWaiter obj uid) := memoryInv_of_mem (dropWaiter_mem ..) h
theorem forgetLock_inv {uid w} (h : MemoryInv s) : MemoryInv (s.forgetLock uid w) := memoryInv_of_mem (forgetLock_mem ..) h

theorem endWait_inv {p t} (h : MemoryInv s) : MemoryInv (s.endWait p t) := by
  unfold State.endWait
  grind only [modTeam_inv, forgetLock_inv]

theorem settleWait_inv {p t} (h : MemoryInv s) : MemoryInv (s.settleWait p t) := by
  unfold State.settleWait
  grind only [endWait_inv]

theorem waitWith_inv {t w} (h : MemoryInv s) : MemoryInv (s.waitWith t w) := memoryInv_of_mem (waitWith_mem ..) h

@[simp] theorem execLockRequest_keeps {core slot} (h : MemoryInv s) : Keeps (execLockRequest core slot s) := by
  unfold execLockRequest
  grind only [= memoryInv_iff, keeps_next, handleRequest_inv]

@[simp] theorem execLockRelease_keeps {obj} (h : MemoryInv s) : Keeps (execLockRelease obj s) := by
  unfold execLockRelease
  grind only [keeps_next, passOn_inv]

@[simp] theorem execGrantDelivery_keeps {obj} (h : MemoryInv s) : Keeps (execGrantDelivery obj s) := by
  unfold execGrantDelivery
  grind only [keeps_next, deliverGrant_inv, recallLock_inv, setLock_inv, reportAbandon_inv]

@[simp] theorem execGrantWindowClose_keeps {obj} (h : MemoryInv s) : Keeps (execGrantWindowClose obj s) := by
  unfold execGrantWindowClose
  grind only [= memoryInv_iff, keeps_next, passOver_inv]

@[simp] theorem execLockDeadline_keeps {obj team} (h : MemoryInv s) : Keeps (execLockDeadline obj team s) := by
  unfold execLockDeadline
  grind only [= memoryInv_iff, keeps_next, lockReply_inv, dropWaiter_inv]

theorem restartProbe_inv {obj uid} (h : MemoryInv s) : MemoryInv (s.restartProbe obj uid) := by
  unfold State.restartProbe
  grind only [setLock_inv]

@[simp] theorem execDeadlockProbe_keeps {obj team} (h : MemoryInv s) : Keeps (execDeadlockProbe obj team s) := by
  unfold execDeadlockProbe
  grind only [= memoryInv_iff, keeps_next, restartProbe_inv]

@[simp] theorem execProbeHop_keeps {i} (h : MemoryInv s) : Keeps (execProbeHop i s) := by
  unfold execProbeHop
  grind only [= memoryInv_iff, keeps_next, parkWaiter_inv, dropWaiter_inv]

/-! ### Loads, stores, atomics, prefetches and fences -/

theorem memAccLane_inv {body : State → Team → Nat → MemRes} {acc : MemAcc} {l}
    (hbody : ∀ s' x y, MemoryInv s' → (body s' x y).Keeps) (h : MemoryInv acc.s) : MemoryInv (MemAcc.lane body acc l).s := by
  grind [MemAcc.lane, MemRes.Keeps, modTeam_inv]

theorem tileHold_inv {t c x} (h : MemoryInv s) : MemoryInv (s.tileHold t c x) := waitWith_inv h

theorem holdTeam_inv {t x} (h : MemoryInv s) : MemoryInv (s.holdTeam t x) := by
  unfold State.holdTeam
  grind only [tileHold_inv, awaitLine_inv, setTeam_inv]

theorem memAccFinish_inv {acc : MemAcc} {acq} (h : MemoryInv acc.s) : MemoryInv (MemAcc.finish acc acq) := by
  unfold MemAcc.finish
  grind only [= memoryInv_iff, acquireLoad_inv, holdTeam_inv, unitFault_inv, complete_inv, sawStamp_inv]

theorem memAccPass_inv {body : State → Team → Nat → MemRes} {uid} {acc : MemAcc} {ls}
    (hbody : ∀ s' x y, MemoryInv s' → (body s' x y).Keeps) (h : MemoryInv acc.s) : MemoryInv (MemAcc.pass body uid acc ls).s := by
  refine endPass_inv ?_
  exact List.foldlRecOn (motive := fun r : MemAcc => MemoryInv r.s) ls _ h fun r hr l _ => memAccLane_inv hbody hr

theorem memAccPasses_inv {body : State → Team → Nat → MemRes} {t} {acc : MemAcc} {ls}
    (hbody : ∀ s' x y, MemoryInv s' → (body s' x y).Keeps) (h : MemoryInv acc.s) : MemoryInv (MemAcc.passes body t acc ls).s := by
  exact List.foldlRecOn (motive := fun r : MemAcc => MemoryInv r.s) _ _ h fun r hr j _ => memAccPass_inv hbody hr

theorem vecMem_inv {t acq} {body : State → Team → Nat → MemRes} (h : MemoryInv s)
    (hbody : ∀ s' x y, MemoryInv s' → (body s' x y).Keeps) : MemoryInv (s.vecMem t acq body) := by
  unfold State.vecMem
  grind only [memAccPasses_inv, memAccFinish_inv]

theorem laneAccess_keeps {t regs l va size kind} {k : State → Phys → MemRes} (h : MemoryInv s)
    (hk : ∀ s' x, MemoryInv s' → (k s' x).Keeps) : (s.laneAccess t regs l va size kind k).Keeps := by
  unfold State.laneAccess
  grind only [MemRes.Keeps, access_inv]

theorem putLane_inv {dst l v} (h : MemoryInv s) : MemoryInv (s.putLane dst l v) := modTeam_inv h

theorem vecLoad_keeps {dst regs size acq addr} (h : MemoryInv s) : Keeps (s.vecLoad dst regs size acq addr) := by
  unfold State.vecLoad
  grind only [keeps_next, issue_inv, vecMem_inv, laneAccess_keeps, MemRes.Keeps, doLoad_inv, putLane_inv]

theorem vecStoreLanes_inv {t d regs size tag addr} (h : MemoryInv s) : MemoryInv (s.vecStoreLanes t d regs size tag addr) := by
  unfold State.vecStoreLanes
  grind only [vecMem_inv, laneAccess_keeps, MemRes.Keeps, doStore_inv]

theorem scalarAccess_inv {t va size kind} {k : State → Phys → State} (h : MemoryInv s)
    (hk : ∀ s' x, MemoryInv s' → MemoryInv (k s' x)) : MemoryInv (s.scalarAccess t va size kind k) := by
  unfold State.scalarAccess
  grind only [= memoryInv_iff, access_inv, onceFault_inv, holdTeam_inv]

theorem completeWith_inv {f} (h : MemoryInv s) : MemoryInv (s.completeWith f) := by
  unfold State.completeWith
  grind only [complete_inv]

theorem scalarLoad_keeps {d size acq addr} (h : MemoryInv s) : Keeps (s.scalarLoad d size acq addr) := by
  unfold State.scalarLoad
  grind only [keeps_next, once_inv, scalarAccess_inv, completeWith_inv, doLoad_inv, acquireLoad_inv, sawStamp_inv]

theorem scalarStoreNow_inv {t d size tag va} (h : MemoryInv s) : MemoryInv (s.scalarStoreNow t d size tag va) := by
  unfold State.scalarStoreNow
  grind only [scalarAccess_inv, completeWith_inv, doStore_inv]

@[simp] theorem execLdV_keeps {d size sb ix nw} (h : MemoryInv s) : Keeps (execLdV d size sb ix nw s) := vecLoad_keeps h
@[simp] theorem execLdS_keeps {d size sb ix} (h : MemoryInv s) : Keeps (execLdS d size sb ix s) := scalarLoad_keeps h

@[simp] theorem execStV_keeps {d size sb ix} (h : MemoryInv s) : Keeps (execStV d size sb ix s) := by
  unfold execStV
  grind only [keeps_next, issue_inv, vecStoreLanes_inv]

@[simp] theorem execStS_keeps {d size sb ix} (h : MemoryInv s) : Keeps (execStS d size sb ix s) := by
  unfold execStS
  grind only [keeps_next, once_inv, scalarStoreNow_inv]

theorem checkBytes_inv {a k n va} (h : MemoryInv s) : MemoryInv (s.checkBytes a k n va).2.2 := by
  induction n generalizing s va with
  | zero => exact h
  | succ n ih =>
    have h1 : MemoryInv (s.access0 a va 1 1 k).2.2 := access0_inv h
    unfold State.checkBytes
    split
    · next s1 e =>
      rw [e] at h1
      have h2 : MemoryInv (s1.checkBytes a k n (va + 1)).2.2 := ih h1
      split
      · next e2 => rw [e2] at h2; exact h2
      · exact h2
    · next e => rw [e] at h1; exact h1

theorem accessBytes_inv {a k n va} (h : MemoryInv s) : MemoryInv (s.accessBytes a k n va).2.2 := by
  have h1 := checkBytes_inv (a := a) (k := k) (n := n) (va := va) h
  unfold State.accessBytes
  split
  · next s1 e =>
    rw [e] at h1
    split
    · exact h1
    · exact List.foldlRecOn (motive := fun r : List Phys × State => MemoryInv r.2) _ _ h1 fun r hr x _ => taken_inv hr
  · next e => rw [e] at h1; exact h1

theorem lanePack_keeps {t regs l sp kind} {k : State → List Phys → MemRes} (h : MemoryInv s)
    (hk : ∀ s' x, MemoryInv s' → (k s' x).Keeps) : (s.lanePack t regs l sp kind k).Keeps := by
  unfold State.lanePack
  grind only [MemRes.Keeps, accessBytes_inv]

theorem loadByte_inv {c uid p} (h : MemoryInv s) : MemoryInv (s.loadByte c uid p).2.2 := by
  unfold State.loadByte
  grind only [loadAtHome_inv, doLoad_inv]

theorem loadEach_inv {c uid ps} (h : MemoryInv s) : MemoryInv (s.loadEach c uid ps).2.2 := by
  induction ps generalizing s with
  | nil => exact h
  | cons p ps ih => grind [State.loadEach, loadByte_inv]

theorem podLines_inv {c uid ps} (h : MemoryInv s) : MemoryInv (s.podLines c uid ps) := by
  unfold State.podLines
  grind only [foldl_inv, acceptStore_inv]

theorem storeBits_inv {c uid x mask ps} (h : MemoryInv s) : MemoryInv (s.storeBits c uid x mask ps) := by
  induction ps generalizing s x mask with
  | nil => exact h
  | cons p ps ih => grind [State.storeBits, doAtomic_inv]

@[simp] theorem execLdp_keeps {d size sb ix nw} (h : MemoryInv s) : Keeps (execLdp d size sb ix nw s) := by
  unfold execLdp
  grind only [keeps_next, issue_inv, vecMem_inv, lanePack_keeps, MemRes.Keeps, loadEach_inv, putLane_inv]

@[simp] theorem execStp_keeps {d size sb ix} (h : MemoryInv s) : Keeps (execStp d size sb ix s) := by
  unfold execStp
  grind only [keeps_next, issue_inv, vecMem_inv, lanePack_keeps, MemRes.Keeps, podLines_inv, storeBits_inv]

theorem releaseFirst_inv {rel scope vec t} {k : State → Team → State} (h : MemoryInv s)
    (hk : ∀ s' x, MemoryInv s' → MemoryInv (k s' x)) : MemoryInv (s.releaseFirst rel scope vec t k) := by
  unfold State.releaseFirst
  grind only [afterStores_inv]

@[simp] theorem execLdOrdV_keeps {d sb x ord scope} (h : MemoryInv s) : Keeps (execLdOrdV d sb x ord scope s) := vecLoad_keeps h

@[simp] theorem execLdOrdS_keeps {d sb x ord scope} (h : MemoryInv s) :
    Keeps (execLdOrdS d sb x ord scope s) := scalarLoad_keeps h

@[simp] theorem execStOrdV_keeps {d sb x ord scope} (h : MemoryInv s) : Keeps (execStOrdV d sb x ord scope s) := by
  unfold execStOrdV
  grind only [keeps_next, issue_inv, releaseFirst_inv, vecStoreLanes_inv]

@[simp] theorem execStOrdS_keeps {d sb x ord scope} (h : MemoryInv s) : Keeps (execStOrdS d sb x ord scope s) := by
  unfold execStOrdS
  grind only [keeps_next, once_inv, releaseFirst_inv, scalarStoreNow_inv]

theorem vecAtomic_keeps {dst regs sb x ord scope f} (h : MemoryInv s) : Keeps (s.vecAtomic dst regs sb x ord scope f) := by
  unfold State.vecAtomic
  grind only [keeps_next, issue_inv, releaseFirst_inv, vecMem_inv, laneAccess_keeps, MemRes.Keeps, doAtomic_inv, putLane_inv]

theorem scalarAtomic_keeps {d sb x ord scope f} (h : MemoryInv s) : Keeps (s.scalarAtomic d sb x ord scope f) := by
  unfold State.scalarAtomic
  grind only [keeps_next, once_inv, releaseFirst_inv, scalarAccess_inv, completeWith_inv, doAtomic_inv, endPass_inv,
    acquireLoad_inv, sawStamp_inv]

@[simp] theorem execAtomAddI32_keeps {d sb x ord scope} (h : MemoryInv s) :
    Keeps (execAtomAddI32 d sb x ord scope s) := vecAtomic_keeps h

@[simp] theorem execAtomAddI64_keeps {d sb x ord scope} (h : MemoryInv s) :
    Keeps (execAtomAddI64 d sb x ord scope s) := scalarAtomic_keeps h

@[simp] theorem execAtomExchI32_keeps {d sb x ord scope} (h : MemoryInv s) :
    Keeps (execAtomExchI32 d sb x ord scope s) := vecAtomic_keeps h

@[simp] theorem execAtomExchI64_keeps {d sb x ord scope} (h : MemoryInv s) :
    Keeps (execAtomExchI64 d sb x ord scope s) := scalarAtomic_keeps h

@[simp] theorem execAtomMaxI32_keeps {d sb x ord scope} (h : MemoryInv s) :
    Keeps (execAtomMaxI32 d sb x ord scope s) := vecAtomic_keeps h

@[simp] theorem execAtomMinI32_keeps {d sb x ord scope} (h : MemoryInv s) :
    Keeps (execAtomMinI32 d sb x ord scope s) := vecAtomic_keeps h

@[simp] theorem execRedAddI32_keeps {d sb x ord scope} (h : MemoryInv s) : Keeps (execRedAddI32 d sb x ord scope s) := by
  unfold execRedAddI32
  grind only [vecAtomic_keeps, keeps_next, issue_inv, releaseFirst_inv, vecMem_inv, laneAccess_keeps, MemRes.Keeps, doRed_inv]

@[simp] theorem execCasI32_keeps {d sb x ord scope} (h : MemoryInv s) : Keeps (execCasI32 d sb x ord scope s) := vecAtomic_keeps h

@[simp] theorem execCasI64_keeps {d sb x ord scope} (h : MemoryInv s) :
    Keeps (execCasI64 d sb x ord scope s) := scalarAtomic_keeps h

theorem vecLdb_keeps {dst a b size} (h : MemoryInv s) : Keeps (s.vecLdb dst a b size) := by
  unfold State.vecLdb
  grind only [keeps_next, issue_inv, draw_inv, vecMem_inv, laneAccess_keeps, MemRes.Keeps, doLdb_inv, putLane_inv]

@[simp] theorem execLdbN8_keeps {d a b nw} (h : MemoryInv s) : Keeps (execLdbN8 d a b nw s) := vecLdb_keeps h
@[simp] theorem execLdbN16_keeps {d a b nw} (h : MemoryInv s) : Keeps (execLdbN16 d a b nw s) := vecLdb_keeps h
@[simp] theorem execLdbN32_keeps {d a b nw} (h : MemoryInv s) : Keeps (execLdbN32 d a b nw s) := vecLdb_keeps h
@[simp] theorem execLdbN64_keeps {d a b nw} (h : MemoryInv s) : Keeps (execLdbN64 d a b nw s) := vecLdb_keeps h

theorem prefetch_keeps {a} {f : State → Phys → State} (h : MemoryInv s) (hf : ∀ s' x, MemoryInv s' → MemoryInv (f s' x)) :
    Keeps (s.prefetch a f) := by
  unfold State.prefetch
  grind only [keeps_next, once_inv, access_inv, complete_inv, completeWith_inv]

@[simp] theorem execPrefL1_keeps {a} (h : MemoryInv s) : Keeps (execPrefL1 a s) := by
  unfold execPrefL1
  grind only [prefetch_keeps, l1Fill_inv]

@[simp] theorem execPrefL2_keeps {a} (h : MemoryInv s) : Keeps (execPrefL2 a s) := by
  unfold execPrefL2
  grind only [prefetch_keeps, share_inv]

@[simp] theorem execPrefL2x_keeps {a} (h : MemoryInv s) : Keeps (execPrefL2x a s) := by
  unfold execPrefL2x
  grind only [prefetch_keeps, share_inv, invalidateLine_inv]

@[simp] theorem execFence_keeps {kind scope} (h : MemoryInv s) : Keeps (execFence kind scope s) := by
  unfold execFence
  grind only [keeps_next, once_inv, afterStores_inv, completeWith_inv, acquire_inv]

/-! ### Accesses of the device's own units -/

theorem agentWrite_inv {p bs} (h : MemoryInv s) : MemoryInv (s.agentWrite p bs) := by
  unfold State.agentWrite
  grind only [storeAgent_inv, stampAgent_inv, winWrite_inv, mmioStore_inv, invalidate_inv, invalidateLine_inv]

theorem unitPut_inv {pa bs} (h : MemoryInv s) : MemoryInv (s.unitPut pa bs) := by
  unfold State.unitPut
  grind only [storeAgent_inv, invalidate_inv, stampAgent_inv, winWrite_inv]

theorem unitStore_inv {src pa bs} (h : MemoryInv s) : MemoryInv (s.unitStore src pa bs) := by
  unfold State.unitStore
  grind only [= memoryInv_iff, =_ memoryInv_iff, await_inv, unitPut_inv]

theorem flushLate_inv (h : MemoryInv s) : MemoryInv s.flushLate := by
  unfold State.flushLate
  grind only [= memoryInv_iff, foldl_inv, unitStore_inv]

theorem logError_inv {src unit cls action addr ident} (h : MemoryInv s) :
    MemoryInv (s.logError src unit cls action addr ident) := unitStore_inv h

theorem unitHeld_inv {a va x} (h : MemoryInv s) : MemoryInv (s.unitHeld a va x) := by
  unfold State.unitHeld
  grind only [await_inv]

theorem unitRead_inv {a va n} (h : MemoryInv s) : MemoryInv (s.unitRead a va n).2 := by
  unfold State.unitRead
  grind only [access_inv, unitHeld_inv]

theorem unitWrite_inv {a va n x} (h : MemoryInv s) : MemoryInv (s.unitWrite a va n x).2 := by
  unfold State.unitWrite
  grind only [access_inv, awaitLine_inv, agentWrite_inv, unitHeld_inv]

theorem unitUpdate_inv {a va n f} (h : MemoryInv s) : MemoryInv (s.unitUpdate a va n f).2 := by
  unfold State.unitUpdate
  grind only [access_inv, agentWrite_inv, unitHeld_inv]

theorem unitCheck_inv {a va n} (h : MemoryInv s) : MemoryInv (s.unitCheck a va n).2 := by
  induction n generalizing s va with
  | zero => exact h
  | succ n ih => grind [State.unitCheck, access_inv, unitHeld_inv]

theorem unitWords_inv {a va ws} (h : MemoryInv s) : MemoryInv (s.unitWords a va ws).2 := by
  induction ws generalizing s va with
  | nil => exact h
  | cons w ws ih =>
    have h1 : MemoryInv (s.unitWrite a va 8 w).2 := unitWrite_inv h
    unfold State.unitWords
    split
    · next e => rw [e] at h1; exact ih h1
    · exact h1

theorem acquireAll_inv (h : MemoryInv s) : MemoryInv s.acquireAll := by
  unfold State.acquireAll
  grind only [acquireTo_inv]

theorem readClock_inv (h : MemoryInv s) : MemoryInv s.readClock.2 := h
theorem post_inv {type core nocore payload} (h : MemoryInv s) : MemoryInv (s.post type core nocore payload) := h

/-! ### The tile table -/

theorem setTile_inv {c x x'} (h : MemoryInv s) : MemoryInv (s.setTile c x x') := h

theorem modTiles_inv {c es f} (h : MemoryInv s) : MemoryInv (s.modTiles c es f) := by
  unfold State.modTiles
  grind only [foldl_inv, setTile_inv]

theorem reportDue_inv {t selO selC} {s1 x} (h : MemoryInv s) (e : s.reportDue t selO selC = some (s1, x)) : MemoryInv s1 := by
  obtain ⟨d, -, hd⟩ := Option.map_eq_some_iff.1 e
  cases hd
  exact h

theorem restartReported_inv {uid} (h : MemoryInv s) : MemoryInv (s.restartReported uid) := by
  unfold State.restartReported
  grind only [= memoryInv_iff, foldl_inv, modTiles_inv, setCore_inv]

theorem tileFault_inv {t sub} (h : MemoryInv s) : MemoryInv (s.tileFault t sub) := onceFault_inv h

theorem namedAt_inv {t es} {k : State → Team → State} (h : MemoryInv s) (hk : ∀ s' x, MemoryInv s' → MemoryInv (k s' x)) :
    MemoryInv (s.namedAt t es k) := by
  grind [State.namedAt, reportDue_inv, unitFault_inv, tileFault_inv]

theorem named_inv {t es} {k : State → Team → State} (h : MemoryInv s) (hk : ∀ s' x, MemoryInv s' → MemoryInv (k s' x)) :
    MemoryInv (s.named t es k) := by
  unfold State.named
  grind only [namedAt_inv]

theorem tileOp_keeps {need slot n pairBad} {k : State → Team → Block → Nat → TileEntry → State} (h : MemoryInv s)
    (hk : ∀ s' x y z w, MemoryInv s' → MemoryInv (k s' x y z w)) : Keeps (s.tileOp need slot n pairBad k) := by
  unfold State.tileOp
  grind only [keeps_next, once_inv, tileFault_inv, named_inv]

theorem tileWait_inv {t slot n cond p1} (h : MemoryInv s) : MemoryInv (s.tileWait t slot n cond p1) := waitWith_inv h

@[simp] theorem execTbind_keeps {t d} (h : MemoryInv s) : Keeps (execTbind t d s) := by
  unfold execTbind
  grind only [tileOp_keeps, onceFault_inv, tileFault_inv, completeWith_inv, setTile_inv]

theorem tileState_keeps {slot n d} (h : MemoryInv s) : Keeps (s.tileState slot n d) := by
  unfold State.tileState
  grind only [tileOp_keeps, completeWith_inv, acquire_inv]

@[simp] theorem execTstateAcc_keeps {t d} (h : MemoryInv s) : Keeps (execTstateAcc t d s) := tileState_keeps h
@[simp] theorem execTstateSt_keeps {t d} (h : MemoryInv s) : Keeps (execTstateSt t d s) := tileState_keeps h

theorem tileAwait_keeps {slot n want phase} (h : MemoryInv s) : Keeps (s.tileAwait slot n want phase) := by
  unfold State.tileAwait
  grind only [keeps_next, completeWith_inv, acquire_inv, tileOp_keeps, waitWith_inv]

@[simp] theorem execTwaitAcc_keeps {t want phase} (h : MemoryInv s) : Keeps (execTwaitAcc t want phase s) := tileAwait_keeps h
@[simp] theorem execTwaitSt_keeps {t want phase} (h : MemoryInv s) : Keeps (execTwaitSt t want phase s) := tileAwait_keeps h

theorem tileReady_keeps {slot n} (h : MemoryInv s) : Keeps (s.tileReady slot n) := by
  unfold State.tileReady
  grind only [tileOp_keeps, tileFault_inv, afterStores_inv, completeWith_inv, setTile_inv]

@[simp] theorem execTreadyAcc_keeps {t} (h : MemoryInv s) : Keeps (execTreadyAcc t s) := tileReady_keeps h
@[simp] theorem execTreadySt_keeps {t} (h : MemoryInv s) : Keeps (execTreadySt t s) := tileReady_keeps h

theorem tileRelease_keeps {slot n} (h : MemoryInv s) : Keeps (s.tileRelease slot n) := by
  unfold State.tileRelease
  grind only [tileOp_keeps, tileFault_inv, tileWait_inv, afterStores_inv, completeWith_inv, modTiles_inv]

@[simp] theorem execTrelAcc_keeps {t} (h : MemoryInv s) : Keeps (execTrelAcc t s) := tileRelease_keeps h
@[simp] theorem execTrelSt_keeps {t} (h : MemoryInv s) : Keeps (execTrelSt t s) := tileRelease_keeps h

@[simp] theorem execMzero_keeps {t wide} (h : MemoryInv s) : Keeps (execMzero t wide s) := by
  refine keeps_next (once_inv h fun tm => ?_)
  split
  · exact tileFault_inv h
  · split
    · exact tileFault_inv h
    · split
      · exact tileFault_inv h
      · split
        · exact tileFault_inv h
        · refine named_inv h fun s' t' hs => ?_
          dsimp only
          split
          · exact tileFault_inv hs
          · split
            · exact tileWait_inv hs
            · have hzero (es : List Nat) : MemoryInv (es.foldl (fun s e => s.zeroTile s.cur.1 e) s') :=
                foldl_inv (fun s e hs => zeroTile_inv _ e hs) es hs
              refine completeWith_inv ?_
              split
              · exact setTile_inv (setTile_inv (hzero _))
              · exact setTile_inv (hzero _)

/-! ### Units and their fetch -/

theorem fetchHalf_inv {a pc} (h : MemoryInv s) : MemoryInv (s.fetchHalf a pc).2.2 := by
  unfold State.fetchHalf
  grind only [access_inv]

theorem fetchWords_keeps {a n pc seen} (h : MemoryInv s) : (s.fetchWords a n pc seen).Keeps := by
  induction n generalizing s pc seen with
  | zero => exact h
  | succ n ih => grind [State.fetchWords, FetchRes.Keeps, fetchHalf_inv]

theorem fetchUnit_keeps {p t} (h : MemoryInv s) : (s.fetchUnit p t).Keeps := by
  unfold State.fetchUnit
  grind only [fetchWords_keeps, FetchRes.Keeps, UnitRes.Keeps]

theorem unitBad_inv {t code sub addr} (h : MemoryInv s) : MemoryInv (s.unitBad t code sub addr) := by
  unfold State.unitBad
  grind only [complete_inv, unitFault_inv]

@[simp] theorem execRep_keeps {sb sa sd cnt} (h : MemoryInv s) : Keeps (execRep sb sa sd cnt s) := by
  unfold execRep
  grind only [keeps_next, unitBad_inv, setTeam_inv]

theorem runUnit_keeps {run : Instr → State → Result} {u} (h : MemoryInv s) (hrun : ∀ x s', MemoryInv s' → Keeps (run x s')) :
    Keeps (s.runUnit run u) := by
  unfold State.runUnit
  extract_lets body
  have hbody (s' : State) (i : Instr) (hs : MemoryInv s') : Keeps (body s' i) := by
    simp only [body]
    split
    · split
      · split
        · exact hrun i s' hs
        · exact unitBad_inv hs
      · exact hs
    · next r _ =>
      have h1 := hrun r s' hs
      split
      · next e =>
        rw [e] at h1
        split
        · split
          · exact h1
          · exact hrun _ _ h1
        · exact h1
      · exact h1
  split
  · exact hbody s u.instr h
  · next v _ =>
    have h1 := hrun (.limm v) s h
    split
    · next e =>
      rw [e] at h1
      split
      · exact hbody _ _ h1
      · exact h1
    · exact h1

theorem issueUnit_keeps {run : Instr → State → Result} {lim} (h : MemoryInv s) (hrun : ∀ x s', MemoryInv s' → Keeps (run x s')) :
    Keeps (s.issueUnit run lim) := by
  unfold State.issueUnit
  grind only [keeps_next, settleWait_inv, takeFault_inv, fetchUnit_keeps, setTeam_inv, UnitRes.Keeps, = memoryInv_iff,
    complete_inv, awaitLine_inv, runUnit_keeps]

/-! ### The trace units and the issue of a unit -/

theorem modTrace_inv {c f} (h : MemoryInv s) : MemoryInv (s.modTrace c f) := h

theorem tracePage_inv {c} (h : MemoryInv s) : MemoryInv (s.tracePage c) := by
  unfold State.tracePage
  grind only [= memoryInv_iff, modTrace_inv, translate_inv]

theorem traceWords_inv {c ws} (h : MemoryInv s) : MemoryInv (s.traceWords c ws) := by
  unfold State.traceWords
  grind only [foldl_inv, modTrace_inv, unitStore_inv]

theorem tracePad_inv {c n} (h : MemoryInv s) : MemoryInv (s.tracePad c n) := by
  unfold State.tracePad
  grind only [= memoryInv_iff, modTrace_inv, traceWords_inv]

theorem tracePut_inv {c ws} (h : MemoryInv s) : MemoryInv (s.tracePut c ws) := by
  unfold State.tracePut
  grind only [modTrace_inv, tracePad_inv, tracePage_inv, traceWords_inv]

theorem traceSync_inv {c} (h : MemoryInv s) : MemoryInv (s.traceSync c) := by
  unfold State.traceSync
  grind only [readClock_inv, modTrace_inv, tracePut_inv]

theorem traceSend_inv {c ws} (h : MemoryInv s) : MemoryInv (s.traceSend c ws) := by
  unfold State.traceSend
  grind only [tracePut_inv, traceSync_inv]

theorem traceMasks_inv {p t js} (h : MemoryInv s) : MemoryInv (s.traceMasks p t js) := by
  unfold State.traceMasks
  grind only [foldl_inv, draw_inv, traceSend_inv]

theorem traceContext_inv {p t} (h : MemoryInv s) : MemoryInv (s.traceContext p t) := by
  unfold State.traceContext
  grind only [draw_inv, traceSend_inv, traceMasks_inv]

theorem traceContexts_inv {c} (h : MemoryInv s) : MemoryInv (s.traceContexts c) := by
  unfold State.traceContexts
  grind only [foldl_inv, traceContext_inv]

theorem traceResync_inv {c} (h : MemoryInv s) : MemoryInv (s.traceResync c) := by
  unfold State.traceResync
  grind only [modTrace_inv, draw_inv, tracePut_inv, traceContexts_inv, traceSync_inv]

theorem traceRetry_inv {c} (h : MemoryInv s) : MemoryInv (s.traceRetry c) := by
  unfold State.traceRetry
  grind only [= memoryInv_iff, tracePage_inv, traceResync_inv]

theorem tracePacket_inv {c ws} (h : MemoryInv s) : MemoryInv (s.tracePacket c ws) := by
  unfold State.tracePacket
  grind only [traceSend_inv, traceRetry_inv, draw_inv]

theorem traceOne_inv {p type payload} (h : MemoryInv s) : MemoryInv (s.traceOne p type payload) := by
  unfold State.traceOne
  grind only [tracePacket_inv, draw_inv]

theorem traceSample_inv {p pc x async} (h : MemoryInv s) : MemoryInv (s.traceSample p pc x async) := by
  unfold State.traceSample
  grind only [tracePacket_inv, draw_inv]

theorem traceWrap_inv {c x unit} (h : MemoryInv s) : MemoryInv (s.traceWrap c x unit) := by
  unfold State.traceWrap
  grind only [modTrace_inv, traceSample_inv]

theorem traceCount_inv {c kind unit} (h : MemoryInv s) : MemoryInv (s.traceCount c kind unit) := by
  unfold State.traceCount
  grind only [foldl_inv, traceWrap_inv, modTrace_inv]

theorem traceCountN_inv {c kind n unit} (h : MemoryInv s) : MemoryInv (s.traceCountN c kind n unit) := by
  unfold State.traceCountN
  grind only [foldl_inv, traceCount_inv]

theorem traceChanged_inv {p t0} (h : MemoryInv s) : MemoryInv (s.traceChanged p t0) := by
  unfold State.traceChanged
  grind only [foldl_inv, traceOne_inv]

theorem traceAsync_inv {p pc} (h : MemoryInv s) : MemoryInv (s.traceAsync p pc) := by
  unfold State.traceAsync
  grind only [foldl_inv, modTrace_inv, traceSample_inv]

theorem traceIssue_inv {p t0 t1 i vec} (h : MemoryInv s) : MemoryInv (s.traceIssue p t0 t1 i vec) := by
  unfold State.traceIssue
  grind only [foldl_inv, traceCountN_inv, traceCount_inv, traceAsync_inv, modTrace_inv]

theorem traceBranches_inv {p t0} (h : MemoryInv s) : MemoryInv (s.traceBranches p t0) := by
  unfold State.traceBranches
  grind only [foldl_inv, traceOne_inv]

theorem traceUnit_inv {s0 : State} {p} (h : MemoryInv s) : MemoryInv (s.traceUnit s0 p) := by
  unfold State.traceUnit
  grind only [traceCountN_inv, traceCount_inv, traceBranches_inv, traceChanged_inv, traceIssue_inv]

theorem traceParks_inv {s0 : State} (h : MemoryInv s) : MemoryInv (s.traceParks s0) := by
  unfold State.traceParks
  grind only [foldl_inv, traceCountN_inv, modTrace_inv]

@[simp] theorem execTraceEnable_keeps {core val} (h : MemoryInv s) : Keeps (execTraceEnable core val s) := by
  unfold execTraceEnable
  grind only [keeps_next, modTrace_inv, traceContexts_inv, traceSync_inv, = memoryInv_iff]

@[simp] theorem execTraceSync_keeps {core} (h : MemoryInv s) : Keeps (execTraceSync core s) := by
  unfold execTraceSync
  grind only [keeps_next, traceSync_inv]

@[simp] theorem execTraceResume_keeps {core} (h : MemoryInv s) : Keeps (execTraceResume core s) := by
  unfold execTraceResume
  grind only [keeps_next, foldl_inv, modTrace_inv, traceRetry_inv, traceSend_inv]

@[simp] theorem execCounterWrap_keeps {core x} (h : MemoryInv s) : Keeps (execCounterWrap core x s) := by
  unfold execCounterWrap
  grind only [keeps_next, traceWrap_inv]

end

end Sys2Proof.Machine
end

section
/-! The form of memory (log 5) over the engines, the front end, blocks and barriers, system instructions and swapping. -/

namespace Sys2Proof.Machine

section
variable {s : State}

/-! ### Matrix operations -/

theorem startPart_inv {t f acc a b' gang issue part} (h : MemoryInv s) :
    MemoryInv (s.startPart t f acc a b' gang issue part) := by
  unfold State.startPart
  grind only [= memoryInv_iff, foldl_inv, modTiles_inv, setCore_inv, zeroTile_inv]

theorem matStart_inv {t b gang acc a b' ws} (h : MemoryInv s) : MemoryInv (s.matStart t b gang acc a b' ws) := by
  unfold State.matStart
  grind only [tileWait_inv, waitWith_inv, afterStores_inv, foldl_inv, completeWith_inv, startPart_inv]

theorem spHold_inv {t line} (h : MemoryInv s) : MemoryInv (s.spHold t line) := h

theorem matOp_keeps {gang acc xa xb c} (h : MemoryInv s) : Keeps (s.matOp gang acc xa xb c) := by
  unfold State.matOp
  grind only [keeps_next, once_inv, tileFault_inv, namedAt_inv, matStart_inv, onceFault_inv, spHold_inv]

@[simp] theorem execMma_keeps {t a b c} (h : MemoryInv s) : Keeps (execMma t a b c s) := matOp_keeps h
@[simp] theorem execMmag_keeps {t a b c} (h : MemoryInv s) : Keeps (execMmag t a b c s) := matOp_keeps h

theorem advanceGroups_inv {uid n} (h : MemoryInv s) : MemoryInv (s.advanceGroups uid n) := by
  induction n generalizing s with
  | zero => exact h
  | succ n ih => grind [State.advanceGroups, modUid_inv]

@[simp] theorem execMcommit_keeps {d} (h : MemoryInv s) : Keeps (execMcommit d s) := by
  unfold execMcommit
  grind only [= memoryInv_iff, keeps_next, once_inv, waitWith_inv, completeWith_inv, advanceGroups_inv]

@[simp] theorem execMwait_keeps {a} (h : MemoryInv s) : Keeps (execMwait a s) := by
  grind [execMwait, keeps_next, once_inv, tileFault_inv, reportDue_inv, unitFault_inv, acquire_inv, completeWith_inv,
    waitWith_inv]

theorem fetchLine_keeps {a ls va} (h : MemoryInv s) : (s.fetchLine a ls va).Keeps := by
  unfold State.fetchLine
  grind only [Fetched.Keeps, access_inv, share_inv, drainLine_inv]

theorem fetchLines_keeps {a ls va n} (h : MemoryInv s) : (s.fetchLines a ls va n).Keeps := by
  induction n generalizing s ls va with
  | zero => exact h
  | succ n ih => grind [State.fetchLines, Fetched.Keeps, fetchLine_keeps]

theorem fetchRow_keeps {c b ls src i stride row off len} (h : MemoryInv s) :
    (s.fetchRow c b ls src i stride row off len).Keeps := by
  unfold State.fetchRow
  grind only [Fetched.Keeps, fetchLines_keeps]

theorem fetchRows_inv {c b ls src stride row off len i n} (h : MemoryInv s) :
    MemoryInv (s.fetchRows c b ls src stride row off len i n).2 := by
  induction n generalizing s ls i with
  | zero => exact h
  | succ n ih => grind [State.fetchRows, Fetched.Keeps, fetchRow_keeps]

theorem modOp_inv {c id f} (h : MemoryInv s) : MemoryInv (s.modOp c id f) := h
theorem dropOp_inv {c id} (h : MemoryInv s) : MemoryInv (s.dropOp c id) := h

theorem faultOp_inv {o f} (h : MemoryInv s) : MemoryInv (s.faultOp o f) := by
  unfold State.faultOp
  grind only [foldl_inv, modTiles_inv, modOp_inv]

theorem orSticky_inv {uid f} (h : MemoryInv s) : MemoryInv (s.orSticky uid f) := modUid_inv h

theorem finishOp_inv {c o} (h : MemoryInv s) : MemoryInv (s.finishOp c o) := by
  unfold State.finishOp
  grind only [advanceGroups_inv, modTiles_inv, dropOp_inv]

theorem modParts_inv {ps f} (h : MemoryInv s) : MemoryInv (s.modParts ps f) := by
  unfold State.modParts
  grind only [foldl_inv, modOp_inv]

theorem takeParts_inv {ps} {s1} (h : MemoryInv s) (e : s.takeParts ps = some s1) : MemoryInv s1 := by
  unfold State.takeParts at e
  split at e
  · cases e
    exact foldl_inv (fun s p hs => modOp_inv hs) ps h
  · exact absurd e nofun

theorem restartOps_inv {c blk} (h : MemoryInv s) : MemoryInv (s.restartOps c blk) := by
  refine foldl_inv (fun s' o hs => ?_) _ h
  dsimp only
  split
  · exact getD_inv (fun r e => takeParts_inv hs e) hs
  · exact hs

theorem stopParts_inv {ps} (h : MemoryInv s) : MemoryInv (s.stopParts ps) := by
  unfold State.stopParts
  grind only [modParts_inv]

theorem kstepFetch_inv {p} (h : MemoryInv s) : MemoryInv (s.kstepFetch p).2 := by
  unfold State.kstepFetch
  grind only [fetchRows_inv, modOp_inv]

theorem kstepPart_inv {rows cols p} (h : MemoryInv s) : MemoryInv (State.kstepPart rows cols s p) := by
  unfold State.kstepPart
  grind only [foldl_inv, orSticky_inv, traceCount_inv, modTiles_inv, modOp_inv, memWrite_inv]

theorem kstepAll_inv {ps p} (h : MemoryInv s) : MemoryInv (s.kstepAll ps p) := by
  unfold State.kstepAll
  grind only [faultOp_inv, kstepFetch_inv, stopParts_inv, foldl_inv, finishOp_inv, kstepPart_inv]

@[simp] theorem execKstepComplete_keeps {op} (h : MemoryInv s) : Keeps (execKstepComplete op s) := by
  unfold execKstepComplete
  grind only [keeps_next, kstepAll_inv, takeParts_inv]

theorem unitsAt_keeps {a rd all vas} (h : MemoryInv s) : (s.unitsAt a rd all vas).Keeps := by
  induction vas generalizing s with
  | nil => exact h
  | cons va vas ih => grind [State.unitsAt, Units.Keeps, access_inv]

theorem drainDest_inv {t b dst stride row add} {k : State → Team → List Nat → State} (h : MemoryInv s)
    (hk : ∀ s' x y, MemoryInv s' → MemoryInv (k s' x y)) : MemoryInv (s.drainDest t b dst stride row add k) := by
  unfold State.drainDest
  grind only [tileFault_inv, onceFault_inv, unitsAt_keeps, Units.Keeps, holdTeam_inv]

theorem drainStart_inv {t b n dst es o} (h : MemoryInv s) : MemoryInv (s.drainStart t b n dst es o) := by
  unfold State.drainStart
  grind only [tileWait_inv, tileFault_inv, modTiles_inv, completeWith_inv, setCore_inv, = memoryInv_iff]

theorem drainSource_keeps {n xd} {k : State → Team → Block → Nat → TileEntry → MatSrc → State} (h : MemoryInv s)
    (hk : ∀ s' x y z w u, MemoryInv s' → MemoryInv (k s' x y z w u)) : Keeps (s.drainSource n xd k) := by
  unfold State.drainSource
  grind only [keeps_next, once_inv, tileFault_inv, named_inv]

theorem cleanTile_inv {t es} {k : State → State} (h : MemoryInv s) (hk : ∀ s', MemoryInv s' → MemoryInv (k s')) :
    MemoryInv (s.cleanTile t es k) := by
  unfold State.cleanTile
  grind only [onceFault_inv]

theorem drainFrom_inv {t b n x dst add wide pas} (h : MemoryInv s) :
    MemoryInv (s.drainFrom t b n x dst add wide pas) := drainStart_inv h

theorem drain_keeps {n xd sb add} (h : MemoryInv s) : Keeps (s.drain n xd sb add) := by
  unfold State.drain
  grind only [drainSource_keeps, drainFrom_inv, tileFault_inv, named_inv, drainDest_inv, cleanTile_inv]

@[simp] theorem execMdrain_keeps {t dst sb} (h : MemoryInv s) : Keeps (execMdrain t dst sb s) := drain_keeps h
@[simp] theorem execMdrainAdd_keeps {t dst sb} (h : MemoryInv s) : Keeps (execMdrainAdd t dst sb s) := drain_keeps h

theorem quantFrom_inv {t b n x dst bmaj desc so pas} (h : MemoryInv s) :
    MemoryInv (s.quantFrom t b n x dst bmaj desc so pas) := drainStart_inv h

theorem quantise_keeps {n xd sb sc bmaj} (h : MemoryInv s) : Keeps (s.quantise n xd sb sc bmaj) := by
  unfold State.quantise
  grind only [drainSource_keeps, quantFrom_inv, tileFault_inv, onceFault_inv, drainDest_inv, cleanTile_inv]

@[simp] theorem execQuant_keeps {t dst sb sc} (h : MemoryInv s) : Keeps (execQuant t dst sb sc s) := quantise_keeps h
@[simp] theorem execQuantBmaj_keeps {t dst sb sc} (h : MemoryInv s) : Keeps (execQuantBmaj t dst sb sc s) := quantise_keeps h

theorem engineStore_inv {c uid pa bs} (h : MemoryInv s) : MemoryInv (s.engineStore c uid pa bs) := by
  unfold State.engineStore
  grind only [stampStore_inv, winWrite_inv, mmioStore_inv, acceptStore_inv, storeHome_inv, invalidate_inv, drainLine_inv]

theorem engineWait_inv {c uid o} {s1} (h : MemoryInv s) (e : s.engineWait c uid o = some s1) : MemoryInv s1 := by
  obtain ⟨pa, -, rfl⟩ := Option.map_eq_some_iff.1 e
  exact await_inv h

theorem drainUnits_inv {c phys o add u pas} (h : MemoryInv s) : MemoryInv (s.drainUnits c phys o add u pas).1 := by
  induction pas generalizing s u with
  | nil => exact h
  | cons pa pas ih => grind [State.drainUnits, drainLine_inv, engineStore_inv]

theorem sectorClears_inv {size pas} (h : MemoryInv s) : MemoryInv (s.sectorClears size pas) := h

@[simp] theorem execDrainComplete_keeps {op} (h : MemoryInv s) : Keeps (execDrainComplete op s) := by
  unfold execDrainComplete
  grind only [keeps_next, engineWait_inv, drainUnits_inv, finishOp_inv, orSticky_inv, sectorClears_inv]

theorem clearRange_inv {c b o n} (h : MemoryInv s) : MemoryInv (s.clearRange c b o n) := by
  unfold State.clearRange
  grind only [= memoryInv_iff]

theorem quantWrite_inv {c b o bmaj rows} (h : MemoryInv s) : MemoryInv (s.quantWrite c b o bmaj rows) := by
  unfold State.quantWrite
  grind only [foldl_inv, sectorClears_inv, clearRange_inv, stampStore_inv, memWrite_inv, engineStore_inv]

@[simp] theorem execQuantComplete_keeps {op} (h : MemoryInv s) : Keeps (execQuantComplete op s) := by
  unfold execQuantComplete
  grind only [keeps_next, advanceGroups_inv, modTiles_inv, modOp_inv, engineWait_inv, finishOp_inv, orSticky_inv, quantWrite_inv]

/-! ### Tensor copies -/

theorem engineAccess_inv {c a va size k} (h : MemoryInv s) : MemoryInv (s.engineAccess c a va size k).2 := by
  unfold State.engineAccess
  grind only [setCore_inv, access_inv]

theorem engineUnits_keeps {c uid a size xs} (h : MemoryInv s) : (s.engineUnits c uid a size xs).Keeps := by
  induction xs generalizing s with
  | nil => exact h
  | cons x xs ih => grind [State.engineUnits, Engine.Keeps, engineAccess_inv, await_inv]

theorem modCopy_inv {c id f} (h : MemoryInv s) : MemoryInv (s.modCopy c id f) := h

theorem faultBox_inv {c y k f} (h : MemoryInv s) : MemoryInv (s.faultBox c y k f) := by
  unfold State.faultBox
  grind only [modCopy_inv, modTiles_inv]

theorem issueBox_inv {c y b n} (h : MemoryInv s) : MemoryInv (s.issueBox c y b n).2 := by
  unfold State.issueBox
  grind only [engineUnits_keeps, Engine.Keeps, faultBox_inv, modCopy_inv]

theorem issueFirst_inv {c l} (h : MemoryInv s) : MemoryInv (s.issueFirst c l) := by
  induction l generalizing s with
  | nil => exact h
  | cons x l ih => grind [State.issueFirst, issueBox_inv]

@[simp] theorem execBoxIssue_keeps {core} (h : MemoryInv s) : Keeps (execBoxIssue core s) := by
  unfold execBoxIssue
  grind only [keeps_next, issueFirst_inv]

theorem boxRead_inv {c uid a p va n} (h : MemoryInv s) : MemoryInv (s.boxRead c uid a p va n).2 := by
  unfold State.boxRead
  grind only [engineAccess_inv, drainLine_inv]

theorem gatherRow_inv {c uid a l r w p n} (h : MemoryInv s) : MemoryInv (s.gatherRow c uid a l r w p n).2.2.2 := by
  induction n generalizing s w p with
  | zero => exact h
  | succ n ih => grind [State.gatherRow, boxRead_inv]

theorem gatherRows_inv {c uid a l p rows} (h : MemoryInv s) : MemoryInv (s.gatherRows c uid a l p rows).s := by
  induction rows generalizing s p with
  | nil => exact h
  | cons r rows ih => grind [State.gatherRows, gatherRow_inv]

theorem scatterElems_inv {c a l y b p elems} (h : MemoryInv s) : MemoryInv (s.scatterElems c a l y b p elems).s := by
  induction elems generalizing s p with
  | nil => exact h
  | cons x l ih => grind [State.scatterElems, boxRead_inv]

theorem boxReads_inv {c y b x} (h : MemoryInv s) : MemoryInv (s.boxReads c y b x).s := by
  unfold State.boxReads
  grind only [scatterElems_inv, gatherRows_inv]

theorem runBox_inv {c y b x} (h : MemoryInv s) : MemoryInv (s.runBox c y b x).s := by
  unfold State.runBox
  grind only [boxReads_inv]

theorem boxWrites_inv {c y dst i us} (h : MemoryInv s) : MemoryInv (s.boxWrites c y dst i us) := by
  induction us generalizing s i with
  | nil => exact h
  | cons u us ih => grind [State.boxWrites, draw_inv, engineStore_inv]

theorem boxEndAdvance_inv {x : BoxEnd} {c y x' n} (h : MemoryInv x.s) : MemoryInv (BoxEnd.advance x c y x' n) := by
  unfold BoxEnd.advance
  grind only [boxWrites_inv, modCopy_inv]

theorem unmarkScatter_inv {c y} (h : MemoryInv s) : MemoryInv (s.unmarkScatter c y) := by
  unfold State.unmarkScatter
  grind only [modTiles_inv]

theorem advanceCopies_inv {c uid n} (h : MemoryInv s) : MemoryInv (s.advanceCopies c uid n) := by
  induction n generalizing s with
  | zero => exact h
  | succ n ih => grind [State.advanceCopies, modUid_inv, modCopy_inv, unmarkScatter_inv, modTiles_inv]

theorem finishLine_inv {copy box} (h : MemoryInv s) : MemoryInv (s.finishLine copy box) := by
  unfold State.finishLine
  grind only [runBox_inv, boxEndAdvance_inv]

@[simp] theorem execBoxComplete_keeps {copy box} (h : MemoryInv s) : Keeps (execBoxComplete copy box s) := by
  unfold execBoxComplete
  grind only [keeps_next, runBox_inv, advanceCopies_inv, traceCount_inv, sectorClears_inv, boxWrites_inv, modCopy_inv,
    modTiles_inv]

@[simp] theorem execBoxFault_keeps {copy box} (h : MemoryInv s) : Keeps (execBoxFault copy box s) := by
  unfold execBoxFault
  grind only [keeps_next, runBox_inv, advanceCopies_inv, faultBox_inv, boxEndAdvance_inv]

@[simp] theorem execBoxPause_keeps {copy box} (h : MemoryInv s) : Keeps (execBoxPause copy box s) := by
  unfold execBoxPause
  grind only [keeps_next, runBox_inv, modCopy_inv, boxEndAdvance_inv]

theorem endBoxes_inv {c blk sel} (h : MemoryInv s) : MemoryInv (s.endBoxes c blk sel) := by
  unfold State.endBoxes
  grind only [foldl_inv, setCore_inv, advanceCopies_inv]

theorem freezeCopies_inv {c blk} (h : MemoryInv s) : MemoryInv (s.freezeCopies c blk) := memoryInv_of_mem (freezeCopies_mem ..) h

@[simp] theorem execBoxAbort_keeps {blk} (h : MemoryInv s) : Keeps (execBoxAbort blk s) := by
  unfold execBoxAbort
  grind only [keeps_next, freezeCopies_inv]

theorem copyStart_inv {t b d dense x ws} (h : MemoryInv s) : MemoryInv (s.copyStart t b d dense x ws) := by
  unfold State.copyStart
  grind only [waitWith_inv, afterStores_inv, tileWait_inv, completeWith_inv, = memoryInv_iff, =_ memoryInv_iff, setCore_inv,
    modTiles_inv]

theorem tcopy_keeps {d sa x} (h : MemoryInv s) : Keeps (s.tcopy d sa x) := by
  refine keeps_next (once_inv h fun t => ?_)
  split
  · exact tileFault_inv h
  · dsimp only
    split
    · exact tileFault_inv h
    · refine named_inv h fun s' t' hs => ?_
      grind only [copyStart_inv, tileFault_inv, onceFault_inv, spHold_inv]

@[simp] theorem execTcopyDense_keeps {c a dst} (h : MemoryInv s) : Keeps (execTcopyDense c a dst s) := tcopy_keeps h
@[simp] theorem execTcopyAcc_keeps {c a t} (h : MemoryInv s) : Keeps (execTcopyAcc c a t s) := tcopy_keeps h

theorem copyTokenOp_keeps {a} {k : Team → BitVec 16 → State} (h : MemoryInv s) (hk : ∀ x y, MemoryInv (k x y)) :
    Keeps (s.copyTokenOp a k) := by
  unfold State.copyTokenOp
  grind only [keeps_next, once_inv, tileFault_inv]

@[simp] theorem execCwait_keeps {a} (h : MemoryInv s) : Keeps (execCwait a s) := by
  grind [execCwait, copyTokenOp_keeps, tileFault_inv, reportDue_inv, unitFault_inv, acquire_inv, completeWith_inv, waitWith_inv,
    setCore_inv]

@[simp] theorem execCstatMap_keeps {d a} (h : MemoryInv s) : Keeps (execCstatMap d a s) := by
  unfold execCstatMap
  grind only [copyTokenOp_keeps, complete_inv]

@[simp] theorem execCstat_keeps {d a} (h : MemoryInv s) : Keeps (execCstat d a s) := by
  unfold execCstat
  grind only [copyTokenOp_keeps, complete_inv]

@[simp] theorem execCcancel_keeps {a} (h : MemoryInv s) : Keeps (execCcancel a s) := by
  unfold execCcancel
  grind only [copyTokenOp_keeps, complete_inv, completeWith_inv, advanceCopies_inv, modCopy_inv]

/-! ### The front end -/

theorem setQueue_inv {q head err en} (h : MemoryInv s) : MemoryInv (s.setQueue q head err en) := unitPut_inv h

theorem beginTurn_inv {x} (h : MemoryInv s) : MemoryInv (s.beginTurn x) := by
  unfold State.beginTurn
  grind only [= memoryInv_iff, draw_inv]

theorem consume_inv (h : MemoryInv s) : MemoryInv s.consume := h
theorem commitTable_inv (h : MemoryInv s) : MemoryInv s.commitTable := h

theorem packetError_inv {q slot code addr} (h : MemoryInv s) : MemoryInv (s.packetError q slot code addr) := by
  unfold State.packetError
  grind only [post_inv, setQueue_inv]

theorem packetStart_inv {q} (h : MemoryInv s) : MemoryInv (s.packetStart q) := by
  unfold State.packetStart
  grind only [setQueue_inv, commitTable_inv]

theorem slotPlace_inv {q} (h : MemoryInv s) : MemoryInv (s.slotPlace q).2 := by
  unfold State.slotPlace
  grind only [access_inv]

theorem packet_keeps {q type} {k : State → Nat → Nat → State} (h : MemoryInv s)
    (hk : ∀ s' x y, MemoryInv s' → MemoryInv (k s' x y)) : Keeps (s.packet q type k) := by
  unfold State.packet
  grind only [keeps_next, = memoryInv_iff, slotPlace_inv, consume_inv, packetError_inv]

theorem packetRelease_inv {fscope blk} (h : MemoryInv s) : MemoryInv (s.packetRelease fscope blk) := by
  unfold State.packetRelease
  grind only [= memoryInv_iff, =_ memoryInv_iff, foldl_inv, drainCore_inv]

theorem packetAddr_inv {q va wr} (h : MemoryInv s) : MemoryInv (s.packetAddr q va wr).2 := by
  unfold State.packetAddr
  grind only [access_inv, unitHeld_inv]

@[simp] theorem execWrite_keeps {q} (h : MemoryInv s) : Keeps (execWrite q s) := by
  unfold execWrite
  grind only [packet_keeps, packetAddr_inv, packetError_inv, packetRelease_inv, agentWrite_inv, packetStart_inv]

@[simp] theorem execTime_keeps {q} (h : MemoryInv s) : Keeps (execTime q s) := by
  unfold execTime
  grind only [packet_keeps, packetAddr_inv, packetError_inv, readClock_inv, packetStart_inv, packetRelease_inv, agentWrite_inv]

@[simp] theorem execNopPacket_keeps {q} (h : MemoryInv s) : Keeps (execNopPacket q s) := by
  unfold execNopPacket
  grind only [packet_keeps, packetRelease_inv, packetStart_inv]

@[simp] theorem execWait_keeps {q} (h : MemoryInv s) : Keeps (execWait q s) := by
  unfold execWait
  grind only [packet_keeps, = memoryInv_iff, packetAddr_inv, packetError_inv, =_ memoryInv_iff, packetStart_inv]

theorem packetDone_inv {x} (h : MemoryInv s) : MemoryInv (s.packetDone x) := h

theorem tryWait_inv {q x} {s1} (h : MemoryInv s) (e : s.tryWait q x = some s1) : MemoryInv s1 := by
  grind [State.tryWait, packetAddr_inv, packetDone_inv, packetError_inv, packetRelease_inv]

@[simp] theorem execWaitComplete_keeps {q} (h : MemoryInv s) : Keeps (execWaitComplete q s) := by
  unfold execWaitComplete
  refine keeps_next ?_
  split
  · exact h
  · refine getD_inv (fun r e => ?_) h
    obtain ⟨x, -, hx⟩ := List.exists_of_findSome?_eq_some e
    exact tryWait_inv h hx

theorem descWords_inv {a va n} (h : MemoryInv s) : MemoryInv (s.descWords a va n).2 := by
  induction n generalizing s va with
  | zero => exact h
  | succ n ih => grind [State.descWords, unitRead_inv]

@[simp] theorem execLaunch_keeps {q} (h : MemoryInv s) : Keeps (execLaunch q s) := by
  unfold execLaunch
  grind only [packet_keeps, = memoryInv_iff, packetError_inv, descWords_inv, =_ memoryInv_iff, packetStart_inv]

theorem modLaunch_inv {id f} (h : MemoryInv s) : MemoryInv (s.modLaunch id f) := h

theorem blockGone_inv {launch uid} (h : MemoryInv s) : MemoryInv (s.blockGone launch uid) := by
  unfold State.blockGone
  grind only [= memoryInv_iff, modLaunch_inv, packetRelease_inv]

@[simp] theorem execQueueEnable_keeps {q} (h : MemoryInv s) : Keeps (execQueueEnable q s) := by
  unfold execQueueEnable
  grind only [keeps_next, setQueue_inv]

@[simp] theorem execQueueResume_keeps {q} (h : MemoryInv s) : Keeps (execQueueResume q s) := by
  unfold execQueueResume
  grind only [keeps_next, setQueue_inv]

@[simp] theorem execSubmissionWrite_keeps {q val} (h : MemoryInv s) : Keeps (execSubmissionWrite q val s) := by
  unfold execSubmissionWrite
  grind only [= memoryInv_iff, keeps_next]

theorem takeOver_inv (h : MemoryInv s) : MemoryInv s.takeOver := by
  unfold State.takeOver
  grind only [= memoryInv_iff, beginTurn_inv]

@[simp] theorem execUpdate_keeps (h : MemoryInv s) : Keeps (execUpdate s) := by
  unfold execUpdate
  grind only [= memoryInv_iff, keeps_next]

@[simp] theorem execStandbyImport_keeps (h : MemoryInv s) : Keeps (execStandbyImport s) := by
  unfold execStandbyImport
  grind only [= memoryInv_iff, keeps_next, draw_inv]

@[simp] theorem execUpdateTakeover_keeps (h : MemoryInv s) : Keeps (execUpdateTakeover s) := by
  unfold execUpdateTakeover
  grind only [keeps_next, takeOver_inv]

@[simp] theorem execFailover_keeps (h : MemoryInv s) : Keeps (execFailover s) := by
  unfold execFailover
  grind only [keeps_next, takeOver_inv]

@[simp] theorem execWatchdogTakeover_keeps (h : MemoryInv s) : Keeps (execWatchdogTakeover s) := by
  unfold execWatchdogTakeover
  grind only [= memoryInv_iff, keeps_next, logError_inv, takeOver_inv]

/-! ### The end of phases, teams and blocks -/

theorem mapGroup_inv {b f} (h : MemoryInv s) : MemoryInv (s.mapGroup b f) := h
theorem modBarrier_inv {b n gang f} (h : MemoryInv s) : MemoryInv (s.modBarrier b n gang f) := h

theorem evalBarrier_inv {b n} (h : MemoryInv s) : MemoryInv (s.evalBarrier b n) := by
  unfold State.evalBarrier
  grind only [modBarrier_inv]

theorem evalBarriers_inv {b} (h : MemoryInv s) : MemoryInv (s.evalBarriers b) := by
  unfold State.evalBarriers
  grind only [foldl_inv, evalBarrier_inv]

theorem clearArrivals_inv {t} (h : MemoryInv s) : MemoryInv (s.clearArrivals t) := by
  unfold State.clearArrivals
  grind only [mapGroup_inv]

theorem freeBlock_inv {c pl b} (h : MemoryInv s) : MemoryInv (s.freeBlock c pl b) := h
theorem dropWork_inv {uid} (h : MemoryInv s) : MemoryInv (s.dropWork uid) := h

theorem endTeam_inv {p t} (h : MemoryInv s) : MemoryInv (s.endTeam p t) := by
  unfold State.endTeam
  grind only [dropWork_inv, clearArrivals_inv, forgetLock_inv, setCore_inv, evalBarriers_inv, blockGone_inv, freeBlock_inv]

theorem endSaved_inv {uid} (h : MemoryInv s) : MemoryInv (s.endSaved uid) := by
  unfold State.endSaved
  grind only [dropWork_inv, clearArrivals_inv, evalBarriers_inv, blockGone_inv, = memoryInv_iff]

/-! ### Barrier instructions -/

theorem barAcquire_inv {gang} (h : MemoryInv s) : MemoryInv (s.barAcquire gang) := by
  unfold State.barAcquire
  grind only [acquireAll_inv, acquire_inv]

theorem barFault_inv {t sub n} (h : MemoryInv s) : MemoryInv (s.barFault t sub n) := onceFault_inv h

theorem barOp_keeps {n gang expect} {k : State → Team → Block → Bool → Barrier → State} (h : MemoryInv s)
    (hk : ∀ s' x y z w, MemoryInv s' → MemoryInv (k s' x y z w)) : Keeps (s.barOp n gang expect k) := by
  unfold State.barOp
  grind only [keeps_next, once_inv, barFault_inv]

theorem barWait_inv {t n gang p1} (h : MemoryInv s) : MemoryInv (s.barWait t n gang p1) := waitWith_inv h

theorem arriveAt_inv {t b n gang expect x} (h : MemoryInv s) : MemoryInv (s.arriveAt t b n gang expect x).2 := by
  unfold State.arriveAt
  grind only [modBarrier_inv, evalBarrier_inv]

@[simp] theorem execArrive_keeps {n gang expect} (h : MemoryInv s) : Keeps (execArrive n gang expect s) := by
  unfold execArrive
  grind only [barOp_keeps, barWait_inv, afterStores_inv, completeWith_inv, arriveAt_inv]

theorem barAwait_inv {t n gang p} (h : MemoryInv s) : MemoryInv (s.barAwait t n gang p) := by
  unfold State.barAwait
  grind only [waitWith_inv, completeWith_inv, barAcquire_inv, forgetLock_inv]

@[simp] theorem execBar_keeps {n gang expect} (h : MemoryInv s) : Keeps (execBar n gang expect s) := by
  unfold execBar
  grind only [keeps_next, barAwait_inv, barOp_keeps, barWait_inv, afterStores_inv, arriveAt_inv]

theorem bwaitAt_inv {t n gang x} (h : MemoryInv s) : MemoryInv (s.bwaitAt t n gang x) := by
  unfold State.bwaitAt
  grind only [barWait_inv, completeWith_inv, barAcquire_inv]

@[simp] theorem execBwait_keeps {n gang} (h : MemoryInv s) : Keeps (execBwait n gang s) := by
  unfold execBwait
  grind only [barOp_keeps, keeps_next, bwaitAt_inv]

/-! ### The grace-period unit -/

theorem setProc_inv {i p} (h : MemoryInv s) : MemoryInv (s.setProc i p) := h

theorem swapEnter_inv {ctx t} (h : MemoryInv s) : MemoryInv (s.swapEnter ctx t) := by
  unfold State.swapEnter
  grind only [= memoryInv_iff, =_ memoryInv_iff, setProc_inv]

theorem swapLeave_inv {ctx t} (h : MemoryInv s) : MemoryInv (s.swapLeave ctx t) := by
  unfold State.swapLeave
  grind only [setProc_inv]

theorem graceOp_keeps {rel} {k : State → Team → Nat → GraceProc → State} (h : MemoryInv s)
    (hk : ∀ s' x y z, MemoryInv s' → MemoryInv (k s' x y z)) : Keeps (s.graceOp rel k) := by
  unfold State.graceOp
  grind only [keeps_next, once_inv, releaseFirst_inv]

@[simp] theorem execQpass_keeps (h : MemoryInv s) : Keeps (execQpass s) := by
  unfold execQpass
  grind only [keeps_next, once_inv, afterStores_inv, setTeam_inv, completeWith_inv, acquireAll_inv]

@[simp] theorem execQidle_keeps (h : MemoryInv s) : Keeps (execQidle s) := by
  unfold execQidle
  grind only [graceOp_keeps, completeWith_inv]

@[simp] theorem execQwake_keeps (h : MemoryInv s) : Keeps (execQwake s) := by
  unfold execQwake
  grind only [graceOp_keeps, completeWith_inv, acquireAll_inv]

@[simp] theorem execGpstart_keeps {d} (h : MemoryInv s) : Keeps (execGpstart d s) := by
  unfold execGpstart
  grind only [graceOp_keeps, completeWith_inv, setProc_inv]

@[simp] theorem execGpwait_keeps {d a} (h : MemoryInv s) : Keeps (execGpwait d a s) := by
  unfold execGpwait
  grind only [graceOp_keeps, completeWith_inv, acquireAll_inv, setTeam_inv, waitWith_inv]

@[simp] theorem execDfree_keeps {d a b} (h : MemoryInv s) : Keeps (execDfree d a b s) := by
  unfold execDfree
  grind only [graceOp_keeps, waitWith_inv, completeWith_inv, setProc_inv]

theorem dropContexts_inv (h : MemoryInv s) : MemoryInv s.dropContexts := h

@[simp] theorem execGraceRecompute_keeps {p} (h : MemoryInv s) : Keeps (execGraceRecompute p s) := by
  unfold execGraceRecompute
  grind only [keeps_next, setProc_inv, queueSaved_inv]

theorem freeFault_inv {ctx f} (h : MemoryInv s) : MemoryInv (s.freeFault ctx f) := by
  unfold State.freeFault
  grind only [post_inv, setProc_inv]

@[simp] theorem execDeferredMove_keeps {p} (h : MemoryInv s) : Keeps (execDeferredMove p s) := by
  unfold execDeferredMove
  refine keeps_next ?_
  dsimp only
  split
  · exact h
  · split
    · exact h
    · split
      · next e1 => exact freeFault_inv (inv_of_snd (unitRead_inv h) e1)
      · next e1 =>
        have h1 := inv_of_snd (unitRead_inv h) e1
        split
        · exact h1
        · split
          · next e2 => exact freeFault_inv (inv_of_snd (unitWords_inv h1) e2)
          · next e2 =>
            have h2 := inv_of_snd (unitWords_inv h1) e2
            split
            · next e3 => exact freeFault_inv (inv_of_snd (unitWrite_inv h2) e3)
            · next e3 => exact queueSaved_inv (setProc_inv (inv_of_snd (unitWrite_inv h2) e3))

@[simp] theorem execHeadPoll_keeps {p} (h : MemoryInv s) : Keeps (execHeadPoll p s) := by
  unfold execHeadPoll
  refine keeps_next ?_
  dsimp only
  split
  · exact h
  · split
    · exact h
    · split
      · next e1 => exact freeFault_inv (inv_of_snd (unitRead_inv h) e1)
      · next e1 =>
        have h1 := inv_of_snd (unitRead_inv h) e1
        split
        · exact h1
        · split
          · next e2 => exact setProc_inv (inv_of_snd (unitRead_inv h1) e2)
          · next e2 => exact freeFault_inv (inv_of_snd (unitRead_inv h1) e2)

@[simp] theorem execQscResume_keeps (h : MemoryInv s) : Keeps (execQscResume s) := by
  unfold execQscResume
  grind only [keeps_next, setProc_inv]

@[simp] theorem execGraceStallReport_keeps {p} (h : MemoryInv s) : Keeps (execGraceStallReport p s) := by
  unfold execGraceStallReport
  grind only [= memoryInv_iff, keeps_next, setProc_inv, postReport_inv, post_inv]

/-! ### System instructions -/

theorem completeThenFault_inv {t f} (h : MemoryInv s) : MemoryInv (s.completeThenFault t f) := takeFault_inv h

@[simp] theorem execTrap_keeps {n} (h : MemoryInv s) : Keeps (execTrap n s) := by
  unfold execTrap
  grind only [keeps_next, once_inv, afterStores_inv, completeThenFault_inv]

@[simp] theorem execBrk_keeps {n} (h : MemoryInv s) : Keeps (execBrk n s) := by
  unfold execBrk
  grind only [keeps_next, once_inv, completeThenFault_inv]

@[simp] theorem execNop_keeps (h : MemoryInv s) : Keeps (execNop s) := by
  unfold execNop
  grind only [keeps_next, once_inv, complete_inv]

@[simp] theorem execHalt_keeps (h : MemoryInv s) : Keeps (execHalt s) := by
  grind [execHalt, keeps_next, once_inv, setCore_inv, completeWith_inv, modTeam_inv, onceFault_inv, reportDue_inv, unitFault_inv,
    waitWith_inv, afterStores_inv, endTeam_inv]

theorem loadWords_keeps {a va n} (h : MemoryInv s) : (s.loadWords a va n).Keeps := by
  induction n generalizing s va with
  | zero => exact h
  | succ n ih => grind [State.loadWords, Loaded.Keeps, access_inv, doLoad_inv, sawStamp_inv]

theorem frameFault_inv {t f} (h : MemoryInv s) : MemoryInv (s.frameFault t f) := onceFault_inv h

@[simp] theorem execSigret_keeps {d} (h : MemoryInv s) : Keeps (execSigret d s) := by
  unfold execSigret
  grind only [keeps_next, once_inv, frameFault_inv, loadWords_keeps, Loaded.Keeps, onceFault_inv, holdTeam_inv, acquire_inv,
    afterUnit_inv]

theorem sysRead_inv {t r} (h : MemoryInv s) : MemoryInv (s.sysRead t r).2 := by
  unfold State.sysRead
  grind only [readClock_inv]

theorem sysWrite_inv {t r x} (h : MemoryInv s) : MemoryInv (s.sysWrite t r x).1 := by
  unfold State.sysWrite
  grind only [setCore_inv]

theorem sysOp_keeps {r} {k : Team → SysReg → State} (h : MemoryInv s) (hk : ∀ x y, MemoryInv (k x y)) : Keeps (s.sysOp r k) := by
  unfold State.sysOp
  grind only [keeps_next, once_inv, complete_inv, unitFault_inv, onceFault_inv]

@[simp] theorem execSysrd_keeps {d r} (h : MemoryInv s) : Keeps (execSysrd d r s) := by
  unfold execSysrd
  grind only [sysOp_keeps, sysRead_inv, complete_inv]

theorem sysModify_keeps {d r f} (h : MemoryInv s) : Keeps (s.sysModify d r f) := by
  unfold State.sysModify
  grind only [sysOp_keeps, sysWrite_inv, complete_inv]

@[simp] theorem execSyswr_keeps {d r} (h : MemoryInv s) : Keeps (execSyswr d r s) := sysModify_keeps h
@[simp] theorem execSyswrSet_keeps {d r} (h : MemoryInv s) : Keeps (execSyswrSet d r s) := sysModify_keeps h
@[simp] theorem execSyswrClr_keeps {d r} (h : MemoryInv s) : Keeps (execSyswrClr d r s) := sysModify_keeps h

@[simp] theorem execEret_keeps (h : MemoryInv s) : Keeps (execEret s) := by
  unfold execEret
  grind only [keeps_next, once_inv, transferChecked_inv, setCore_inv]

theorem handleFault_inv {t x} (h : MemoryInv s) : MemoryInv (s.handleFault t x) := onceFault_inv h

theorem parkTeam_inv {p} (h : MemoryInv s) : MemoryInv (s.parkTeam p) := by
  unfold State.parkTeam
  grind only [takeFault_inv, draw_inv]

@[simp] theorem execPark_keeps {d} (h : MemoryInv s) : Keeps (execPark d s) := by
  unfold execPark
  grind only [keeps_next, once_inv, handleFault_inv, completeWith_inv, parkTeam_inv]

theorem resumeUid_inv {uid step} (h : MemoryInv s) : MemoryInv (s.resumeUid uid step) := by
  unfold State.resumeUid
  grind only [restartReported_inv, modUid_inv, queueReadmit_inv, syncSaved_inv, setCore_inv]

theorem resumeOp_keeps {d step} (h : MemoryInv s) : Keeps (s.resumeOp d step) := by
  unfold State.resumeOp
  grind only [keeps_next, once_inv, handleFault_inv, completeWith_inv, resumeUid_inv]

@[simp] theorem execResume_keeps {d} (h : MemoryInv s) : Keeps (execResume d s) := resumeOp_keeps h
@[simp] theorem execResumeStep_keeps {d} (h : MemoryInv s) : Keeps (execResumeStep d s) := resumeOp_keeps h

/-! ### Swapping -/

theorem copyRange_inv {src dst n} (h : MemoryInv s) : MemoryInv (s.copyRange src dst n) := by
  refine touchRange_inv ?_
  exact wf_foldl_memSet _ (fun a => a - src + dst) (wf_filter _ h)

theorem storeBlock_inv {c b base} (h : MemoryInv s) : MemoryInv (s.storeBlock c b base) := by
  unfold State.storeBlock
  grind only [foldl_inv, storeWords_inv, copyRange_inv, storeTeam_inv]

theorem loadBlock_inv {c b base} (h : MemoryInv s) : MemoryInv (s.loadBlock c b base) := by
  unfold State.loadBlock
  grind only [foldl_inv, copyRange_inv]

theorem parkLost_inv {p t} (h : MemoryInv s) : MemoryInv (s.parkLost p t) := by
  unfold State.parkLost
  grind only [takeFault_inv]

theorem parkLosers_inv {c b} (h : MemoryInv s) : MemoryInv (s.parkLosers c b) := by
  unfold State.parkLosers
  grind only [foldl_inv, parkLost_inv]

theorem saveBlock_inv {c pl b slotIx readmit} (h : MemoryInv s) : MemoryInv (s.saveBlock c pl b slotIx readmit) := by
  unfold State.saveBlock
  grind only [= memoryInv_iff, freezeCopies_inv, storeBlock_inv, setCore_inv, freeBlock_inv]

theorem saveAway_inv {m slotIx readmit} (h : MemoryInv s) : MemoryInv (s.saveAway m slotIx readmit) := by
  unfold State.saveAway
  grind only [foldl_inv, saveBlock_inv, swapEnter_inv]

theorem drainBlock_inv {c b} (h : MemoryInv s) : MemoryInv (s.drainBlock c b) := drainCore_inv _ _ h
theorem passDue_inv {c b} (h : MemoryInv s) : MemoryInv (s.passDue c b) := h

@[simp] theorem execSwapOutComplete_keeps {blk} (h : MemoryInv s) : Keeps (execSwapOutComplete blk s) := by
  unfold execSwapOutComplete
  grind only [keeps_next, foldl_inv, drainBlock_inv, queueSaved_inv, passDue_inv, parkLosers_inv, saveAway_inv]

end

end Sys2Proof.Machine
end

section
/-! The form of memory (log 5) over the events, the instructions and the step. -/

namespace Sys2Proof.Machine

section
variable {s : State}

/-! ### Supervisors, mailbox and the team-state port -/

@[simp] theorem execEventEntry_keeps {core} (h : MemoryInv s) : Keeps (execEventEntry core s) := by
  unfold execEventEntry
  grind only [keeps_next, setTeam_inv, setCore_inv]

@[simp] theorem execSupervisorTimer_keeps {core} (h : MemoryInv s) : Keeps (execSupervisorTimer core s) := by
  unfold execSupervisorTimer
  grind only [= memoryInv_iff, keeps_next, setCore_inv]

@[simp] theorem execDoorbell_keeps {core} (h : MemoryInv s) : Keeps (execDoorbell core s) := by
  unfold execDoorbell
  grind only [keeps_next, setCore_inv]

@[simp] theorem execSupresume_keeps {core} (h : MemoryInv s) : Keeps (execSupresume core s) := by
  unfold execSupresume
  grind only [keeps_next, await_inv, unitPut_inv, modTeam_inv]

theorem takeNumber_inv (h : MemoryInv s) : MemoryInv s.takeNumber.2 := by
  unfold State.takeNumber
  grind only [= memoryInv_iff, unitPut_inv]

@[simp] theorem execMailboxPost_keeps (h : MemoryInv s) : Keeps (execMailboxPost s) := by
  unfold execMailboxPost
  grind only [keeps_next, await_inv, takeNumber_inv, = memoryInv_iff, foldl_inv, unitPut_inv]

theorem setPort_inv {c p} (h : MemoryInv s) : MemoryInv (s.setPort c p) := h

@[simp] theorem execTeamStateDataRead_keeps {port} (h : MemoryInv s) : Keeps (execTeamStateDataRead port s) := by
  unfold execTeamStateDataRead
  grind only [keeps_next, setPort_inv]

@[simp] theorem execTeamStateDataWrite_keeps {port val} (h : MemoryInv s) : Keeps (execTeamStateDataWrite port val s) := by
  unfold execTeamStateDataWrite
  grind only [keeps_next, modUid_inv, syncSaved_inv]

theorem frameStore_inv {c p bs} (h : MemoryInv s) : MemoryInv (s.frameStore c p bs) := by
  unfold State.frameStore
  grind only [storeHome_inv, invalidate_inv, drainLine_inv, stampStore_inv, winWrite_inv, mmioStore_inv]

theorem frameWrite_inv {a va ws} (h : MemoryInv s) : MemoryInv (s.frameWrite a va ws).2 := by
  induction ws generalizing s va with
  | nil => exact h
  | cons w ws ih => grind [State.frameWrite, access_inv, unitHeld_inv, frameStore_inv]

theorem frameFails_inv {port f} (h : MemoryInv s) : MemoryInv (s.frameFails port f) := by
  unfold State.frameFails
  grind only [setPort_inv]

theorem frameDone_inv {port t signal entry f} (h : MemoryInv s) : MemoryInv (s.frameDone port t signal entry f) := by
  unfold State.frameDone
  grind only [modUid_inv, setPort_inv, traceChanged_inv, syncSaved_inv]

@[simp] theorem execFrame_keeps {port} (h : MemoryInv s) : Keeps (execFrame port s) := by
  grind [execFrame, keeps_next, setPort_inv, unitCheck_inv, frameFails_inv, frameWrite_inv, frameDone_inv]

theorem markKilled_inv {uid} (h : MemoryInv s) : MemoryInv (s.markKilled uid) := by
  unfold State.markKilled
  grind only [= memoryInv_iff, foldl_inv, modTiles_inv]

theorem dropEngines_inv {uid} (h : MemoryInv s) : MemoryInv (s.dropEngines uid) := h
theorem raiseTime_inv {c time} (h : MemoryInv s) : MemoryInv (s.raiseTime c time) := h

theorem dropLocks_inv {c t} (h : MemoryInv s) : MemoryInv (s.dropLocks c t) := by
  unfold State.dropLocks
  grind only [foldl_inv, dropWaiter_inv, releaseLock_inv]

theorem killResident_inv {p t} (h : MemoryInv s) : MemoryInv (s.killResident p t) := by
  unfold State.killResident
  grind only [dropEngines_inv, markKilled_inv, modTeam_inv, drainCore_inv, dropLocks_inv, endTeam_inv, setCore_inv]

theorem killSaved_inv {c x t} (h : MemoryInv s) : MemoryInv (s.killSaved c x t) := by
  unfold State.killSaved
  grind only [endSaved_inv, swapLeave_inv, dropLocks_inv, markKilled_inv, raiseTime_inv]

@[simp] theorem execKill_keeps {port} (h : MemoryInv s) : Keeps (execKill port s) := by
  unfold execKill
  dsimp only
  split
  · exact setPort_inv h
  · next t _ =>
    have hswap : Keeps (if ((s.blockByUid t.blk).map Block.swapping).getD false then execSwapOutComplete t.blk s else .next s) :=
      by
      split
      · exact execSwapOutComplete_keeps h
      · exact h
    split
    · next s1 e =>
      rw [e] at hswap
      refine setPort_inv ?_
      grind only [Keeps, killResident_inv, killSaved_inv]
    · exact hswap

@[simp] theorem execRelease_keeps {port} (h : MemoryInv s) : Keeps (execRelease port s) := by
  unfold execRelease
  grind only [keeps_next, setPort_inv, setCore_inv]

/-! ### Epochs, host accesses and lasting errors -/

@[simp] theorem execLogicalTimeAdvance_keeps {core n} (h : MemoryInv s) : Keeps (execLogicalTimeAdvance core n s) := by
  unfold execLogicalTimeAdvance
  grind only [keeps_next, setCore_inv]

@[simp] theorem execEpochChange_keeps (h : MemoryInv s) : Keeps (execEpochChange s) := by
  unfold execEpochChange
  grind only [= memoryInv_iff, keeps_next]

@[simp] theorem execL1RetentionSleep_keeps {core} (h : MemoryInv s) : Keeps (execL1RetentionSleep core s) := by
  unfold execL1RetentionSleep
  grind only [keeps_next, setCore_inv]

@[simp] theorem execRetentionWake_keeps {core} (h : MemoryInv s) : Keeps (execRetentionWake core s) := by
  unfold execRetentionWake
  grind only [keeps_next, setCore_inv]

@[simp] theorem execStorePerformed_keeps {core i} (h : MemoryInv s) : Keeps (execStorePerformed core i s) := by
  unfold execStorePerformed
  grind only [keeps_next, performStore_inv]

@[simp] theorem execFenceMarkerAck_keeps {path core} (h : MemoryInv s) : Keeps (execFenceMarkerAck path core s) := by
  unfold execFenceMarkerAck
  grind only [keeps_next, drainCore_inv, setCore_inv]

theorem dropL1_inv {line} (h : MemoryInv s) : MemoryInv (s.dropL1 line) := h

@[simp] theorem execHostSnoop_keeps {line} (h : MemoryInv s) : Keeps (execHostSnoop line s) := by
  unfold execHostSnoop
  grind only [= memoryInv_iff, keeps_next, dropL1_inv, storeAgent_inv]

theorem setHostBit_inv {pa on} (h : MemoryInv s) : MemoryInv (s.setHostBit pa on) := memoryInv_of_mem (setHostBit_mem ..) h

@[simp] theorem execHostCxlMemAccess_keeps {addr req} (h : MemoryInv s) : Keeps (execHostCxlMemAccess addr req s) := by
  unfold execHostCxlMemAccess
  grind only [keeps_next, = memoryInv_iff, =_ memoryInv_iff, foldl_inv, setStamp_inv, setHostBit_inv, await_inv, storeAgent_inv,
    invalidate_inv]

theorem poisonLine_inv {line} (h : MemoryInv s) : MemoryInv (s.poisonLine line) := memoryInv_of_mem (poisonLine_mem ..) h

theorem fenceTeam_inv {p t} (h : MemoryInv s) : MemoryInv (s.fenceTeam p t) := by
  unfold State.fenceTeam
  grind only [dropLocks_inv, setCore_inv, endTeam_inv]

theorem fenceLocks_inv {d} (h : MemoryInv s) : MemoryInv (s.fenceLocks d) := by
  unfold State.fenceLocks
  grind only [= memoryInv_iff, foldl_inv, parkWaiter_inv]

theorem failCkpt_inv (h : MemoryInv s) : MemoryInv s.failCkpt := by
  unfold State.failCkpt
  grind only [= memoryInv_iff]

theorem fenceDie_inv {d addr ident} (h : MemoryInv s) : MemoryInv (s.fenceDie d addr ident) := by
  unfold State.fenceDie
  grind only [logError_inv, failCkpt_inv, foldl_inv, fenceLocks_inv, post_inv, = memoryInv_iff, setCore_inv, fenceTeam_inv]

theorem detect_inv {src unit addr ident code} (h : MemoryInv s) : MemoryInv (s.detect src unit addr ident code) := h

@[simp] theorem execDieLinkFailure_keeps {d1 d2} (h : MemoryInv s) : Keeps (execDieLinkFailure d1 d2 s) := by
  unfold execDieLinkFailure
  grind only [= memoryInv_iff, keeps_next, detect_inv]

@[simp] theorem execCxlPortFailure_keeps {port} (h : MemoryInv s) : Keeps (execCxlPortFailure port s) := by
  unfold execCxlPortFailure
  grind only [= memoryInv_iff, keeps_next, detect_inv]

theorem loseStores_inv {sub sel} (h : MemoryInv s) : MemoryInv (s.loseStores sub sel) := by
  unfold State.loseStores
  grind only [foldl_inv, setCore_inv, modUid_inv]

theorem loseEngine_inv {sub w} (h : MemoryInv s) : MemoryInv (s.loseEngine sub w) := by
  unfold State.loseEngine
  grind only [modUid_inv]

theorem poisonShared_inv {x} (h : MemoryInv s) : MemoryInv (s.poisonShared x) := by
  unfold State.poisonShared
  grind only [foldl_inv, poisonLine_inv]

theorem linkRestored_inv {src unit addr ident code} (h : MemoryInv s) :
    MemoryInv (s.linkRestored src unit addr ident code) := logError_inv h

theorem linkLost_inv {x addr ident} (h : MemoryInv s) : MemoryInv (s.linkLost x addr ident) := by
  unfold State.linkLost
  grind only [foldl_inv, loseStores_inv, failCkpt_inv, poisonShared_inv, logError_inv, = memoryInv_iff, loseEngine_inv,
    fenceDie_inv]

theorem linkRetry_inv {ok src unit addr ident code} (h : MemoryInv s) : MemoryInv (s.linkRetry ok src unit addr ident code) := by
  unfold State.linkRetry
  grind only [linkRestored_inv, logError_inv, failCkpt_inv, = memoryInv_iff, linkLost_inv]

@[simp] theorem execInvalidationRetry_keeps {ok} (h : MemoryInv s) : Keeps (execInvalidationRetry ok s) := by
  unfold execInvalidationRetry
  grind only [= memoryInv_iff, keeps_next, linkRetry_inv]

@[simp] theorem execUalinkPortFailure_keeps {port} (h : MemoryInv s) : Keeps (execUalinkPortFailure port s) := by
  unfold execUalinkPortFailure
  grind only [keeps_next, logError_inv, foldl_inv, failCkpt_inv, = memoryInv_iff, setCore_inv, modUid_inv]

/-! ### Floating-point instructions -/

theorem fp1_keeps {d nw a f} (h : MemoryInv s) : Keeps (s.fp1 d nw a f) := vecOp_keeps h
theorem fp2_keeps {d nw a b f} (h : MemoryInv s) : Keeps (s.fp2 d nw a b f) := vecOp_keeps h
theorem fpw1_keeps {d nw a f} (h : MemoryInv s) : Keeps (s.fpw1 d nw a f) := vecOp_keeps h
theorem fpw2_keeps {d nw a b f} (h : MemoryInv s) : Keeps (s.fpw2 d nw a b f) := vecOp_keeps h
theorem fcmp32_keeps {d a b quiet f} (h : MemoryInv s) : Keeps (s.fcmp32 d a b quiet f) := vecOp_keeps h
theorem fcmp64_keeps {d a b quiet f} (h : MemoryInv s) : Keeps (s.fcmp64 d a b quiet f) := vecOp_keeps h
@[simp] theorem execFaddF32_keeps {d a b nw} (h : MemoryInv s) : Keeps (execFaddF32 d a b nw s) := fp2_keeps h
@[simp] theorem execFsubF32_keeps {d a b nw} (h : MemoryInv s) : Keeps (execFsubF32 d a b nw s) := fp2_keeps h
@[simp] theorem execFmulF32_keeps {d a b nw} (h : MemoryInv s) : Keeps (execFmulF32 d a b nw s) := fp2_keeps h
@[simp] theorem execFfmaF32_keeps {d a b nw} (h : MemoryInv s) : Keeps (execFfmaF32 d a b nw s) := vecOp_keeps h
@[simp] theorem execFdivF32_keeps {d a b nw} (h : MemoryInv s) : Keeps (execFdivF32 d a b nw s) := fp2_keeps h
@[simp] theorem execFsqrtF32_keeps {d a nw} (h : MemoryInv s) : Keeps (execFsqrtF32 d a nw s) := fp1_keeps h
@[simp] theorem execFminF32_keeps {d a b nw} (h : MemoryInv s) : Keeps (execFminF32 d a b nw s) := fp2_keeps h
@[simp] theorem execFmaxF32_keeps {d a b nw} (h : MemoryInv s) : Keeps (execFmaxF32 d a b nw s) := fp2_keeps h
@[simp] theorem execFrcp_keeps {d a nw} (h : MemoryInv s) : Keeps (execFrcp d a nw s) := fp1_keeps h
@[simp] theorem execFrsq_keeps {d a nw} (h : MemoryInv s) : Keeps (execFrsq d a nw s) := fp1_keeps h
@[simp] theorem execFexp2_keeps {d a nw} (h : MemoryInv s) : Keeps (execFexp2 d a nw s) := fp1_keeps h
@[simp] theorem execFlog2_keeps {d a nw} (h : MemoryInv s) : Keeps (execFlog2 d a nw s) := fp1_keeps h
@[simp] theorem execFroundF32_keeps {d a nw} (h : MemoryInv s) : Keeps (execFroundF32 d a nw s) := fp1_keeps h
@[simp] theorem execFclassF32_keeps {d a nw} (h : MemoryInv s) : Keeps (execFclassF32 d a nw s) := vec1_keeps h
@[simp] theorem execFcmpEqF32_keeps {d a b} (h : MemoryInv s) : Keeps (execFcmpEqF32 d a b s) := fcmp32_keeps h
@[simp] theorem execFcmpLtF32_keeps {d a b} (h : MemoryInv s) : Keeps (execFcmpLtF32 d a b s) := fcmp32_keeps h
@[simp] theorem execFcmpLeF32_keeps {d a b} (h : MemoryInv s) : Keeps (execFcmpLeF32 d a b s) := fcmp32_keeps h
@[simp] theorem execFaddF64_keeps {d a b nw} (h : MemoryInv s) : Keeps (execFaddF64 d a b nw s) := fpw2_keeps h
@[simp] theorem execFsubF64_keeps {d a b nw} (h : MemoryInv s) : Keeps (execFsubF64 d a b nw s) := fpw2_keeps h
@[simp] theorem execFmulF64_keeps {d a b nw} (h : MemoryInv s) : Keeps (execFmulF64 d a b nw s) := fpw2_keeps h
@[simp] theorem execFfmaF64_keeps {d a b nw} (h : MemoryInv s) : Keeps (execFfmaF64 d a b nw s) := vecOp_keeps h
@[simp] theorem execFdivF64_keeps {d a b nw} (h : MemoryInv s) : Keeps (execFdivF64 d a b nw s) := fpw2_keeps h
@[simp] theorem execFsqrtF64_keeps {d a nw} (h : MemoryInv s) : Keeps (execFsqrtF64 d a nw s) := fpw1_keeps h
@[simp] theorem execFminF64_keeps {d a b nw} (h : MemoryInv s) : Keeps (execFminF64 d a b nw s) := fpw2_keeps h
@[simp] theorem execFmaxF64_keeps {d a b nw} (h : MemoryInv s) : Keeps (execFmaxF64 d a b nw s) := fpw2_keeps h
@[simp] theorem execFcmpEqF64_keeps {d a b} (h : MemoryInv s) : Keeps (execFcmpEqF64 d a b s) := fcmp64_keeps h
@[simp] theorem execFcmpLtF64_keeps {d a b} (h : MemoryInv s) : Keeps (execFcmpLtF64 d a b s) := fcmp64_keeps h
@[simp] theorem execFcmpLeF64_keeps {d a b} (h : MemoryInv s) : Keeps (execFcmpLeF64 d a b s) := fcmp64_keeps h
@[simp] theorem execFroundF64_keeps {d a nw} (h : MemoryInv s) : Keeps (execFroundF64 d a nw s) := fpw1_keeps h
@[simp] theorem execFclassF64_keeps {d a nw} (h : MemoryInv s) : Keeps (execFclassF64 d a nw s) := vecOp_keeps h
@[simp] theorem execFtoiI32F32_keeps {d a nw} (h : MemoryInv s) : Keeps (execFtoiI32F32 d a nw s) := fp1_keeps h
@[simp] theorem execItofF32I32_keeps {d a nw} (h : MemoryInv s) : Keeps (execItofF32I32 d a nw s) := vecOp_keeps h
@[simp] theorem execFcvtF64F32_keeps {d a nw} (h : MemoryInv s) : Keeps (execFcvtF64F32 d a nw s) := vecOp_keeps h
@[simp] theorem execFcvtF32F64_keeps {d a nw} (h : MemoryInv s) : Keeps (execFcvtF32F64 d a nw s) := vecOp_keeps h
@[simp] theorem execFcvtBf16F32_keeps {d a nw} (h : MemoryInv s) : Keeps (execFcvtBf16F32 d a nw s) := fp1_keeps h
@[simp] theorem execFcvtF32Bf16_keeps {d a nw} (h : MemoryInv s) : Keeps (execFcvtF32Bf16 d a nw s) := vecOp_keeps h
@[simp] theorem execFcvtF16F32_keeps {d a nw} (h : MemoryInv s) : Keeps (execFcvtF16F32 d a nw s) := fp1_keeps h
@[simp] theorem execFcvtF32F16_keeps {d a nw} (h : MemoryInv s) : Keeps (execFcvtF32F16 d a nw s) := vecOp_keeps h

theorem vecNarrow_keeps {d nw regs sb ok f} (h : MemoryInv s) : Keeps (s.vecNarrow d nw regs sb ok f) := by
  unfold State.vecNarrow
  grind only [keeps_next, issue_inv, vecAlu_inv, checkFault_inv]

@[simp] theorem execFcvtNfF32_keeps {d a b nw} (h : MemoryInv s) : Keeps (execFcvtNfF32 d a b nw s) := vecNarrow_keeps h
@[simp] theorem execFcvtF32Nf_keeps {d a b nw} (h : MemoryInv s) : Keeps (execFcvtF32Nf d a b nw s) := vecNarrow_keeps h
@[simp] theorem execFpack_keeps {d a b nw} (h : MemoryInv s) : Keeps (execFpack d a b nw s) := vecNarrow_keeps h
@[simp] theorem execFunpack_keeps {d a b nw} (h : MemoryInv s) : Keeps (execFunpack d a b nw s) := vecNarrow_keeps h

@[simp] theorem execFstat_keeps {d} (h : MemoryInv s) : Keeps (execFstat d s) := by
  unfold execFstat
  grind only [keeps_next, once_inv, complete_inv]

@[simp] theorem execFmode_keeps {d a} (h : MemoryInv s) : Keeps (execFmode d a s) := by
  unfold execFmode
  grind only [keeps_next, once_inv, complete_inv]

@[simp] theorem execFadd16_keeps {d a} (h : MemoryInv s) : Keeps (execFadd16 d a s) := fp2_keeps h
@[simp] theorem execFsub16_keeps {d a} (h : MemoryInv s) : Keeps (execFsub16 d a s) := fp2_keeps h
@[simp] theorem execFmul16_keeps {d a} (h : MemoryInv s) : Keeps (execFmul16 d a s) := fp2_keeps h
@[simp] theorem execFmax16_keeps {d a} (h : MemoryInv s) : Keeps (execFmax16 d a s) := fp2_keeps h

/-! ### Masks, cross-lane instructions and control flow -/

theorem maskOp_keeps {d f} (h : MemoryInv s) : Keeps (s.maskOp d f) := by
  unfold State.maskOp
  grind only [keeps_next, once_inv, complete_inv]

@[simp] theorem execMand_keeps {d a b} (h : MemoryInv s) : Keeps (execMand d a b s) := maskOp_keeps h
@[simp] theorem execMor_keeps {d a b} (h : MemoryInv s) : Keeps (execMor d a b s) := maskOp_keeps h
@[simp] theorem execMxor_keeps {d a b} (h : MemoryInv s) : Keeps (execMxor d a b s) := maskOp_keeps h
@[simp] theorem execMnot_keeps {d a} (h : MemoryInv s) : Keeps (execMnot d a s) := maskOp_keeps h
@[simp] theorem execMmov_keeps {d a} (h : MemoryInv s) : Keeps (execMmov d a s) := maskOp_keeps h
@[simp] theorem execMpop_keeps {d a} (h : MemoryInv s) : Keeps (execMpop d a s) := scalarOp_keeps h
@[simp] theorem execMfirst_keeps {d a} (h : MemoryInv s) : Keeps (execMfirst d a s) := scalarOp_keeps h
@[simp] theorem execShfl_keeps {d a b nw} (h : MemoryInv s) : Keeps (execShfl d a b nw s) := vecOpWith_keeps h
@[simp] theorem execBcast_keeps {d a b nw} (h : MemoryInv s) : Keeps (execBcast d a b nw s) := vecOpWith_keeps h

theorem redRun_inv {t c a scan fin} (h : MemoryInv s) : MemoryInv (s.redRun t c a scan fin) := by
  unfold State.redRun
  grind only [setTeam_inv, unitFault_inv, complete_inv]

theorem reduce_keeps {d a c} (h : MemoryInv s) : Keeps (s.reduce d a c) := by
  unfold State.reduce
  grind only [keeps_next, issue_inv, redRun_inv]

theorem scan_keeps {d a nw c} (h : MemoryInv s) : Keeps (s.scan d a nw c) := by
  unfold State.scan
  grind only [keeps_next, issue_inv, redRun_inv]

@[simp] theorem execReduceAddI32_keeps {d a} (h : MemoryInv s) : Keeps (execReduceAddI32 d a s) := reduce_keeps h
@[simp] theorem execReduceAddF32_keeps {d a} (h : MemoryInv s) : Keeps (execReduceAddF32 d a s) := reduce_keeps h
@[simp] theorem execReduceMaxI32_keeps {d a} (h : MemoryInv s) : Keeps (execReduceMaxI32 d a s) := reduce_keeps h
@[simp] theorem execReduceMaxF32_keeps {d a} (h : MemoryInv s) : Keeps (execReduceMaxF32 d a s) := reduce_keeps h
@[simp] theorem execScanAddI32_keeps {d a nw} (h : MemoryInv s) : Keeps (execScanAddI32 d a nw s) := scan_keeps h
@[simp] theorem execScanAddF32_keeps {d a nw} (h : MemoryInv s) : Keeps (execScanAddF32 d a nw s) := scan_keeps h
@[simp] theorem execScanMaxI32_keeps {d a nw} (h : MemoryInv s) : Keeps (execScanMaxI32 d a nw s) := scan_keeps h
@[simp] theorem execScanMaxF32_keeps {d a nw} (h : MemoryInv s) : Keeps (execScanMaxF32 d a nw s) := scan_keeps h

theorem branch_keeps {need off cond} (h : MemoryInv s) : Keeps (s.branch need off cond) := by
  unfold State.branch
  grind only [keeps_next, once_inv, transferChecked_inv, complete_inv]

@[simp] theorem execBra_keeps {off} (h : MemoryInv s) : Keeps (execBra off s) := branch_keeps h
@[simp] theorem execBzM_keeps {m off} (h : MemoryInv s) : Keeps (execBzM m off s) := branch_keeps h
@[simp] theorem execBnzM_keeps {m off} (h : MemoryInv s) : Keeps (execBnzM m off s) := branch_keeps h
@[simp] theorem execBall_keeps {m off} (h : MemoryInv s) : Keeps (execBall m off s) := branch_keeps h
@[simp] theorem execBzS_keeps {r off} (h : MemoryInv s) : Keeps (execBzS r off s) := branch_keeps h
@[simp] theorem execBnzS_keeps {r off} (h : MemoryInv s) : Keeps (execBnzS r off s) := branch_keeps h

@[simp] theorem execCall_keeps {off} (h : MemoryInv s) : Keeps (execCall off s) := by
  unfold execCall
  grind only [keeps_next, once_inv, transfer_inv, onceFault_inv]

@[simp] theorem execJmpr_keeps {a} (h : MemoryInv s) : Keeps (execJmpr a s) := by
  unfold execJmpr
  grind only [keeps_next, once_inv, transferChecked_inv]

@[simp] theorem execRet_keeps (h : MemoryInv s) : Keeps (execRet s) := by
  unfold execRet
  grind only [keeps_next, once_inv, transferChecked_inv]

@[simp] theorem execLoop_keeps {r off} (h : MemoryInv s) : Keeps (execLoop r off s) := by
  unfold execLoop
  grind only [keeps_next, once_inv, onceFault_inv, transferChecked_inv, transfer_inv]

@[simp] theorem execLbrk_keeps (h : MemoryInv s) : Keeps (execLbrk s) := by
  unfold execLbrk
  grind only [keeps_next, once_inv, transfer_inv]

/-! ### Lock instructions -/

theorem lockFault_inv {t sub va} (h : MemoryInv s) : MemoryInv (s.lockFault t sub va) := onceFault_inv h

theorem lockDone_inv {t d scope st} (h : MemoryInv s) : MemoryInv (s.lockDone t d scope st) := by
  unfold State.lockDone
  grind only [setTeam_inv, completeWith_inv, acquireLoad_inv, setLock_inv]

theorem lockSend_inv {t va regionLen obj grain ltry keep scope timeout} (h : MemoryInv s) :
    MemoryInv (s.lockSend t va regionLen obj grain ltry keep scope timeout) := by
  unfold State.lockSend
  grind only [= memoryInv_iff, forgetLock_inv, waitWith_inv]

theorem lockAwait_inv {t d scope} (h : MemoryInv s) : MemoryInv (s.lockAwait t d scope) := by
  unfold State.lockAwait
  grind only [unitFault_inv, lockDone_inv, setTeam_inv]

theorem lockAsk_inv {t d va w ltry scope} (h : MemoryInv s) : MemoryInv (s.lockAsk t d va w ltry scope) := by
  unfold State.lockAsk
  grind only [lockFault_inv, scalarAccess_inv, completeWith_inv, afterStores_inv, lockSend_inv]

theorem lockOp_keeps {d va word ltry scope} (h : MemoryInv s) : Keeps (s.lockOp d va word ltry scope) := by
  unfold State.lockOp
  grind only [keeps_next, once_inv, lockAwait_inv, lockAsk_inv]

@[simp] theorem execLlock_keeps {d sb x scope} (h : MemoryInv s) : Keeps (execLlock d sb x scope s) := lockOp_keeps h
@[simp] theorem execLtry_keeps {d sb scope} (h : MemoryInv s) : Keeps (execLtry d sb scope s) := lockOp_keeps h

theorem unlockOp_keeps {sb scope reg} (h : MemoryInv s) : Keeps (s.unlockOp sb scope reg) := by
  unfold State.unlockOp
  grind only [keeps_next, once_inv, lockFault_inv, afterStores_inv, completeWith_inv, unitFault_inv, releaseLock_inv]

@[simp] theorem execLunlock_keeps {sb scope} (h : MemoryInv s) : Keeps (execLunlock sb scope s) := unlockOp_keeps h
@[simp] theorem execLunlockReg_keeps {sb scope} (h : MemoryInv s) : Keeps (execLunlockReg sb scope s) := unlockOp_keeps h

@[simp] theorem execLstat_keeps {d a} (h : MemoryInv s) : Keeps (execLstat d a s) := by
  unfold execLstat
  grind only [keeps_next, once_inv, scalarAccess_inv, completeWith_inv]

/-! ### The issue choice -/

theorem goOn_inv (h : MemoryInv s) : MemoryInv s.goOn := by
  unfold State.goOn
  grind only [= memoryInv_iff]

theorem nextTurn_inv (h : MemoryInv s) : MemoryInv s.nextTurn := by
  unfold State.nextTurn
  grind only [= memoryInv_iff, goOn_inv, evictLine_inv, finishLine_inv]

theorem cyclesPass_inv {c r issuers n} (h : MemoryInv s) : MemoryInv (s.cyclesPass c r issuers n) := h

theorem scalarIssue_inv {p} (h : MemoryInv s) : MemoryInv (s.scalarIssue p) := by
  unfold State.scalarIssue
  grind only [setCore_inv, cyclesPass_inv, modTeam_inv]

theorem issueCycles_inv {s0 : State} {p} (h : MemoryInv s) : MemoryInv (s.issueCycles s0 p) := by
  unfold State.issueCycles
  grind only [scalarIssue_inv, cyclesPass_inv]

theorem afterIssue_inv {s0 : State} {p} (h : MemoryInv s) : MemoryInv (s.afterIssue s0 p) := by
  unfold State.afterIssue
  grind only [nextTurn_inv, issueCycles_inv]

@[simp] theorem execTeamBoost_keeps {core slot} (h : MemoryInv s) : Keeps (execTeamBoost core slot s) := by
  unfold execTeamBoost
  grind only [keeps_next, setTeam_inv]

@[simp] theorem execYield_keeps (h : MemoryInv s) : Keeps (execYield s) := by
  unfold execYield
  grind only [keeps_next, once_inv, complete_inv]

@[simp] theorem execYieldEnd_keeps {core slot} (h : MemoryInv s) : Keeps (execYieldEnd core slot s) := by
  unfold execYieldEnd
  grind only [keeps_next, setTeam_inv]

/-! ### The instructions that a turn issues -/

theorem execOpcode_keeps {i} (h : MemoryInv s) : Keeps (execOpcode i s) := by
  unfold execOpcode
  cases i <;> simp [keeps_next, h]

/-! ### Debug commands and turns -/

theorem debugResult_inv {r} (h : MemoryInv s) : MemoryInv (s.debugResult r) := h
theorem debugOutcome_inv {r code sub} (h : MemoryInv s) : MemoryInv (s.debugOutcome r code sub) := h
theorem debugStays_inv {r} (h : MemoryInv s) : MemoryInv (s.debugStays r) := h

@[simp] theorem execStop_keeps {core place} (h : MemoryInv s) : Keeps (execStop core place s) := by
  unfold execStop
  grind only [keeps_next, debugResult_inv, recordStop_inv, stopBlock_inv, = memoryInv_iff]

@[simp] theorem execBlockStopDone_keeps (h : MemoryInv s) : Keeps (execBlockStopDone s) := by
  unfold execBlockStopDone
  grind only [keeps_next, = memoryInv_iff, =_ memoryInv_iff, foldl_inv, freezeCopies_inv, setDbg_inv]

theorem endDebugRun_inv {blk} (h : MemoryInv s) : MemoryInv (s.endDebugRun blk) := by
  unfold State.endDebugRun
  grind only [= memoryInv_iff, setDbg_inv, =_ memoryInv_iff, modTeam_inv]

@[simp] theorem execRun_keeps {core place} (h : MemoryInv s) : Keeps (execRun core place s) := by
  unfold execRun
  grind only [keeps_next, debugResult_inv, endDebugRun_inv, restartOps_inv, setCore_inv]

theorem recordSkid_inv {p} (h : MemoryInv s) : MemoryInv (s.recordSkid p) := h

@[simp] theorem execGangstop_keeps {core} (h : MemoryInv s) : Keeps (execGangstop core s) := by
  unfold execGangstop
  grind only [= memoryInv_iff, keeps_next, foldl_inv, recordSkid_inv, stopBlock_inv, debugResult_inv, recordStop_inv]

theorem issueAt_keeps {p lim} (h : MemoryInv s) : Keeps (s.issueAt p lim) := by
  grind [State.issueAt, Keeps, = memoryInv_iff, =_ memoryInv_iff, issueUnit_keeps, execOpcode_keeps, traceUnit_inv]

theorem issueTurn_keeps {p lim} (h : MemoryInv s) : Keeps (s.issueTurn p lim) := by
  grind [State.issueTurn, Keeps, issueAt_keeps, issueCycles_inv]

theorem issueWhole_keeps {p n} (h : MemoryInv s) : Keeps (s.issueWhole p n) := by
  induction n generalizing s with
  | zero => exact keeps_next h
  | succ n ih => grind [State.issueWhole, Keeps, issueTurn_keeps]

theorem mapBlock_inv {c blk f} (h : MemoryInv s) : MemoryInv (s.mapBlock c blk f) := h
theorem holdStarted_inv {uid} (h : MemoryInv s) : MemoryInv (s.holdStarted uid) := h

theorem stepOutcome_inv {p t} (h : MemoryInv s) : MemoryInv (s.stepOutcome p t) := by
  unfold State.stepOutcome
  grind only [debugOutcome_inv, debugStays_inv]

@[simp] theorem execStep_keeps {core slot} (h : MemoryInv s) : Keeps (execStep core slot s) := by
  grind [execStep, Keeps, debugOutcome_inv, setTeam_inv, mapBlock_inv, issueWhole_keeps, holdStarted_inv, stopBlock_inv,
    stepOutcome_inv]

theorem execFaulted_inv {p} (h : MemoryInv s) : MemoryInv (s.execFaulted p) := by
  unfold State.execFaulted
  grind only [modTeam_inv, setCore_inv]

theorem traceExec_inv {s0 : State} {p u} (h : MemoryInv s) : MemoryInv (s.traceExec s0 p u) := by
  unfold State.traceExec
  grind only [traceChanged_inv, traceIssue_inv, traceCountN_inv, traceCount_inv]

theorem execRepeats_keeps {p u n} (h : MemoryInv s) : (s.execRepeats p u n).Keeps := by
  induction n generalizing s with
  | zero => exact h
  | succ n ih => grind [State.execRepeats, ExecEnd.Keeps, Keeps, execOpcode_keeps, runUnit_keeps, traceExec_inv, execFaulted_inv]

theorem execUnit_keeps {p ws} (h : MemoryInv s) : (s.execUnit p ws).Keeps := by
  have hfault {t : Team} {f : FaultInfo} : MemoryInv ((s.parkAt p t 0 f).execFaulted p) := execFaulted_inv (parkAt_inv h)
  unfold State.execUnit
  split
  · exact h
  · dsimp only
    split
    · exact h
    · split
      · exact hfault
      · split
        · exact hfault
        · next u _ =>
          split
          · exact h
          · have hr := execRepeats_keeps (s := { s with latch := { u.latch 0 none with stuffed := true } }) (p := p) (u := u) (n
            := 65) h
            split
            · exact h
            · exact hr

theorem execWords_keeps {p i n k} (h : MemoryInv s) : (s.execWords p i n k).Keeps := by
  induction k generalizing s i with
  | zero => exact h
  | succ n ih => grind [State.execWords, ExecEnd.Keeps, execUnit_keeps]

theorem execEnds_keeps {s0 : State} {p t0} {x : ExecEnd} (h : x.Keeps) : Keeps (s0.execEnds p t0 x) := by
  unfold State.execEnds
  grind only [ExecEnd.Keeps, = memoryInv_iff, keeps_next, debugOutcome_inv, modTeam_inv, debugStays_inv]

@[simp] theorem execExec_keeps {core slot nbuf} (h : MemoryInv s) : Keeps (execExec core slot nbuf s) := by
  unfold execExec
  grind only [= memoryInv_iff, keeps_next, debugOutcome_inv, execEnds_keeps, execWords_keeps, setTeam_inv]

@[simp] theorem execVectorPass_keeps {core slot} (h : MemoryInv s) : Keeps (execVectorPass core slot s) := by
  unfold execVectorPass
  grind only [keeps_next, issueTurn_keeps]

@[simp] theorem execOperationStart_keeps {core slot} (h : MemoryInv s) : Keeps (execOperationStart core slot s) := by
  unfold execOperationStart
  grind only [keeps_next, issueTurn_keeps]

@[simp] theorem execFetchFault_keeps {core slot} (h : MemoryInv s) : Keeps (execFetchFault core slot s) := by
  unfold execFetchFault
  grind only [keeps_next, issueTurn_keeps]

/-! ### Placement -/

theorem seat_inv {c b n ts accs sts} (h : MemoryInv s) : MemoryInv (s.seat c b n ts accs sts) := by
  unfold State.seat
  grind only [setCore_inv]

theorem placeNew_inv {l ix c} (h : MemoryInv s) : MemoryInv (s.placeNew l ix c) := by
  unfold State.placeNew
  grind only [= memoryInv_iff, modLaunch_inv, seat_inv]

theorem served_inv {l} (h : MemoryInv s) : MemoryInv (s.served l) := by
  unfold State.served
  grind only [= memoryInv_iff, =_ memoryInv_iff, modLaunch_inv]

theorem placeLaunch_inv {l ix c0} (h : MemoryInv s) : MemoryInv (s.placeLaunch l ix c0) := by
  unfold State.placeLaunch
  grind only [foldl_inv, served_inv, modLaunch_inv, placeNew_inv]

theorem placeSaved_inv {x c} (h : MemoryInv s) : MemoryInv (s.placeSaved x c) := by
  unfold State.placeSaved
  grind only [= memoryInv_iff, foldl_inv, seat_inv, swapLeave_inv, =_ memoryInv_iff, setCore_inv, loadBlock_inv]

theorem putItem_inv {i c0} (h : MemoryInv s) : MemoryInv (s.putItem i c0) := by
  unfold State.putItem
  grind only [placeLaunch_inv, foldl_inv, placeSaved_inv]

theorem placeItem_inv {i c0} (h : MemoryInv s) : MemoryInv (s.placeItem i c0) := putItem_inv h

theorem destroySaved_inv {x} (h : MemoryInv s) : MemoryInv (s.destroySaved x) := by
  unfold State.destroySaved
  grind only [foldl_inv, killSaved_inv]

@[simp] theorem execPlacementDecision_keeps (h : MemoryInv s) : Keeps (execPlacementDecision s) := by
  unfold execPlacementDecision
  grind only [keeps_next, foldl_inv, placeItem_inv, destroySaved_inv]

theorem startBlock_inv {c pl b} (h : MemoryInv s) : MemoryInv (s.startBlock c pl b) := by
  unfold State.startBlock
  grind only [foldl_inv, restartOps_inv, setCore_inv, traceContext_inv]

@[simp] theorem execBlockStart_keeps {blk} (h : MemoryInv s) : Keeps (execBlockStart blk s) := by
  unfold execBlockStart
  grind only [= memoryInv_iff, keeps_next, foldl_inv, startBlock_inv]

theorem noteQuiet_inv {s0 : State} (h : MemoryInv s) : MemoryInv (s.noteQuiet s0) := h

@[simp] theorem execSwapThresholdExpiry_keeps {blk} (h : MemoryInv s) : Keeps (execSwapThresholdExpiry blk s) := by
  unfold execSwapThresholdExpiry
  grind only [= memoryInv_iff, keeps_next]

theorem beginSwap_inv {b reason why} (h : MemoryInv s) : MemoryInv (s.beginSwap b reason why) := by
  unfold State.beginSwap
  grind only [foldl_inv, mapGroup_inv, setCore_inv]

@[simp] theorem execSwapOutBegin_keeps {blk} (h : MemoryInv s) : Keeps (execSwapOutBegin blk s) := by
  unfold execSwapOutBegin
  grind only [keeps_next, beginSwap_inv]

theorem cancelPlacement_inv {b} (h : MemoryInv s) : MemoryInv (s.cancelPlacement b) := by
  unfold State.cancelPlacement
  grind only [foldl_inv, modLaunch_inv, freeBlock_inv, setCore_inv, saveAway_inv]

theorem preempt_inv {why b} (h : MemoryInv s) : MemoryInv (s.preempt why b) := by
  unfold State.preempt
  grind only [cancelPlacement_inv, beginSwap_inv]

theorem preemptAll_inv {why sel} (h : MemoryInv s) : MemoryInv (s.preemptAll why sel) := by
  unfold State.preemptAll
  grind only [foldl_inv, preempt_inv]

theorem readmitPreempted_inv {why sel} (h : MemoryInv s) : MemoryInv (s.readmitPreempted why sel) := by
  unfold State.readmitPreempted
  grind only [foldl_inv, queueReadmit_inv]

@[simp] theorem execRunListTurnEnd_keeps (h : MemoryInv s) : Keeps (execRunListTurnEnd s) := by
  unfold execRunListTurnEnd
  grind only [= memoryInv_iff, keeps_next, beginTurn_inv, consume_inv, readmitPreempted_inv, preemptAll_inv]

/-! ### Shootdowns, checkpoints and errors -/

theorem beginShootdown_inv {x} (h : MemoryInv s) : MemoryInv (s.beginShootdown x) := memoryInv_of_mem (beginShootdown_mem ..) h

@[simp] theorem execShootdownSubmit_keeps {val} (h : MemoryInv s) : Keeps (execShootdownSubmit val s) := by
  unfold execShootdownSubmit
  grind only [= memoryInv_iff, keeps_next, beginShootdown_inv]

@[simp] theorem execAtsInvalidation_keeps {pasid va log2} (h : MemoryInv s) : Keeps (execAtsInvalidation pasid va log2 s) := by
  unfold execAtsInvalidation
  grind only [keeps_next, beginShootdown_inv]

@[simp] theorem execShootdownComplete_keeps (h : MemoryInv s) : Keeps (execShootdownComplete s) := by
  unfold execShootdownComplete
  grind only [keeps_next, = memoryInv_iff, foldl_inv, drainCore_inv]

theorem writeRegion_inv (h : MemoryInv s) : MemoryInv s.writeRegion := by
  unfold State.writeRegion
  grind only [draw_inv, storeWords_inv]

theorem copyToTier_inv (h : MemoryInv s) : MemoryInv s.copyToTier := h
theorem beginCut_inv (h : MemoryInv s) : MemoryInv s.beginCut := preemptAll_inv h
theorem endCut_inv (h : MemoryInv s) : MemoryInv s.endCut := readmitPreempted_inv h

theorem finishCut_inv (h : MemoryInv s) : MemoryInv s.finishCut := by
  unfold State.finishCut
  grind only [= memoryInv_iff, writeRegion_inv]

@[simp] theorem execCheckpoint_keeps {val} (h : MemoryInv s) : Keeps (execCheckpoint val s) := by
  unfold execCheckpoint
  grind only [= memoryInv_iff, keeps_next, beginCut_inv]

@[simp] theorem execCheckpointDone_keeps {ok} (h : MemoryInv s) : Keeps (execCheckpointDone ok s) := by
  unfold execCheckpointDone
  grind only [= memoryInv_iff, keeps_next, =_ memoryInv_iff, copyToTier_inv, writeRegion_inv, endCut_inv]

@[simp] theorem execFreeze_keeps (h : MemoryInv s) : Keeps (execFreeze s) := by
  unfold execFreeze
  grind only [= memoryInv_iff, keeps_next, beginCut_inv]

@[simp] theorem execUnfreeze_keeps (h : MemoryInv s) : Keeps (execUnfreeze s) := by
  unfold execUnfreeze
  grind only [= memoryInv_iff, keeps_next, endCut_inv]

@[simp] theorem execUnpoison_keeps {val} (h : MemoryInv s) : Keeps (execUnpoison val s) := by
  unfold execUnpoison
  grind only [keeps_next, = memoryInv_iff, =_ memoryInv_iff, storeAgent_inv, poisonLine_inv]

theorem poisonUnit_inv {addr} (h : MemoryInv s) : MemoryInv (s.poisonUnit addr) := by
  unfold State.poisonUnit
  grind only [= memoryInv_iff, setTeam_inv]

@[simp] theorem execErrorDetected_keeps {src unit addr ident} (h : MemoryInv s) :
    Keeps (execErrorDetected src unit addr ident s) := by
  unfold execErrorDetected
  grind only [keeps_next, detect_inv]

theorem lastingError_inv {src unit addr ident} (h : MemoryInv s) : MemoryInv (s.lastingError src unit addr ident) := by
  grind [State.lastingError, Keeps, failCkpt_inv, logError_inv, poisonLine_inv, poisonUnit_inv, execUalinkPortFailure_keeps,
    takeOver_inv, = memoryInv_iff, =_ memoryInv_iff]

@[simp] theorem execErrorRetry_keeps {ok} (h : MemoryInv s) : Keeps (execErrorRetry ok s) := by
  unfold execErrorRetry
  grind only [= memoryInv_iff, keeps_next, linkRetry_inv, logError_inv, lastingError_inv]

@[simp] theorem execClockStep_keeps {up} (h : MemoryInv s) : Keeps (execClockStep up s) := by
  unfold execClockStep
  grind only [= memoryInv_iff, keeps_next]

@[simp] theorem execWithholdStep_keeps {k} (h : MemoryInv s) : Keeps (execWithholdStep k s) := by
  unfold execWithholdStep
  grind only [= memoryInv_iff, keeps_next]

@[simp] theorem execRemoteRequest_keeps {pasid va req} (h : MemoryInv s) : Keeps (execRemoteRequest pasid va req s) := by
  unfold execRemoteRequest
  grind only [keeps_next, unitRead_inv, unitWrite_inv, unitUpdate_inv]

@[simp] theorem execSlotWrite_keeps {val} (h : MemoryInv s) : Keeps (execSlotWrite val s) := by
  unfold execSlotWrite
  grind only [= memoryInv_iff, keeps_next, draw_inv]

@[simp] theorem execSpdmMeasurement_keeps {idx} (h : MemoryInv s) : Keeps (execSpdmMeasurement idx s) := by
  unfold execSpdmMeasurement
  grind only [= memoryInv_iff, keeps_next, draw_inv]

@[simp] theorem execSpdmKeyExchange_keeps {port} (h : MemoryInv s) : Keeps (execSpdmKeyExchange port s) := by
  unfold execSpdmKeyExchange
  grind only [= memoryInv_iff, keeps_next, draw_inv]

@[simp] theorem execPowerLoss_keeps (h : MemoryInv s) : Keeps (execPowerLoss s) := by
  unfold execPowerLoss
  grind only [= memoryInv_iff, keeps_next, draw_inv]

@[simp] theorem execReset_keeps (h : MemoryInv s) : Keeps (execReset s) := keeps_next (wf_filter _ h)

theorem settle_inv {s0 : State} (h : MemoryInv s) : MemoryInv (s.settle s0) := by
  unfold State.settle
  grind only [traceParks_inv, finishCut_inv, noteQuiet_inv, dropContexts_inv, flushLate_inv]

/-! ### Register writes -/

theorem push_inv {x} (h : MemoryInv s) : MemoryInv (s.push x) := h

theorem pushIf_inv {c x} (h : MemoryInv s) : MemoryInv (s.pushIf c x) := by
  unfold State.pushIf
  grind only [push_inv]

theorem setMgt_inv {off x} (h : MemoryInv s) : MemoryInv (s.setMgt off x) := h

theorem portWrite_inv {c off x} (h : MemoryInv s) : MemoryInv (s.portWrite c off x) := by
  unfold State.portWrite
  grind only [= memoryInv_iff, push_inv]

theorem mgtWrite_inv {off x} (h : MemoryInv s) : MemoryInv (s.mgtWrite off x) := by
  have hset {off x : Nat} : MemoryInv (s.setMgt off x) := setMgt_inv h
  refine ite_inv (portWrite_inv h) (ite_inv (ite_inv h (push_inv h)) (ite_inv hset (ite_inv (push_inv h) (ite_inv hset
    (ite_inv (pushIf_inv hset) (ite_inv hset (ite_inv (pushIf_inv hset) (ite_inv hset (ite_inv (push_inv h) (ite_inv hset
      h))))))))))

theorem lkdWrite_inv {off x} (h : MemoryInv s) : MemoryInv (s.lkdWrite off x) := by
  unfold State.lkdWrite
  grind only [= memoryInv_iff]

theorem qscWrite_inv {off x} (h : MemoryInv s) : MemoryInv (s.qscWrite off x) := by
  unfold State.qscWrite
  grind only [= memoryInv_iff, pushIf_inv]

theorem setXlt_inv {off x} (h : MemoryInv s) : MemoryInv (s.setXlt off x) := h

theorem xltWrite_inv {off x} (h : MemoryInv s) : MemoryInv (s.xltWrite off x) := by
  unfold State.xltWrite
  grind only [setXlt_inv, pushIf_inv]

theorem dbgWrite_inv {off x} (h : MemoryInv s) : MemoryInv (s.dbgWrite off x) := by
  unfold State.dbgWrite
  grind only [= memoryInv_iff, setDbg_inv, push_inv, =_ memoryInv_iff, keepSlice_inv]

theorem trcWrite_inv {c off x} (h : MemoryInv s) : MemoryInv (s.trcWrite c off x) := by
  unfold State.trcWrite
  grind only [push_inv, modTrace_inv]

theorem feWrite_inv {off x} (h : MemoryInv s) : MemoryInv (s.feWrite off x) := by
  unfold State.feWrite
  grind only [= memoryInv_iff, pushIf_inv, beginTurn_inv]

theorem windowWrite_inv {c off n x} (h : MemoryInv s) : MemoryInv (s.windowWrite c off n x) := by
  unfold State.windowWrite
  grind only [unitStore_inv]

theorem wordWrite_inv {off x} (h : MemoryInv s) : MemoryInv (s.wordWrite off x) := by
  unfold State.wordWrite
  grind only [mgtWrite_inv, lkdWrite_inv, qscWrite_inv, xltWrite_inv, dbgWrite_inv, trcWrite_inv, feWrite_inv]

@[simp] theorem execRegisterWrite_keeps {off val} (h : MemoryInv s) : Keeps (execRegisterWrite off val s) := by
  unfold execRegisterWrite
  grind only [keeps_next, windowWrite_inv, wordWrite_inv]

/-! ### The events -/

theorem performEvent_keeps {x} (h : MemoryInv s) : Keeps (performEvent x s) := by
  unfold performEvent
  cases x <;> simp [h]

/-! ### The step -/

theorem settled_keeps {r : Result} (h : Keeps r) : Keeps (settled s r) := by
  cases r with
  | next t => exact settle_inv h
  | fault _ | refused _ => trivial

theorem issued_keeps {r : Result} (h : Keeps r) : Keeps (issued s r) := by
  cases r with
  | next t => exact afterIssue_inv (traceUnit_inv h)
  | fault _ | refused _ => trivial

theorem exec_keeps {i} (h : MemoryInv s) : Keeps (exec i s) := by
  cases i <;> simp [h]

theorem step_keeps (h : MemoryInv s) : Keeps (step s) := by
  unfold step
  split
  · split
    · exact settled_keeps (performEvent_keeps h)
    · trivial
  · split
    · exact settled_keeps (issued_keeps (issueUnit_keeps h fun i s' hs => exec_keeps hs))
    · trivial

end

/-- Settles O24: every operation of a step keeps the form of memory, and so does the step. -/
theorem stepKeepsMemory : Obligations.StepKeepsMemory := by
  unfold Obligations.StepKeepsMemory
  intro s s' h hstep
  have hkeeps := step_keeps h
  rw [hstep] at hkeeps
  exact hkeeps

end Sys2Proof.Machine
end
